-- ==== Sys2Proof/Word.lean ====
section
/-!
DEFINITION. The register word of the controller and the table type that its sparse memories and repeated blocks use.
-/
namespace Sys2Proof

/-- A register holds 40 bits (00_scope.md R12, R14). -/
abbrev Word := BitVec 40

/-- A sparse table: keys strictly rising. An unlisted key stands for the value the reader names as its default. -/
abbrev Tbl (α : Type) := List (Nat × α)

end Sys2Proof
end

