-- ==== Sys2Proof/Syntax.lean ====
section
/-!
DEFINITION. The commands of the controller: one constructor for each row of the table of operations and events. Their operands
are what the outside world supplies with the event: addresses and data of requests, register values written, readings of
sensors, and what the analogue parts of the machine found (an uncorrectable line, a failed program, a trained lane group).
-/
namespace Sys2Proof

/-- One media profile (09_media_bus.md R397). -/
structure Profile where
  /-- profile ID (09_media_bus.md R397). -/
  pid : Nat := 0
  /-- match key: manufacturer ID (09_media_bus.md R394). -/
  mfr : Nat := 0
  /-- match key: device ID bytes (09_media_bus.md R394). -/
  dev : Nat := 0
  /-- match key: parameter page revision (09_media_bus.md R394). -/
  rev : Nat := 0
  /-- major version of the profile record (09_media_bus.md R397). -/
  major : Nat := 1
  /-- cell type QLC, else TLC (09_media_bus.md R397). -/
  qlc : Bool := true
  /-- blocks per die, B (09_media_bus.md R397). -/
  blocks : Nat := 0
  /-- pages per block in the dense mode (09_media_bus.md R397). -/
  densePpb : Nat := 0
  /-- pages per block in pseudo-SLC (09_media_bus.md R397). -/
  slcPpb : Nat := 0
  /-- 16 KiB data and 2 KiB spare per page (08_media_reliability.md R375). -/
  page16 : Bool := true
  /-- array read time, maximum, ns (08_media_reliability.md R375). -/
  tR : Nat := 0
  /-- pseudo-SLC page program time, typical, ns (10_persistence.md R417). -/
  slcProgTyp : Nat := 1
  /-- pseudo-SLC page program time, maximum, ns (10_persistence.md R417). -/
  slcProgMax : Nat := 1
  /-- erase time, maximum, ns (09_media_bus.md R397). -/
  eraseMax : Nat := 0
  /-- dense wordline program time, maximum, ns (09_media_bus.md R397). -/
  denseMax : Nat := 0
  /-- program-suspend latency, ns (08_media_reliability.md R375). -/
  suspP : Nat := 0
  /-- erase-suspend latency, ns (08_media_reliability.md R375). -/
  suspE : Nat := 0
  /-- QLC or TLC endurance, cycles (07_translation.md R334). -/
  endurDense : Nat := 0
  /-- pseudo-SLC endurance, cycles (07_translation.md R334). -/
  endurSlc : Nat := 0
  /-- start offsets per level (08_media_reliability.md R361). -/
  start : List Int := []
deriving DecidableEq, Repr

/-- One DRAM channel as trained or quick-checked at C5 (06_dram_tier.md R250, R257, R284). -/
structure DramRep where
  /-- The channel. -/
  chan : Nat
  /-- It trained, or passed its quick check. -/
  ok : Bool
  /-- The data-rate code, form, x8 flag, ranks, capacity in GiB and DRFM support of DRMC.BLKCAP. -/
  rate : Nat
  form : Nat
  x8 : Bool
  ranks : Nat
  gib : Nat
  drfm : Bool
  /-- The serial number its marks belong to. -/
  serial : Nat
deriving DecidableEq, Repr

/-- One ONFI channel as discovered at C6 (09_media_bus.md R393 to R396). -/
structure ChanRep where
  /-- The channel. -/
  chan : Nat
  /-- The positions, 0 to 15, of the dies found, ascending; none where no target answers the reset. -/
  dies : List Nat
  /-- What each of them reports: manufacturer ID, device ID bytes and parameter page revision; `none` where every copy of its parameter page
  fails its CRC. -/
  ids : List (Option (Nat × Nat × Nat))
  /-- Its interface training passed. -/
  trained : Bool
  /-- The temperature at training. -/
  temp : Int
deriving DecidableEq, Repr

/-- What a start step reports at its end (02_modes_and_starts.md R80, R83). Each field serves the steps its docstring names. -/
structure StepRep where
  /-- The step reports failure (R83). -/
  fail : Bool := false
  /-- C3: the block checks of the image chosen are correct and both its signatures verify. -/
  imageOk : Bool := true
  /-- C3: the digest computed over the image. -/
  digest : BitVec 512 := 0
  /-- C4: the major version of the records that the image knows. -/
  recMajor : Nat := 1
  /-- C4: the older major versions that the image's migrations (section 5) start from (18_parameter_store.md R738). -/
  migrates : List Nat := []
  /-- C4: the digests of the two copies of the certificate store, and whether the alias certificate was re-created. -/
  certDigests : BitVec 512 × BitVec 512 := (0, 0)
  /-- C5: the channels. -/
  drams : List DramRep := []
  /-- C5: near-cache ways with a hard-fault cell that no spare covers: slice, and set x 16 + way (05_near_cache.md R243). -/
  lockWays : List (Nat × Nat) := []
  /-- C6: the channels. -/
  chans : List ChanRep := []
  /-- C6: the media profiles of the verified image, in image order (09_media_bus.md R394, R397). -/
  profiles : List Profile := []
  /-- C6: in a warm start, the check value of the patina table in the DRAM tier, where it is no longer the one saved
  (08_media_reliability.md R362). -/
  patinaCheck : Option Nat := none
  /-- C7: in a warm start, the map generation number and the map check value read in the DRAM tier, where they are no longer those of warm
  entry (02_modes_and_starts.md R92). -/
  mapRead : Option (Nat × Nat) := none
  /-- C7: the quench reserve cannot be refilled (07_translation.md R310). -/
  reserveShort : Bool := false
  /-- C7: units whose map lines could not be recovered. -/
  lostUnits : List Nat := []
  /-- C8: in a warm start, every top node verifies against the root. -/
  rootOk : Bool := true
deriving DecidableEq, Repr

/-- What started QUENCH (02_modes_and_starts.md R55, 15_power_supervision.md R648). -/
inductive QuenchCause where
  | pfw | vin | thermal
deriving DecidableEq, Repr

/-- What triggered a wake (02_modes_and_starts.md R73). -/
inductive WakeSource where
  | host | sideband | reset | pfw | thermal
deriving DecidableEq, Repr

/-- Where a register write with no row of its own goes. -/
inductive RegTarget where
  /-- One BAR0 slot: byte offset, the eight byte enables, the 64 bits, and a value a management core writes to the same
  register in the same cycle, if any (03_registers_and_hallmark.md R103, R111). -/
  | bar0 (off : Nat) (enables : Nat) (v : BitVec 64) (core : Option Word)
  /-- A request that touches several slots from a byte offset on: the byte enables and the 64 bits of each (R106). -/
  | slots (off : Nat) (l : List (Nat × BitVec 64))
  /-- Whole writes of one cycle through several pages: byte offset and value of each (05_near_cache.md R233). -/
  | cycle (l : List (Nat × BitVec 64))
  /-- The commit of an HDM decoder: number, first DPA, size, HDM-DB, ways, granularity (04_host_port.md R144, R145). -/
  | decoder (i base size : Nat) (db : Bool) (ways gran : Nat)
  /-- The uncommit of an HDM decoder. -/
  | undecoder (i : Nat)
  /-- The mask bit of an MSI-X table entry (03_registers_and_hallmark.md R117). -/
  | msixMask (vector : Nat) (mask : Bool)
  /-- A slot of BAR2: byte offset, byte enables, the 64 bits (04_host_port.md R139). -/
  | bar2 (off enables : Nat) (v : BitVec 64)
  /-- The host enables or disables the link states L1 and L1.2 (02_modes_and_starts.md R69). -/
  | linkStates (l1 l12 : Bool)
deriving DecidableEq, Repr

/-- What a read of SRAM, DRAM or the counter tree found on the way, besides the data. -/
inductive Finding where
  /-- Both tag copies of a way are uncorrectable (05_near_cache.md R236). -/
  | tagLost (way : Nat)
  /-- The data word of a way is uncorrectable (05_near_cache.md R234). -/
  | dataLost (way : Nat)
  /-- A correctable error in a way's data or tag copy (05_near_cache.md R234). -/
  | corrected (way : Nat)
  /-- One tag copy of a way is uncorrectable and is rewritten from the other (05_near_cache.md R234). -/
  | tagRepaired (way : Nat)
  /-- An error in an SRAM macro outside the near cache, corrected or not (05_near_cache.md R246). -/
  | sram (lost : Bool)
  /-- A corrected SRAM bit failed again: macro, row, column, the way it lies in, if any (05_near_cache.md R238 to R243). -/
  | hardFault (m row col : Nat) (way : Option Nat)
  /-- Wrong symbols in the burst of the line: nibble, place 0 to 7, and what the byte differs by (06_dram_tier.md R252 to R256). -/
  | dram (errs : List (Nat × Nat × Nat))
  /-- The same for a burst of another structure of the tier that the request needed: channel, 4 x subchannel + rank, symbols. -/
  | dramOther (chan place : Nat) (errs : List (Nat × Nat × Nat))
  /-- Activation of a row by other traffic: channel, bank, row (06_dram_tier.md R277). -/
  | activate (chan bank row : Nat)
  /-- Live re-centring: channel, lane key, direction, eye in taps (06_dram_tier.md R283). -/
  | eye (chan lane : Nat) (up : Option Bool) (taps : Nat)
  /-- A counter-tree node repaired from its mirror: level, node (14_memory_protection.md R623). -/
  | nodeRepaired (level node : Nat)
  /-- A counter-tree node lost in both copies (14_memory_protection.md R624). -/
  | nodeLost (level node : Nat)
  /-- The line's MAC fails before any data is sent (14_memory_protection.md R614). -/
  | macBad
  /-- The line is held in the DRAM tier's host-data cache only as an evicted entry and is not found (07_translation.md). -/
  | evicted
deriving DecidableEq, Repr

/-- What the soft decoding of a codeword found: its bit errors, and whether it came to a codeword (08_media_reliability.md R351, R352). -/
structure SoftDecoded where
  errors : Nat
  ok : Bool
deriving DecidableEq, Repr

/-- What a hard decode reports of one codeword (08_media_reliability.md R352, R357, R358). -/
structure Decoded where
  /-- It decoded. -/
  ok : Bool
  /-- Bits corrected. -/
  errors : Nat
  /-- For each level with counts in the report: the level, its up count and its dn count (08_media_reliability.md R357). -/
  levels : List (Nat × Nat × Nat)
  /-- The read was of a single page of a QLC or TLC block (08_media_reliability.md R359). -/
  single : Bool
  /-- The storage of its block group's patina entry had an uncorrectable error (08_media_reliability.md R361). -/
  entryLost : Bool
deriving DecidableEq, Repr

/-- What a status read of a die reports (09_media_bus.md R391). -/
inductive DieStatus where
  | busy | ready | failed
deriving DecidableEq, Repr

/-- A segment as received (11_ingest_port.md R468, R469): the channel, its words, whether the packet is complete with no
Interlaken error, its length in bytes, and the cycle of its first header word is the present one. -/
structure Segment where
  /-- Interlaken channel. -/
  chan : Nat
  /-- Segment words: two header words and the body. -/
  words : List Word
  /-- Complete, with no Interlaken error, and the link stayed up. -/
  intact : Bool := true
  /-- Its length in bytes. -/
  bytes : Nat
  /-- Framing errors the receiver found with it: burst CRC-24 and lane CRC-32 errors (11_ingest_port.md R484). -/
  crc24 : Nat := 0
  crc32 : Nat := 0
deriving DecidableEq, Repr

/-- An ARM or STOP frame, with the register request of its cycle, if any: byte offset and value of a write (11_ingest_port.md R483). -/
structure StrandFrame where
  seg : Segment
  same : Option (Nat × BitVec 64)
deriving DecidableEq, Repr

/-- The commands, one for each row of the table of operations and events. -/
inductive Instr where
  /-- VAON_RISE (R655). VAON enters its operating range; the Parameter Store recalls, the supervisor loads its record,
  and the event sequence resumes from its reservation. -/
  | vaonRise (vsel : Nat) (testLow : Bool)
  /-- VAON_FALL (R730). VAON leaves its operating range; a page write in progress is cut short and the always-on state
  is lost. -/
  | vaonFall (chunk : Option Nat)
  /-- ADC_SLOT (R640). A 1.5 µs supervisor ADC slot ends; the sampled input is converted and compared with its
  thresholds. -/
  | adcSlot (code : Nat)
  /-- VIN_POWER_GOOD (R668). The VIN power-good filter is satisfied; the power-up table starts as C1 of a cold start.
  -/
  | vinPowerGood
  /-- PFW_N_ASSERT (R647). PFW_N has been low for 4 oscillator ticks and counts as asserted, a QUENCH trigger. -/
  | pfwNAssert
  /-- BELAY_RISE (R659). A counted rising edge of BELAY ends the current sequencing step and starts the next. -/
  | belayRise
  /-- BELAY_TIMEOUT (R666). A sequencing step has not ended STEPTMO after it started; the device aborts or continues
  detached. -/
  | belayTimeout
  /-- SEQ_ENTRY_DELAY_EXPIRED (R651). An entry's DELAY passes and its enable is asserted or deasserted. -/
  | seqEntryDelayExpired
  /-- SEQ_WAIT_TIMEOUT (R652). A table entry's wait reaches TIMEOUT; a power-up attempt fails or a shutdown entry
  ends. -/
  | seqWaitTimeout
  /-- RETRY_OFF_EXPIRED (R664). RETRYOFF passes after a failed attempt and the entry runs again from its DELAY. -/
  | retryOffExpired
  /-- FAULT_HOLD_EXPIRED (R665). STEPTMO plus 10 ms after an abort has passed with the shutdown complete; BELAY is
  released. -/
  | faultHoldExpired
  /-- RESTART_TIMER_EXPIRED (R668). The restart timer after an abort expires with VIN power-good, satisfying the VIN
  filter. -/
  | restartTimerExpired
  /-- SUPERVISOR_SAVE (R655). A write of 1 to PSEQ.CTRL.SAVE writes the always-on supervisor settings to their record.
  -/
  | supervisorSave
  /-- THRESHOLD_WRITE (R645). A write to PSEQ.UVTH or PSEQ.OVTH, discarded when the thresholds would be out of order
  or a sequence runs. -/
  | thresholdWrite (upper : Bool) (v : Word)
  /-- TABLE_ENTRY_WRITE (R656). A write to PSEQ.TENTRY, discarded while a sequence runs. -/
  | tableEntryWrite (v : Word)
  /-- SEQCFG_WRITE (R656). A write to PSEQ.SEQCFG, discarded while a sequence runs. -/
  | seqcfgWrite (v : Word)
  /-- PFWCFG_WRITE (R420). A write to PSEQ.PFWCFG changes the QUENCH limit and the dirty limit follows within 1 µs. -/
  | pfwcfgWrite (v : Word)
  /-- HOLDUP_MEASURE_REQUEST (R422). A write of 1 to SYSC.HOLDUP.MEASURE requests a hold-up capacitance measurement.
  -/
  | holdupMeasureRequest
  /-- HOLDUP_MEASURE_DUE (R422). The 24-hour or 10 s deferral timer expires and a capacitance measurement begins. -/
  | holdupMeasureDue
  /-- HOLDUPCFG_WRITE (R450). A write to SYSC.HOLDUPCFG, discarded when VLO is not below VHI, otherwise applied to L.
  -/
  | holdupcfgWrite (v : Word)
  /-- DIRTYCFG_WRITE (R416). A write to SYSC.DIRTYCFG changes the configured dirty budget and hence L. -/
  | dirtycfgWrite (v : Word)
  /-- START_STEP_COMPLETE (R80). A start step C1 to C9 completes and the next step runs, or the start leaves STARTING.
  -/
  | startStepComplete (r : StepRep)
  /-- START_STEP_TIMEOUT (R83). A start step has not completed within twice its maximum time and fails. -/
  | startStepTimeout
  /-- PERST_N_ASSERT (R64). PERST_N is asserted: a warm reset request in service modes, or a restart of link training
  in STARTING. -/
  | perstNAssert
  /-- PERST_N_DEASSERT (R81). PERST_N deasserts and the CXL PHY begins link training once C4 is complete. -/
  | perstNDeassert
  /-- WARM_RESET_REQUEST (R85). A write of SYSC.RESET.WARM starts warm entry. -/
  | warmResetRequest
  /-- COLD_RESET_REQUEST (R88). A write of SYSC.RESET.COLD runs steps 1 to 4 of warm entry, the shutdown table and a
  cold start. -/
  | coldResetRequest
  /-- WARM_ENTRY_COMPLETE (R85). Warm entry's destage and seal end; channels enter self-refresh, the warm record is
  written and domains reset. -/
  | warmEntryComplete
  /-- WARM_ENTRY_TIMEOUT (R87). 500 ms pass without the warm record written; the controller finishes the drain and
  resets cold. -/
  | warmEntryTimeout
  /-- MODEREQ_SERVICE (R57). SYSC.MODEREQ GO with TARGET 2 requests MEMORY to SERVICE after destage and seal. -/
  | modereqService
  /-- MODEREQ_MEMORY (R57). SYSC.MODEREQ GO with TARGET 3 requests STREAM to MEMORY when no strand is armed or
  running. -/
  | modereqMemory
  /-- MODEREQ_STREAM (R57). SYSC.MODEREQ GO with TARGET 4 requests MEMORY to STREAM. -/
  | modereqStream
  /-- MODEREQ_SAFE (R57). SYSC.MODEREQ GO with TARGET 7 requests entry to SAFE. -/
  | modereqSafe
  /-- MODEREQ_INVALID (R57). SYSC.MODEREQ GO with an unaccepted TARGET is refused with RESULT 2. -/
  | modereqInvalid (target : Nat)
  /-- SERVICE_ENTRY_COMPLETE (R55). The destage and seal of a MEMORY to SERVICE request end and the controller enters
  SERVICE. -/
  | serviceEntryComplete
  /-- QUENCH_TRIGGER (R425). PFW_N, a VIN fault or thermal shutdown starts QUENCH, which runs Q2 to Q7. -/
  | quenchTrigger (cause : QuenchCause)
  /-- QUENCH_LIMIT_EXPIRED (R669). QLIMIT passes before Q7 completes and the shutdown table starts without the final
  record. -/
  | quenchLimitExpired (unsealed : List Nat)
  /-- QUENCH_COMPLETE (R425). Q7 completes and the shutdown table begins at Q8. -/
  | quenchComplete (unsealed : List Nat)
  /-- REST_ENTRY (R71). The idle controller's rest governor enters the deepest eligible REST level. -/
  | restEntry
  /-- REST_COMMIT (R74). Die operations and self-refresh entry are done and the core clock is gated. -/
  | restCommit
  /-- CALENDAR_DUE (R72). A calendar entry's wake time (due time less wake time) arrives and the wake from REST
  starts. -/
  | calendarDue
  /-- WAKE (R73). A wake trigger starts the wake from REST. -/
  | wake (source : WakeSource)
  /-- WAKE_COMPLETE (R65). The controller is back in the mode it came from and sets REST cause WAKE. -/
  | wakeComplete
  /-- HTIMER_WRITE (R78). A write to REST.HTIMERn arms, re-arms or cancels a host timer. -/
  | htimerWrite (n : Nat) (v : Word)
  /-- HTIMER_DUE (R78). A host timer falls due; ARMED clears, its cause bit sets and its calendar entry goes. -/
  | htimerDue (n : Nat)
  /-- REGISTER_WRITE (R103). A write to a register with no row of its own, applied or refused under the access rules.
  -/
  | registerWrite (t : RegTarget)
  /-- REGISTER_READ_ERROR (R107). A read refused under R103 or of an unoccupied offset, capturing an access error. -/
  | registerReadError (off : Nat) (bytes : Nat)
  /-- RC_READ (R105). A read of a register with an RC field returns it and clears it. -/
  | rcRead (off : Nat) (bytes : Nat)
  /-- ISTAT_W1C (R116). A W1C write to ISTAT clears cause bits and may re-signal the vector. -/
  | istatW1c (page : Nat) (v : Word) (together : Nat)
  /-- IEN_WRITE (R117). A write to IEN.EN changes interrupt enables and may signal the vector. -/
  | ienWrite (page : Nat) (v : Word)
  /-- INTERRUPT_FORCE (R115). A write to IEN.IFORCE sets ISTAT bits without the cause's other actions. -/
  | interruptForce (page : Nat) (v : Word)
  /-- ERRSTAT_CLEAR (R118). A write of 1 to ERRSTAT.VALID clears the captured error. -/
  | errstatClear (page : Nat) (v : Word)
  /-- CXL_MEM_READ (R146). A CXL.mem read is received and served from the near cache, DRAM tier or media. -/
  | cxlMemRead (dpa : Nat) (tag : Nat) (cacheable : Bool) (found : List Finding)
  /-- CXL_MEM_WRITE (R29). A full-line CXL.mem write is received and completed once in the persistence domain. -/
  | cxlMemWrite (dpa : Nat) (tag : Nat) (data : BitVec 512) (poison : Bool) (found : List Finding)
  /-- MEMWRPTL (R155). A partial write is received and performed as a read-modify-write of the line. -/
  | memwrptl (dpa : Nat) (tag : Nat) (data : BitVec 512) (enables : BitVec 64) (poison : Bool) (found : List Finding)
  /-- DIRTY_WAIT_RELEASE (R151). Destage frees dirty-budget room and a waiting write proceeds. -/
  | dirtyWaitRelease
  /-- GPF_PHASE1 (R152). Global Persistent Flush Phase 1 stops CXL.mem admission. -/
  | gpfPhase1
  /-- GPF_PHASE2 (R152). Global Persistent Flush Phase 2 answers once received writes are persistent. -/
  | gpfPhase2
  /-- CXL_LINK_UP (R180). CXL link training completes at the widest passing width and rate. -/
  | cxlLinkUp (width : Nat) (rate : Nat) (flit256 : Bool) (lopt : Bool)
  /-- CXL_LINK_DOWN (R183). The CXL link goes down without PERST_N; the mode is kept and retraining awaited. -/
  | cxlLinkDown
  /-- BIRSP (R176). A BIRsp arrives and its presence bit clears, releasing a waiting commit, eviction or read. -/
  | birsp (line : Nat)
  /-- BI_TIMEOUT (R179). A BIRsp has not arrived within BITMO; the line is treated as invalidated and an alarm raised.
  -/
  | biTimeout (line : Nat)
  /-- IDENTIFY (R184). The Identify mailbox command. -/
  | identify (iface : Nat)
  /-- IDENTIFY_MEMORY_DEVICE (R184). The Identify Memory Device mailbox command. -/
  | identifyMemoryDevice (iface : Nat)
  /-- GET_PARTITION_INFO (R184). The Get Partition Info mailbox command. -/
  | getPartitionInfo (iface : Nat)
  /-- GET_EVENT_RECORDS (R184). The Get Event Records mailbox command. -/
  | getEventRecords (iface : Nat) (log : Nat)
  /-- CLEAR_EVENT_RECORDS (R184). The Clear Event Records mailbox command. -/
  | clearEventRecords (iface : Nat) (log : Nat) (handles : List Nat) (all : Bool)
  /-- GET_EVENT_INTERRUPT_POLICY (R184). The Get Event Interrupt Policy mailbox command. -/
  | getEventInterruptPolicy (iface : Nat)
  /-- SET_EVENT_INTERRUPT_POLICY (R184). The Set Event Interrupt Policy mailbox command. -/
  | setEventInterruptPolicy (iface : Nat) (policy : Nat)
  /-- GET_FW_INFO (R758). Get FW Info reports slots A, B and recovery with their versions. -/
  | getFwInfo (iface : Nat)
  /-- TRANSFER_FW_FULL (R763). A Full Transfer FW part writes and verifies a whole image into a slot. -/
  | transferFwFull (iface : Nat) (slot : Nat) (data : List (BitVec 8)) (imageOk : Bool)
  /-- TRANSFER_FW_INITIATE (R760). An Initiate Transfer FW part marks the slot invalid and opens a transfer. -/
  | transferFwInitiate (iface : Nat) (slot : Nat) (data : List (BitVec 8))
  /-- TRANSFER_FW_CONTINUE (R761). A Continue Transfer FW part adds data at the expected offset and checks completed
  blocks. -/
  | transferFwContinue (iface : Nat) (slot : Nat) (offset : Nat) (data : List (BitVec 8))
  /-- TRANSFER_FW_END (R763). An End Transfer FW part reads back and verifies the slot. -/
  | transferFwEnd (iface : Nat) (slot : Nat) (offset : Nat) (data : List (BitVec 8)) (imageOk : Bool)
  /-- TRANSFER_FW_ABORT (R764). An Abort Transfer FW part aborts the open transfer and leaves the slot invalid. -/
  | transferFwAbort (iface : Nat)
  /-- TRANSFER_FW_TIMEOUT (R764). 300 s pass without a part and the open transfer is aborted. -/
  | transferFwTimeout
  /-- ACTIVATE_FW (R765). Activate FW reverifies a slot and records it selected on trial for the next start. -/
  | activateFw (iface : Nat) (online : Bool) (slot : Nat) (imageOk : Bool)
  /-- GET_SUPPORTED_LOGS (R184). The Get Supported Logs mailbox command. -/
  | getSupportedLogs (iface : Nat)
  /-- GET_LOG (R184). The Get Log mailbox command. -/
  | getLog (iface : Nat) (log : Nat) (offset : Nat) (length : Nat)
  /-- GET_HEALTH_INFO (R184). The Get Health Info mailbox command. -/
  | getHealthInfo (iface : Nat)
  /-- GET_ALERT_CONFIGURATION (R184). The Get Alert Configuration mailbox command. -/
  | getAlertConfiguration (iface : Nat)
  /-- SET_ALERT_CONFIGURATION (R184). The Set Alert Configuration mailbox command. -/
  | setAlertConfiguration (iface : Nat) (config : Nat)
  /-- GET_SHUTDOWN_STATE (R184). The Get Shutdown State mailbox command. -/
  | getShutdownState (iface : Nat)
  /-- SET_SHUTDOWN_STATE (R184). The Set Shutdown State mailbox command. -/
  | setShutdownState (iface : Nat) (state : Nat)
  /-- GET_POISON_LIST (R160). Get Poison List returns up to 4,096 poisoned lines with overflow indication. -/
  | getPoisonList (iface : Nat) (dpa : Nat) (length : Nat)
  /-- INJECT_POISON (R157). Inject Poison poisons a line. -/
  | injectPoison (iface : Nat) (dpa : Nat)
  /-- CLEAR_POISON (R159). Clear Poison clears a line's poison and removes it from the refused-line table outside
  SAFE. -/
  | clearPoison (iface : Nat) (dpa : Nat) (data : BitVec 512)
  /-- GET_SCAN_MEDIA_CAPABILITIES (R184). The Get Scan Media Capabilities mailbox command. -/
  | getScanMediaCapabilities (iface : Nat) (dpa : Nat) (length : Nat)
  /-- SCAN_MEDIA (R184). The Scan Media mailbox command. -/
  | scanMedia (iface : Nat) (dpa : Nat) (length : Nat)
  /-- GET_SCAN_MEDIA_RESULTS (R184). The Get Scan Media Results mailbox command. -/
  | getScanMediaResults (iface : Nat)
  /-- SANITIZE (R621). Sanitize unmaps everything, retires every key slot, erases media and creates a new device key.
  -/
  | sanitize (iface : Nat)
  /-- SECURE_ERASE (R621). Secure Erase unmaps everything, retires every key slot and creates a new device key. -/
  | secureErase (iface : Nat)
  /-- GET_LSA (R184). Get LSA reads the label storage area held in media. -/
  | getLsa (iface : Nat) (offset : Nat) (length : Nat)
  /-- SET_LSA (R184). Set LSA writes the label storage area held in media. -/
  | setLsa (iface : Nat) (offset : Nat) (data : List (BitVec 8))
  /-- GET_TIMESTAMP (R184). The Get Timestamp mailbox command. -/
  | getTimestamp (iface : Nat)
  /-- SET_TIMESTAMP (R161). Set Timestamp sets only the CXL event timestamp base. -/
  | setTimestamp (iface : Nat) (time : Nat)
  /-- UNSUPPORTED_OPCODE (R187). A mailbox command with an unsupported opcode returns Unsupported. -/
  | unsupportedOpcode (iface : Nat) (opcode : Nat)
  /-- GET_OWN_COMMAND_SET_VERSION (R188). Returns the version of the controller's own command set. -/
  | getOwnCommandSetVersion (iface : Nat)
  /-- GET_LATENCY_RECORD (R187). Returns per-class latency counters and optionally clears them. -/
  | getLatencyRecord (iface : Nat) (clear : Bool)
  /-- DISCARD_RANGE (R189). Discard Range checks its range and starts a background discard of fine units. -/
  | discardRange (iface : Nat) (dpa : Nat) (length : Nat)
  /-- DISCARD_RANGE_COMPLETE (R153). The discard's journal records are programmed and the range reads as zeros. -/
  | discardRangeComplete
  /-- GET_HANK_WINDOWS (R190). Returns the packed and word view addresses and size of a strand's hank. -/
  | getHankWindows (iface : Nat) (strand : Nat)
  /-- GET_PERSISTENCE_STATE (R449). Returns the dirty amount, the limit and the previous shutdown outcome. -/
  | getPersistenceState (iface : Nat)
  /-- LOAD_KEY_SLOT (R632). Loads, generates or reloads a key into a key slot. -/
  | loadKeySlot (iface : Nat) (key : BitVec 256) (slot : Nat) (flags : Nat)
  /-- BIND_RANGE (R633). Binds or unbinds a protection range to a key slot. -/
  | bindRange (iface : Nat) (range : Nat) (slot : Nat) (flags : Nat)
  /-- REKEY_RANGE (R634). Starts the background move of a range from its slot to a new slot. -/
  | rekeyRange (iface : Nat) (range : Nat) (slot : Nat) (flags : Nat)
  /-- REKEY_STEP_COMPLETE (R619). A rekey step K1 to K4 ends and the next runs; at K5 REKEYING clears and the old slot
  may retire. -/
  | rekeyStepComplete
  /-- LINE_FILL_COMPLETE (R203). A near-cache fill arrives, completes joined requests in order and installs the line.
  -/
  | lineFillComplete (slice : Nat) (line : Nat) (found : List Finding)
  /-- MISS_ENTRY_FREED (R202). A miss entry frees and a miss waiting at the slice input proceeds. -/
  | missEntryFreed (slice : Nat)
  /-- VICTIM_WRITE_COMPLETE (R215). A victim line's DRAM-tier write completes, freeing the entry and releasing waiting
  writes and installs. -/
  | victimWriteComplete (slice : Nat) (line : Nat)
  /-- TAG_CHECK_COMPLETE (R613). A speculative line's check completes; the line is installed, or a late alarm follows.
  -/
  | tagCheckComplete (line : Nat) (ok : Bool)
  /-- RGNATTR_WRITE (R213). A write to NCCH.RGNATTR starts a region attribute change, or is discarded while one is in
  progress. -/
  | rgnattrWrite (v : Word)
  /-- RGNATTR_CHANGE_COMPLETE (R213). Every slice has examined all its sets for a region change; BUSY clears and
  RGNDONE sets. -/
  | rgnattrChangeComplete (region : Nat)
  /-- PREFETCH_HINT (R219). A write to NCCH.PFDB queues a prefetch hint or drops it when the queue is full. -/
  | prefetchHint (v : Word)
  /-- LFSR_WRITE (R205). A write to NCCH.LFSR.STATE reseeds a slice's replacement register. -/
  | lfsrWrite (slice : Nat) (v : Word)
  /-- NCCH_DISABLE (R229). A write of 1 to NCCH.CTRL.DISABLE puts every slice in DRAINING. -/
  | ncchDisable
  /-- NCCH_ENABLE (R232). A write of 0 to NCCH.CTRL.DISABLE returns disabled slices to ENABLED, or is ignored while
  draining. -/
  | ncchEnable
  /-- SLICE_DRAINED (R230). A draining slice holds no dirty line and its victim buffer empties; it becomes DISABLED.
  -/
  | sliceDrained (slice : Nat)
  /-- DRAM_REFRESH_DUE (R276). A bank's refresh interval expires and a same-bank refresh is issued. -/
  | dramRefreshDue (chan : Nat) (bank : Nat) (hot : Bool)
  /-- ACT_WINDOW_RESET (R278). An activation counting window ends; every table clears and F returns to 0. -/
  | actWindowReset (chan : Nat)
  /-- BURST_WINDOW_END (R274). A subchannel's window of 256 bursts ends and the groups' share credits are refilled. -/
  | burstWindowEnd (chan : Nat) (sub : Nat)
  /-- DRMC_SHARE_WRITE (R275). A write to DRMC.SHARE is accepted for the next window, or discarded when it does not
  sum to 64. -/
  | drmcShareWrite (chan : Nat) (v : Word)
  /-- HOST_DESTAGE (R311). Translation begins destaging a dirty fine unit to pseudo-SLC as P4 work. -/
  | hostDestage (unit : Nat)
  /-- PAGE_PROGRAM_COMPLETE (R313). A media page program completes; map entries change and dirty lines or frames are
  released. -/
  | pageProgramComplete (id : Nat) (ok : Bool)
  /-- ERASE_COMPLETE (R307). A block erase completes; the band opens when all members are erased, or the block is
  retired on failure. -/
  | eraseComplete (die : Nat) (block : Nat) (ok : Bool)
  /-- ANNEAL (R319). Anneal begins moving eligible units of the oldest closed pseudo-SLC band into QLC. -/
  | anneal (band : Nat)
  /-- GC_START (R322). A die falls below START free blocks and garbage collection of the emptiest QLC band begins. -/
  | gcStart (band : Nat)
  /-- MOVE_COMPLETE (R325). A move's program completes and the map entry changes if it still holds the source. -/
  | moveComplete (src : Nat) (dst : Nat)
  /-- MAP_LINE_REBUILT (R298). A corrupt map line has been rebuilt from checkpoints and records, releasing waiting
  requests. -/
  | mapLineRebuilt (coarse : Bool) (line : Nat) (lost : List Nat)
  /-- HDRCFG_WRITE (R346). A write to FTLM.HDRCFG is accepted for the next start or discarded with code 0x43. -/
  | hdrcfgWrite (v : Word)
  /-- CHECKPOINT_DUE (R435). 60 s or 64 GiB since the last cut: a checkpoint takes its cut and starts its record. -/
  | checkpointDue
  /-- CHECKPOINT_COMPLETE (R436). A checkpoint's closing marker is programmed and the record counts. -/
  | checkpointComplete (ok : Bool)
  /-- DIE_STATUS_POLL (R391). A die's poll time arrives and Read Status Enhanced is issued. -/
  | dieStatusPoll (die : Nat) (status : DieStatus)
  /-- RB_N_RISE (R391). A rising edge on RB_N triggers the first status poll of waiting dies. -/
  | rbNRise (chan : Nat)
  /-- DIE_COMMAND_TIMEOUT (R371). A die command has not completed within twice its maximum time; the die is reset. -/
  | dieCommandTimeout (die : Nat)
  /-- SUSPEND_EFFECTIVE (R404). A program or erase suspend takes effect and the die serves up to two P1 reads. -/
  | suspendEffective (die : Nat)
  /-- ARRAY_READ_COMPLETE (R376). A die's array read completes and its transfers enter the read-return queue; a
  suspended operation may resume. -/
  | arrayReadComplete (die : Nat)
  /-- CODEWORD_TRANSFER_COMPLETE (R376). A codeword transfer on an ONFI channel completes and the next is granted. -/
  | codewordTransferComplete (chan : Nat)
  /-- DECODE_COMPLETE (R353). A hard decode completes or fails; patina updates, rewrites or recovery follow. -/
  | decodeComplete (read : Nat) (die : Nat) (d : Decoded)
  /-- SOFT_DECODE_COMPLETE (R352). A soft decode of a codeword succeeds or fails. -/
  | softDecodeComplete (read : Nat) (die : Nat) (d : SoftDecoded)
  /-- REBUILD_COMPLETE (R872). A stripe rebuild's members are combined and verified, supplying the page or losing the
  codeword. -/
  | rebuildComplete (read : Nat) (ok : Bool)
  /-- PLANISH_READ (R365). The planish scheduler reads a closed block a wordline at a time as P7 work. -/
  | planishRead (block : Nat) (d : Decoded)
  /-- PLANISH_DEADLINE_MISSED (R367). A block passes its retention deadline unread; LATE is set. -/
  | planishDeadlineMissed (block : Nat)
  /-- RETIREMENT_PHASE_COMPLETE (R373). Phase 1 or phase 2 of retirement recovery completes. -/
  | retirementPhaseComplete (cluster : Nat)
  /-- RETRAIN_DUE (R392). A 10 °C change or 24 hours since the last training starts an ONFI channel retraining. -/
  | retrainDue (chan : Nat) (temp : Int)
  /-- RETRAIN_STEP_COMPLETE (R392). A retraining step completes; new settings take effect or the retraining fails. -/
  | retrainStepComplete (chan : Nat) (ok : Bool) (last : Bool)
  /-- MEDIA_CORE_WATCHDOG (R374). A media core's watchdog expires and it is reloaded. -/
  | mediaCoreWatchdog (core : Nat)
  /-- SEQ_CORE_WATCHDOG (R756). A stream sequencer core's watchdog expires and it is reloaded. -/
  | seqCoreWatchdog (core : Nat)
  /-- MAIN_WATCHDOG (R757). The main core's watchdog expires; warm-entry drain in hardware, shutdown table and cold
  start. -/
  | mainWatchdog
  /-- ILKN_LINKUP_STEP (R456). An Interlaken link-up step L1 to L4 completes and the next begins. -/
  | ilknLinkupStep (rx : Nat) (peer : Nat)
  /-- ILKN_LINKUP_TIMEOUT (R456). A link-up step passes its limit; link-up restarts from L1 after 10 ms. -/
  | ilknLinkupTimeout
  /-- ILKN_RESTART_DELAY (R456). The 10 ms delay after a failed link-up ends and L1 begins again. -/
  | ilknRestartDelay
  /-- ILKN_ALIGNMENT_LOSS (R460). A lane of the group loses word lock or alignment and the link goes down. -/
  | ilknAlignmentLoss (lane : Nat)
  /-- FLOW_CONTROL_WORD (R467). A control word from the sender sets channels XON or XOFF for transmission. -/
  | flowControlWord (first : Nat) (bits : Nat)
  /-- DATA_SEGMENT (R473). A data segment is received, checked, stamped and staged into its strand's hank. -/
  | dataSegment (seg : Segment)
  /-- VERSION (R476). A KSP VERSION frame is received and the agreed version set or NOAGREE held. -/
  | version (seg : Segment)
  /-- VERSION_FRAME_TIMER (R476). The 1 ms timer before agreement expires and a VERSION frame is sent. -/
  | versionFrameTimer
  /-- TOD (R789). A KSP TOD frame sets the time of day now or at the next PPS edge. -/
  | tod (seg : Segment)
  /-- ARM (R480). A KSP ARM frame arms its strand as a register arm does. -/
  | arm (frame : StrandFrame)
  /-- STOP (R480). A KSP STOP frame stops its strand. -/
  | stop (frame : StrandFrame)
  /-- TRIG (R480). A received KSP TRIG frame delivers a trigger to a strand or to broadcast strands. -/
  | trig (seg : Segment)
  /-- UNKNOWN_CONTROL_FRAME (R481). A control frame with an unknown COP is answered with STATUS RESULT 3. -/
  | unknownControlFrame (seg : Segment)
  /-- ALLOC (R492). STRD command ALLOC allocates a hank to a FREE strand. -/
  | alloc (adopt : Bool)
  /-- ALLOC_ADOPT_COMPLETE (R494). An adopting ALLOC finds the write point and completes; the index rebuild continues.
  -/
  | allocAdoptComplete
  /-- CONFIG (R541). STRD command CONFIG applies staged configuration to an IDLE or DONE strand. -/
  | config
  /-- STRAND_ARM (R525). STRD command ARM arms a strand at once or schedules it. -/
  | strandArm
  /-- STRAND_STOP (R490). STRD command STOP ends the open record, commits it and sets the strand IDLE. -/
  | strandStop
  /-- TRIGGER (R531). STRD command TRIGGER delivers a register trigger to a strand. -/
  | trigger
  /-- TIMEDTRIG (R534). STRD command TIMEDTRIG places a timed trigger in the timed list. -/
  | timedtrig
  /-- DROPREM (R517). STRD command DROPREM ends the open record with DROPPED. -/
  | droprem
  /-- REWIND (R495). STRD command REWIND discards a strand's data and returns its write point to 0. -/
  | rewind
  /-- RELEASE (R495). STRD command RELEASE waits for the strand's frames, then discards its hank and frees it. -/
  | release
  /-- RELEASE_COMPLETE (R495). The strand's frames are released; its hank is discarded and the strand set FREE. -/
  | releaseComplete
  /-- STRD_UNKNOWN_OP (R541). A STRD command with an unknown OP completes with RESULT 7. -/
  | strdUnknownOp (op : Nat)
  /-- ARM_TIME_REACHED (R487). A SCHEDULED strand's arm time arrives and it becomes ARMED. -/
  | armTimeReached (strand : Nat)
  /-- TIMED_TRIGGER_DUE (R534). A timed trigger falls due and is delivered or counted as ignored. -/
  | timedTriggerDue
  /-- FILTER_WRITE (R522). A write to STRD.FDATA changes a filter entry word for later records. -/
  | filterWrite (v : Word)
  /-- TRIGGER_LOG_POP (R535). A write of 1 to STRD.TRIGLOG3.POP removes the oldest trigger log entry. -/
  | triggerLogPop
  /-- SEAL_INTERVAL_EXPIRED (R509). SEALINT passes since the first word in the filling crucible and the crucible
  seals. -/
  | sealIntervalExpired (pipe : Nat)
  /-- INDEX_REBUILD_COMPLETE (R540). A time index line's rebuild from its unit's slots completes. -/
  | indexRebuildComplete (unit : Nat)
  /-- TRIG_IN_EDGE (R803). A counted TRIG_IN edge delivers a compensated trigger to enabled strands. -/
  | trigInEdge (frac : Nat)
  /-- TRIG_OUT_RISE (R801). The scheduled rise of TRIG_OUT after OUTLAT arrives and the pulse starts. -/
  | trigOutRise
  /-- TRIG_OUT_PULSE_END (R801). PULSE passes and TRIG_OUT is released. -/
  | trigOutPulseEnd
  /-- BIND (R545). RPLE command BIND binds a replay slot to an IDLE or DONE strand with a hank. -/
  | bind
  /-- REPLAY_CONFIG (R550). RPLE command CONFIG applies the slot configuration in BOUND or DONE. -/
  | replayConfig
  /-- PRELOAD (R565). RPLE command PRELOAD starts filling the slot's buffer within its limits. -/
  | preload
  /-- START (R559). RPLE command START fixes the window and starts the slot at its start time. -/
  | start
  /-- REPLAY_STOP (R550). RPLE command STOP sets the slot DONE after the segment in progress. -/
  | replayStop
  /-- UNBIND (R550). RPLE command UNBIND unbinds a slot in BOUND, LOADING or DONE. -/
  | unbind
  /-- RPLE_UNKNOWN_OP (R550). An RPLE command with an unknown OP completes with RESULT 7. -/
  | rpleUnknownOp (op : Nat)
  /-- REPLAY_PAGE_READ (R565). A hank page comes within the horizon and buffer limit and its P3 read is issued. -/
  | replayPageRead (slot : Nat) (page : Nat)
  /-- REPLAY_PAGE_BUFFERED (R565). A replay page read completes into the buffer; a stopped preload sets PRELOADED. -/
  | replayPageBuffered (slot : Nat) (page : Nat) (ok : Bool)
  /-- RECORD_DUE (R561). A record's due time arrives; it is sent, sent late or skipped with a gap marker. -/
  | recordDue (slot : Nat)
  /-- GAP_MARKER_END (R571). 16 cycles before the first record after an underrun run, the end gap marker is sent. -/
  | gapMarkerEnd (slot : Nat)
  /-- SEGMENT_SENT (R563). The framer finishes a segment and a waiting late record may leave. -/
  | segmentSent (slot : Nat)
  /-- TIME_SEEK (R575). QRYE OP 1 starts a time-seek on a strand's hank. -/
  | timeSeek
  /-- RECORD_COUNT (R576). QRYE OP 2 starts a record-count over an interval. -/
  | recordCount
  /-- QRYE_UNKNOWN_OP (R584). A query with OP 0 or 3 completes with RESULT 7. -/
  | qryeUnknownOp (op : Nat)
  /-- QUERY_COMPLETE (R581). A query's index and span reads finish and its results are set. -/
  | queryComplete (skipped : List Nat)
  /-- PAGE_REENCRYPT_COMPLETE (R616). A memory page's minor-overflow re-encryption completes and waiting writes
  proceed. -/
  | pageReencryptComplete (page : Nat)
  /-- RANGE_DEF_WRITE (R635). A write to MPRT.RDEF or RSIZE changes an unbound range's span or is discarded for a
  bound one. -/
  | rangeDefWrite (size : Bool) (v : Word)
  /-- THERMAL_FRAME (R679). A 1 ms thermal frame ends; readings, T_g, levels and the ladder are evaluated. -/
  | thermalFrame (raw : List (Option Nat)) (temps : List Int)
  /-- XOFF_DUTY_PERIOD (R689). A boundary of the 100 µs throttle or cap XOFF period switches data channels XOFF or
  XON. -/
  | xoffDutyPeriod (hold : Bool)
  /-- CLOCK_CHANGE_COMPLETE (R690). A core clock frequency change completes. -/
  | clockChangeComplete
  /-- THRM_EXCL_WRITE (R682). A write to THRM.EXCL excludes sensors from the next frame or is discarded. -/
  | thrmExclWrite (v : Word)
  /-- THRM_THRESH_WRITE (R685). A write to THRM.THRESH is applied from the next frame or discarded. -/
  | thrmThreshWrite (v : Word)
  /-- PCAP_WRITE (R849). A write to THRM.PCAP.MODE selects a power cap mode within 20 µs. -/
  | pcapWrite (v : Word)
  /-- THERMAL_SAVE (R735). A write of 1 to THRM.CTRL.SAVE writes the thermal record. -/
  | thermalSave
  /-- RECORDER_TICK (R707). A 1 ms recorder tick refills buckets and may begin or raise an incident. -/
  | recorderTick
  /-- RECORDER_10MS_TICK (R709). A 10 ms recorder tick writes SUMMARY and may end an incident. -/
  | recorder10msTick
  /-- LONG_LOG_FLUSH_DUE (R704). LOGFLUSH passes since a long-log page's first record and the page is programmed. -/
  | longLogFlushDue
  /-- CRITICAL_COPY_TIMER (R705). 10 ms after the first pending critical record, a critical-copy page is written. -/
  | criticalCopyTimer
  /-- CURSOR_PLACE (R711). A write to EVTR.CURSOR with ADV 0 places a window by SEQ and SOURCE. -/
  | cursorPlace (who : Nat) (group : Nat) (v : Word)
  /-- CURSOR_ADVANCE (R711). A write to EVTR.CURSOR with ADV 1 moves the window past its last record. -/
  | cursorAdvance (who : Nat) (group : Nat) (v : Word)
  /-- WINDOW_FILL_COMPLETE (R712). A long-log or critical-copy window read completes and READY rises. -/
  | windowFillComplete (group : Nat)
  /-- NEWREC_TIMEOUT (R716). ITMO or the incident deferral passes and NEWREC is set. -/
  | newrecTimeout
  /-- RECORDER_SAVE (R706). A write of 1 to EVTR.CTRL.SAVE stores the rate settings and class map. -/
  | recorderSave
  /-- RATE_CLASS_WRITE (R717). A write to EVTR.RCFG sets a class's rate and burst or is discarded. -/
  | rateClassWrite (v : Word)
  /-- PSTO_READ (R727). PSTO.CMD READ fills the data registers from a store page. -/
  | pstoRead (v : Word)
  /-- PSTO_WRITE (R728). PSTO.CMD WRITE queues a raw page write, refused for protected pages. -/
  | pstoWrite (v : Word)
  /-- PSTO_INVALID_OP (R728). PSTO.CMD with OP 0 or 3 completes with RESULT 4. -/
  | pstoInvalidOp (v : Word)
  /-- PROTECTION_WRITE (R723). A write to PSTO.PROT raises the level, or lowers it only in SERVICE. -/
  | protectionWrite (v : Word)
  /-- RECORD_DEFER_EXPIRED (R735). A deferred host-caused record write's 10 s interval ends and the write is queued.
  -/
  | recordDeferExpired (typ : Nat)
  /-- GET_VERSION (R773). The SPDM GET_VERSION request. -/
  | getVersion (conn : Nat) (msg : List (BitVec 8))
  /-- GET_CAPABILITIES (R773). The SPDM GET_CAPABILITIES request. -/
  | getCapabilities (conn : Nat) (msg : List (BitVec 8))
  /-- NEGOTIATE_ALGORITHMS (R773). The SPDM NEGOTIATE_ALGORITHMS request. -/
  | negotiateAlgorithms (conn : Nat) (msg : List (BitVec 8))
  /-- GET_DIGESTS (R773). The SPDM GET_DIGESTS request. -/
  | getDigests (conn : Nat) (msg : List (BitVec 8))
  /-- GET_CERTIFICATE (R770). The SPDM GET_CERTIFICATE request serving the Ed25519 chain. -/
  | getCertificate (conn : Nat) (msg : List (BitVec 8))
  /-- CHALLENGE (R773). The SPDM CHALLENGE request answered with an Ed25519 signature. -/
  | challenge (conn : Nat) (msg : List (BitVec 8))
  /-- GET_MEASUREMENTS (R771). The SPDM GET_MEASUREMENTS request reporting the assay. -/
  | getMeasurements (conn : Nat) (msg : List (BitVec 8))
  /-- GET_PQ_CERT (R774). Vendor-defined opcode 0x01 returns part of the ML-DSA-65 chain. -/
  | getPqCert (conn : Nat) (msg : List (BitVec 8))
  /-- GET_PQ_SIG (R775). Vendor-defined opcode 0x02 returns an ML-DSA-65 signature over the last transcript hash. -/
  | getPqSig (conn : Nat) (msg : List (BitVec 8))
  /-- CHUNK_SEND (R773). The SPDM CHUNK_SEND request. -/
  | chunkSend (conn : Nat) (msg : List (BitVec 8))
  /-- CHUNK_GET (R773). The SPDM CHUNK_GET request. -/
  | chunkGet (conn : Nat) (msg : List (BitVec 8))
  /-- RESPOND_IF_READY (R773). The SPDM RESPOND_IF_READY request. -/
  | respondIfReady (conn : Nat) (msg : List (BitVec 8))
  /-- SIDEBAND_READ (R777). An MCTP READ reads up to 8 BAR0 slots. -/
  | sidebandRead (off : Nat) (count : Nat)
  /-- SIDEBAND_WRITE (R778). An MCTP WRITE writes up to 8 BAR0 slots. -/
  | sidebandWrite (off : Nat) (vals : List (BitVec 64))
  /-- PPS_EDGE (R794). A PPS_IN rising edge is stamped and disciplined, and may load a pending set. -/
  | ppsEdge (frac : Nat)
  /-- DISC_WRITE (R790). A write to COHT.DISC changes discipline, refusing a pending set when PPSEN clears. -/
  | discWrite (v : Word)
  /-- CORE_RELOAD_COMPLETE (R756). The reload of a media core or stream sequencer core from its kept section ends,
  returning the core to service or losing it. -/
  | coreReloadComplete (core : Nat) (ok : Bool)
  /-- STORE_PAGE_WRITE_COMPLETE (R725). A store page write completes and the next queued write starts. -/
  | storePageWriteComplete
  /-- RECALL_COMPLETE (R724). A Parameter Store recall ends and waiting readers and writes proceed. -/
  | recallComplete
  /-- HEALTH_CONFIRM (R766). A write of 1 to BOOT.TRIAL.CONFIRM confirms a trial image. -/
  | healthConfirm
  /-- TRIAL_TIMER_EXPIRED (R767). The 600 s trial timer expires unconfirmed and TRIALEXP is set. -/
  | trialTimerExpired
  /-- TIME_SET (R789). A write of 1 to COHT.SETHI.GO sets the cohort time now or at the next PPS edge. -/
  | timeSet
  /-- TIMELO_READ (R788). A read of COHT.TIMELO latches the rest of the time into TIMEHI. -/
  | timeloRead
  /-- PPS_MISSED_SECOND (R795). A second passes without an accepted PPS edge; three in LOCKED enter HOLDOVER. -/
  | ppsMissedSecond
  /-- ATPPS_SET_TIMEOUT (R790). 2.5 s pass without an accepted edge and the pending set is refused. -/
  | atppsSetTimeout
  /-- BELAY_MIN_HOLD_EXPIRED (R658). 10 µs after a sequencing step started, a joined device whose entries of the step
  are done releases BELAY. -/
  | belayMinHoldExpired
deriving DecidableEq, Repr

end Sys2Proof
end

