-- ==== Sys2Proof/Config.lean ====
section
/-!
DEFINITION. What this model leaves uninterpreted: the values that spec/ leaves open (free values, log 8), and the published
cryptographic functions that spec/ names and does not restate (log 9). None of them has a body, so nothing can be proved of a
value of theirs.
-/
namespace Sys2Proof.Config

/-- The n-th free value, for a result whose value spec/ does not state. -/
opaque free : Nat → Nat

/-- The n-th key that the controller generates (14_memory_protection.md R586, R617). -/
opaque newKey : Nat → BitVec 256

/-- AES-256 encryption of a block under a key (14_memory_protection.md R585); byte j of a block is its bits [8j+7:8j] (log 99). -/
opaque aes256 : BitVec 256 → BitVec 128 → BitVec 128

/-- GHASH of a byte string under a hash key (14_memory_protection.md R597, R600). -/
opaque ghash : BitVec 128 → List (BitVec 8) → BitVec 128

/-- AES-256-GCM under a key and a 128-bit IV, of a plaintext with additional data: the ciphertext and the 128-bit tag
(14_memory_protection.md R606, R607). -/
opaque gcm : BitVec 256 → BitVec 128 → List (BitVec 8) → List (BitVec 8) → List (BitVec 8) × BitVec 128

/-- The counter-mode KDF of NIST SP 800-108 with AES-256-CMAC, of a key and a label (14_memory_protection.md R588,
19_firmware_and_identity.md R768). -/
opaque kdf : BitVec 256 → List (BitVec 8) → BitVec 256

/-- AES key wrap (RFC 3394) of a key under a wrapping key (14_memory_protection.md R590). -/
opaque keyWrap : BitVec 256 → BitVec 256 → BitVec 320

/-- The line of the tree region, counted over the primary copies in address order, that holds a node of a level: spec/ gives no order of
the nodes in the region (14_memory_protection.md R602). -/
opaque nodePlace : Nat → Nat → Nat

/-- The n-th choice of the entry that a node buffer evicts (14_memory_protection.md R601). -/
opaque nodeVictim : Nat → Nat

/-- The map check value over the entries of both maps (02_modes_and_starts.md R86, R92). -/
opaque mapCheck : List (Nat × BitVec 40) → List (Nat × BitVec 40) → Nat

/-- The check value of the patina table saved in the DRAM tier, over its entries' offsets (08_media_reliability.md R362). -/
opaque patinaCheck : List (Nat × List Int) → Nat

/-- SHA-512 of a byte string (19_firmware_and_identity.md). -/
opaque sha512 : List (BitVec 8) → BitVec 512

/-- The Ed25519 signature, under the key pair of a seed, over what an SPDM response signs, given the transcript hash
(19_firmware_and_identity.md R773). -/
opaque ed25519 : BitVec 256 → List (BitVec 8) → BitVec 512

/-- The ML-DSA-65 signature, under the key pair of a seed, over a transcript hash (19_firmware_and_identity.md R775). -/
opaque mldsa : BitVec 256 → BitVec 512 → BitVec 26472

/-- The alias certificate of an algorithm, 0 Ed25519 and 1 ML-DSA-65, from the seeds of the identity key that signs it and of the alias key, and
the measurements 3 and 4 that it carries (19_firmware_and_identity.md R769). -/
opaque aliasCert : Nat → BitVec 256 → BitVec 256 → List (BitVec 8) → List (BitVec 8)

/-- The SHA-512 digest of a root certificate, by algorithm (19_firmware_and_identity.md R769). -/
opaque rootHash : Nat → BitVec 512

/-- Sakewen's PCI vendor ID (19_firmware_and_identity.md R774), which spec/ does not give. -/
opaque vendorId : BitVec 16

/-- A certificate chain as the certificate store with a given digest holds it, by algorithm, up to the identity certificate
(19_firmware_and_identity.md R769). -/
opaque storeChain : Nat → BitVec 512 → List (BitVec 8)

/-- The SHA-512 digest of the boot ROM (19_firmware_and_identity.md R771, measurement 1). -/
opaque bootRom : BitVec 512

/-- The state of the debug access port as measurement 8 reports it (19_firmware_and_identity.md R771); spec/ gives the port no more. -/
opaque debugPort : Nat

/-- The SHA-512 digest of an identity public key, by algorithm, 0 Ed25519 and 1 ML-DSA-65, and the seed of its key pair
(19_firmware_and_identity.md IDNT.KEYIDED, KEYIDPQ). -/
opaque keyId : Nat → BitVec 256 → BitVec 512

/-- SRAM.REPAIR.MACROS: the SRAM macros on the die, per part (05_near_cache.md). -/
opaque macros : Nat

/-- The memory page of the DRAM tier, a tier unit, that holds the counters of a 4 KiB page of device addresses: spec/ does not say where the
tier cache places a page (14_memory_protection.md R594). -/
opaque tierPage : Nat → Nat

end Sys2Proof.Config
end

