-- ==== Sys2Proof/Machine/Bits.lean ====
section
/-!
DEFINITION. Fields of register words, packing, saturating and wrapping counts, and bits of sets kept as numbers.
-/
namespace Sys2Proof.Machine

open Sys2Proof

/-- The field of `len` bits from bit `lo`. -/
def fld (w : Word) (lo len : Nat) : Nat := w.toNat / 2 ^ lo % 2 ^ len

/-- Bit `i` of a word. -/
def wbit (w : Word) (i : Nat) : Bool := w.getLsbD i

/-- The word with the field of `len` bits from bit `lo` set to `v`. -/
def setFld (w : Word) (lo len v : Nat) : Word :=
  BitVec.ofNat 40 (w.toNat - fld w lo len * 2 ^ lo + v % 2 ^ len * 2 ^ lo)

/-- The word with only the bits of `mask` kept (reserved bits read as 0 and ignore writes, R108). -/
def keep (w : Word) (mask : Nat) : Word := w &&& BitVec.ofNat 40 mask

/-- Fields packed from bit 0 up, each given as width and value. -/
def pack : List (Nat × Nat) → Nat
  | [] => 0
  | (n, v) :: fs => v % 2 ^ n + 2 ^ n * pack fs

/-- A word packed from fields. -/
def packW (fs : List (Nat × Nat)) : Word := BitVec.ofNat 40 (pack fs)

/-- A Boolean as a bit. -/
def b2n (b : Bool) : Nat := if b then 1 else 0

/-- A count of `n` bits that saturates. -/
def satN (n v : Nat) : Nat := min v (2 ^ n - 1)

/-- One more of a count that saturates at `n` bits. -/
def satInc (n v : Nat) : Nat := min (v + 1) (2 ^ n - 1)

/-- One more of a count that wraps at `n` bits. -/
def wrapInc (n v : Nat) : Nat := (v + 1) % 2 ^ n

/-- Division rounded up. -/
def ceilDiv (a b : Nat) : Nat := (a + b - 1) / b

/-- `v` moved into `lo` to `hi`. -/
def clampN (lo hi v : Nat) : Nat := max lo (min hi v)

/-- A field moved into `lo` to `hi`. -/
def clampFld (w : Word) (at_ len lo hi : Nat) : Word := setFld w at_ len (clampN lo hi (fld w at_ len))

/-- `n` without the bits of `m`. -/
def clrBits (n m : Nat) : Nat := n - (n &&& m)

/-- A signed number as a byte of two's complement. -/
def int8 (z : Int) : Nat := (z % 256).toNat

/-- A byte of two's complement as a signed number. -/
def ofInt8 (n : Nat) : Int := if n % 256 < 128 then (n % 256 : Nat) else ((n % 256 : Nat) : Int) - 256

/-- A signed number in `n` bits of two's complement. -/
def intN (n : Nat) (z : Int) : Nat := (z % (2 ^ n : Nat)).toNat

/-- The members of a list below a bound as a bit set. -/
def bitsOf : List Nat → Nat
  | [] => 0
  | i :: is => bitsOf is ||| 2 ^ i

/-- The numbers below `n` whose bit is set in `m`. -/
def onesOf (n m : Nat) : List Nat := (List.range n).filter fun i => m.testBit i

/-- A list without a member. -/
def without [DecidableEq α] (l : List α) (a : α) : List α := l.filter fun b => b ≠ a

/-- A list with a member added at its end, once. -/
def withNew [DecidableEq α] (l : List α) (a : α) : List α := if a ∈ l then l else l ++ [a]

/-- The members of a list, each once, in order of first appearance. -/
def distinct [DecidableEq α] (l : List α) : List α := l.foldl withNew []

/-- The low `n` bytes of a number, least significant first (R10). -/
def bytesLE : Nat → Nat → List Nat
  | 0, _ => []
  | n + 1, v => v % 256 :: bytesLE n (v / 256)

/-- The number that bytes spell, least significant first. -/
def ofBytesLE : List Nat → Nat
  | [] => 0
  | b :: bs => b % 256 + 256 * ofBytesLE bs

/-- One 32-bit sequence is newer than another (00_scope.md R866). -/
def newer32 (a b : Nat) : Bool := let d := (a + 2 ^ 32 - b % 2 ^ 32) % 2 ^ 32; decide (1 ≤ d ∧ d < 2 ^ 31)

/-! ### What a register holds of a value written

Where a register table says that one value of a field is treated as another, the register holds that other (log 35). -/

/-- PSEQ.SNSSEL (15_power_supervision.md). -/
def heldSnssel (v : Word) : Word := clampFld (keep v 0x1F) 0 5 0 27
/-- PSEQ.SNSCFG (15_power_supervision.md). -/
def heldSnscfg (v : Word) : Word := clampFld (clampFld (clampFld (keep v 0x7FFFFFFF) 0 2 0 2) 2 3 1 7) 5 4 1 15
/-- PSEQ.SEQCFG (15_power_supervision.md). -/
def heldSeqcfg (v : Word) : Word := clampFld (clampFld (clampFld (keep v 0xFFFFFFFF) 0 10 1 1023) 10 8 1 255) 22 10 1 1023
/-- PSEQ.PFWCFG (15_power_supervision.md). -/
def heldPfwcfg (v : Word) : Word := clampFld (keep v 0x7FF) 0 10 1 1023
/-- PSEQ.CAPCFG (15_power_supervision.md). -/
def heldCapcfg (v : Word) : Word := clampFld (keep v 0x1FFFFFFFFF) 29 8 1 255
/-- THRM.THRESH (16_thermal.md). -/
def heldThresh (v : Word) : Word := clampFld (keep v 0xFFFFFFF) 24 4 1 15
/-- THRM.DIODE (16_thermal.md). -/
def heldDiode (v : Word) : Word := (List.range 4).foldl (fun w d => clampFld w (2 * d) 2 0 2) (keep v 0xFF)
/-- THRM.LADCFG (16_thermal.md). -/
def heldLadcfg (v : Word) : Word := clampFld (clampFld (keep v 0x1FFFF) 0 10 1 1023) 10 7 16 64
/-- THRM.PCAP (23_electrical.md). -/
def heldPcap (v : Word) : Word := clampFld (keep v 3) 0 2 0 2
/-- EVTR.CTRL (17_event_recorder.md). -/
def heldEvtrCtrl (v : Word) : Word := clampFld (clampFld (keep v 0x3FFF) 1 3 0 5) 4 10 1 1023
/-- EVTR.INCCFG (17_event_recorder.md). -/
def heldInccfg (v : Word) : Word := clampFld (keep v 0xFFF) 0 12 16 4095
/-- EVTR.IMOD (17_event_recorder.md). -/
def heldImod (v : Word) : Word := clampFld (clampFld (keep v 0xFFFFF) 0 10 1 1023) 10 10 1 1023
/-- COHT.TRIGCFG (20_cohort_and_time.md). -/
def heldTrigcfg (v : Word) : Word := clampFld (clampFld (clampFld v 0 10 100 1023) 10 10 1 1023) 36 3 1 7
/-- KSPE.FCCTL (11_ingest_port.md). -/
def heldFcctl (v : Word) : Word := clampFld (keep v 0xFFF) 0 8 4 32
/-- ILKN.LANECFG (11_ingest_port.md). -/
def heldLanecfg (v : Word) : Word := clampFld (keep v 7) 0 3 0 4
/-- STRD.FSEL (12_capture.md). -/
def heldFsel (v : Word) : Word := clampFld (keep v 0xFFFF) 12 4 0 8
/-- RPLE.POOL (13_replay_and_query.md). -/
def heldPool (v : Word) : Word := clampFld (keep v 0x1F) 0 5 1 16
/-- DRMC.SCHED (06_dram_tier.md). -/
def heldSched (v : Word) : Word := clampFld (clampFld (clampFld (keep v 0x3FFFF) 1 5 1 31) 6 10 1 1023) 16 2 0 2

end Sys2Proof.Machine
end

