-- ==== Sys2Proof/Machine/Types.lean ====
section
/-!
DEFINITION. The enumerations of the state: modes, levels and the states of units, with the codes spec/ gives them in the
functions of Machine/Codes.lean.
-/
namespace Sys2Proof.Machine

/-- The part (00_scope.md R1). -/
inductive Part where
  | p4860 | p4830 | p4815
deriving DecidableEq, Repr

/-- The grade: commercial or industrial (00_scope.md R4). -/
inductive Grade where
  | c | i
deriving DecidableEq, Repr

/-- The eight major modes (02_modes_and_starts.md R48). -/
inductive Mode where
  | dormant | starting | service | memory | stream | rest | quench | safe
deriving DecidableEq, Repr

/-- The rest levels (02_modes_and_starts.md, The rest governor). -/
inductive Level where
  | none | doze | nap | slumber
deriving DecidableEq, Repr

/-- A transition of 02_modes_and_starts.md R55 that takes time: the MEMORY to SERVICE request, warm entry, cold entry. -/
inductive Transition where
  | toService | warmEntry | coldEntry
deriving DecidableEq, Repr

/-- The kinds of reset request (02_modes_and_starts.md SYSC.RESET). -/
inductive ResetKind where
  | warm | cold
deriving DecidableEq, Repr

/-- PSEQ.SEQSTAT.PHASE (15_power_supervision.md). -/
inductive Phase where
  | dormReleased | dormHolding | powerUp | complete | shutJoint | shutDetached | faultHold
deriving DecidableEq, Repr

/-- Where the table entry in progress stands (15_power_supervision.md R651, R664): none in progress, its DELAY passes, it
waits on its input, its retry's off time passes, or every entry of the step is done. -/
inductive EntryState where
  | idle | delay | waiting | offTime | stepDone
deriving DecidableEq, Repr

/-- The restart timer (15_power_supervision.md R668): not in use, waiting for the BELAY edge, running. -/
inductive RestartTimer where
  | off | armed | running
deriving DecidableEq, Repr

/-- What follows a shutdown table: DORMANT, or a cold start (02_modes_and_starts.md R88, R94). -/
inductive AfterShut where
  | dormant | coldStart
deriving DecidableEq, Repr

/-- The steps of the throttle ladder (16_thermal.md R687). -/
inductive Ladder where
  | s0 | s1 | s2 | s3fast | s3slow | s4
deriving DecidableEq, Repr

/-- COHT.DSTAT.STATE (20_cohort_and_time.md). -/
inductive DiscState where
  | free | acquiring | locked | holdover
deriving DecidableEq, Repr

/-- Which recall of the Parameter Store runs (18_parameter_store.md R724). -/
inductive Recall where
  | vaonRise | startStep
deriving DecidableEq, Repr

/-- The state of a near-cache line (05_near_cache.md R197). -/
inductive LineState where
  | invalid | clean | modified
deriving DecidableEq, Repr

/-- NCCH.STAT.CSTATE (05_near_cache.md). -/
inductive CState where
  | enabled | draining | disabled | bypass
deriving DecidableEq, Repr

/-- DRMC.STAT.CSTATE (06_dram_tier.md). -/
inductive DState where
  | training | active | selfRefresh | retired
deriving DecidableEq, Repr

/-- ONFC.STAT.CSTATE (09_media_bus.md). -/
inductive ChState where
  | training | active | disabled | retired
deriving DecidableEq, Repr

/-- The state of a band (07_translation.md R299, R307). -/
inductive BandPhase where
  | erasing | opened | closed | freeing
deriving DecidableEq, Repr

/-- Where the data of a page program came from, and so from where it is driven again (08_media_reliability.md R368):
the DRAM tier, a crucible frame of pipe `p`, the tier buffer of a move, a stripe's parity, metadata, or the quench reserve. -/
inductive ProgSrc where
  | none | tier | frame (pipe : Nat) | move | parity | metadata | quench
deriving DecidableEq, Repr

/-- Why a unit is moved (07_translation.md R325). -/
inductive MoveKind where
  | anneal | gc | planish | failure | retirement | rekey | start
deriving DecidableEq, Repr

/-- The use of an erase block (07_translation.md R308). -/
inductive BlkUse where
  | free | band (b : Nat) | reserve | retired
deriving DecidableEq, Repr

/-- The kinds of map journal record (10_persistence.md R439, R440). -/
inductive JKind where
  | discardFine | discardCoarse | abandon
deriving DecidableEq, Repr

/-- How the newest session stands in the metadata reserve (10_persistence.md R446, R871). -/
inductive Session where
  | never | opened | closed | quenched
deriving DecidableEq, Repr

/-- The path of a P1 media read (08_media_reliability.md R378). -/
inductive RPath where
  | direct | rebuild | waiting
deriving DecidableEq, Repr

/-- The outcome of a P1 media read (08_media_reliability.md R353, R354). -/
inductive ROutcome where
  | pending | recovered | lost
deriving DecidableEq, Repr

/-- The kinds of die operation (09_media_bus.md R400). -/
inductive OpKind where
  | read | softRead | program | erase
deriving DecidableEq, Repr

/-- What a die's read is a part of (08_media_reliability.md R377, R378). -/
inductive Leg where
  | direct | rebuild | recovery | other
deriving DecidableEq, Repr

/-- The states of a strand (12_capture.md R487). -/
inductive SState where
  | free | idle | scheduled | armed | running | done
deriving DecidableEq, Repr

/-- The states of a replay slot (13_replay_and_query.md R548). -/
inductive RState where
  | unbound | bound | loading | waiting | running | done
deriving DecidableEq, Repr

/-- The states of a key slot (14_memory_protection.md R585). -/
inductive KState where
  | empty | loaded | absent | retiring
deriving DecidableEq, Repr

/-- The background mailbox command (04_host_port.md R186): Discard Range of fine units or of coarse units from a first one,
Scan Media of a range of lines, Rekey Range, Sanitize. -/
inductive Background where
  | discard (coarse : Bool) (first count : Nat)
  | scan (first count : Nat)
  | rekey (range : Nat)
  | sanitize
deriving DecidableEq, Repr

/-- What the controller sends to the outside (the model's trace of it). -/
inductive Out where
  /-- An MSI-X message on a vector (03_registers_and_hallmark.md R117). -/
  | msix (vector : Nat)
  /-- The completion of a CXL.mem read: tag, data, poison (04_host_port.md R146). -/
  | readDone (tag : Nat) (data : BitVec 512) (poison : Bool)
  /-- The completion of a CXL.mem write (04_host_port.md R146). -/
  | writeDone (tag : Nat)
  /-- A BISnpInv for a line (04_host_port.md R176). -/
  | bisnpInv (line : Nat)
  /-- A BIConflictAck for a line (04_host_port.md R177). -/
  | biConflictAck (line : Nat)
  /-- The answer to a GPF phase; `bad` reports failure (04_host_port.md R152). -/
  | gpfDone (phase : Nat)
  /-- Viral signalled to the host (04_host_port.md R179, 14_memory_protection.md R612). -/
  | viral
  /-- A register read's value (03_registers_and_hallmark.md R103). -/
  | regRead (value : BitVec 64)
  /-- A mailbox answer: interface, return code, payload in the order the rule lists it (04_host_port.md R185). -/
  | mailbox (iface code : Nat) (payload : List Nat)
  /-- A KSP VERSION frame: VMIN, VMAX, member number, MVALID (11_ingest_port.md R476, R480). -/
  | versionFrame (vmin vmax member : Nat) (valid : Bool)
  /-- A KSP STATUS frame: COP, SEQ and RESULT (11_ingest_port.md R481). -/
  | status (cop seq result : Nat)
  /-- A KSP TRIG frame: strand and timestamp, ALL = 0 (12_capture.md R533). -/
  | trigFrame (strand time : Nat)
  /-- A replayed segment: channel and words (13_replay_and_query.md R555). -/
  | segment (channel : Nat) (words : List Word)
  /-- An SPDM answer on a connection (19_firmware_and_identity.md R773). -/
  | spdm (conn : Nat) (bytes : List (BitVec 8))
  /-- A sideband answer: completion code and slots (19_firmware_and_identity.md R778). -/
  | sideband (code : Nat) (slots : List (BitVec 64))
deriving DecidableEq, Repr

end Sys2Proof.Machine
end

