-- ==== Sys2Proof/Machine/Parts.lean ====
section
/-!
DEFINITION. The parts of the state: one structure per block of the controller, each field with the rule or register of spec/
that names it, and its value right after reset. The reset values that spec/ does not give are named in INVENTORY.md and in
the assumption log.
-/
namespace Sys2Proof.Machine

/-- What is fused into the die and does not change. -/
structure Fuse where
  /-- HALL.PART.PARTNO, the part (00_scope.md R1, 03_registers_and_hallmark.md R120). -/
  part : Part
  /-- HALL.PART.GRADE (00_scope.md R4, 03_registers_and_hallmark.md R120). -/
  grade : Grade
  /-- HALL.PART.STEP (03_registers_and_hallmark.md R120). -/
  stepping : Nat
  /-- the service strap as the board ties it (22_pins_and_package.md). -/
  svcStrap : Bool
  /-- the SRAM fuse map: faulty cells repaired by fuse (macro, row, column) (05_near_cache.md R240). -/
  sramMap : List (Nat × Nat × Nat)
  /-- the touchmark secret (19_firmware_and_identity.md R768). -/
  secret : BitVec 256
  /-- image key sets revoked by fuse (19_firmware_and_identity.md). -/
  keyRevoked : List Nat
deriving DecidableEq, Repr

/-- Fuse right after reset. -/
def Fuse.reset : Fuse :=
  { part := .p4860, grade := .c, stepping := 1, svcStrap := false, sramMap := [], secret := 0, keyRevoked := [] }

/-- The start in progress (R80). -/
structure Start where
  /-- a start is running (02_modes_and_starts.md R80). -/
  running : Bool
  /-- the start step being run, 1 to 9 (02_modes_and_starts.md R80). -/
  cur : Nat
  /-- when the step began (02_modes_and_starts.md R83). -/
  since : Nat
  /-- the start is bound for SERVICE (02_modes_and_starts.md R61). -/
  boundService : Bool
  /-- C7 of this start found a SAFE condition (02_modes_and_starts.md R53). -/
  safeFound : Bool
  /-- the start was requested as cold (02_modes_and_starts.md R89). -/
  requestedCold : Bool
  /-- this start follows a failed start (R94) (02_modes_and_starts.md R94). -/
  failed : Bool
  /-- the warm start found its map intact (R92) (02_modes_and_starts.md R92). -/
  mapChecked : Bool
deriving DecidableEq, Repr

/-- Start right after reset. -/
def Start.reset : Start :=
  { running := false, cur := 0, since := 0, boundService := false, safeFound := false, requestedCold := false,
    failed := false, mapChecked := false }

/-- SYSC, system control: modes and starts. -/
structure Sysc where
  /-- SYSC.MODE.CUR, the major mode (02_modes_and_starts.md R48, R54). -/
  mode : Mode
  /-- SYSC.MODE.PREV (02_modes_and_starts.md (SYSC.MODE)). -/
  prev : Mode
  /-- SYSC.MODE.RETURN (02_modes_and_starts.md (SYSC.MODE)). -/
  ret : Option Mode
  /-- SYSC.MODE.LEVEL (02_modes_and_starts.md (SYSC.MODE)). -/
  level : Level
  /-- SYSC.MODE.WARM (02_modes_and_starts.md (SYSC.MODE)). -/
  warm : Bool
  /-- SYSC.MODE.STEP (02_modes_and_starts.md (SYSC.MODE)). -/
  step : Nat
  /-- SYSC.MODE.FALLBACK (02_modes_and_starts.md (SYSC.MODE)). -/
  fallback : Bool
  /-- SYSC.MODE.SVCSTRAP (02_modes_and_starts.md (SYSC.MODE)). -/
  svcstrap : Bool
  /-- SYSC.MODEREQ.TARGET (02_modes_and_starts.md (SYSC.MODEREQ)). -/
  reqTarget : Nat
  /-- SYSC.MODEREQ.GO (02_modes_and_starts.md (SYSC.MODEREQ)). -/
  reqGo : Bool
  /-- SYSC.MODEREQ.RESULT (02_modes_and_starts.md (SYSC.MODEREQ)). -/
  reqResult : Nat
  /-- the transition in progress (02_modes_and_starts.md R57). -/
  trans : Option Transition
  /-- when the transition began (02_modes_and_starts.md R87). -/
  transSince : Nat
  /-- a reset request waiting for a wake or for the transition in progress (02_modes_and_starts.md R60). -/
  resetWait : Option ResetKind
  /-- PERST_N asserted (02_modes_and_starts.md R64). -/
  perst : Bool
  /-- the start in progress (02_modes_and_starts.md R80). -/
  start : Start
deriving DecidableEq, Repr

/-- Sysc right after reset. -/
def Sysc.reset : Sysc :=
  { mode := .dormant, prev := .dormant, ret := none, level := .none, warm := false, step := 0, fallback :=
    false, svcstrap := false, reqTarget := 0, reqGo := false, reqResult := 0, trans := none, transSince := 0,
    resetWait := none, perst := false, start := .reset }

/-- One CXL.mem request waiting in the controller. -/
structure MemReq where
  /-- its DPA (04_host_port.md R146). -/
  dpa : Nat
  /-- its CXL tag (04_host_port.md R146). -/
  tag : Nat
  /-- a write: data and byte enables (04_host_port.md R155). -/
  write : Option (BitVec 512 × BitVec 64)
  /-- the write carries poison (04_host_port.md R157). -/
  poison : Bool
  /-- the read grants a cacheable copy (04_host_port.md R175). -/
  cacheable : Bool
  /-- arrival (04_host_port.md R7). -/
  since : Nat
  /-- its place in the order of arrival (04_host_port.md R146). -/
  ord : Nat
  /-- its slice has looked it up and counted it (05_near_cache.md (NCCH.HITS, NCCH.MISSES)). -/
  seen : Bool
  /-- it waited on the filter, outside the latency classes (04_host_port.md R167, R178). -/
  outside : Bool
  /-- the filter's word for it could not be read, so it is not written (05_near_cache.md R239). -/
  blind : Bool
deriving DecidableEq, Repr

/-- MemReq right after reset. -/
def MemReq.reset : MemReq :=
  { dpa := 0, tag := 0, write := none, poison := false, cacheable := false, since := 0, ord := 0, seen := false,
    outside := false, blind := false }

/-- REST, the rest governor. -/
structure RestG where
  /-- REST.POLICY (02_modes_and_starts.md (REST.POLICY)). -/
  policy : Word
  /-- REST.HTIMER0 to HTIMER7: the due time while armed (DELAY, ARMED) (02_modes_and_starts.md R78 (REST.HTIMER)). -/
  timers : Tbl (Option Nat)
  /-- the level being entered, before the commit point (02_modes_and_starts.md R74). -/
  entering : Option Level
  /-- CXL.io accesses that arrived in REST, performed after the wake, oldest first (02_modes_and_starts.md R73, 03_registers_and_hallmark.md R102). -/
  io : List Instr
  /-- source 2: when the planish scheduler's next pass is planned, cohort time (02_modes_and_starts.md R66). -/
  planned : Option Nat
  /-- source 3: the next anneal window, cohort time (02_modes_and_starts.md R66). -/
  annealAt : Option Nat
  /-- a wake is under way (02_modes_and_starts.md R73). -/
  waking : Bool
  /-- host requests that arrived in REST, served after the wake, oldest first (02_modes_and_starts.md R74). -/
  held : List MemReq
deriving DecidableEq, Repr

/-- RestG right after reset. -/
def RestG.reset : RestG :=
  { policy := 0x3140000, timers := [], entering := none, io := [], planned := none, annealAt := none, waking :=
    false, held := [] }

/-- The common block header of one block page (R112). -/
structure Hdr where
  /-- STAT.READY (03_registers_and_hallmark.md R867 (STAT)). -/
  ready : Bool
  /-- STAT.OUTSVC (03_registers_and_hallmark.md (STAT)). -/
  outsvc : Bool
  /-- ISTAT: bit 0 ERR, bits 19:1 CAUSE (03_registers_and_hallmark.md (ISTAT)). -/
  istat : Nat
  /-- IEN.EN (03_registers_and_hallmark.md (IEN)). -/
  ien : Nat
  /-- ERRSTAT.CODE (03_registers_and_hallmark.md (ERRSTAT)). -/
  ecode : Nat
  /-- ERRSTAT.VALID (03_registers_and_hallmark.md (ERRSTAT)). -/
  evalid : Bool
  /-- ERRSTAT.MULTI (03_registers_and_hallmark.md (ERRSTAT)). -/
  emulti : Bool
  /-- ERRSTAT.ERRADDR (03_registers_and_hallmark.md (ERRSTAT)). -/
  eaddr : Nat
deriving DecidableEq, Repr

/-- Hdr right after reset. -/
def Hdr.reset : Hdr :=
  { ready := false, outsvc := false, istat := 0, ien := 0, ecode := 0, evalid := false, emulti := false, eaddr
    := 0 }

/-- HALL, the Hallmark table, and the headers of all block pages. -/
structure Hall where
  /-- HALL.LIVE2.GEN (03_registers_and_hallmark.md R122). -/
  gen : Nat
  /-- the live counts, OUTSVC flags and CAP slots as last counted by GEN (the model's own copy, to see a change) (03_registers_and_hallmark.md R122). -/
  view : List Nat
  /-- the common headers, key the block page's BAR0 offset divided by 4 KiB (03_registers_and_hallmark.md R112). -/
  hdrs : Tbl Hdr
deriving DecidableEq, Repr

/-- Hall right after reset. -/
def Hall.reset : Hall :=
  { gen := 0, view := [], hdrs := [] }

/-- One HDM decoder (8 of them). -/
structure Decoder where
  /-- first DPA of its range (04_host_port.md R137, R144). -/
  base : Nat
  /-- length of its range in bytes (04_host_port.md R144). -/
  size : Nat
  /-- committed as HDM-DB (04_host_port.md R145). -/
  db : Bool
  /-- interleave ways (04_host_port.md R137). -/
  ways : Nat
  /-- interleave granularity in bytes (04_host_port.md R137). -/
  gran : Nat
  /-- Committed (04_host_port.md R144). -/
  committed : Bool
  /-- Commit Error (04_host_port.md R144). -/
  err : Bool
deriving DecidableEq, Repr

/-- Decoder right after reset. -/
def Decoder.reset : Decoder :=
  { base := 0, size := 0, db := false, ways := 1, gran := 256, committed := false, err := false }

/-- One entry of the host-ownership filter (4,096 sets of 16 ways). -/
structure Filt where
  /-- the 4 KiB DPA region covered, plus 1; 0 is a free way (04_host_port.md R174). -/
  page : Nat
  /-- lines of the region whose presence bit is set (04_host_port.md R174). -/
  lines : List Nat
  /-- when the way was allocated (04_host_port.md R178). -/
  order : Nat
deriving DecidableEq, Repr

/-- Filt right after reset. -/
def Filt.reset : Filt :=
  { page := 0, lines := [], order := 0 }

/-- One BISnpInv outstanding. -/
structure BiOut where
  /-- the line (04_host_port.md R176). -/
  line : Nat
  /-- when it was sent (04_host_port.md R179). -/
  since : Nat
  /-- the commits waiting on it (04_host_port.md R176). -/
  commits : List Nat
  /-- the filter eviction waiting on it (04_host_port.md R178). -/
  evict : Option Nat
deriving DecidableEq, Repr

/-- BiOut right after reset. -/
def BiOut.reset : BiOut :=
  { line := 0, since := 0, commits := [], evict := none }

/-- One latency class of Get Latency Record. -/
structure LatRec where
  /-- reads completed (04_host_port.md R187 (0xC001)). -/
  count : Nat
  /-- longest latency in ns (04_host_port.md R187 (0xC001)). -/
  longest : Nat
  /-- reads over the bound (04_host_port.md R187 (0xC001)). -/
  late : Nat
deriving DecidableEq, Repr

/-- LatRec right after reset. -/
def LatRec.reset : LatRec :=
  { count := 0, longest := 0, late := 0 }

/-- CXLP, the host port. -/
structure Cxlp where
  /-- CXLP.LINK.UP (04_host_port.md (CXLP.LINK)). -/
  up : Bool
  /-- CXLP.LINK.WIDTH (04_host_port.md (CXLP.LINK)). -/
  width : Nat
  /-- CXLP.LINK.RATE (04_host_port.md (CXLP.LINK)). -/
  rate : Nat
  /-- CXLP.LINK.FLIT (04_host_port.md (CXLP.LINK)). -/
  flit256 : Bool
  /-- CXLP.LINK.LOPT (04_host_port.md (CXLP.LINK)). -/
  lopt : Bool
  /-- CXLP.LINK.MEMEN (04_host_port.md (CXLP.LINK)). -/
  memen : Bool
  /-- CXLP.BLKCAP.WIDTH, lanes in service; 0 before the first training stands for the part's width (04_host_port.md R180 (CXLP.BLKCAP)). -/
  capWidth : Nat
  /-- CXLP.BLKCAP.RATE (04_host_port.md (CXLP.BLKCAP)). -/
  capRate : Nat
  /-- link training is under way (02_modes_and_starts.md R81). -/
  training : Bool
  /-- the host has enabled L1 (02_modes_and_starts.md R69). -/
  l1ok : Bool
  /-- the host has enabled L1.2 (02_modes_and_starts.md R69). -/
  l12ok : Bool
  /-- CXLP.PORTCTL (04_host_port.md (CXLP.PORTCTL)). -/
  portctl : Word
  /-- CXLP.BISTAT.EVICT (04_host_port.md (CXLP.BISTAT)). -/
  evict : Nat
  /-- admission of CXL.mem requests has been stopped (04_host_port.md R874). -/
  stopped : Bool
  /-- the 8 HDM decoders (04_host_port.md R137). -/
  decoders : Tbl Decoder
  /-- the host-ownership filter, key set x 16 + way (BISTAT.OCC counts it) (04_host_port.md R174). -/
  filter : Tbl Filt
  /-- filter allocations made (04_host_port.md R178). -/
  filtOrder : Nat
  /-- BISnpInv outstanding (BISTAT.OUTST) (04_host_port.md R176). -/
  biOut : List BiOut
  /-- reads held for an outstanding BISnpInv or a filter eviction, oldest first (04_host_port.md R177, R178). -/
  biHold : List MemReq
  /-- writes waiting on a full dirty budget, oldest first (04_host_port.md R151, R873). -/
  dirtyWait : List MemReq
  /-- writes held under L = 0 until destaged: line and tag (10_persistence.md R419). -/
  zeroWait : List (Nat × Nat)
  /-- CXL.mem reads outstanding (04_host_port.md R163). -/
  reads : Nat
  /-- CXL.mem writes received and not yet completed, at most 512 (04_host_port.md R873). -/
  writes : Nat
  /-- requests received (the model's own count, it orders them) (04_host_port.md R146). -/
  arrivals : Nat
  /-- when a CXL.mem request was last outstanding (02_modes_and_starts.md R68). -/
  lastReq : Nat
  /-- the controller signals viral (04_host_port.md R179). -/
  viral : Bool
  /-- poisoned lines held for Get Poison List, oldest first (04_host_port.md R160). -/
  poisonList : List Nat
  /-- the poison list overflowed, with its timestamp (04_host_port.md R160). -/
  poisonOver : Option Nat
  /-- the GPF phases answered (04_host_port.md R152). -/
  gpf : Nat
  /-- GPF phase 2 waits for writes received (04_host_port.md R152). -/
  gpfWait : Bool
  /-- vectors whose MSI-X table entry is masked (04_host_port.md R139, 03_registers_and_hallmark.md R117). -/
  msixMask : List Nat
  /-- the message addresses of the MSI-X table (04_host_port.md R139). -/
  msixAddr : Tbl Nat
  /-- the message data of the MSI-X table (04_host_port.md R139). -/
  msixData : Tbl Nat
  /-- MSI-X pending bits (04_host_port.md R139). -/
  msixPend : List Nat
  /-- the three latency classes (04_host_port.md R187 (0xC001)). -/
  latency : Tbl LatRec
deriving DecidableEq, Repr

/-- Cxlp right after reset. -/
def Cxlp.reset : Cxlp :=
  { up := false, width := 0, rate := 0, flit256 := false, lopt := false, memen := false, capWidth := 0, capRate
    := 3, training := false, l1ok := false, l12ok := false, portctl := 0xA, evict := 0, stopped := false,
    decoders := [], filter := [], filtOrder := 0, biOut := [], biHold := [], dirtyWait := [], zeroWait := [],
    reads := 0, writes := 0, arrivals := 0, lastReq := 0, viral := false, poisonList := [], poisonOver := none,
    gpf := 0, gpfWait := false, msixMask := [], msixAddr := [], msixData := [], msixPend := [], latency := [] }

/-- One event record (R695). -/
structure EvRec where
  /-- CODE (17_event_recorder.md R695). -/
  code : Nat
  /-- SEV (17_event_recorder.md R699). -/
  sev : Nat
  /-- SRC (17_event_recorder.md R695). -/
  src : Nat
  /-- TIME (17_event_recorder.md R696). -/
  time : Nat
  /-- SEQ (17_event_recorder.md R701). -/
  seq : Nat
  /-- P0 (17_event_recorder.md R698). -/
  p0 : Nat
  /-- P1 (17_event_recorder.md R698). -/
  p1 : Nat
  /-- P2 (17_event_recorder.md R698). -/
  p2 : Nat
  /-- CHECK (17_event_recorder.md R695). -/
  check : Nat
deriving DecidableEq, Repr

/-- EvRec right after reset. -/
def EvRec.reset : EvRec :=
  { code := 0, sev := 0, src := 0, time := 0, seq := 0, p0 := 0, p1 := 0, p2 := 0, check := 0 }

/-- One CXL event record in a log. -/
structure CxlEvent where
  /-- a General Media Event record, else a vendor record (04_host_port.md R161). -/
  media : Bool
  /-- the DPA of a General Media Event (04_host_port.md R161). -/
  dpa : Nat
  /-- the controller's own record in a vendor record (04_host_port.md R161). -/
  record : Option EvRec
  /-- the CXL event timestamp (04_host_port.md R161). -/
  stamp : Nat
  /-- the record's handle (04_host_port.md R184). -/
  handle : Nat
deriving DecidableEq, Repr

/-- CxlEvent right after reset. -/
def CxlEvent.reset : CxlEvent :=
  { media := false, dpa := 0, record := none, stamp := 0, handle := 0 }

/-- MBOX, the mailbox, and what its standard commands keep. -/
structure Mbox where
  /-- the executing command: interface and opcode (MBOX.STATE.BUSY, IFACE, OPCODE) (04_host_port.md R185 (MBOX.STATE)). -/
  exec : Option (Nat × Nat)
  /-- submitted commands waiting, oldest first (04_host_port.md R185). -/
  waiting : List Instr
  /-- the background command (MBOX.STATE.BG) (04_host_port.md R186 (MBOX.STATE)). -/
  bg : Option Background
  /-- MBOX.STATE.BGPCT (04_host_port.md (MBOX.STATE)). -/
  bgPct : Nat
  /-- MBOX.COUNT.DONE (04_host_port.md (MBOX.COUNT)). -/
  done : Nat
  /-- the CXL event logs 0 informational, 1 warning, 2 failure, 3 fatal, oldest first (04_host_port.md R137, R161). -/
  logs : Tbl (List CxlEvent)
  /-- the next record handle (04_host_port.md R184). -/
  logHandle : Nat
  /-- the event interrupt policy (04_host_port.md R184). -/
  evPolicy : Nat
  /-- the alert configuration (04_host_port.md R184). -/
  alerts : Nat
  /-- the shutdown state of Set Shutdown State (04_host_port.md R184). -/
  shutState : Nat
  /-- the CXL Dirty Shutdown Count (10_persistence.md R447). -/
  dirtyShut : Nat
  /-- the CXL event timestamp base and the cohort time at its set (04_host_port.md R161). -/
  timestamp : Option (Nat × Nat)
  /-- the label storage area, 64 KiB held in media, unlisted bytes 0 (04_host_port.md R184). -/
  lsa : List Host.Cell
  /-- the results of the last Scan Media: poisoned lines found (04_host_port.md R184). -/
  scan : List Nat
deriving DecidableEq, Repr

/-- Mbox right after reset. -/
def Mbox.reset : Mbox :=
  { exec := none, waiting := [], bg := none, bgPct := 0, done := 0, logs := [], logHandle := 1, evPolicy := 0,
    alerts := 0, shutState := 0, dirtyShut := 0, timestamp := none, lsa := [], scan := [] }

/-- One way of a near-cache set. -/
structure Way where
  /-- the line's state (05_near_cache.md R197). -/
  st : LineState
  /-- the line held: its tag A[47:22], A[9:6] with the set give the line address (05_near_cache.md R196). -/
  line : Nat
  /-- the poison bit (05_near_cache.md R196). -/
  poison : Bool
  /-- the region number, 16 for none (05_near_cache.md R196). -/
  region : Nat
  /-- the line's plaintext (05_near_cache.md R198). -/
  data : BitVec 512
  /-- the way is locked out (05_near_cache.md R243). -/
  locked : Bool
deriving DecidableEq, Repr

/-- Way right after reset. -/
def Way.reset : Way :=
  { st := .invalid, line := 0, poison := false, region := 16, data := 0, locked := false }

/-- One miss entry. -/
structure Miss where
  /-- the line (05_near_cache.md R199). -/
  line : Nat
  /-- the requests that joined, oldest first, at most 8 (05_near_cache.md R200). -/
  joined : List MemReq
  /-- requests that joined after a capture invalidation, served by a new fill (05_near_cache.md R227). -/
  after : List MemReq
  /-- a prefetch made it and no demand has joined (05_near_cache.md R222). -/
  prefetch : Bool
  /-- a capture invalidation met it (05_near_cache.md R227). -/
  noInstall : Bool
  /-- its fill has arrived (data, poison) and its install waits (05_near_cache.md R218). -/
  filled : Option (BitVec 512 × Bool)
  /-- the fill comes from media (05_near_cache.md R203). -/
  media : Bool
  /-- its data has been sent before its check completes (14_memory_protection.md R609, R613). -/
  checking : Bool
  /-- the line has been written in full since (14_memory_protection.md R612). -/
  rewritten : Bool
  /-- the replacement register has stepped for it and its install waits (05_near_cache.md R206). -/
  stepped : Bool
deriving DecidableEq, Repr

/-- Miss right after reset. -/
def Miss.reset : Miss :=
  { line := 0, joined := [], after := [], prefetch := false, noInstall := false, filled := none, media := false,
    checking := false, rewritten := false, stepped := false }

/-- One victim-buffer line. -/
structure Vict where
  /-- the line (05_near_cache.md R215). -/
  line : Nat
  /-- its data (05_near_cache.md R215). -/
  data : BitVec 512
  /-- its poison bit (05_near_cache.md R215). -/
  poison : Bool
  /-- writes waiting for its DRAM-tier write (05_near_cache.md R217). -/
  waits : List MemReq
deriving DecidableEq, Repr

/-- Vict right after reset. -/
def Vict.reset : Vict :=
  { line := 0, data := 0, poison := false, waits := [] }

/-- NCCH s, one near-cache slice. -/
structure Slice where
  /-- the slice is in service (R195) (05_near_cache.md R195). -/
  live : Bool
  /-- NCCH.STAT.CSTATE (05_near_cache.md (NCCH.STAT)). -/
  cstate : CState
  /-- NCCH.SERVES (05_near_cache.md R195 (NCCH.SERVES)). -/
  serves : Nat
  /-- NCCH.LFSR.STATE (05_near_cache.md R205 (NCCH.LFSR)). -/
  lfsr : Nat
  /-- the lines, key set x 16 + way (05_near_cache.md R193). -/
  ways : Tbl Way
  /-- miss entries in use (NCCH.STAT.MISSUSE) (05_near_cache.md R199). -/
  miss : List Miss
  /-- misses waiting at the slice input, oldest first (05_near_cache.md R202). -/
  inWait : List MemReq
  /-- the victim buffer (NCCH.STAT.VBUSE) (05_near_cache.md R215). -/
  victims : List Vict
  /-- NCCH.HITS.COUNT (05_near_cache.md (NCCH.HITS)). -/
  hits : Nat
  /-- NCCH.MISSES.COUNT (05_near_cache.md (NCCH.MISSES)). -/
  misses : Nat
  /-- correctable errors corrected (05_near_cache.md R234). -/
  corr : Nat
  /-- the slice drains to BYPASS after losing a Dirty line's tag (05_near_cache.md R236). -/
  viralDrain : Bool
deriving DecidableEq, Repr

/-- Slice right after reset. -/
def Slice.reset : Slice :=
  { live := false, cstate := .enabled, serves := 0, lfsr := 0, ways := [], miss := [], inWait := [], victims :=
    [], hits := 0, misses := 0, corr := 0, viralDrain := false }

/-- One prefetch hint. -/
structure Hint where
  /-- the next line (05_near_cache.md R219, R221). -/
  line : Nat
  /-- lines left (05_near_cache.md R219, R221). -/
  left : Nat
deriving DecidableEq, Repr

/-- Hint right after reset. -/
def Hint.reset : Hint :=
  { line := 0, left := 0 }

/-- NCCH, what all near-cache slices share. -/
structure Ncch where
  /-- the slices (05_near_cache.md R193). -/
  slices : Tbl Slice
  /-- NCCH.CTRL.DISABLE (05_near_cache.md (NCCH.CTRL)). -/
  disable : Bool
  /-- NCCH.CTRL.NEXTLINE (05_near_cache.md (NCCH.CTRL)). -/
  nextline : Bool
  /-- NCCH.RGNATTR (05_near_cache.md (NCCH.RGNATTR)). -/
  rgnattr : Word
  /-- regions whose change is in progress, 16 for DEFAULT (NCCH.RGNSTAT) (05_near_cache.md R213 (NCCH.RGNSTAT)). -/
  busy : List Nat
  /-- the prefetch hint queue (NCCH.PFSTAT.QUEUED) (05_near_cache.md R219 (NCCH.PFSTAT)). -/
  hints : List Hint
  /-- requests that pass no slice, or take no miss entry, and wait for media data (05_near_cache.md R207, R231, R236). -/
  bypass : List Miss
  /-- next-line prefetches queued (05_near_cache.md R224). -/
  nextq : List Nat
  /-- NCCH.PFSTAT.DROP (05_near_cache.md (NCCH.PFSTAT)). -/
  drop : Nat
deriving DecidableEq, Repr

/-- Ncch right after reset. -/
def Ncch.reset : Ncch :=
  { slices := [], disable := false, nextline := false, rgnattr := 0x2AAAAAAAA, busy := [], hints := [], bypass
    := [], nextq := [], drop := 0 }

/-- SRAM, on-die SRAM repair. -/
structure Sram where
  /-- SRAM.REPAIR.SFAPPLIED (05_near_cache.md (SRAM.REPAIR)). -/
  applied : Nat
  /-- the soft-fuse entries in the Parameter Store (macro, row, column; SFSTORED, SFFULL) (05_near_cache.md R241 (SRAM.REPAIR)). -/
  soft : List (Nat × Nat × Nat)
  /-- slices past 64 locked-out ways, retired at the next start (05_near_cache.md R243). -/
  retire : List Nat
  /-- SRAM.FAULT (05_near_cache.md R238 (SRAM.FAULT)). -/
  fault : Word
deriving DecidableEq, Repr

/-- Sram right after reset. -/
def Sram.reset : Sram :=
  { applied := 0, soft := [], retire := [], fault := 0 }

/-- A request queued at a DRAM subchannel. -/
structure DReq where
  /-- the subchannel (06_dram_tier.md R271). -/
  sub : Nat
  /-- the line (06_dram_tier.md R271). -/
  line : Nat
  /-- 32 x (4 x subchannel + rank) + 4 x bank group + bank (06_dram_tier.md R262). -/
  bank : Nat
  /-- the row (06_dram_tier.md R262). -/
  row : Nat
  /-- its work class (06_dram_tier.md R273, 21_priorities.md R806). -/
  cls : Nat
  /-- 0 HOST, 1 MAP, 2 REPLAY, 3 OTHER (06_dram_tier.md R274). -/
  group : Nat
  /-- when it came (06_dram_tier.md R273). -/
  since : Nat
  /-- the read of a read-modify-write (06_dram_tier.md R267). -/
  merge : Bool
deriving DecidableEq, Repr

/-- DReq right after reset. -/
def DReq.reset : DReq :=
  { sub := 0, line := 0, bank := 0, row := 0, cls := 1, group := 0, since := 0, merge := false }

/-- Activation counting of one DRAM bank. -/
structure Bank where
  /-- the activation table: entry number, row, count (06_dram_tier.md R277). -/
  rows : List (Nat × Nat × Nat)
  /-- the floor value F (06_dram_tier.md R277). -/
  floor : Nat
  /-- queued directed refreshes, by aggressor row, oldest first (06_dram_tier.md R279). -/
  directed : List Nat
deriving DecidableEq, Repr

/-- Bank right after reset. -/
def Bank.reset : Bank :=
  { rows := [], floor := 0, directed := [] }

/-- DRMC m, one DRAM channel controller. -/
structure Drmc where
  /-- DRMC.BLKCAP.RATE (06_dram_tier.md R251 (DRMC.BLKCAP)). -/
  rate : Nat
  /-- DRMC.BLKCAP.FORM (06_dram_tier.md (DRMC.BLKCAP)). -/
  form : Nat
  /-- DRMC.BLKCAP.X8 (06_dram_tier.md (DRMC.BLKCAP)). -/
  x8 : Bool
  /-- DRMC.BLKCAP.RANKS (06_dram_tier.md (DRMC.BLKCAP)). -/
  ranks : Nat
  /-- DRMC.BLKCAP.GIB (06_dram_tier.md (DRMC.BLKCAP)). -/
  gib : Nat
  /-- DRMC.BLKCAP.DRFM (06_dram_tier.md R279 (DRMC.BLKCAP)). -/
  drfm : Bool
  /-- the SPD serial number of its DIMMs or of the board record (06_dram_tier.md R257). -/
  serial : Nat
  /-- DRMC.STAT.CSTATE (06_dram_tier.md (DRMC.STAT)). -/
  cstate : DState
  /-- subchannels in write drain (DRMC.STAT.WDRAIN0, WDRAIN1) (06_dram_tier.md R271 (DRMC.STAT)). -/
  wdrain : List Nat
  /-- the read queues, oldest first (06_dram_tier.md R271). -/
  readq : List DReq
  /-- the write queues, oldest first (06_dram_tier.md R269, R271). -/
  writeq : List DReq
  /-- the open row of each bank, plus 1, by bank number (06_dram_tier.md R272). -/
  rows : Tbl Nat
  /-- consecutive row hits of each bank (06_dram_tier.md R272). -/
  runs : Tbl Nat
  /-- lines locked by a read-modify-write, from its read to its write (06_dram_tier.md R267). -/
  locked : List Nat
  /-- DRMC.SCHED (06_dram_tier.md (DRMC.SCHED)). -/
  sched : Word
  /-- DRMC.SHARE (06_dram_tier.md (DRMC.SHARE)). -/
  share : Word
  /-- the shares in force in the current window of each subchannel (06_dram_tier.md R275). -/
  shareNow : Tbl Word
  /-- bursts spent by each group of each subchannel in the window, key 4 x subchannel + group (06_dram_tier.md R274). -/
  credits : Tbl Nat
  /-- DRMC.ACTCTL (06_dram_tier.md (DRMC.ACTCTL)). -/
  actctl : Word
  /-- DRMC.ACTSTAT.MITIG (06_dram_tier.md (DRMC.ACTSTAT)). -/
  mitig : Nat
  /-- DRMC.ACTSTAT.FLOORMAX (06_dram_tier.md (DRMC.ACTSTAT)). -/
  floorMax : Nat
  /-- the banks, by bank number within the channel (06_dram_tier.md R277). -/
  banks : Tbl Bank
  /-- a device reports above 85 degrees C: the refresh rate is doubled (06_dram_tier.md R276). -/
  hot : Bool
  /-- same-bank refreshes issued (the model's own count) (06_dram_tier.md R276). -/
  refreshes : Nat
  /-- DRMC.ECCCTL (06_dram_tier.md (DRMC.ECCCTL)). -/
  eccctl : Word
  /-- DRMC.ECCMARK: for i = 4b + rank the marked nibble plus 1 (06_dram_tier.md R256 (DRMC.ECCMARK)). -/
  marks : Tbl Nat
  /-- corrected symbols since the start, key 16 x (4b + rank) + nibble (06_dram_tier.md R256). -/
  symbols : Tbl Nat
  /-- DRMC.CORR.COUNT (06_dram_tier.md (DRMC.CORR)). -/
  corr : Nat
  /-- DRMC.UNCORR.COUNT (06_dram_tier.md (DRMC.UNCORR)). -/
  uncorr : Nat
  /-- DRMC.TRAINCTL (06_dram_tier.md (DRMC.TRAINCTL)). -/
  trainctl : Word
  /-- DRMC.MARGIN (06_dram_tier.md (DRMC.MARGIN)). -/
  margin : Word
  /-- centre of each lane in taps from its trained place, key 128 x write + 64 x subchannel + lane (06_dram_tier.md R283). -/
  centres : Tbl Int
  /-- when each lane last moved, plus 1 (06_dram_tier.md R283). -/
  moved : Tbl Nat
deriving DecidableEq, Repr

/-- Drmc right after reset. -/
def Drmc.reset : Drmc :=
  { rate := 0, form := 0, x8 := false, ranks := 0, gib := 0, drfm := false, serial := 0, cstate := .training,
    wdrain := [], readq := [], writeq := [], rows := [], runs := [], locked := [], sched := 0x21920, share :=
    0x888314, shareNow := [], credits := [], actctl := 0x800, mitig := 0, floorMax := 0, banks := [], hot :=
    false, refreshes := 0, eccctl := 0x400400, marks := [], symbols := [], corr := 0, uncorr := 0, trainctl :=
    0xC9, margin := 0, centres := [], moved := [] }

/-- One line of the host-data tier cache. -/
structure TLine where
  /-- plaintext of the line (01_architecture.md R27). -/
  data : BitVec 512
  /-- poisoned (04_host_port.md R157). -/
  poison : Bool
  /-- newer than its media copy (01_architecture.md R30). -/
  dirty : Bool
  /-- loaded from the quench reserve, kept until destaged (R443) (10_persistence.md R443). -/
  held : Bool
  /-- writes taken, to tell a line written after destage took its copy (07_translation.md R314). -/
  gen : Nat
deriving DecidableEq, Repr

/-- TLine right after reset. -/
def TLine.reset : TLine :=
  { data := 0, poison := false, dirty := false, held := false, gen := 0 }

/-- The DRAM tier's host-data cache and its shares. -/
structure Tier where
  /-- lines of host data held, by line number (01_architecture.md R27). -/
  lines : Tbl TLine
  /-- hank-view lines held as host read fills, with their poison (01_architecture.md R27). -/
  hank : List (Nat × Bool)
  /-- the replay pool of this start in GiB (06_dram_tier.md R265). -/
  poolGib : Nat
  /-- live tier capacity in GiB (HALL.LIVE2.DRAMGIB) (06_dram_tier.md R261). -/
  liveGib : Nat
  /-- the live channels in numbering order of this start (06_dram_tier.md R261). -/
  order : List Nat
deriving DecidableEq, Repr

/-- Tier right after reset. -/
def Tier.reset : Tier :=
  { lines := [], hank := [], poolGib := 0, liveGib := 0, order := [] }

/-- One band of the band table (R299). -/
structure Band where
  /-- mode: pseudo-SLC, else QLC (07_translation.md R299). -/
  slc : Bool
  /-- stream class (07_translation.md R304). -/
  cls : Nat
  /-- its members: die and block (07_translation.md R299). -/
  members : List (Nat × Nat)
  /-- erasing, open, closed or being freed (07_translation.md R307). -/
  phase : BandPhase
  /-- members whose erase has not completed (07_translation.md R307). -/
  unerased : List Nat
  /-- next data page to be assigned (07_translation.md R300). -/
  next : Nat
  /-- data pages of the band (07_translation.md R300). -/
  size : Nat
  /-- valid count, in 4 KiB slots (07_translation.md R299). -/
  valid : Nat
  /-- close sequence (07_translation.md R299). -/
  closeSeq : Nat
  /-- reads issued to it and not complete (07_translation.md R327). -/
  reads : Nat
  /-- the stripe row a program failure closed it at (08_media_reliability.md R369). -/
  failedRow : Option Nat
deriving DecidableEq, Repr

/-- Band right after reset. -/
def Band.reset : Band :=
  { slc := false, cls := 0, members := [], phase := .erasing, unerased := [], next := 0, size := 0, valid := 0,
    closeSeq := 0, reads := 0, failedRow := none }

/-- The out-of-band record of a quarter (R331), with its SLOT byte (14_memory_protection.md R604). -/
structure Oob where
  /-- KIND (07_translation.md R331). -/
  coarse : Bool
  /-- CLASS (07_translation.md R331). -/
  cls : Nat
  /-- CPAGE (07_translation.md R331). -/
  cpage : Nat
  /-- QRES (07_translation.md R331). -/
  qres : Bool
  /-- LUNIT (07_translation.md R331). -/
  lunit : Nat
  /-- SEQ (07_translation.md R331). -/
  seq : Nat
  /-- PMASK (07_translation.md R331). -/
  pmask : Nat
  /-- SLOT, the key slot the quarter is encrypted under (14_memory_protection.md R592, R604). -/
  slot : Nat
deriving DecidableEq, Repr

/-- Oob right after reset. -/
def Oob.reset : Oob :=
  { coarse := false, cls := 0, cpage := 0, qres := false, lunit := 0, seq := 0, pmask := 0, slot := 0 }

/-- One programmed media page. -/
structure MPage where
  /-- the out-of-band records of its four quarters (07_translation.md R331). -/
  oob : List Oob
  /-- its 256 lines of fine-unit data, unlisted lines zero (08_media_reliability.md R349). -/
  lines : Tbl (BitVec 512)
  /-- the 3,276 words of a hank page, unlisted words zero (00_scope.md R13). -/
  words : Tbl Word
  /-- its hank page counter (00_scope.md R13). -/
  counter : Nat
  /-- quarters whose codewords no longer decode (08_media_reliability.md R354). -/
  bad : List Nat
deriving DecidableEq, Repr

/-- MPage right after reset. -/
def MPage.reset : MPage :=
  { oob := [], lines := [], words := [], counter := 0, bad := [] }

/-- One page program under way. -/
structure Prog where
  /-- its band (07_translation.md R297). -/
  band : Nat
  /-- its data page (07_translation.md R297). -/
  dpage : Nat
  /-- what it programs (07_translation.md R312). -/
  page : MPage
  /-- where the data came from (R368) (08_media_reliability.md R368). -/
  src : ProgSrc
  /-- fine units in its slots, with the generations of their lines when the copy was taken (07_translation.md R313). -/
  units : List (Nat × Nat)
deriving DecidableEq, Repr

/-- Prog right after reset. -/
def Prog.reset : Prog :=
  { band := 0, dpage := 0, page := .reset, src := .none, units := [] }

/-- One move of a unit (R325). -/
structure Move where
  /-- a coarse unit (07_translation.md R325). -/
  coarse : Bool
  /-- the unit (07_translation.md R325). -/
  unit : Nat
  /-- the source PUA (07_translation.md R325). -/
  src : Nat
  /-- the destination PUA (07_translation.md R325). -/
  dst : Nat
  /-- the write sequence of its first slot (07_translation.md R312). -/
  seq : Nat
  /-- anneal, GC, planish rewrite, failure, retirement, rekey, start (07_translation.md R325). -/
  kind : MoveKind
deriving DecidableEq, Repr

/-- Move right after reset. -/
def Move.reset : Move :=
  { coarse := false, unit := 0, src := 0, dst := 0, seq := 0, kind := .gc }

/-- One map journal record. -/
structure Jrnl where
  /-- its write sequence (10_persistence.md R439). -/
  seq : Nat
  /-- discard of fine units, discard of coarse units, abandonment (10_persistence.md R439). -/
  kind : JKind
  /-- first unit, or the destination slot abandoned (10_persistence.md R439). -/
  first : Nat
  /-- number of units (10_persistence.md R439). -/
  count : Nat
deriving DecidableEq, Repr

/-- Jrnl right after reset. -/
def Jrnl.reset : Jrnl :=
  { seq := 0, kind := .discardFine, first := 0, count := 0 }

/-- FTLM, translation. -/
structure Ftlm where
  /-- the fine map, unlisted entries UNMAPPED (07_translation.md R292). -/
  fine : Tbl Word
  /-- the coarse map, unlisted entries UNMAPPED (07_translation.md R292). -/
  coarse : Tbl Word
  /-- the band table (07_translation.md R299). -/
  bands : Tbl Band
  /-- FTLM.BLKCAP.STRIPEW, W (07_translation.md R302 (FTLM.BLKCAP)). -/
  width : Nat
  /-- the matched profile giving QLCPPB, SLCPPB and B (07_translation.md R301 (FTLM.BLKCAP)). -/
  profile : Option Profile
  /-- FTLM.SPACE.EXPORT (07_translation.md R345 (FTLM.SPACE)). -/
  exported : Nat
  /-- FTLM.HDRCFG (07_translation.md R346 (FTLM.HDRCFG)). -/
  hdrcfg : Word
  /-- the host data size in force in MiB (CXLP.HDRSIZE is 256 times it) (07_translation.md R346, 04_host_port.md (CXLP.HDRSIZE)). -/
  hdrMib : Nat
  /-- FTLM.GCCTL (07_translation.md (FTLM.GCCTL)). -/
  gcctl : Word
  /-- FTLM.SLCCTL as written: SLCLIM above 0.8 x B is taken as that value (07_translation.md (FTLM.SLCCTL)). -/
  slcctl : Word
  /-- the next write sequence value, FTLM.SEQ (07_translation.md R312 (FTLM.SEQ)). -/
  seq : Nat
  /-- FTLM.REFUSE.COUNT (07_translation.md (FTLM.REFUSE)). -/
  refusedCount : Nat
  /-- FTLM.ANNCTL.PAUSE (07_translation.md (FTLM.ANNCTL)). -/
  annPause : Bool
  /-- FTLM.MAPERR (07_translation.md (FTLM.MAPERR)). -/
  maperr : Word
  /-- page programs under way, by number (07_translation.md R312). -/
  progs : Tbl Prog
  /-- moves under way, oldest first (07_translation.md R325). -/
  moves : List Move
  /-- the next number for a program or read (the model's own). -/
  nextId : Nat
  /-- the last close sequence given (07_translation.md R299). -/
  closeSeq : Nat
  /-- garbage collection runs (07_translation.md R322). -/
  gc : Bool
  /-- a live die has no more free blocks than FLOOR (07_translation.md R324). -/
  gcOnly : Bool
  /-- exhaustion has been detected (07_translation.md R337). -/
  exhausted : Bool
  /-- abandonment records buffered on die, newest first (10_persistence.md R440). -/
  abandoned : List Jrnl
  /-- the landing space is below LOWMARK (07_translation.md R347). -/
  landLow : Bool
  /-- the open capture band the next coarse unit goes to (07_translation.md R316). -/
  rotation : Nat
  /-- fine map entries changed since the last cut (10_persistence.md R436). -/
  changedFine : List Nat
  /-- coarse map entries changed since the last cut (10_persistence.md R436). -/
  changedCoarse : List Nat
  /-- coarse units being moved to a new place after a program failure, each with that place once assigned (12_capture.md R516). -/
  redrives : List (Nat × Option Nat)
deriving DecidableEq, Repr

/-- Ftlm right after reset. -/
def Ftlm.reset : Ftlm :=
  { fine := [], coarse := [], bands := [], width := 0, profile := none, exported := 0, hdrcfg := 0, hdrMib := 0,
    gcctl := 0x40060, slcctl := 0x401FFF, seq := 0, refusedCount := 0, annPause := false, maperr := 0, progs :=
    [], moves := [], nextId := 0, closeSeq := 0, gc := false, gcOnly := false, exhausted := false, abandoned :=
    [], landLow := false, rotation := 0, changedFine := [], changedCoarse := [], redrives := [] }

/-- One erase block. -/
structure Blk where
  /-- free, in a band, retired (07_translation.md R308). -/
  use : BlkUse
  /-- erases before QLC use (07_translation.md R306). -/
  qlc : Nat
  /-- erases before pseudo-SLC use (07_translation.md R306). -/
  slc : Nat
  /-- scheduled for rewrite (08_media_reliability.md R363). -/
  rewrite : Bool
  /-- a program of it failed during QUENCH: the next start retires it (10_persistence.md R429). -/
  failed : Bool
  /-- when planish last read it whole, or its close (08_media_reliability.md R365). -/
  readAt : Nat
deriving DecidableEq, Repr

/-- Blk right after reset. -/
def Blk.reset : Blk :=
  { use := .free, qlc := 0, slc := 0, rewrite := false, failed := false, readAt := 0 }

/-- One map checkpoint record. -/
structure Ckpt where
  /-- S, the write sequence at the cut (10_persistence.md R436). -/
  s : Nat
  /-- the fine map entries it holds (10_persistence.md R436). -/
  fine : Tbl Word
  /-- the coarse map entries it holds (10_persistence.md R436). -/
  coarse : Tbl Word
  /-- the band table at the cut (10_persistence.md R436). -/
  bands : Tbl Band
  /-- the abandonment journal position (10_persistence.md R436). -/
  jpos : Nat
  /-- the patina table (08_media_reliability.md R362). -/
  patina : Tbl (List Int)
deriving DecidableEq, Repr

/-- Ckpt right after reset. -/
def Ckpt.reset : Ckpt :=
  { s := 0, fine := [], coarse := [], bands := [], jpos := 0, patina := [] }

/-- One page of the quench reserve (R433). -/
structure Qpage where
  /-- its write sequence (10_persistence.md R433). -/
  seq : Nat
  /-- dirty lines: line, data, poison (10_persistence.md R433). -/
  lines : List (Nat × BitVec 512 × Bool)
  /-- a hank page of R427: coarse unit, page, contents (10_persistence.md R427). -/
  hank : Option (Nat × Nat × MPage)
  /-- 1 open marker, 2 final record, 0 a data page (10_persistence.md R434). -/
  marker : Nat
  /-- the final record's QUENCH duration in us (10_persistence.md R434). -/
  duration : Nat
  /-- its dirty amount at Q5 in MiB (10_persistence.md R434). -/
  dirtyMib : Nat
  /-- its list of unsealed dies (10_persistence.md R434). -/
  unsealed : List Nat
deriving DecidableEq, Repr

/-- Qpage right after reset. -/
def Qpage.reset : Qpage :=
  { seq := 0, lines := [], hank := none, marker := 0, duration := 0, dirtyMib := 0, unsealed := [] }

/-- What the NAND media hold (kept without power). -/
structure Media where
  /-- the programmed pages, key band x 65,536 + data page (07_translation.md R297). -/
  pages : Tbl MPage
  /-- the erase blocks, key die x 8,192 + block (07_translation.md R306). -/
  blocks : Tbl Blk
  /-- FTLM.SPARE.RETIRED, blocks retired over the device's life (07_translation.md (FTLM.SPARE)). -/
  retiredBlocks : Nat
  /-- the complete checkpoint records, newest first (10_persistence.md R437). -/
  ckpts : List Ckpt
  /-- band summaries: close sequence and the record of each slot (07_translation.md R303, 10_persistence.md R438). -/
  summaries : Tbl (Nat × List (Nat × Oob))
  /-- the map journal programmed, newest first (10_persistence.md R439). -/
  journal : List Jrnl
  /-- the quench reserve's pages, newest first (10_persistence.md R432). -/
  reserve : List Qpage
  /-- the refused-line table (FTLM.REFUSE.TABLE) (07_translation.md R340). -/
  refused : List Nat
  /-- how the newest session stands in the metadata reserve (10_persistence.md R871). -/
  session : Session
  /-- the highest write sequence programmed (07_translation.md R312). -/
  seqHigh : Nat
deriving DecidableEq, Repr

/-- Media right after reset. -/
def Media.reset : Media :=
  { pages := [], blocks := [], retiredBlocks := 0, ckpts := [], summaries := [], journal := [], reserve := [],
    refused := [], session := .never, seqHigh := 0 }

/-- MCLU c, one media cluster. -/
structure Mclu where
  /-- MCLU.RDPOL (08_media_reliability.md (MCLU.RDPOL)). -/
  rdpol : Word
  /-- MCLU.PATCTL (08_media_reliability.md (MCLU.PATCTL)). -/
  patctl : Word
  /-- MCLU.RDDIRECT.COUNT (08_media_reliability.md (MCLU.RDDIRECT)). -/
  rddirect : Nat
  /-- MCLU.RDREBUILD.COUNT (08_media_reliability.md (MCLU.RDREBUILD)). -/
  rdrebuild : Nat
  /-- MCLU.RDERR.SOFT (08_media_reliability.md (MCLU.RDERR)). -/
  errSoft : Nat
  /-- MCLU.RDERR.LOST (08_media_reliability.md (MCLU.RDERR)). -/
  errLost : Nat
  /-- MCLU.RDERR.OVER96 (08_media_reliability.md (MCLU.RDERR)). -/
  over96 : Nat
  /-- MCLU.RETCTL (08_media_reliability.md (MCLU.RETCTL)). -/
  retctl : Word
  /-- MCLU.RETSTAT.PHASE (08_media_reliability.md (MCLU.RETSTAT)). -/
  retPhase : Nat
  /-- MCLU.RETSTAT.PCT (08_media_reliability.md (MCLU.RETSTAT)). -/
  retPct : Nat
  /-- MCLU.RETSTAT.DIE (08_media_reliability.md (MCLU.RETSTAT)). -/
  retDie : Nat
  /-- retired dies whose recovery waits (08_media_reliability.md R373). -/
  retQueue : List Nat
  /-- the cluster is lost (R374) (08_media_reliability.md R374). -/
  lost : Bool
deriving DecidableEq, Repr

/-- Mclu right after reset. -/
def Mclu.reset : Mclu :=
  { rdpol := 3, patctl := 0x330120, rddirect := 0, rdrebuild := 0, errSoft := 0, errLost := 0, over96 := 0,
    retctl := 0x204, retPhase := 0, retPct := 0, retDie := 0, retQueue := [], lost := false }

/-- One transfer waiting for a grant of an ONFI channel. -/
structure Xfer1 where
  /-- its requester: die position 0 to 15, or 16 for the read-return queue (21_priorities.md R813). -/
  req : Nat
  /-- its work class (21_priorities.md R806). -/
  cls : Nat
  /-- the die it moves data of (08_media_reliability.md R376). -/
  die : Nat
  /-- the read or program it serves (08_media_reliability.md R376). -/
  ref : Nat
  /-- a recovery transfer (08_media_reliability.md R376). -/
  recovery : Bool
  /-- codewords left to transfer (08_media_reliability.md R376). -/
  left : Nat
deriving DecidableEq, Repr

/-- Xfer1 right after reset. -/
def Xfer1.reset : Xfer1 :=
  { req := 0, cls := 1, die := 0, ref := 0, recovery := false, left := 1 }

/-- ONFC n, one ONFI channel. -/
structure Onfc where
  /-- ONFC.STAT.CSTATE (09_media_bus.md (ONFC.STAT)). -/
  cstate : ChState
  /-- ONFC.STAT.RAILOFF (09_media_bus.md (ONFC.STAT)). -/
  railOff : Bool
  /-- the matched profile (ONFC.BLKCAP.BOUNDOK, PROFILE) (09_media_bus.md R395 (ONFC.BLKCAP)). -/
  profile : Option Profile
  /-- ONFC.IFSTAT.RETRAINS (09_media_bus.md (ONFC.IFSTAT)). -/
  retrains : Nat
  /-- when retrainings failed, in the last 10 minutes (ONFC.IFSTAT.RECENTFAIL) (09_media_bus.md (ONFC.IFSTAT)). -/
  failAt : List Nat
  /-- ONFC.SUSPEND.COUNT (09_media_bus.md (ONFC.SUSPEND)). -/
  suspCount : Nat
  /-- ONFC.SUSPEND.FULL (09_media_bus.md (ONFC.SUSPEND)). -/
  suspFull : Nat
  /-- the temperature at its last training (09_media_bus.md R392). -/
  trainTemp : Int
  /-- when it was last trained (09_media_bus.md R392). -/
  trainAt : Nat
  /-- a retraining is under way (09_media_bus.md R392). -/
  retraining : Bool
  /-- transfers waiting, in order of arrival (08_media_reliability.md R376). -/
  xfers : List Xfer1
  /-- the transfer holding the channel (08_media_reliability.md R376). -/
  granted : Option Xfer1
  /-- the round-robin pointer of each class (21_priorities.md R809). -/
  ptrs : Tbl Nat
deriving DecidableEq, Repr

/-- Onfc right after reset. -/
def Onfc.reset : Onfc :=
  { cstate := .training, railOff := false, profile := none, retrains := 0, failAt := [], suspCount := 0,
    suspFull := 0, trainTemp := 0, trainAt := 0, retraining := false, xfers := [], granted := none, ptrs := [] }

/-- One operation for a die. -/
structure DieOp where
  /-- read, soft read, program, erase (09_media_bus.md R400). -/
  kind : OpKind
  /-- work class (21_priorities.md R806). -/
  cls : Nat
  /-- the read, program or block it is for (09_media_bus.md R400). -/
  ref : Nat
  /-- direct, rebuild leg, recovery leg, other (08_media_reliability.md R377). -/
  leg : Leg
  /-- suspends it has had (08_media_reliability.md R377). -/
  suspends : Nat
  /-- when it was started (09_media_bus.md R391). -/
  since : Nat
  /-- the read-reference offsets it was issued with (01_architecture.md R43). -/
  offs : List Int
  /-- the shift of a soft read in DAC steps (08_media_reliability.md R352). -/
  shift : Int
deriving DecidableEq, Repr

/-- DieOp right after reset. -/
def DieOp.reset : DieOp :=
  { kind := .read, cls := 7, ref := 0, leg := .direct, suspends := 0, since := 0, offs := [], shift := 0 }

/-- One die (key its die number). -/
structure Die where
  /-- ONFC.DIEMAP.FOUND bit (09_media_bus.md (ONFC.DIEMAP)). -/
  found : Bool
  /-- ONFC.DIEMAP.INSVC bit (09_media_bus.md (ONFC.DIEMAP)). -/
  insvc : Bool
  /-- the die is retired (08_media_reliability.md R371). -/
  retired : Bool
  /-- the operation in its array (09_media_bus.md R401). -/
  array : Option DieOp
  /-- the suspended operation (09_media_bus.md R404). -/
  paused : Option DieOp
  /-- a suspend command has been issued and has not taken effect (09_media_bus.md R404). -/
  suspending : Bool
  /-- P1 array reads served in this suspension (09_media_bus.md R404). -/
  servedP1 : Nat
  /-- its queued operations, oldest first (09_media_bus.md R400). -/
  queue : List DieOp
  /-- its status has been read as complete (09_media_bus.md R391). -/
  arrayDone : Bool
  /-- the die has been reset for a timeout (08_media_reliability.md R371). -/
  wasReset : Bool
  /-- consecutive commands past twice their maximum since the die reset (08_media_reliability.md R371). -/
  timeouts : Nat
  /-- when codewords of it were lost, in the last 24 hours (08_media_reliability.md R371). -/
  lostAt : List Nat
  /-- when blocks of it were retired, in the last 24 hours (08_media_reliability.md R371). -/
  badBlocksAt : List Nat
  /-- spares used up (07_translation.md R334). -/
  sparesUsed : Nat
deriving DecidableEq, Repr

/-- Die right after reset. -/
def Die.reset : Die :=
  { found := false, insvc := false, retired := false, array := none, paused := none, suspending := false,
    servedP1 := 0, queue := [], arrayDone := false, wasReset := false, timeouts := 0, lostAt := [], badBlocksAt
    := [], sparesUsed := 0 }

/-- One patina entry (R356). -/
structure Patina where
  /-- OFF0 to OFF15, empty for an entry not yet learned (08_media_reliability.md R356). -/
  off : List Int
  /-- ACC0 to ACC15 (08_media_reliability.md R356). -/
  acc : List Int
  /-- ERATE, 8 integer and 8 fraction bits (08_media_reliability.md R356). -/
  erate : Nat
  /-- when its last wordline sample was taken (08_media_reliability.md R359). -/
  sampled : Option Nat
deriving DecidableEq, Repr

/-- Patina right after reset. -/
def Patina.reset : Patina :=
  { off := [], acc := [], erate := 0, sampled := none }

/-- One P1 media read under way. -/
structure MRead where
  /-- its number (08_media_reliability.md R378). -/
  id : Nat
  /-- the line wanted (08_media_reliability.md R378). -/
  line : Nat
  /-- its source PUA (07_translation.md R297). -/
  pua : Nat
  /-- direct, rebuild, or direct waiting (08_media_reliability.md R378). -/
  path : RPath
  /-- the target die (08_media_reliability.md R378). -/
  target : Nat
  /-- member dies whose leg has not been decoded (08_media_reliability.md R378). -/
  legs : List Nat
  /-- members whose codeword failed hard decoding (08_media_reliability.md R872). -/
  badLegs : List Nat
  /-- a recovery rebuild runs (08_media_reliability.md R379). -/
  recovery : Bool
  /-- dies performing a soft read for it (08_media_reliability.md R352). -/
  soft : List Nat
  /-- the target's hard decode has failed (08_media_reliability.md R379). -/
  targetFail : Bool
  /-- pending, recovered, lost (08_media_reliability.md R353). -/
  outcome : ROutcome
  /-- when it was dispatched (08_media_reliability.md R383). -/
  since : Nat
deriving DecidableEq, Repr

/-- MRead right after reset. -/
def MRead.reset : MRead :=
  { id := 0, line := 0, pua := 0, path := .direct, target := 0, legs := [], badLegs := [], recovery := false,
    soft := [], targetFail := false, outcome := .pending, since := 0 }

/-- The media clusters, channels and dies. -/
structure Clus where
  /-- the media clusters (01_architecture.md R15). -/
  mclu : Tbl Mclu
  /-- the ONFI channels (01_architecture.md R15). -/
  onfc : Tbl Onfc
  /-- the dies, by die number (09_media_bus.md R387). -/
  dies : Tbl Die
  /-- the patina table, key 128 x die + block group (08_media_reliability.md R355). -/
  patina : Tbl Patina
  /-- patina samples under way, one entry for each page: number, die and block (08_media_reliability.md R359). -/
  samples : List (Nat × Nat × Nat)
  /-- P1 media reads under way, oldest first (08_media_reliability.md R378). -/
  reads : List MRead
deriving DecidableEq, Repr

/-- Clus right after reset. -/
def Clus.reset : Clus :=
  { mclu := [], onfc := [], dies := [], patina := [], samples := [], reads := [] }

/-- PLAN, the planish scheduler. -/
structure Plan where
  /-- PLAN.CTRL (08_media_reliability.md (PLAN.CTRL)). -/
  ctrl : Word
  /-- blocks read in the pass in progress (08_media_reliability.md (PLAN.STAT.PASSPCT)). -/
  passDone : Nat
  /-- blocks to read in the pass (08_media_reliability.md (PLAN.STAT.PASSPCT)). -/
  passAll : Nat
  /-- PLAN.COUNT.BLOCKS (08_media_reliability.md (PLAN.COUNT)). -/
  blocks : Nat
  /-- blocks past their deadline, read before any other (08_media_reliability.md R367). -/
  late : List Nat
  /-- wordlines read of each block being read (08_media_reliability.md R365). -/
  wordline : Tbl Nat
deriving DecidableEq, Repr

/-- Plan right after reset. -/
def Plan.reset : Plan :=
  { ctrl := 0x11E, passDone := 0, passAll := 0, blocks := 0, late := [], wordline := [] }

/-- SYSC's persistence: the dirty budget, QUENCH, checkpoints. -/
structure Pers where
  /-- SYSC.DIRTYCFG (10_persistence.md (SYSC.DIRTYCFG)). -/
  dirtycfg : Word
  /-- SYSC.HOLDUPCFG (10_persistence.md (SYSC.HOLDUPCFG)). -/
  holdupcfg : Word
  /-- SYSC.DIRTY.LIMIT, L in MiB (10_persistence.md R416 (SYSC.DIRTY)). -/
  limit : Nat
  /-- SYSC.DIRTY.SRC (10_persistence.md (SYSC.DIRTY)). -/
  limitSrc : Nat
  /-- the excess over L is destaged as P0 (10_persistence.md R420). -/
  draining : Bool
  /-- QUENCH in progress: when it started (Q1) (10_persistence.md R425). -/
  quench : Option Nat
  /-- dirty amount at Q5 in lines (10_persistence.md R434). -/
  quenchDirty : Nat
  /-- inputs whose rail failed in QUENCH or the shutdown table (15_power_supervision.md R670). -/
  shutRails : List Nat
  /-- when the last checkpoint's cut was (SYSC.CKPT.AGE) (10_persistence.md (SYSC.CKPT)). -/
  cutAt : Nat
  /-- cohort time of the last cut in ns (10_persistence.md R449). -/
  cutCohort : Nat
  /-- media pages programmed since the cut (SYSC.CKPT.WRITTEN) (10_persistence.md (SYSC.CKPT)). -/
  programmed : Nat
  /-- the checkpoint record being written (SYSC.CKPT.BUSY) (10_persistence.md R436 (SYSC.CKPT)). -/
  ckptBusy : Option Ckpt
  /-- a checkpoint fell due while one was being written (10_persistence.md R436). -/
  ckptWaiting : Bool
  /-- which sixteenth of the maps the next record holds (10_persistence.md R436). -/
  rotation : Nat
  /-- SYSC.QREC.OUTCOME (10_persistence.md R446 (SYSC.QREC)). -/
  prevOutcome : Nat
  /-- SYSC.QREC.DURATION (10_persistence.md (SYSC.QREC)). -/
  prevDuration : Nat
  /-- SYSC.QREC.DIRTYMIB (10_persistence.md (SYSC.QREC)). -/
  prevDirty : Nat
  /-- the map generation number in the DRAM tier (02_modes_and_starts.md R92). -/
  mapGen : Nat
  /-- the map check value in the DRAM tier (02_modes_and_starts.md R92). -/
  mapCheck : Nat
  /-- check value of the patina table as it lies in the DRAM tier (08_media_reliability.md R362). -/
  patinaCheck : Nat
  /-- the DRAM tier has kept its contents in self-refresh since warm entry (02_modes_and_starts.md R85). -/
  dramKept : Bool
deriving DecidableEq, Repr

/-- Pers right after reset. -/
def Pers.reset : Pers :=
  { dirtycfg := 128, holdupcfg := 0xF0BB8DAC, limit := 0, limitSrc := 3, draining := false, quench := none,
    quenchDirty := 0, shutRails := [], cutAt := 0, cutCohort := 0, programmed := 0, ckptBusy := none,
    ckptWaiting := false, rotation := 0, prevOutcome := 5, prevDuration := 0, prevDirty := 0, mapGen := 0,
    mapCheck := 0, patinaCheck := 0, dramKept := false }

/-- The warm record (R86). -/
structure WarmRec where
  /-- present with a valid check value (02_modes_and_starts.md R86, R90). -/
  valid : Bool
  /-- DRAM training values of each channel (02_modes_and_starts.md R86). -/
  drams : Tbl Drmc
  /-- ONFI interface settings and profile match of each channel (02_modes_and_starts.md R86). -/
  chans : Tbl Onfc
  /-- map generation number (02_modes_and_starts.md R86). -/
  mapGen : Nat
  /-- map check value (02_modes_and_starts.md R86). -/
  mapCheck : Nat
  /-- counter-tree root, as Mprt.nodes lists it (02_modes_and_starts.md R86). -/
  root : Tbl Nat
  /-- check value of the patina table saved in the DRAM tier (02_modes_and_starts.md R86, 08_media_reliability.md R362). -/
  patinaCheck : Nat
  /-- the image slot (02_modes_and_starts.md R86). -/
  slot : Nat
  /-- its verified digest (02_modes_and_starts.md R86). -/
  digest : BitVec 512
deriving DecidableEq, Repr

/-- WarmRec right after reset. -/
def WarmRec.reset : WarmRec :=
  { valid := false, drams := [], chans := [], mapGen := 0, mapCheck := 0, root := [], patinaCheck := 0, slot :=
    0, digest := 0 }

/-- The rest of the always-on domain (R21). -/
structure Aon where
  /-- the failed-start count (SYSC.MODE.FAILCNT) (02_modes_and_starts.md R95). -/
  failcnt : Nat
  /-- the warm record (02_modes_and_starts.md R86). -/
  warmrec : WarmRec
  /-- the unsealed-die marks (10_persistence.md R431). -/
  unsealed : List Nat
  /-- ticks of the 32.768 kHz clock since VAON rose (17_event_recorder.md R696). -/
  ticks : Nat
  /-- phase of the next tick (17_event_recorder.md R696). -/
  tickPhase : Nat
  /-- nanoseconds passed (the model's own clock for intervals). -/
  uptime : Nat
  /-- VSEL straps as sampled when VAON rose (22_pins_and_package.md R837). -/
  vsel : Nat
  /-- TEST_N as sampled low (22_pins_and_package.md R839). -/
  testLow : Bool
deriving DecidableEq, Repr

/-- Aon right after reset. -/
def Aon.reset : Aon :=
  { failcnt := 0, warmrec := .reset, unsealed := [], ticks := 0, tickPhase := 0, uptime := 0, vsel := 0, testLow
    := false }

/-- ILKN, the stream port. -/
structure Ilkn where
  /-- ILKN.LANECFG (11_ingest_port.md R453 (ILKN.LANECFG)). -/
  lanecfg : Word
  /-- the rate in force on the link (11_ingest_port.md R454). -/
  rate : Nat
  /-- ILKN.LINK.UP (11_ingest_port.md (ILKN.LINK)). -/
  up : Bool
  /-- ILKN.LINK.WIDTH and BLKCAP.LIVE while up (11_ingest_port.md R457 (ILKN.LINK)). -/
  width : Nat
  /-- ILKN.LINK.GROUP (11_ingest_port.md R457 (ILKN.LINK)). -/
  group : Nat
  /-- ILKN.LINK.STEP (11_ingest_port.md R456 (ILKN.LINK)). -/
  step : Nat
  /-- the width of the bundle last formed (HALL ILANES); 0 stands for the part's lanes (03_registers_and_hallmark.md R868). -/
  kept : Nat
  /-- the 10 ms delay before a restart from L1 runs (11_ingest_port.md R456). -/
  waitRestart : Bool
  /-- ILKN.LANESTAT.RXOK (11_ingest_port.md (ILKN.LANESTAT)). -/
  rxok : Nat
  /-- ILKN.LANESTAT.PEEROK (11_ingest_port.md (ILKN.LANESTAT)). -/
  peerok : Nat
  /-- ILKN.ERRCNT.CRC24 (11_ingest_port.md (ILKN.ERRCNT)). -/
  crc24 : Nat
  /-- ILKN.ERRCNT.CRC32 (11_ingest_port.md (ILKN.ERRCNT)). -/
  crc32 : Nat
deriving DecidableEq, Repr

/-- Ilkn right after reset. -/
def Ilkn.reset : Ilkn :=
  { lanecfg := 4, rate := 4, up := false, width := 0, group := 0, step := 0, kept := 0, waitRestart := false,
    rxok := 0, peerok := 0, crc24 := 0, crc32 := 0 }

/-- The answer owed to an AT_PPS TOD frame. -/
structure TodAck where
  /-- SEQ answered (11_ingest_port.md R481). -/
  seq : Nat
  /-- its target strand field (11_ingest_port.md R469). -/
  strand : Nat
deriving DecidableEq, Repr

/-- TodAck right after reset. -/
def TodAck.reset : TodAck :=
  { seq := 0, strand := 0 }

/-- KSPE, the stream protocol engine. -/
structure Kspe where
  /-- KSPE.CTRL (11_ingest_port.md R482 (KSPE.CTRL)). -/
  ctrl : Word
  /-- KSPE.VERSION.VMIN and VMAX (11_ingest_port.md R476 (KSPE.VERSION)). -/
  version : Word
  /-- VMIN in force on this link (11_ingest_port.md R476). -/
  vmin : Nat
  /-- VMAX in force on this link (11_ingest_port.md R476). -/
  vmax : Nat
  /-- KSPE.VERSION.AGREED (11_ingest_port.md R476 (KSPE.VERSION)). -/
  agreed : Nat
  /-- KSPE.VERSION.VSTATE (11_ingest_port.md R478 (KSPE.VERSION)). -/
  vstate : Nat
  /-- KSPE.FCCTL (11_ingest_port.md R462 (KSPE.FCCTL)). -/
  fcctl : Word
  /-- KSPE.FCSTAT.HELD, pipes held back (11_ingest_port.md R462 (KSPE.FCSTAT)). -/
  heldPipes : List Nat
  /-- KSPE.DISCA to DISCD: 0 HCRC, 1 LENGTH, 2 TYPE, 3 RANGE, 4 NOTARMED, 5 SEQGAP, 6 NOSPACE, 7 LINKERR (11_ingest_port.md R473 (KSPE.DISCA to DISCD)). -/
  disc : Tbl Nat
  /-- KSPE.SEGS.COUNT (11_ingest_port.md (KSPE.SEGS)). -/
  segs : Nat
  /-- channels the sender holds in XOFF for transmission (11_ingest_port.md R467). -/
  peerXoff : List Nat
  /-- the controller's control sequence (11_ingest_port.md R469). -/
  sentSeq : Nat
  /-- an accepted AT_PPS TOD frame whose STATUS waits (11_ingest_port.md R481). -/
  todWait : Option TodAck
deriving DecidableEq, Repr

/-- Kspe right after reset. -/
def Kspe.reset : Kspe :=
  { ctrl := 0, version := 0x201, vmin := 1, vmax := 2, agreed := 0, vstate := 0, fcctl := 0x10, heldPipes := [],
    disc := [], segs := 0, peerXoff := [], sentSeq := 0, todWait := none }

/-- One frame of a crucible that is in use. -/
structure Frame where
  /-- the strand it holds a page of (12_capture.md R508). -/
  strand : Nat
  /-- the coarse unit of its page (12_capture.md R508). -/
  unit : Nat
  /-- its page within the unit, 0 to 63 (12_capture.md R504). -/
  page : Nat
  /-- the staged words, unlisted words zero (12_capture.md R507). -/
  words : Tbl Word
  /-- its crucible has sealed over it (12_capture.md R510). -/
  sealed : Bool
  /-- the page program driven from it (12_capture.md R514). -/
  writing : Option Nat
  /-- its page program has completed (released with its crucible when MARKREW is 0) (12_capture.md R515). -/
  done : Bool
  /-- its page belongs to earlier contents of its unit (12_capture.md R506). -/
  stale : Bool
  /-- which earlier contents a stale frame belongs to: the write sequence of the discard that ended them (12_capture.md R506). -/
  gen : Nat
  /-- the place of its unit, where the map does not name it: earlier contents, or a place being filled after a program failure (12_capture.md R516, 07_translation.md R315). -/
  place : Option Nat
  /-- its hank page counter, 0 before its first program is issued (12_capture.md R505). -/
  counter : Nat
deriving DecidableEq, Repr

/-- Frame right after reset. -/
def Frame.reset : Frame :=
  { strand := 0, unit := 0, page := 0, words := [], sealed := false, writing := none, done := false, stale :=
    false, gen := 0, place := none, counter := 0 }

/-- INGP p, one ingest pipe with its two crucibles. -/
structure Pipe where
  /-- INGP.CTRL (12_capture.md (INGP.CTRL)). -/
  ctrl : Word
  /-- INGP.STAT.FILLING (12_capture.md R508 (INGP.STAT)). -/
  filling : Nat
  /-- INGP.STAT.SEALWAIT (12_capture.md R511 (INGP.STAT)). -/
  sealwait : Bool
  /-- the frames in use of crucible A, in the order taken (INGP.FREE) (12_capture.md R507 (INGP.FREE)). -/
  cruc0 : List Frame
  /-- the frames in use of crucible B, in the order taken (INGP.FREE) (12_capture.md R507 (INGP.FREE)). -/
  cruc1 : List Frame
  /-- when a word was first staged into the filling crucible (12_capture.md R509). -/
  since : Option Nat
  /-- INGP.RECORDS.COUNT (12_capture.md (INGP.RECORDS)). -/
  records : Nat
  /-- INGP.DROPS.OVERFLOW (12_capture.md (INGP.DROPS)). -/
  overflow : Nat
  /-- INGP.DROPS.FILTERED (12_capture.md (INGP.DROPS)). -/
  filtered : Nat
  /-- INGP.SEALS.SEALS (12_capture.md (INGP.SEALS)). -/
  seals : Nat
  /-- INGP.SEALS.SPLITS (12_capture.md (INGP.SEALS)). -/
  splits : Nat
  /-- INGP.PADWORDS.COUNT (12_capture.md (INGP.PADWORDS)). -/
  padwords : Nat
deriving DecidableEq, Repr

/-- Pipe right after reset. -/
def Pipe.reset : Pipe :=
  { ctrl := 0xFA3, filling := 0, sealwait := false, cruc0 := [], cruc1 := [], since := none, records := 0,
    overflow := 0, filtered := 0, seals := 0, splits := 0, padwords := 0 }

/-- One entry of the strand table (R491). -/
structure Strand where
  /-- STATE (12_capture.md R487, R491). -/
  st : SState
  /-- EXPSEQ (12_capture.md R491). -/
  expseq : Nat
  /-- SEQANY (12_capture.md R491). -/
  seqany : Bool
  /-- OPEN (12_capture.md R491). -/
  opened : Bool
  /-- RLEN (12_capture.md R491). -/
  rlen : Nat
  /-- HBASE (12_capture.md R491). -/
  hbase : Nat
  /-- FILTFIRST (12_capture.md R491). -/
  filtfirst : Nat
  /-- HSIZE (12_capture.md R491). -/
  hsize : Nat
  /-- FILTCNT (12_capture.md R491). -/
  filtcnt : Nat
  /-- MODE: 0 RING, 1 FILL, 2 PRETRIG (12_capture.md R491). -/
  mode : Nat
  /-- POLICY (12_capture.md R491). -/
  policy : Bool
  /-- REARM (12_capture.md R491). -/
  rearm : Bool
  /-- DISCARD (12_capture.md R491). -/
  discard : Bool
  /-- EVENTS (12_capture.md R491). -/
  events : Nat
  /-- WPWORD (12_capture.md R491). -/
  wpword : Nat
  /-- WPUNIT (12_capture.md R491). -/
  wpunit : Nat
  /-- PRE (12_capture.md R491). -/
  pre : Nat
  /-- POST (12_capture.md R491). -/
  post : Nat
  /-- SRCEN (12_capture.md R491). -/
  srcen : Nat
  /-- SRCSTRAND (12_capture.md R491). -/
  srcstrand : Nat
  /-- BCAST (12_capture.md R491). -/
  bcast : Bool
  /-- TRIGOUT (12_capture.md R491). -/
  trigout : Bool
  /-- SENDTRIG (12_capture.md R491). -/
  sendtrig : Bool
  /-- ACTION (12_capture.md R491). -/
  action : Bool
  /-- WORDS (12_capture.md R491). -/
  words : Nat
  /-- RECORDS (12_capture.md R491). -/
  records : Nat
  /-- DROPS (12_capture.md R491). -/
  drops : Nat
  /-- the stamp of the open record (12_capture.md R501). -/
  recTs : Nat
  /-- the open record is a CONT record (12_capture.md R500). -/
  recCont : Bool
  /-- the open record is the trigger record (12_capture.md R531). -/
  recTrig : Bool
  /-- the first payload words of the open record, at most 4 (12_capture.md R521). -/
  recHead : List Word
  /-- the open record has been split (12_capture.md R521). -/
  recSplit : Bool
  /-- the filter of the open record is still to be evaluated (12_capture.md R521). -/
  filterWait : Bool
  /-- the open record was split and its CONT link is not yet started (12_capture.md R500, R510). -/
  resume : Bool
  /-- the next record whose slot is reserved is the trigger record (12_capture.md R531). -/
  trigWait : Bool
  /-- the trigger unit of the window in progress (12_capture.md R526). -/
  trigUnit : Nat
  /-- units written since the strand was armed, newest first (12_capture.md R526). -/
  sinceArm : List Nat
  /-- post-window units the write point has still to leave (12_capture.md R526, R527). -/
  postLeft : Nat
  /-- hank pages programmed since ALLOC (R505) (12_capture.md R505). -/
  pages : Nat
  /-- a RELEASE (true) or REWIND (false) waits for its frames (12_capture.md R495). -/
  releasing : Option Bool
  /-- its scheduled arm time in ns (12_capture.md R487, R534). -/
  armAt : Option Nat
deriving DecidableEq, Repr

/-- Strand right after reset. -/
def Strand.reset : Strand :=
  { st := .free, expseq := 0, seqany := false, opened := false, rlen := 0, hbase := 0, filtfirst := 0, hsize :=
    0, filtcnt := 0, mode := 0, policy := false, rearm := false, discard := false, events := 0, wpword := 0,
    wpunit := 0, pre := 0, post := 0, srcen := 0, srcstrand := 0, bcast := false, trigout := false, sendtrig :=
    false, action := false, words := 0, records := 0, drops := 0, recTs := 0, recCont := false, recTrig :=
    false, recHead := [], recSplit := false, filterWait := false, resume := false, trigWait := false, trigUnit
    := 0, sinceArm := [], postLeft := 0, pages := 0, releasing := none, armAt := none }

/-- One trigger log entry (R535). -/
structure TrigEnt where
  /-- STRAND (12_capture.md (STRD.TRIGLOG0)). -/
  strand : Nat
  /-- SRC (12_capture.md (STRD.TRIGLOG0)). -/
  src : Nat
  /-- the trigger timestamp (12_capture.md (STRD.TRIGLOG1, TRIGLOG2)). -/
  ts : Nat
  /-- UNIT (12_capture.md (STRD.TRIGLOG3)). -/
  unit : Nat
deriving DecidableEq, Repr

/-- TrigEnt right after reset. -/
def TrigEnt.reset : TrigEnt :=
  { strand := 0, src := 0, ts := 0, unit := 0 }

/-- One timed trigger of the timed list. -/
structure TimedTrig where
  /-- its time in ns (12_capture.md R534). -/
  at_ : Nat
  /-- its strand (12_capture.md R534). -/
  strand : Nat
deriving DecidableEq, Repr

/-- TimedTrig right after reset. -/
def TimedTrig.reset : TimedTrig :=
  { at_ := 0, strand := 0 }

/-- One entry of a time index line (R537). -/
structure IdxEnt where
  /-- timestamp of the first record slot of the span (12_capture.md R537). -/
  ts : Nat
  /-- word offset of that slot, none 0xFFFF (12_capture.md R537). -/
  off : Option Nat
  /-- slots of records in the span (12_capture.md R537). -/
  slots : Nat
  /-- VALID (12_capture.md R537). -/
  valid : Bool
  /-- TRIG (12_capture.md R537). -/
  trig : Bool
  /-- CONT (12_capture.md R537). -/
  cont : Bool
deriving DecidableEq, Repr

/-- IdxEnt right after reset. -/
def IdxEnt.reset : IdxEnt :=
  { ts := 0, off := none, slots := 0, valid := false, trig := false, cont := false }

/-- One time index line: four entries and the KEPT mark. -/
structure IdxLine where
  /-- its four entries, none listed when the line is invalid (12_capture.md R537). -/
  e : List IdxEnt
  /-- KEPT, in entry 0 (12_capture.md R529, R537). -/
  kept : Bool
deriving DecidableEq, Repr

/-- IdxLine right after reset. -/
def IdxLine.reset : IdxLine :=
  { e := [], kept := false }

/-- A record or pad that has ended and is not yet committed (R33, R502). -/
structure Commit where
  /-- its number (the model's own) (12_capture.md R502). -/
  id : Nat
  /-- its strand (12_capture.md R502). -/
  strand : Nat
  /-- the hank word of its length slot (12_capture.md R497). -/
  start : Nat
  /-- its length slot (12_capture.md R497). -/
  slot : Word
  /-- its timestamp (12_capture.md R496). -/
  ts : Nat
deriving DecidableEq, Repr

/-- Commit right after reset. -/
def Commit.reset : Commit :=
  { id := 0, strand := 0, start := 0, slot := 0, ts := 0 }

/-- STRD, strands. -/
structure Strd where
  /-- STRD.SEL (12_capture.md (STRD.SEL)). -/
  sel : Word
  /-- STRD.CMD.OP (12_capture.md (STRD.CMD)). -/
  op : Nat
  /-- STRD.CMD.GO (12_capture.md (STRD.CMD)). -/
  go : Bool
  /-- STRD.CMD.RESULT (12_capture.md R541 (STRD.CMD)). -/
  result : Nat
  /-- STRD.CMD.ADOPT (12_capture.md R494 (STRD.CMD)). -/
  adopt : Bool
  /-- the strand whose adopting ALLOC is finding its write point (12_capture.md R494). -/
  adopting : Option Nat
  /-- the strand of the command in progress (12_capture.md R541). -/
  waitStrand : Nat
  /-- STRD.TIME (12_capture.md (STRD.TIME)). -/
  timeLo : Word
  /-- STRD.TIMEHI (12_capture.md (STRD.TIMEHI)). -/
  timeHi : Word
  /-- the strand table (STRD.CTX0 to CTX7) (12_capture.md R487, R491 (STRD.CTX)). -/
  strands : Tbl Strand
  /-- STRD.STAGE1 (12_capture.md (STRD.STAGE1)). -/
  stage1 : Word
  /-- STRD.STAGE2 (12_capture.md (STRD.STAGE2)). -/
  stage2 : Word
  /-- STRD.STAGE4 (12_capture.md (STRD.STAGE4)). -/
  stage4 : Word
  /-- STRD.STAGE5 (12_capture.md (STRD.STAGE5)). -/
  stage5 : Word
  /-- STRD.FSEL (12_capture.md (STRD.FSEL)). -/
  fsel : Word
  /-- the filter table (STRD.FDATA), key 16 x entry + word (12_capture.md R519 (STRD.FDATA)). -/
  filters : Tbl Word
  /-- the trigger log, oldest first (12_capture.md R535 (STRD.TRIGLOG0 to TRIGLOG3)). -/
  trigLog : List TrigEnt
  /-- STRD.TRIGLOG0.LOST (12_capture.md R535). -/
  trigLost : Bool
  /-- STRD.TRIGIGN.COUNT (12_capture.md R531 (STRD.TRIGIGN)). -/
  trigIgn : Nat
  /-- the timed triggers (scheduled arms are held in the strands; TRIGIGN.TIMED counts both) (12_capture.md R534 (STRD.TRIGIGN)). -/
  timed : List TimedTrig
  /-- the time index, line c for coarse unit c (12_capture.md R537). -/
  idx : Tbl IdxLine
  /-- records that have ended and wait for back-invalidation responses, in hank order of each strand (12_capture.md R502; 01_architecture.md R33). -/
  commits : List Commit
  /-- the next number for one (the model's own). -/
  nextCommit : Nat
  /-- time index lines being rebuilt or waiting, first to be done first (STRD.IDXSTAT) (12_capture.md R540 (STRD.IDXSTAT)). -/
  rebuild : List Nat
deriving DecidableEq, Repr

/-- Strd right after reset. -/
def Strd.reset : Strd :=
  { sel := 0, op := 0, go := false, result := 0, adopt := false, adopting := none, waitStrand := 0, timeLo := 0,
    timeHi := 0, strands := [], stage1 := 0, stage2 := 0, stage4 := 0, stage5 := 0, fsel := 0, filters := [],
    trigLog := [], trigLost := false, trigIgn := 0, timed := [], idx := [], commits := [], nextCommit := 0,
    rebuild := [] }

/-- One replay slot. -/
structure Slot where
  /-- RPLE.CFG0 (13_replay_and_query.md (RPLE.CFG0)). -/
  cfg0 : Word
  /-- RPLE.CFG1 (13_replay_and_query.md (RPLE.CFG1)). -/
  cfg1 : Word
  /-- RPLE.CFG2 (13_replay_and_query.md (RPLE.CFG2)). -/
  cfg2 : Word
  /-- RPLE.FROMLO (13_replay_and_query.md (RPLE.FROMLO)). -/
  fromLo : Word
  /-- RPLE.FROMHI (13_replay_and_query.md (RPLE.FROMHI)). -/
  fromHi : Word
  /-- RPLE.TOLO (13_replay_and_query.md (RPLE.TOLO)). -/
  toLo : Word
  /-- RPLE.TOHI (13_replay_and_query.md (RPLE.TOHI)). -/
  toHi : Word
  /-- RPLE.STARTLO (13_replay_and_query.md (RPLE.STARTLO)). -/
  startLo : Word
  /-- RPLE.STARTHI (13_replay_and_query.md (RPLE.STARTHI)). -/
  startHi : Word
  /-- RPLE.LOOPGAP (13_replay_and_query.md (RPLE.LOOPGAP)). -/
  loopgap : Word
  /-- RPLE.CMD.OP (13_replay_and_query.md (RPLE.CMD)). -/
  op : Nat
  /-- RPLE.CMD.GO (13_replay_and_query.md (RPLE.CMD)). -/
  go : Bool
  /-- RPLE.CMD.RESULT (13_replay_and_query.md (RPLE.CMD)). -/
  result : Nat
  /-- RPLE.STAT.STATE (13_replay_and_query.md R548 (RPLE.STAT)). -/
  st : RState
  /-- the strand bound (13_replay_and_query.md R545). -/
  strand : Nat
  /-- CFG0 as applied by BIND or CONFIG (13_replay_and_query.md R550). -/
  app0 : Word
  /-- CFG1 as applied (13_replay_and_query.md R550). -/
  app1 : Word
  /-- CFG2 as applied (13_replay_and_query.md R550). -/
  app2 : Word
  /-- FROM as applied (13_replay_and_query.md R552). -/
  from_ : Nat
  /-- TO as applied (13_replay_and_query.md R552). -/
  to_ : Nat
  /-- LOOPGAP as applied (13_replay_and_query.md R560). -/
  gap : Nat
  /-- its preload is in progress (13_replay_and_query.md R565). -/
  preloading : Bool
  /-- START with time 0 waits for its preload (13_replay_and_query.md R559). -/
  startWait : Bool
  /-- its start time in 250 ps units (13_replay_and_query.md R559). -/
  start : Nat
  /-- base of R558 (13_replay_and_query.md R558). -/
  base : Nat
  /-- k of R560 (13_replay_and_query.md R560). -/
  pass : Nat
  /-- the records of the window fixed at START, by the hank word of each first length slot, in replay order (13_replay_and_query.md R552). -/
  window : List Nat
  /-- the record of the window to be sent next (13_replay_and_query.md R551). -/
  next : Nat
  /-- hank pages whose read is issued: pass x 2^32 + hank word of the page / 3,276 (13_replay_and_query.md R565). -/
  reading : List Nat
  /-- hank pages buffered, by the same key (13_replay_and_query.md R565). -/
  buffered : List Nat
  /-- buffered pages read with lost data, by the same key (13_replay_and_query.md R569). -/
  bad : List Nat
  /-- pool space assigned to it in MiB (13_replay_and_query.md R567). -/
  poolMib : Nat
  /-- a record of it holds the framer (13_replay_and_query.md R557). -/
  sending : Bool
  /-- its due record waits for the framer or for XON (R563) (13_replay_and_query.md R563). -/
  late : Bool
  /-- STOP waits for the segment in progress (13_replay_and_query.md R550). -/
  stopping : Bool
  /-- segments of the record being sent: body, S, E, T (13_replay_and_query.md R555). -/
  segq : List (List Word × Bool × Bool × Bool)
  /-- SEQ of its next segment (13_replay_and_query.md R555). -/
  seq : Nat
  /-- records skipped in the underrun run (13_replay_and_query.md R571). -/
  run : Nat
  /-- the run began with the link down (13_replay_and_query.md R573). -/
  runDown : Bool
  /-- the run's end marker has been sent (13_replay_and_query.md R571). -/
  endSent : Bool
  /-- RPLE.SENT.COUNT (13_replay_and_query.md (RPLE.SENT)). -/
  sent : Nat
  /-- RPLE.LATE.COUNT (13_replay_and_query.md (RPLE.LATE)). -/
  lateCnt : Nat
  /-- RPLE.LATE.MAX (13_replay_and_query.md (RPLE.LATE)). -/
  lateMax : Nat
  /-- RPLE.SKIP.UNDERRUN (13_replay_and_query.md (RPLE.SKIP)). -/
  skipUnder : Nat
  /-- RPLE.SKIP.BAD (13_replay_and_query.md (RPLE.SKIP)). -/
  skipBad : Nat
deriving DecidableEq, Repr

/-- Slot right after reset. -/
def Slot.reset : Slot :=
  { cfg0 := 0x20040000, cfg1 := 0x40000, cfg2 := 0x7D0100, fromLo := 0, fromHi := 0, toLo := 0, toHi := 0,
    startLo := 0, startHi := 0, loopgap := 0, op := 0, go := false, result := 0, st := .unbound, strand := 0,
    app0 := 0x20040000, app1 := 0x40000, app2 := 0x7D0100, from_ := 0, to_ := 0, gap := 0, preloading := false,
    startWait := false, start := 0, base := 0, pass := 0, window := [], next := 0, reading := [], buffered :=
    [], bad := [], poolMib := 0, sending := false, late := false, stopping := false, segq := [], seq := 0, run
    := 0, runDown := false, endSent := false, sent := 0, lateCnt := 0, lateMax := 0, skipUnder := 0, skipBad :=
    0 }

/-- RPLE, replay. -/
structure Rple where
  /-- RPLE.SEL (13_replay_and_query.md (RPLE.SEL)). -/
  sel : Word
  /-- the 64 replay slots (13_replay_and_query.md R545). -/
  slots : Tbl Slot
  /-- RPLE.POOL.GIB (13_replay_and_query.md R567 (RPLE.POOL)). -/
  poolGib : Word
  /-- the slot whose segment the framer is sending (13_replay_and_query.md R557). -/
  framer : Option Nat
deriving DecidableEq, Repr

/-- Rple right after reset. -/
def Rple.reset : Rple :=
  { sel := 0, slots := [], poolGib := 4, framer := none }

/-- QRYE, the query engine. -/
structure Qrye where
  /-- QRYE.REQ.OP (13_replay_and_query.md (QRYE.REQ)). -/
  op : Nat
  /-- QRYE.REQ.GO (13_replay_and_query.md (QRYE.REQ)). -/
  go : Bool
  /-- QRYE.REQ.RESULT (13_replay_and_query.md (QRYE.REQ)). -/
  result : Nat
  /-- QRYE.REQ.STRAND (13_replay_and_query.md (QRYE.REQ)). -/
  strand : Nat
  /-- QRYE.REQ.FOUND (13_replay_and_query.md R575 (QRYE.REQ)). -/
  found : Bool
  /-- QRYE.REQ.WRAPPED (13_replay_and_query.md R579 (QRYE.REQ)). -/
  wrapped : Bool
  /-- QRYE.REQ.INCOMPLETE (13_replay_and_query.md R580 (QRYE.REQ)). -/
  incomplete : Bool
  /-- QRYE.T1LO (13_replay_and_query.md (QRYE.T1LO)). -/
  t1lo : Word
  /-- QRYE.T1HI (13_replay_and_query.md (QRYE.T1HI)). -/
  t1hi : Word
  /-- QRYE.T2LO (13_replay_and_query.md (QRYE.T2LO)). -/
  t2lo : Word
  /-- QRYE.T2HI (13_replay_and_query.md (QRYE.T2HI)). -/
  t2hi : Word
  /-- QRYE.HWORD (13_replay_and_query.md (QRYE.HWORD)). -/
  hword : Nat
  /-- QRYE.RTSLO and RTSHI (13_replay_and_query.md (QRYE.RTSLO, RTSHI)). -/
  rts : Nat
  /-- QRYE.COUNT (13_replay_and_query.md (QRYE.COUNT)). -/
  count : Nat
  /-- coarse units that the running query uses (13_replay_and_query.md R579). -/
  used : List Nat
  /-- coarse units that the write point has entered while the query runs (13_replay_and_query.md R579). -/
  entered : List Nat
deriving DecidableEq, Repr

/-- Qrye right after reset. -/
def Qrye.reset : Qrye :=
  { op := 0, go := false, result := 0, strand := 0, found := false, wrapped := false, incomplete := false, t1lo
    := 0, t1hi := 0, t2lo := 0, t2hi := 0, hword := 0, rts := 0, count := 0, used := [], entered := [] }

/-- One protection range (RDEF, RSIZE and RCFG of it). -/
structure Range where
  /-- MPRT.RDEF.REGION: the packed view, else host data (14_memory_protection.md R591 (MPRT.RDEF)). -/
  packed : Bool
  /-- MPRT.RDEF.START (14_memory_protection.md R591 (MPRT.RDEF)). -/
  first : Nat
  /-- MPRT.RSIZE.COUNT (14_memory_protection.md (MPRT.RSIZE)). -/
  count : Nat
  /-- MPRT.RCFG.SLOT (14_memory_protection.md (MPRT.RCFG)). -/
  slot : Nat
  /-- MPRT.RCFG.BOUND (14_memory_protection.md (MPRT.RCFG)). -/
  bound : Bool
  /-- MPRT.RCFG.VERIFY (14_memory_protection.md R610 (MPRT.RCFG)). -/
  verify : Bool
  /-- MPRT.RCFG.VIRAL (14_memory_protection.md (MPRT.RCFG)). -/
  viral : Bool
  /-- MPRT.RCFG.LOCKED (14_memory_protection.md R593 (MPRT.RCFG)). -/
  locked : Bool
  /-- MPRT.RCFG.DEGRADED (14_memory_protection.md R624 (MPRT.RCFG)). -/
  degraded : Bool
  /-- MPRT.RCFG.REKEYING (14_memory_protection.md R619 (MPRT.RCFG)). -/
  rekeying : Bool
  /-- MPRT.RCFG.OLDSLOT (14_memory_protection.md R619 (MPRT.RCFG)). -/
  oldslot : Nat
deriving DecidableEq, Repr

/-- Range right after reset. -/
def Range.reset : Range :=
  { packed := false, first := 0, count := 0, slot := 0, bound := false, verify := false, viral := false, locked
    := false, degraded := false, rekeying := false, oldslot := 0 }

/-- One key slot. -/
structure KSlot where
  /-- MPRT.KSTAT.STATE (14_memory_protection.md R585 (MPRT.KSTAT)). -/
  st : KState
  /-- MPRT.KSTAT.VOLATILE (14_memory_protection.md R590 (MPRT.KSTAT)). -/
  volatile_ : Bool
  /-- MPRT.KSTAT.GENERATED (14_memory_protection.md (MPRT.KSTAT)). -/
  generated : Bool
  /-- its AES-256 key in on-die key storage (14_memory_protection.md R585, R589). -/
  key : BitVec 256
  /-- its subkey K_D, for the DRAM keystream (14_memory_protection.md R588). -/
  kD : BitVec 256
  /-- its subkey K_L, for line and node MACs (14_memory_protection.md R588). -/
  kL : BitVec 256
  /-- its subkey K_M, for media GCM (14_memory_protection.md R588). -/
  kM : BitVec 256
  /-- the hash key H_L of K_L (14_memory_protection.md R588). -/
  hL : BitVec 128
  /-- MPRT.KCV (14_memory_protection.md R589 (MPRT.KCV)). -/
  kcv : BitVec 40
deriving DecidableEq, Repr

/-- KSlot right after reset. -/
def KSlot.reset : KSlot :=
  { st := .empty, volatile_ := false, generated := false, key := 0, kD := 0, kL := 0, kM := 0, hL := 0, kcv := 0 }

/-- One rekey, running or queued (R617, R619). -/
structure RekeyJob where
  /-- the range, none the device slot's own content (DEV) (14_memory_protection.md (MPRT.REKEY)). -/
  range : Option Nat
  /-- slot A (14_memory_protection.md R619). -/
  old : Nat
  /-- slot B (14_memory_protection.md R619). -/
  new : Nat
  /-- retire A at K5 (14_memory_protection.md R619). -/
  retire : Bool
  /-- MPRT.REKEY.STEP (14_memory_protection.md R619 (MPRT.REKEY)). -/
  step : Nat
  /-- it is the background command Rekey Range (14_memory_protection.md R634). -/
  byHost : Bool
deriving DecidableEq, Repr

/-- RekeyJob right after reset. -/
def RekeyJob.reset : RekeyJob :=
  { range := none, old := 0, new := 0, retire := false, step := 0, byHost := false }

/-- One counter line (R594). -/
structure CLine where
  /-- MAJOR (14_memory_protection.md R594). -/
  major : Nat
  /-- MINOR0 to MINOR63 (14_memory_protection.md R594). -/
  minors : Tbl Nat
  /-- SLOT, once a line of the page has been written (14_memory_protection.md R592, R594). -/
  slot : Option Nat
  /-- its re-encryption is under way (14_memory_protection.md R616). -/
  reenc : Bool
  /-- writes to the page that wait for its re-encryption (14_memory_protection.md R616). -/
  waits : List MemReq
deriving DecidableEq, Repr

/-- CLine right after reset. -/
def CLine.reset : CLine :=
  { major := 0, minors := [], slot := none, reenc := false, waits := [] }

/-- One line of a node buffer. -/
structure NodeEnt where
  /-- the AES pipeline whose buffer it is in (14_memory_protection.md R601). -/
  pipe : Nat
  /-- the level of its node (14_memory_protection.md R599, R601). -/
  level : Nat
  /-- its node (14_memory_protection.md R599, R601). -/
  node : Nat
  /-- it differs from the copies in the DRAM tier (14_memory_protection.md R601). -/
  changed : Bool
deriving DecidableEq, Repr

/-- NodeEnt right after reset. -/
def NodeEnt.reset : NodeEnt :=
  { pipe := 0, level := 0, node := 0, changed := false }

/-- MPRT, memory protection. -/
structure Mprt where
  /-- MPRT.EPOCH (14_memory_protection.md R622 (MPRT.EPOCH)). -/
  epoch : Nat
  /-- MPRT.DEVSLOT (14_memory_protection.md R586 (MPRT.DEVSLOT)). -/
  devslot : Nat
  /-- MPRT.RSEL (14_memory_protection.md (MPRT.RSEL)). -/
  rsel : Word
  /-- the 16 protection ranges (14_memory_protection.md R591). -/
  ranges : Tbl Range
  /-- MPRT.KSEL (14_memory_protection.md (MPRT.KSEL)). -/
  ksel : Word
  /-- the 32 key slots (14_memory_protection.md R585). -/
  slots : Tbl KSlot
  /-- MPRT.MAJHW (14_memory_protection.md R625 (MPRT.MAJHW)). -/
  majhw : Nat
  /-- MPRT.NODEHW (14_memory_protection.md R625 (MPRT.NODEHW)). -/
  nodehw : Nat
  /-- MPRT.ALARMS.LATE (14_memory_protection.md (MPRT.ALARMS)). -/
  late : Nat
  /-- MPRT.ALARMS.NODEREP (14_memory_protection.md (MPRT.ALARMS)). -/
  noderep : Nat
  /-- the rekey running (MPRT.REKEY.BUSY, RANGE, DEV, STEP) (14_memory_protection.md R619 (MPRT.REKEY)). -/
  rekey : Option RekeyJob
  /-- MPRT.REKEY.PCT (14_memory_protection.md (MPRT.REKEY)). -/
  rekeyPct : Nat
  /-- rekeys waiting under R617 (MPRT.REKEY.QUEUED), oldest first (14_memory_protection.md R617 (MPRT.REKEY)). -/
  rekeyQueue : List RekeyJob
  /-- the counter lines of level 0, by memory page (14_memory_protection.md R594, R599). -/
  pages : Tbl CLine
  /-- subtrees rebuilt after a loss, newest first: level and node at their top, the MAJOR of their memory pages, the counter of their nodes (14_memory_protection.md R625). -/
  rebuilt : List (Nat × Nat × Nat × Nat)
  /-- the node buffers, oldest entry first (14_memory_protection.md R601). -/
  nodeBuf : List NodeEnt
  /-- how many entries the node buffers have evicted (the model's own counter) (14_memory_protection.md R601). -/
  evictions : Nat
  /-- the counter of each node, in its parent or in the root, key level x 2^32 + node; unlisted as its last rebuild left it, else 0 (14_memory_protection.md R599). -/
  nodes : Tbl Nat
deriving DecidableEq, Repr

/-- Mprt right after reset. -/
def Mprt.reset : Mprt :=
  { epoch := 0, devslot := 0, rsel := 0, ranges := [], ksel := 0, slots := [], majhw := 0, nodehw := 0, late :=
    0, noderep := 0, rekey := none, rekeyPct := 0, rekeyQueue := [], pages := [], rebuilt := [], nodeBuf := [],
    evictions := 0, nodes := [] }

/-- One threshold condition of an input (R643). -/
structure Cond where
  /-- the condition is set (15_power_supervision.md R643). -/
  set : Bool
  /-- consecutive samples that met it (15_power_supervision.md R643). -/
  meet : Nat
  /-- consecutive samples that did not meet it (15_power_supervision.md R643). -/
  miss : Nat
deriving DecidableEq, Repr

/-- Cond right after reset. -/
def Cond.reset : Cond :=
  { set := false, meet := 0, miss := 0 }

/-- One supervised input of the ADC (28 of them). -/
structure SnsIn where
  /-- PSEQ.SNSCFG of the input (always-on copy) (15_power_supervision.md R655 (PSEQ.SNSCFG)). -/
  cfg : Word
  /-- PSEQ.UVTH of the input: UVF [11:0], UVW [23:12] (15_power_supervision.md R643 (PSEQ.UVTH)). -/
  uvth : Word
  /-- PSEQ.OVTH of the input: OVW [11:0], OVF [23:12] (15_power_supervision.md R643 (PSEQ.OVTH)). -/
  ovth : Word
  /-- PSEQ.SNSVAL.CODE, last sample (15_power_supervision.md R639 (PSEQ.SNSVAL)). -/
  code : Nat
  /-- PSEQ.SNSVAL.PG and PSEQ.PGMAP bit, power-good (15_power_supervision.md R644). -/
  pg : Bool
  /-- consecutive samples strictly between UVF and OVF (15_power_supervision.md R644). -/
  pgRun : Nat
  /-- PSEQ.SNSVAL.COND bit 13 with its run counters (15_power_supervision.md R643). -/
  uvf : Cond
  /-- PSEQ.SNSVAL.COND bit 14 with its run counters (15_power_supervision.md R643). -/
  uvw : Cond
  /-- PSEQ.SNSVAL.COND bit 15 with its run counters (15_power_supervision.md R643). -/
  ovw : Cond
  /-- PSEQ.SNSVAL.COND bit 16 with its run counters (15_power_supervision.md R643). -/
  ovf : Cond
deriving DecidableEq, Repr

/-- SnsIn right after reset. -/
def SnsIn.reset : SnsIn :=
  { cfg := 0, uvth := 0x001000, ovth := 0xFFFFFE, code := 0, pg := false, pgRun := 0, uvf := .reset, uvw :=
    .reset, ovw := .reset, ovf := .reset }

/-- The table sequencer and BELAY. -/
structure Sequencer where
  /-- PSEQ.SEQSTAT.PHASE (15_power_supervision.md R660 (PSEQ.SEQSTAT)). -/
  phase : Phase
  /-- PSEQ.SEQSTAT.STEP (15_power_supervision.md R651 (PSEQ.SEQSTAT)). -/
  step : Nat
  /-- PSEQ.SEQSTAT.ENTRY, entry in progress (15_power_supervision.md R651 (PSEQ.SEQSTAT)). -/
  entry : Nat
  /-- where the entry in progress stands (delay, wait, off time, none left) (15_power_supervision.md R651, R664). -/
  entryState : EntryState
  /-- entries whose attempt failed and whose retry has not yet begun (15_power_supervision.md R664). -/
  failed : List Nat
  /-- retries used per power-up entry; PSEQ.SEQSTAT.RETRY shows those of the entry in progress (15_power_supervision.md R664). -/
  retries : Tbl Nat
  /-- power-up entries that have completed in this sequence (15_power_supervision.md R664). -/
  done : List Nat
  /-- PSEQ.SEQSTAT.ENSTATE, EN0 to EN15 (15_power_supervision.md R654 (PSEQ.SEQSTAT)). -/
  enables : Nat
  /-- PSEQ.SEQSTAT.LINE, BELAY level (15_power_supervision.md (PSEQ.SEQSTAT)). -/
  line : Bool
  /-- PSEQ.SEQSTAT.HOLDING (15_power_supervision.md (PSEQ.SEQSTAT)). -/
  holding : Bool
  /-- the 10 us minimum of the step has passed (15_power_supervision.md R658). -/
  minHold : Bool
  /-- PSEQ.SEQSTAT.INTACT (15_power_supervision.md R649). -/
  intact : Bool
  /-- aborts since VIN was last out of power-good (15_power_supervision.md R668). -/
  aborts : Nat
  /-- the restart timer (15_power_supervision.md R668). -/
  restart : RestartTimer
  /-- after a shutdown the VIN filter waits for a sample that is not good (15_power_supervision.md R668). -/
  needBadVin : Bool
  /-- the VIN power-good filter of R55 is satisfied (15_power_supervision.md R668). -/
  vinGood : Bool
  /-- the shutdown being run follows an abort of the power-up table (15_power_supervision.md R668). -/
  afterAbort : Bool
  /-- what follows the shutdown table (02_modes_and_starts.md R88, R94). -/
  afterShut : AfterShut
  /-- STEPTMO plus 10 ms since the abort has not yet passed (15_power_supervision.md R665). -/
  holdUntilTimer : Bool
  /-- the last QUENCH was started by thermal shutdown (15_power_supervision.md R668). -/
  thermalStop : Bool
  /-- PSEQ.FAULT (always-on) (15_power_supervision.md R648 (PSEQ.FAULT)). -/
  fault : Word
deriving DecidableEq, Repr

/-- Sequencer right after reset. -/
def Sequencer.reset : Sequencer :=
  { phase := .dormHolding, step := 0, entry := 0, entryState := .idle, failed := [], retries := [], done := [],
    enables := 0, line := false, holding := false, minHold := false, intact := false, aborts := 0, restart :=
    .off, needBadVin := false, vinGood := false, afterAbort := false, afterShut := .dormant, holdUntilTimer :=
    false, thermalStop := false, fault := 0 }

/-- The capacitance measurement. -/
structure CapTest where
  /-- a measurement runs (15_power_supervision.md R672). -/
  running : Bool
  /-- bank samples taken since M2 (15_power_supervision.md R672). -/
  count : Nat
  /-- bank samples 8 to 23 after M2 (15_power_supervision.md R672). -/
  first : List Nat
  /-- the last 16 bank samples, newest first (15_power_supervision.md R672). -/
  last : List Nat
  /-- PSEQ.CAPRES.DT (15_power_supervision.md (PSEQ.CAPRES)). -/
  dt : Nat
  /-- PSEQ.CAPRES.DV (15_power_supervision.md (PSEQ.CAPRES)). -/
  dv : Nat
  /-- PSEQ.CAPRES.OUTCOME (15_power_supervision.md (PSEQ.CAPRES)). -/
  outcome : Nat
  /-- SYSC.HOLDUP.MEASURE (10_persistence.md R422 (SYSC.HOLDUP)). -/
  requested : Bool
  /-- c_meas in uF, SYSC.HOLDUP.CMEAS (10_persistence.md R422). -/
  cmeas : Nat
  /-- when the last measurement completed (SYSC.HOLDUP.AGE and VALID) (10_persistence.md (SYSC.HOLDUP)). -/
  measuredAt : Option Nat
  /-- when the 24 hour or 10 s deferral timer expires (10_persistence.md R422, 15_power_supervision.md R672). -/
  due : Option Nat
  /-- HOLDUP_SENSE has reached v_hi since the start began (10_persistence.md R418). -/
  bankReached : Bool
  /-- HOLDUP_SENSE is below v_hi (10_persistence.md R418 (SYSC.HOLDUP.BANKLOW)). -/
  bankLow : Bool
  /-- the bank has been sampled since VAON rose (10_persistence.md (SYSC.HOLDUP.BANKLOW)). -/
  bankSampled : Bool
deriving DecidableEq, Repr

/-- CapTest right after reset. -/
def CapTest.reset : CapTest :=
  { running := false, count := 0, first := [], last := [], dt := 0, dv := 0, outcome := 0, requested := false,
    cmeas := 0, measuredAt := none, due := none, bankReached := false, bankLow := true, bankSampled := false }

/-- PSEQ, the power supervisor (always-on). -/
structure Pseq where
  /-- VAON is within its operating range (15_power_supervision.md R655). -/
  vaon : Bool
  /-- PSEQ.CTRL.SAVE (15_power_supervision.md (PSEQ.CTRL)). -/
  save : Bool
  /-- PSEQ.STAT.RECORD (15_power_supervision.md R657 (PSEQ.STAT)). -/
  record : Bool
  /-- ADCFAULT (PSEQ.STAT.ADCOK is its inverse) (15_power_supervision.md R642). -/
  adcFault : Bool
  /-- consecutive calibration misses (15_power_supervision.md R642). -/
  calMiss : Nat
  /-- consecutive CAL slots passed (15_power_supervision.md R642). -/
  calPass : Nat
  /-- the slot of the 45-slot frame being converted (15_power_supervision.md R640). -/
  slot : Nat
  /-- PSEQ.SNSSEL (15_power_supervision.md (PSEQ.SNSSEL)). -/
  sel : Word
  /-- the 28 inputs (15_power_supervision.md R638). -/
  inputs : Tbl SnsIn
  /-- PSEQ.TSEL (15_power_supervision.md (PSEQ.TSEL)). -/
  tsel : Word
  /-- the power-up table (15_power_supervision.md R650). -/
  upTable : Tbl Word
  /-- the shutdown table (15_power_supervision.md R650). -/
  downTable : Tbl Word
  /-- PSEQ.SEQCFG (15_power_supervision.md (PSEQ.SEQCFG)). -/
  seqcfg : Word
  /-- PSEQ.PFWCFG (15_power_supervision.md (PSEQ.PFWCFG)). -/
  pfwcfg : Word
  /-- PSEQ.CAPCFG (15_power_supervision.md (PSEQ.CAPCFG)). -/
  capcfg : Word
  /-- the table sequencer (15_power_supervision.md R651). -/
  seq : Sequencer
  /-- PFW_N counts as asserted (15_power_supervision.md R647). -/
  pfwLow : Bool
  /-- this device drives PFW_N low (15_power_supervision.md R647). -/
  pfwDriven : Bool
  /-- the capacitance measurement (15_power_supervision.md R672). -/
  cap : CapTest
deriving DecidableEq, Repr

/-- Pseq right after reset. -/
def Pseq.reset : Pseq :=
  { vaon := false, save := false, record := false, adcFault := false, calMiss := 0, calPass := 0, slot := 0, sel
    := 0, inputs := [], tsel := 0, upTable := [], downTable := [], seqcfg := 0x190051F4, pfwcfg := 0x496, capcfg
    := 0xC82800100, seq := .reset, pfwLow := false, pfwDriven := false, cap := .reset }

/-- One temperature sensor (24 of them). -/
structure Sensor where
  /-- THRM.READk, last reading, signed degrees C (16_thermal.md R679 (THRM.READ0 to READ4)). -/
  temp : Int
  /-- the raw code of the last frame (16_thermal.md R680). -/
  rawCode : Option Nat
  /-- consecutive identical raw codes (16_thermal.md R680). -/
  same : Nat
  /-- THRM.BROKEN bit (16_thermal.md R680 (THRM.BROKEN)). -/
  broken : Bool
  /-- consecutive frames passed while broken (16_thermal.md R680). -/
  pass : Nat
  /-- a MONITOR diode's crossing of WARN is present (16_thermal.md R681). -/
  hot : Bool
deriving DecidableEq, Repr

/-- Sensor right after reset. -/
def Sensor.reset : Sensor :=
  { temp := 0, rawCode := none, same := 0, broken := false, pass := 0, hot := false }

/-- THRM, temperature sensing and thermal control. -/
structure Thrm where
  /-- THRM.CTRL.SAVE (16_thermal.md (THRM.CTRL)). -/
  save : Bool
  /-- the 24 sensors (16_thermal.md R678). -/
  sensors : Tbl Sensor
  /-- THRM.GOV.TG (16_thermal.md R681 (THRM.GOV)). -/
  tg : Int
  /-- THRM.GOV.SOURCE (16_thermal.md (THRM.GOV)). -/
  source : Nat
  /-- THRM.GOV.LEVEL bit 13 (16_thermal.md R684 (THRM.GOV)). -/
  warn : Bool
  /-- THRM.GOV.LEVEL bit 14 (16_thermal.md R684 (THRM.GOV)). -/
  throttle : Bool
  /-- THRM.GOV.LEVEL bit 15 (16_thermal.md R684 (THRM.GOV)). -/
  shutdown : Bool
  /-- consecutive frames at or above SHUT (16_thermal.md R684). -/
  shutRun : Nat
  /-- THRM.GOV.STEP and CLK, the ladder step (16_thermal.md R687 (THRM.GOV)). -/
  step : Ladder
  /-- when the step last changed (16_thermal.md R688). -/
  stepSince : Option Nat
  /-- THRM.GOV.TMAX (16_thermal.md (THRM.GOV)). -/
  tmax : Option Int
  /-- THRM.EXCL (16_thermal.md R682 (THRM.EXCL)). -/
  excl : Word
  /-- the exclusions in force in the current frame (16_thermal.md R682, R693). -/
  exclNow : Word
  /-- THRM.THRESH (16_thermal.md R685 (THRM.THRESH)). -/
  thresh : Word
  /-- THRM.DIODE (16_thermal.md (THRM.DIODE)). -/
  diode : Word
  /-- THRM.LADCFG (16_thermal.md (THRM.LADCFG)). -/
  ladcfg : Word
  /-- THRM.PCAP (23_electrical.md R849). -/
  pcap : Word
  /-- the core clock in force: 0 3.0 GHz, 1 2.4 GHz, 2 1.8 GHz (16_thermal.md R690). -/
  clock : Nat
  /-- a clock change in progress (16_thermal.md R690). -/
  clockTarget : Option Nat
  /-- the throttle or cap part of the 100 us period holds the data channels XOFF (16_thermal.md R689). -/
  dutyHold : Bool
deriving DecidableEq, Repr

/-- Thrm right after reset. -/
def Thrm.reset : Thrm :=
  { save := false, sensors := [], tg := 0, source := 0, warn := false, throttle := false, shutdown := false,
    shutRun := 0, step := .s0, stepSince := none, tmax := none, excl := 0, exclNow := 0, thresh := 0x46E645F,
    diode := 0, ladcfg := 0xA064, pcap := 0, clock := 0, clockTarget := none, dutyHold := false }

/-- The incident in progress (R707 to R710). -/
structure Incident where
  /-- EVTR.INCCFG.ACTIVE (17_event_recorder.md R707). -/
  active : Bool
  /-- EVTR.INCCFG.LEVEL (17_event_recorder.md R707). -/
  level : Nat
  /-- when it began (17_event_recorder.md R707). -/
  since : Nat
  /-- records admitted in the incident (17_event_recorder.md R700 (INCEND)). -/
  admitted : Nat
  /-- records shed in the incident (17_event_recorder.md R700 (INCEND)). -/
  shed : Nat
  /-- the bookend buffer, newest first (17_event_recorder.md R708). -/
  bookend : List EvRec
  /-- records admitted in each of the last 10 ticks of 1 ms, newest first (17_event_recorder.md R710). -/
  ticks : List Nat
  /-- records admitted in the tick in progress (17_event_recorder.md R707). -/
  now : Nat
  /-- those of severity INFO and above (17_event_recorder.md R707). -/
  nowInfo : Nat
deriving DecidableEq, Repr

/-- Incident right after reset. -/
def Incident.reset : Incident :=
  { active := false, level := 0, since := 0, admitted := 0, shed := 0, bookend := [], ticks := [], now := 0,
    nowInfo := 0 }

/-- One cursor group (R711). -/
structure Cursor where
  /-- EVTR.CURSOR.SEQ (17_event_recorder.md R711 (EVTR.CURSOR)). -/
  seq : Nat
  /-- EVTR.CURSOR.SOURCE (17_event_recorder.md (EVTR.CURSOR)). -/
  source : Nat
  /-- position in the store of the window's first record (17_event_recorder.md R711). -/
  pos : Nat
  /-- the records in the window (WSTAT.COUNT, the record words) (17_event_recorder.md R711 (EVTR.WSTAT)). -/
  win : List EvRec
  /-- the window is not yet filled (WSTAT.READY is its inverse) (17_event_recorder.md R712 (EVTR.WSTAT)). -/
  filling : Bool
  /-- EVTR.WSTAT.LOST (17_event_recorder.md R711 (EVTR.WSTAT)). -/
  lost : Bool
deriving DecidableEq, Repr

/-- Cursor right after reset. -/
def Cursor.reset : Cursor :=
  { seq := 0, source := 0, pos := 0, win := [], filling := true, lost := false }

/-- EVTR, the event recorder. -/
structure Evtr where
  /-- EVTR.CTRL (TRACE, LOGSEV, LOGFLUSH) (17_event_recorder.md (EVTR.CTRL)). -/
  ctrl : Word
  /-- EVTR.CTRL.SAVE (17_event_recorder.md (EVTR.CTRL)). -/
  save : Bool
  /-- EVTR.SEQ.NEXT (always-on) (17_event_recorder.md R701 (EVTR.SEQ)). -/
  next : Nat
  /-- the reservation last written (R702) (17_event_recorder.md R702). -/
  reserve : Nat
  /-- EVTR.INCCFG.THRESH (17_event_recorder.md (EVTR.INCCFG)). -/
  inccfg : Word
  /-- EVTR.IMOD (17_event_recorder.md (EVTR.IMOD)). -/
  imod : Word
  /-- EVTR.SHED.TRACE (17_event_recorder.md (EVTR.SHED)). -/
  shedTrace : Nat
  /-- EVTR.SHED.INFO (17_event_recorder.md (EVTR.SHED)). -/
  shedInfo : Nat
  /-- EVTR.SUPP.COUNT (17_event_recorder.md (EVTR.SUPP)). -/
  supp : Nat
  /-- TRACE records shed since the last SUMMARY (17_event_recorder.md R709). -/
  sumTrace : Nat
  /-- INFO records shed since the last SUMMARY (17_event_recorder.md R709). -/
  sumInfo : Nat
  /-- records suppressed since the last SUMMARY, by code (17_event_recorder.md R709). -/
  sumSupp : Tbl Nat
  /-- EVTR.RCSEL (17_event_recorder.md (EVTR.RCSEL)). -/
  rcsel : Word
  /-- EVTR.RCFG of classes 1 to 7 (RATE, BURST) (17_event_recorder.md R706 (EVTR.RCFG)). -/
  rates : Tbl Word
  /-- EVTR.RCMAP, the class of each code (17_event_recorder.md R706 (EVTR.RCMAP)). -/
  rcmap : Tbl Nat
  /-- thousandths of tokens missing from each code's bucket (17_event_recorder.md R706). -/
  spent : Tbl Nat
  /-- the always-on ring, newest first (17_event_recorder.md R703). -/
  aonRing : List EvRec
  /-- records ever written to the always-on ring since VAON rose (17_event_recorder.md R711). -/
  aonCount : Nat
  /-- how many of them were made up to when the main ring last stopped (R877) (17_event_recorder.md R877). -/
  aonCopied : Nat
  /-- the main ring is running (17_event_recorder.md R703). -/
  mainRun : Bool
  /-- the main ring, newest first (17_event_recorder.md R703). -/
  mainRing : List EvRec
  /-- records written to the main ring since it started (17_event_recorder.md R711). -/
  mainCount : Nat
  /-- the long log's programmed records, newest first, padding included (17_event_recorder.md R704). -/
  log : List EvRec
  /-- records ever programmed into the long log (17_event_recorder.md R704). -/
  logCount : Nat
  /-- the long-log page being filled, newest first (17_event_recorder.md R704). -/
  logPage : List EvRec
  /-- when its first record was written (17_event_recorder.md R704). -/
  logSince : Nat
  /-- a long-log flush fell due in REST and waits for the wake (02_modes_and_starts.md R878). -/
  flushWait : Bool
  /-- pending critical copies, newest first (17_event_recorder.md R705). -/
  critPend : List EvRec
  /-- when the first of them became pending (17_event_recorder.md R705). -/
  critSince : Nat
  /-- the next critical-copy store page (17_event_recorder.md R705). -/
  critPage : Nat
  /-- highest sequence stored among the critical copies (17_event_recorder.md R705). -/
  critHigh : Option Nat
  /-- the incident (17_event_recorder.md R707). -/
  inc : Incident
  /-- the three cursor groups (17_event_recorder.md R711). -/
  cursors : Tbl Cursor
  /-- when NEWREC was last set (17_event_recorder.md R716). -/
  newrecAt : Option Nat
deriving DecidableEq, Repr

/-- Evtr right after reset. -/
def Evtr.reset : Evtr :=
  { ctrl := 0x3E82, save := false, next := 0, reserve := 0, inccfg := 0x100, imod := 0x2840, shedTrace := 0,
    shedInfo := 0, supp := 0, sumTrace := 0, sumInfo := 0, sumSupp := [], rcsel := 0, rates := [], rcmap := [],
    spent := [], aonRing := [], aonCount := 0, aonCopied := 0, mainRun := false, mainRing := [], mainCount := 0,
    log := [], logCount := 0, logPage := [], logSince := 0, flushWait := false, critPend := [], critSince := 0,
    critPage := 736, critHigh := none, inc := .reset, cursors := [], newrecAt := none }

/-- The image record (type 10) in force. -/
structure ImgRec where
  /-- SELECTED, BOOT.IMAGE.SELSLOT: 0 A, 1 B (19_firmware_and_identity.md (R770 and after)). -/
  selected : Nat
  /-- PREVIOUS (19_firmware_and_identity.md (R770 and after)). -/
  previous : Nat
  /-- TRIAL (19_firmware_and_identity.md (R770 and after)). -/
  trial : Bool
  /-- TRIALRUN (19_firmware_and_identity.md R767). -/
  trialrun : Bool
  /-- slot A valid, BOOT.IMAGE.VALID bit 30 (19_firmware_and_identity.md (R770 and after)). -/
  validA : Bool
  /-- slot B valid, bit 31 (19_firmware_and_identity.md (R770 and after)). -/
  validB : Bool
  /-- recovery slot valid, bit 32 (19_firmware_and_identity.md (BOOT.IMAGE)). -/
  validR : Bool
  /-- MINSVN in force, BOOT.MINSVN (19_firmware_and_identity.md (R770 and after)). -/
  minsvn : Nat
deriving DecidableEq, Repr

/-- ImgRec right after reset. -/
def ImgRec.reset : ImgRec :=
  { selected := 0, previous := 1, trial := false, trialrun := false, validA := true, validB := true, validR :=
    true, minsvn := 0 }

/-- The body of a Parameter Store record, by its type (18_parameter_store.md R720). `none` stands for the defaults its owning
chapters state, and for a body that the model cannot read. -/
inductive Rec where
  | none
  /-- Type 1: SNSCFG, UVTH, OVTH of the inputs (keys 0 to 27, 32 to 59, 64 to 91), the two tables, SEQCFG, PFWCFG, CAPCFG. -/
  | supervisor (inputs : Tbl Word) (up down : Tbl Word) (seqcfg pfwcfg capcfg : Word)
  /-- Type 2: THRM.EXCL, DIODE, THRESH, PCAP. -/
  | thermal (excl diode thresh pcap : Word)
  /-- Type 3: FTLM.HDRCFG, SYSC.DIRTYCFG, SYSC.HOLDUPCFG, DRMC.SCHED.MAXRATE by channel, RPLE.POOL.GIB. -/
  | hostcfg (hdrcfg dirtycfg holdupcfg : Word) (maxrate : Tbl Nat) (pool : Word)
  /-- Type 4: marks by channel and place (16 * m + i), each with the serial number it was learned on. -/
  | marks (m : Tbl (Nat × Nat))
  /-- Type 5: the SPD image of soldered-down DRAM. -/
  | board (image : List (BitVec 8))
  /-- Type 6: sequence reservation, rate classes, class map. -/
  | recorder (reserve : Nat) (rates : Tbl Word) (rcmap : Tbl Nat)
  /-- Type 7: soft-fuse entries. -/
  | soft (entries : List (Nat × Nat × Nat))
  /-- Type 8: ranges, device slot, start epoch. -/
  | protection (ranges : Tbl Range) (devslot epoch : Nat)
  /-- Type 9: the keys (wrapped in the store) and check values. -/
  | keys (slots : Tbl KSlot)
  /-- Type 10: the image record. -/
  | image (r : ImgRec)
  /-- Type 11: the digests of the two copies of the certificate store. -/
  | identity (digestA digestB : BitVec 512)
deriving DecidableEq, Repr

/-- One copy of a record as it lies in its pages. -/
structure RecCopy where
  /-- header bytes 0 to 1 (18_parameter_store.md R731). -/
  typ : Nat
  /-- header byte 2 (18_parameter_store.md R731). -/
  minor : Nat
  /-- header byte 3 (18_parameter_store.md R731). -/
  major : Nat
  /-- header bytes 4 to 7 (18_parameter_store.md R731). -/
  seq : Nat
  /-- the body (18_parameter_store.md R731). -/
  body : Rec
deriving DecidableEq, Repr

/-- RecCopy right after reset. -/
def RecCopy.reset : RecCopy :=
  { typ := 0, minor := 0, major := 1, seq := 0, body := .none }

/-- The management of one Parameter Store record type. -/
structure RecSlot where
  /-- the contents in force (the winning copy, with later host and controller changes) (18_parameter_store.md R733). -/
  winner : Rec
  /-- the sequence number of the winning copy (18_parameter_store.md R733). -/
  winSeq : Option Nat
  /-- copy B won (18_parameter_store.md R733). -/
  winB : Bool
  /-- a write of the record is queued or running (18_parameter_store.md R735). -/
  writing : Bool
  /-- one further write follows (merge) (18_parameter_store.md R735). -/
  again : Bool
  /-- start of the last host-caused write (18_parameter_store.md R735). -/
  hostAt : Option Nat
  /-- when a deferred host-caused write falls due (18_parameter_store.md R735). -/
  deferred : Option Nat
  /-- the other copy is to be rewritten after C7 (R736) (18_parameter_store.md R736). -/
  repair : Bool
  /-- the major version of the winning copy (18_parameter_store.md R733, R738). -/
  major : Nat
  /-- the copy that did not win is of an older major version and stays untouched until the health confirmation (18_parameter_store.md R738). -/
  old : Bool
deriving DecidableEq, Repr

/-- RecSlot right after reset. -/
def RecSlot.reset : RecSlot :=
  { winner := .none, winSeq := none, winB := false, writing := false, again := false, hostAt := none, deferred
    := none, repair := false, major := 1, old := false }

/-- One page write queued or running. -/
structure PageWrite where
  /-- the store page (18_parameter_store.md R728). -/
  page : Nat
  /-- its 256 bytes (18_parameter_store.md R728). -/
  data : List (BitVec 8)
  /-- it is the raw write (18_parameter_store.md R728). -/
  raw : Bool
  /-- the record copy it belongs to: first page, contents, last page of the copy (18_parameter_store.md R734). -/
  copy : Option (Nat × RecCopy × Bool)
  /-- highest sequence of a critical-copy page (17_event_recorder.md R705). -/
  crit : Option Nat
deriving DecidableEq, Repr

/-- PageWrite right after reset. -/
def PageWrite.reset : PageWrite :=
  { page := 0, data := [], raw := false, copy := none, crit := none }

/-- PSTO, the Parameter Store (always-on). -/
structure Psto where
  /-- the 262,144 bytes of the array, unlisted bytes 0xFF (18_parameter_store.md R718). -/
  bytes : List Host.Cell
  /-- the record copy in the pages that start at the key, while they hold one written by the controller (18_parameter_store.md R731). -/
  copies : Tbl (Option RecCopy)
  /-- the record types 1 to 11 (18_parameter_store.md R720). -/
  recs : Tbl RecSlot
  /-- the major version of the records that the image of the last start knows (18_parameter_store.md R733). -/
  major : Nat
  /-- the older major versions that it migrates from (18_parameter_store.md R738). -/
  migrates : List Nat
  /-- the page write running (PSTO.STAT.BUSY, WPAGE) (18_parameter_store.md R726 (PSTO.STAT)). -/
  running : Option PageWrite
  /-- page writes queued, oldest first (PSTO.STAT.QUEUED) (18_parameter_store.md R728 (PSTO.STAT)). -/
  queue : List PageWrite
  /-- internal page writes waiting at a full queue (18_parameter_store.md R728). -/
  waiting : List PageWrite
  /-- the recall running (PSTO.STAT.RECALL), at VAON rise or at C2 (18_parameter_store.md R724 (PSTO.STAT)). -/
  recalling : Option Recall
  /-- PSTO.PROT (18_parameter_store.md R723 (PSTO.PROT)). -/
  prot : Word
  /-- PSTO.CMD.OP (18_parameter_store.md (PSTO.CMD)). -/
  op : Nat
  /-- PSTO.CMD.GO (18_parameter_store.md (PSTO.CMD)). -/
  go : Bool
  /-- PSTO.CMD.RESULT (18_parameter_store.md (PSTO.CMD)). -/
  result : Nat
  /-- PSTO.CMD.PAGE (18_parameter_store.md (PSTO.CMD)). -/
  page : Nat
  /-- PSTO.DATA0 to DATA51 (18_parameter_store.md (PSTO.DATA)). -/
  data : Tbl Word
  /-- PSTO.WCOUNT.COUNT (18_parameter_store.md (PSTO.WCOUNT)). -/
  wcount : Nat
deriving DecidableEq, Repr

/-- Psto right after reset. -/
def Psto.reset : Psto :=
  { bytes := [], copies := [], recs := [], major := 1, migrates := [], running := none, queue := [], waiting :=
    [], recalling := none, prot := 2, op := 0, go := false, result := 0, page := 0, data := [], wcount := 0 }

/-- The header of an image (R746). -/
structure ImgHead where
  /-- N (19_firmware_and_identity.md R746). -/
  blocks : Nat
  /-- SVN (19_firmware_and_identity.md R746). -/
  svn : Nat
  /-- MINSVN (19_firmware_and_identity.md R746). -/
  minsvn : Nat
  /-- image version (19_firmware_and_identity.md R746). -/
  version : Nat
  /-- key set k (19_firmware_and_identity.md R746). -/
  keyset : Nat
  /-- flag RECOVERY (19_firmware_and_identity.md R746). -/
  recovery : Bool
  /-- REVOKE, one bit per key set (19_firmware_and_identity.md R746). -/
  revoke : Nat
deriving DecidableEq, Repr

/-- ImgHead right after reset. -/
def ImgHead.reset : ImgHead :=
  { blocks := 0, svn := 0, minsvn := 0, version := 0, keyset := 0, recovery := false, revoke := 0 }

/-- The open firmware transfer. -/
structure Xfer where
  /-- BOOT.XFER.ACTIVE (19_firmware_and_identity.md (BOOT.XFER)). -/
  active : Bool
  /-- BOOT.XFER.SLOT (19_firmware_and_identity.md (BOOT.XFER)). -/
  slot : Nat
  /-- BOOT.XFER.BLOCKS (19_firmware_and_identity.md (BOOT.XFER)). -/
  blocks : Nat
  /-- BOOT.XFER.IFACE (19_firmware_and_identity.md (BOOT.XFER)). -/
  iface : Nat
  /-- the offset the next part must carry (19_firmware_and_identity.md R761). -/
  next : Nat
  /-- when the last part arrived (19_firmware_and_identity.md R764). -/
  lastPart : Nat
deriving DecidableEq, Repr

/-- Xfer right after reset. -/
def Xfer.reset : Xfer :=
  { active := false, slot := 0, blocks := 0, iface := 0, next := 0, lastPart := 0 }

/-- A part of a firmware transfer that waits for the image record. -/
structure FwPart where
  /-- the interface that it answers (19_firmware_and_identity.md R760). -/
  iface : Nat
  /-- its data (19_firmware_and_identity.md R761). -/
  data : List (BitVec 8)
  /-- for a Full part, whether the block checks are correct and the signatures verify (19_firmware_and_identity.md R763). -/
  last : Option Bool
deriving DecidableEq, Repr

/-- FwPart right after reset. -/
def FwPart.reset : FwPart :=
  { iface := 0, data := [], last := none }

/-- BOOT, boot and update. -/
structure Boot where
  /-- the boot flash used by the controller (slots A, B, recovery, certificate stores), unlisted bytes 0xFF (19_firmware_and_identity.md R743). -/
  flash : List Host.Cell
  /-- the image record in force (19_firmware_and_identity.md R751). -/
  img : ImgRec
  /-- the running image's header (BOOT.IMAGE.VERSION, KEYSET, BOOT.SVN) (19_firmware_and_identity.md (BOOT.IMAGE)). -/
  run : ImgHead
  /-- BOOT.IMAGE.RUNSLOT (19_firmware_and_identity.md (BOOT.IMAGE)). -/
  runSlot : Nat
  /-- the verified image digest and its slot (always-on) (19_firmware_and_identity.md R752). -/
  digest : Option (BitVec 512 × Nat)
  /-- the digests of sections 1 to 3 as loaded, of section 4 and of the recovery image, fixed for the start (19_firmware_and_identity.md R754, R771). -/
  sections : List (BitVec 512)
  /-- measurements 2 and 7 as they stood when C4 took them: the key sets revoked, SRAM.REPAIR (19_firmware_and_identity.md R772). -/
  fixedMeas : List Nat
  /-- the hold of R99: SERVICE with the sideband as the only management path (02_modes_and_starts.md R99). -/
  recoveryHold : Bool
  /-- a confirmation waits for its record write (19_firmware_and_identity.md R766). -/
  confirming : Bool
  /-- BOOT.TRIAL.CONFIRMED (19_firmware_and_identity.md (BOOT.TRIAL)). -/
  confirmed : Bool
  /-- the trial timer's expiry in ticks of the always-on clock (BOOT.TRIAL.REMAIN) (19_firmware_and_identity.md R767 (BOOT.TRIAL)). -/
  trialDue : Option Nat
  /-- BOOT.TRIAL.EXPIRED (19_firmware_and_identity.md (BOOT.TRIAL)). -/
  trialExpired : Bool
  /-- the open transfer (19_firmware_and_identity.md R760). -/
  xfer : Xfer
  /-- BOOT.CORES.MEDIA (19_firmware_and_identity.md (BOOT.CORES)). -/
  mediaCores : Nat
  /-- BOOT.CORES.SEQ (19_firmware_and_identity.md (BOOT.CORES)). -/
  seqCores : Nat
  /-- stream sequencer cores lost in this start (19_firmware_and_identity.md R756). -/
  seqLost : List Nat
  /-- BOOT.CORES.RELOADS (19_firmware_and_identity.md (BOOT.CORES)). -/
  reloads : Nat
  /-- cores being reloaded: c for media core c, 8 + s for sequencer core s (19_firmware_and_identity.md R756). -/
  reloading : List Nat
  /-- when each core's last reload ended, plus 1 (19_firmware_and_identity.md R756). -/
  reloadAt : Tbl Nat
  /-- a Full or Initiate part waits for the image record's write, with its interface, data and outcome (19_firmware_and_identity.md R760). -/
  partWait : Option FwPart
  /-- the image record as it stands until a confirmation counts (always-on) (19_firmware_and_identity.md R766). -/
  voided : Option ImgRec
  /-- an Activate FW waits for its record write: the interface it answers (19_firmware_and_identity.md R765). -/
  activating : Option Nat
deriving DecidableEq, Repr

/-- Boot right after reset. -/
def Boot.reset : Boot :=
  { flash := [], img := .reset, run := .reset, runSlot := 0, digest := none, sections := [], fixedMeas := [],
    recoveryHold := false, confirming := false, confirmed := false, trialDue := none, trialExpired := false,
    xfer := .reset, mediaCores := 0, seqCores := 0, seqLost := [], reloads := 0, reloading := [], reloadAt :=
    [], partWait := none, voided := none, activating := none }

/-- One SPDM connection (I3C, PCIe VDM). -/
structure Spdm where
  /-- GET_VERSION has been answered (19_firmware_and_identity.md R773). -/
  version : Bool
  /-- GET_CAPABILITIES has been answered (19_firmware_and_identity.md R773). -/
  caps : Bool
  /-- NEGOTIATE_ALGORITHMS has been answered (19_firmware_and_identity.md R773). -/
  algs : Bool
  /-- the messages of the running transcript, newest first (19_firmware_and_identity.md R774). -/
  transcript : List (List (BitVec 8))
  /-- T, the transcript hash of the last Ed25519 signature (19_firmware_and_identity.md R774). -/
  lastT : Option (BitVec 512)
  /-- the previous request was a CHALLENGE or signed GET_MEASUREMENTS, or a CHUNK_GET of its response (19_firmware_and_identity.md R775). -/
  signedLast : Bool
  /-- the large request being sent in chunks (19_firmware_and_identity.md R773). -/
  inChunks : List (BitVec 8)
  /-- the large response being fetched in chunks (19_firmware_and_identity.md R773). -/
  outChunks : List (BitVec 8)
  /-- the handle of the last large response or request (19_firmware_and_identity.md R773). -/
  handle : Nat
  /-- the next chunk number of either (19_firmware_and_identity.md R773). -/
  chunkSeq : Nat
deriving DecidableEq, Repr

/-- Spdm right after reset. -/
def Spdm.reset : Spdm :=
  { version := false, caps := false, algs := false, transcript := [], lastT := none, signedLast := false,
    inChunks := [], outChunks := [], handle := 0, chunkSeq := 0 }

/-- IDNT, device identity. -/
structure Idnt where
  /-- IDNT.STAT.CERTA (19_firmware_and_identity.md (IDNT.STAT)). -/
  certA : Bool
  /-- IDNT.STAT.CERTB (19_firmware_and_identity.md (IDNT.STAT)). -/
  certB : Bool
  /-- IDNT.STAT.ALIAS (19_firmware_and_identity.md (IDNT.STAT)). -/
  aliased : Bool
  /-- the SPDM connections (19_firmware_and_identity.md R773). -/
  spdm : Tbl Spdm
deriving DecidableEq, Repr

/-- Idnt right after reset. -/
def Idnt.reset : Idnt :=
  { certA := false, certB := false, aliased := false, spdm := [] }

/-- A set of the time waiting for a PPS edge. -/
structure SetReq where
  /-- the value (20_cohort_and_time.md R789). -/
  time : Nat
  /-- it came from a TOD frame with this strand field, else from SETHI (20_cohort_and_time.md R793). -/
  frame : Option Nat
  /-- when it was submitted (20_cohort_and_time.md R790). -/
  at_ : Nat
deriving DecidableEq, Repr

/-- SetReq right after reset. -/
def SetReq.reset : SetReq :=
  { time := 0, frame := none, at_ := 0 }

/-- COHT, the cohort time base. -/
structure Coht where
  /-- the cohort time in 2^-32 of 250 ps (COHT.TIMELO, the 66-bit count is its upper part) (20_cohort_and_time.md R783). -/
  phase : Nat
  /-- COHT.TIMEHI.RUNNING (20_cohort_and_time.md R786 (COHT.TIMEHI)). -/
  running : Bool
  /-- COHT.TIMEHI as latched (20_cohort_and_time.md R788 (COHT.TIMEHI)). -/
  timehi : Word
  /-- COHT.SETLO (20_cohort_and_time.md (COHT.SETLO)). -/
  setlo : Word
  /-- COHT.SETHI.NS, FRAC, ATPPS (20_cohort_and_time.md (COHT.SETHI)). -/
  sethi : Word
  /-- COHT.SETHI.GO (20_cohort_and_time.md (COHT.SETHI)). -/
  setGo : Bool
  /-- COHT.SETHI.REFUSED (20_cohort_and_time.md (COHT.SETHI)). -/
  setRefused : Bool
  /-- the set waiting for an edge (20_cohort_and_time.md R790). -/
  setWait : Option SetReq
  /-- COHT.DISC (20_cohort_and_time.md (COHT.DISC)). -/
  disc : Word
  /-- COHT.DSTAT.STATE (20_cohort_and_time.md R794 (COHT.DSTAT)). -/
  dstate : DiscState
  /-- COHT.DSTAT.ERR (20_cohort_and_time.md (COHT.DSTAT)). -/
  err : Int
  /-- COHT.DSTAT.MISSED (20_cohort_and_time.md R795 (COHT.DSTAT)). -/
  missed : Nat
  /-- when the last edge was accepted (or discipline began) (20_cohort_and_time.md R795). -/
  lastEdge : Nat
  /-- edges rejected in a row (20_cohort_and_time.md R794). -/
  glitches : Nat
  /-- edges within WINDOW in a row (20_cohort_and_time.md R794). -/
  good : Nat
  /-- the discipline's integral, in 2^-15 of 250 ps units per second so that every shift of KI is exact (20_cohort_and_time.md R794). -/
  integ : Int
  /-- f of R794, in 2^-15 of 250 ps units per second (20_cohort_and_time.md R794). -/
  rate : Int
  /-- COHT.MEMBER.ID and VALID (20_cohort_and_time.md R797 (COHT.MEMBER)). -/
  member : Word
  /-- COHT.MEMBER.PEER (20_cohort_and_time.md R799 (COHT.MEMBER)). -/
  peer : Nat
  /-- COHT.MEMBER.PEERVALID (20_cohort_and_time.md R799 (COHT.MEMBER)). -/
  peerValid : Bool
  /-- COHT.COHORT (20_cohort_and_time.md R797 (COHT.COHORT)). -/
  cohort : Word
  /-- COHT.TRIGCFG (20_cohort_and_time.md (COHT.TRIGCFG)). -/
  trigcfg : Word
  /-- COHT.TRIGSTAT.IN (20_cohort_and_time.md (COHT.TRIGSTAT)). -/
  trigIn : Nat
  /-- COHT.TRIGSTAT.MERGED (20_cohort_and_time.md (COHT.TRIGSTAT)). -/
  merged : Nat
  /-- COHT.TRIGSTAT.LATEOUT (20_cohort_and_time.md (COHT.TRIGSTAT)). -/
  lateOut : Nat
  /-- the scheduled rises of TRIG_OUT, earliest first, cohort time (20_cohort_and_time.md R801). -/
  outRise : List Nat
  /-- TRIG_OUT is driven high (20_cohort_and_time.md R801). -/
  outHigh : Bool
  /-- the rise of the pulse being driven or last driven (20_cohort_and_time.md R802). -/
  outStart : Nat
  /-- a pulse has been driven (20_cohort_and_time.md R802). -/
  outEver : Bool
  /-- when the last counted TRIG_IN edge came, on the model's clock in 250 ps units (20_cohort_and_time.md R803). -/
  lastIn : Option Nat
deriving DecidableEq, Repr

/-- Coht right after reset. -/
def Coht.reset : Coht :=
  { phase := 0, running := false, timehi := 0, setlo := 0, sethi := 0, setGo := false, setRefused := false,
    setWait := none, disc := 0xFA0002842, dstate := .free, err := 0, missed := 0, lastEdge := 0, glitches := 0,
    good := 0, integ := 0, rate := 0, member := 0, peer := 0, peerValid := false, cohort := 0, trigcfg :=
    0x91F40028C8, trigIn := 0, merged := 0, lateOut := 0, outRise := [], outHigh := false, outStart := 0,
    outEver := false, lastIn := none }

end Sys2Proof.Machine
end

