-- ==== Sys2Proof/Machine/Crypto.lean ====
section
/-!
DEFINITION. What is derived from keys: subkeys, check values, and the keys of the touchmark secret (14_memory_protection.md R588 to R590,
19_firmware_and_identity.md R768). AES-256, GHASH, GCM, the KDF and key wrap are uninterpreted (log 9).
-/
namespace Sys2Proof.Machine

/-- The characters of a label as bytes. -/
def label (l : String) : List (BitVec 8) := l.toList.map fun c => BitVec.ofNat 8 c.toNat

/-- The key check value: bits [39:0] of AES-256 encryption of the all-zero block under the key (R589). -/
def checkValue (key : BitVec 256) : BitVec 40 := (Config.aes256 key 0).setWidth 40

/-- A slot with a key loaded: the three subkeys are derived from it, and the hash key H_L from K_L (R588, R589). -/
def KSlot.ofKey (key : BitVec 256) (volatile_ generated : Bool) : KSlot :=
  let kL := Config.kdf key (label "LMAC")
  { st := .loaded, volatile_ := volatile_, generated := generated, key := key, kD := Config.kdf key (label "DRAM"), kL := kL,
    kM := Config.kdf key (label "MEDIA"), hL := Config.aes256 kL 0, kcv := checkValue key }

/-- A key of the touchmark secret (19_firmware_and_identity.md R768). -/
def Fuse.derive (f : Fuse) (name : List (BitVec 8)) : BitVec 256 := Config.kdf f.secret name

/-- The wrapping key of persistent keys (R590; 19_firmware_and_identity.md R768). -/
def Fuse.wrapKey (f : Fuse) : BitVec 256 := f.derive (label "TM-WRAP")

/-- A persistent key as its record in the Parameter Store holds it: wrapped (R590). -/
def Fuse.wrapped (f : Fuse) (k : KSlot) : BitVec 320 := Config.keyWrap f.wrapKey k.key

/-- The seed of the identity key pair of an algorithm, 0 Ed25519 and 1 ML-DSA-65 (19_firmware_and_identity.md R768). -/
def Fuse.idSeed (f : Fuse) (alg : Nat) : BitVec 256 := f.derive (label (if alg = 0 then "TM-ID-ED" else "TM-ID-PQ"))

/-- The seed of the alias key pair of an algorithm, under the verified digest D (19_firmware_and_identity.md R768). -/
def Fuse.aliasSeed (f : Fuse) (alg : Nat) (d : BitVec 512) : BitVec 256 :=
  f.derive (label (if alg = 0 then "TM-AL-ED" else "TM-AL-PQ") ++ (bytesLE 64 d.toNat).map (BitVec.ofNat 8 ·))

end Sys2Proof.Machine
end

