-- ==== Sys2Proof/Machine/Ecc.lean ====
section
/-!
DEFINITION. The line in DRAM and its check code (06_dram_tier.md R252 to R256).
-/
namespace Sys2Proof.Machine

/-! ### The field GF(2^8) (R253) -/

/-- Multiplication by alpha modulo x^8 + x^4 + x^3 + x^2 + 1. -/
def gfDouble (a : Nat) : Nat := if a < 128 then 2 * a else (2 * a) ^^^ 0x11D

/-- Multiplication. -/
def gfMul (a b : Nat) : Nat :=
  ((List.range 8).foldl (fun (x : Nat × Nat) i => (if b.testBit i then x.1 ^^^ x.2 else x.1, gfDouble x.2)) (0, a)).1

/-- alpha^n. -/
def gfPow : Nat → Nat
  | 0 => 1
  | n + 1 => gfDouble (gfPow n)

/-! ### The Reed-Solomon code (R253) -/

/-- A polynomial, highest power first, times x - r. -/
def rsTimes (g : List Nat) (r : Nat) : List Nat := (g ++ [0]).zipWith (· ^^^ ·) (0 :: g.map (gfMul r))

/-- The generator, with roots alpha^0 to alpha^7. -/
def rsGenerator : List Nat := (List.range 8).foldl (fun g i => rsTimes g (gfPow i)) [1]

/-- The 8 check symbols of the 72 information symbols, the ciphertext and then the MAC, the first of which has the highest power (log 98). -/
def rsCheck (info : List Nat) : List Nat :=
  info.foldl (fun r d => (r.drop 1 ++ [0]).zipWith (· ^^^ ·) ((rsGenerator.drop 1).map (gfMul (d ^^^ r.headD 0)))) (List.replicate 8 0)

/-- The codeword of a line: 64 bytes of ciphertext, 8 of MAC, 8 check symbols. -/
def rsCodeword (ct mac : List Nat) : List Nat := ct ++ mac ++ rsCheck (ct ++ mac)

/-- The syndromes of a received word: all 0 for a codeword. -/
def rsSyndromes (w : List Nat) : List Nat := (List.range 8).map fun i => w.foldl (fun a d => gfMul a (gfPow i) ^^^ d) 0

/-! ### Nibbles and beats (R252) -/

/-- The place in the codeword of symbol (n, k), carried on nibble n in beats 2k and 2k + 1. -/
def symbolAt (n k : Nat) : Nat := if n < 8 then 8 * n + k else if k < 4 then 64 + 4 * (n - 8) + k else 72 + 4 * (n - 8) + (k - 4)

/-- A codeword as the 16 beats of a burst: nibble n is bits [4n+3:4n], nibbles 8 and 9 the check bits; an even beat carries bits [3:0] of its
symbols. -/
def dramBeats (w : List Nat) : List (BitVec 40) :=
  (List.range 16).map fun t => BitVec.ofNat 40 (pack ((List.range 10).map fun n => (4, w.getD (symbolAt n (t / 2)) 0 / 16 ^ (t % 2) % 16)))

/-! ### Decoding (R254 to R256) -/

/-- The error word of a burst: by symbol, nibble and place, what was read differs from what stands there by. The stored word being a codeword,
its syndromes are those of the received word. -/
def errorWord (errs : List (Nat × Nat × Nat)) : List Nat :=
  (errs.filter fun e => decide (e.1 < 10 ∧ e.2.1 < 8)).foldl (fun w e => w.set (symbolAt e.1 e.2.1) (w.getD (symbolAt e.1 e.2.1) 0 ^^^ e.2.2 % 256))
    (List.replicate 80 0)

/-- The nibbles with a wrong symbol, each with how many. -/
def wrongNibbles (errs : List (Nat × Nat × Nat)) : List (Nat × Nat) :=
  let w := errorWord errs
  ((List.range 10).map fun n => (n, ((List.range 8).filter fun k => w.getD (symbolAt n k) 0 ≠ 0).length)).filter fun x => x.2 ≠ 0

/-- What the decoding of a burst comes to. -/
inductive DramRead where
  /-- No error. -/
  | clean
  /-- Up to 4 symbols corrected: the nibbles, each with how many. -/
  | corrected (nibbles : List (Nat × Nat))
  /-- Only symbols of the marked nibble were wrong; they are reconstructed. -/
  | erased
  /-- Detected, and not corrected; `nibble` holds every wrong symbol, if one does. -/
  | lost (nibble : Option Nat)
deriving DecidableEq, Repr

/-- A burst decoded: normally up to 4 wrong symbols are corrected; in erasure mode the marked nibble is reconstructed and nothing else corrected;
whatever else is wrong is detected by the code or by the MAC (R254, R255). -/
def dramDecode (mark : Option Nat) (errs : List (Nat × Nat × Nat)) : DramRead :=
  let bad := wrongNibbles errs
  let only := match bad with | [x] => some x.1 | _ => none
  if bad.isEmpty && (rsSyndromes (errorWord errs)).all (· = 0) then .clean
  else match mark with
    | none => if bad.foldl (fun n x => n + x.2) 0 ≤ 4 then .corrected bad else .lost only
    | some n => if only = some n then .erased else .lost only

end Sys2Proof.Machine
end

