-- ==== Sys2Proof/Machine/Chip.lean ====
section
/-!
DEFINITION. What the part fixes: the unit counts of the family (00_scope.md R1, 03_registers_and_hallmark.md R121) and the
block pages with their types, places and vectors (R133).
-/
namespace Sys2Proof.Machine

/-- A register block with its number. -/
inductive Block where
  | hall | sysc | rest | pseq | thrm | evtr | psto | boot | idnt | coht | sram | cxlp | mbox | ilkn | kspe
  | ingp (p : Nat) | strd | rple | qrye | mprt | ftlm | plan | drmc (m : Nat) | ncch (s : Nat) | mclu (c : Nat) | onfc (n : Nat)
deriving DecidableEq, Repr

/-- ONFI channels fused in. -/
def Part.channels : Part → Nat | .p4860 => 48 | .p4830 => 32 | .p4815 => 16
/-- The most dies the part can address. -/
def Part.dies (p : Part) : Nat := 16 * p.channels
/-- Media clusters. -/
def Part.clusters (p : Part) : Nat := p.channels / 8
/-- DRAM channels. -/
def Part.dramChannels : Part → Nat | .p4860 => 8 | .p4830 => 4 | .p4815 => 2
/-- Near-cache slices. -/
def Part.slices : Part → Nat | .p4860 => 16 | .p4830 => 8 | .p4815 => 4
/-- Interlaken lanes. -/
def Part.lanes : Part → Nat | .p4860 => 16 | .p4830 => 8 | .p4815 => 4
/-- CXL lanes. -/
def Part.cxlWidth : Part → Nat | .p4815 => 8 | _ => 16
/-- Strands. -/
def Part.strands : Part → Nat | .p4860 => 262144 | .p4830 => 131072 | .p4815 => 65536
/-- Most DRAM in GiB. -/
def Part.maxGib : Part → Nat | .p4860 => 1024 | .p4830 => 512 | .p4815 => 256
/-- Least DRAM in GiB. -/
def Part.minGib : Part → Nat | .p4860 => 128 | .p4830 => 64 | .p4815 => 32
/-- HALL.PART.PARTNO (R120). -/
def Part.number : Part → Nat | .p4860 => 0x12FC | .p4830 => 0x12DE | .p4815 => 0x12CF

/-- The BAR0 offset of a block page divided by 4 KiB, which is also its event source number (R133, R112). -/
def Block.page : Block → Nat
  | .hall => 0 | .sysc => 1 | .rest => 2 | .pseq => 3 | .thrm => 4 | .evtr => 5 | .psto => 6 | .boot => 7 | .idnt => 8
  | .coht => 9 | .sram => 10 | .cxlp => 0x10 | .mbox => 0x11 | .ilkn => 0x20 | .kspe => 0x21 | .ingp p => 0x22 + p
  | .strd => 0x26 | .rple => 0x27 | .qrye => 0x28 | .mprt => 0x30 | .ftlm => 0x31 | .plan => 0x32 | .drmc m => 0x34 + m
  | .ncch s => 0x40 + s | .mclu c => 0x100 + 0x10 * c | .onfc n => 0x100 + 0x10 * (n / 8) + 1 + n % 8

/-- The block type code (R133). -/
def Block.typ : Block → Nat
  | .hall => 1 | .sysc => 2 | .rest => 3 | .pseq => 4 | .thrm => 5 | .evtr => 6 | .psto => 7 | .boot => 8 | .idnt => 9
  | .coht => 0xA | .sram => 0xB | .cxlp => 0x10 | .mbox => 0x11 | .ilkn => 0x20 | .kspe => 0x21 | .ingp _ => 0x22
  | .strd => 0x23 | .rple => 0x24 | .qrye => 0x25 | .mprt => 0x30 | .ftlm => 0x31 | .plan => 0x32 | .drmc _ => 0x33
  | .ncch _ => 0x34 | .mclu _ => 0x40 | .onfc _ => 0x41

/-- The number of the block within its type (R133). -/
def Block.inst : Block → Nat
  | .ingp p => p | .drmc m => m | .ncch s => s | .mclu c => c | .onfc n => n | _ => 0

/-- BLKID.CLUSTER (R112, R133). -/
def Block.cluster : Block → Nat
  | .cxlp => 1 | .mbox => 1 | .ilkn => 2 | .kspe => 2 | .ingp _ => 2 | .strd => 2 | .rple => 2 | .qrye => 2 | .mprt => 3
  | .ftlm => 3 | .plan => 3 | .drmc _ => 3 | .ncch _ => 3 | .mclu c => 4 + c | .onfc n => 4 + n / 8 | _ => 0

/-- The MSI-X vector of the block (R133). -/
def Block.vec : Block → Nat
  | .hall => 7 | .sysc => 0 | .rest => 0 | .pseq => 4 | .thrm => 5 | .evtr => 3 | .psto => 6 | .boot => 6 | .idnt => 6
  | .coht => 7 | .sram => 7 | .cxlp => 2 | .mbox => 1 | .ilkn => 8 | .kspe => 8 | .ingp p => 9 + p | .strd => 13
  | .rple => 14 | .qrye => 15 | .mprt => 32 | .ftlm => 33 | .plan => 33 | .drmc m => 34 + m | .ncch s => 16 + s
  | .mclu c => 42 + c | .onfc n => 42 + n / 8

/-- The event family of the block (17_event_recorder.md R697). -/
def Block.family (b : Block) : Nat := if b.typ < 0x40 then b.typ else if b.typ = 0x40 then 0x3E else 0x3F

/-- The block pages of one media cluster. -/
def clusterPages (c : Nat) : List Block := .mclu c :: (List.range 8).map fun i => .onfc (8 * c + i)

/-- The block pages present on the part, by rising page offset: the entries of the Hallmark table in order (R124, R134). -/
def directory (p : Part) : List Block :=
  [.hall, .sysc, .rest, .pseq, .thrm, .evtr, .psto, .boot, .idnt, .coht, .sram, .cxlp, .mbox, .ilkn, .kspe,
   .ingp 0, .ingp 1, .ingp 2, .ingp 3, .strd, .rple, .qrye, .mprt, .ftlm, .plan] ++
  (List.range p.dramChannels).map .drmc ++ (List.range p.slices).map .ncch ++
  (List.range p.clusters).flatMap clusterPages

/-- The block of a page on the part, if the Hallmark table lists it. -/
def blockAt (p : Part) (page : Nat) : Option Block := (directory p).find? fun b => b.page = page

/-- The blocks whose READY and registers live in the always-on domain (R867). -/
def Block.alwaysOn : Block → Bool | .pseq => true | .psto => true | _ => false

end Sys2Proof.Machine
end

