-- ==== Sys2Proof/Machine/Codes.lean ====
section
/-!
DEFINITION. The codes that the registers show for the enumerations of the state.
-/
namespace Sys2Proof.Machine

/-- The code of a major mode (02_modes_and_starts.md R48). -/
def Mode.code : Mode → Nat
  | .dormant => 0 | .starting => 1 | .service => 2 | .memory => 3 | .stream => 4 | .rest => 5 | .quench => 6 | .safe => 7

/-- The code of a rest level (02_modes_and_starts.md SYSC.MODE). -/
def Level.code : Level → Nat | .none => 0 | .doze => 1 | .nap => 2 | .slumber => 3

/-- PSEQ.SEQSTAT.PHASE (15_power_supervision.md). -/
def Phase.code : Phase → Nat
  | .dormReleased => 0 | .dormHolding => 1 | .powerUp => 2 | .complete => 3 | .shutJoint => 4 | .shutDetached => 5
  | .faultHold => 6

/-- NCCH.STAT.CSTATE (05_near_cache.md). -/
def CState.code : CState → Nat | .enabled => 0 | .draining => 1 | .disabled => 2 | .bypass => 3

/-- DRMC.STAT.CSTATE (06_dram_tier.md). -/
def DState.code : DState → Nat | .training => 0 | .active => 1 | .selfRefresh => 2 | .retired => 3

/-- ONFC.STAT.CSTATE (09_media_bus.md). -/
def ChState.code : ChState → Nat | .training => 0 | .active => 1 | .disabled => 2 | .retired => 3

/-- The state code of a strand (12_capture.md R487). -/
def SState.code : SState → Nat | .free => 0 | .idle => 1 | .scheduled => 2 | .armed => 3 | .running => 4 | .done => 5

/-- The state code of a replay slot (13_replay_and_query.md R548). -/
def RState.code : RState → Nat | .unbound => 0 | .bound => 1 | .loading => 2 | .waiting => 3 | .running => 4 | .done => 5

/-- MPRT.KSTAT.STATE (14_memory_protection.md). -/
def KState.code : KState → Nat | .empty => 0 | .loaded => 1 | .absent => 2 | .retiring => 3

/-- COHT.DSTAT.STATE (20_cohort_and_time.md). -/
def DiscState.code : DiscState → Nat | .free => 0 | .acquiring => 1 | .locked => 2 | .holdover => 3

/-- The step number of the ladder (16_thermal.md THRM.GOV.STEP). -/
def Ladder.code : Ladder → Nat | .s0 => 0 | .s1 => 1 | .s2 => 2 | .s3fast => 3 | .s3slow => 3 | .s4 => 4

end Sys2Proof.Machine
end

