-- ==== Sys2Proof/Machine/State.lean ====
section
/-!
DEFINITION. The state of the controller as plain data, the two reasons a step could stop, and the state right after reset.
-/
namespace Sys2Proof.Machine

/-- The whole controller. -/
structure State where
  /-- the die's fuses and straps (00_scope.md R1). -/
  fuse : Fuse
  /-- SYSC (02_modes_and_starts.md R48). -/
  sysc : Sysc
  /-- REST (02_modes_and_starts.md R66). -/
  rest : RestG
  /-- HALL and the common headers (03_registers_and_hallmark.md R112). -/
  hall : Hall
  /-- CXLP (04_host_port.md R137). -/
  cxlp : Cxlp
  /-- MBOX (04_host_port.md R184). -/
  mbox : Mbox
  /-- NCCH (05_near_cache.md R193). -/
  ncch : Ncch
  /-- SRAM (05_near_cache.md R237). -/
  sram : Sram
  /-- DRMC m, the DRAM channels (06_dram_tier.md R247). -/
  drmc : Tbl Drmc
  /-- the DRAM tier (01_architecture.md R27). -/
  tier : Tier
  /-- FTLM (07_translation.md R290). -/
  ftlm : Ftlm
  /-- the NAND media (07_translation.md R297). -/
  media : Media
  /-- the media clusters (08_media_reliability.md R349, 09_media_bus.md R387). -/
  clus : Clus
  /-- PLAN (08_media_reliability.md R365). -/
  plan : Plan
  /-- SYSC's persistence part (10_persistence.md R415). -/
  pers : Pers
  /-- the always-on domain (01_architecture.md R21). -/
  aon : Aon
  /-- ILKN (11_ingest_port.md R453). -/
  ilkn : Ilkn
  /-- KSPE (11_ingest_port.md R468). -/
  kspe : Kspe
  /-- INGP p, the four ingest pipes (12_capture.md R507). -/
  ingp : Tbl Pipe
  /-- STRD (12_capture.md R487). -/
  strd : Strd
  /-- RPLE (13_replay_and_query.md R545). -/
  rple : Rple
  /-- QRYE (13_replay_and_query.md R575). -/
  qrye : Qrye
  /-- MPRT (14_memory_protection.md R585). -/
  mprt : Mprt
  /-- PSEQ (15_power_supervision.md R638). -/
  pseq : Pseq
  /-- THRM (16_thermal.md R678). -/
  thrm : Thrm
  /-- EVTR (17_event_recorder.md R695). -/
  evtr : Evtr
  /-- PSTO (18_parameter_store.md R718). -/
  psto : Psto
  /-- BOOT (19_firmware_and_identity.md R743). -/
  boot : Boot
  /-- IDNT (19_firmware_and_identity.md R768). -/
  idnt : Idnt
  /-- COHT (20_cohort_and_time.md R783). -/
  coht : Coht
  /-- event records raised by the command in progress and not yet numbered, newest first; none between commands (the model's own) (17_event_recorder.md R715). -/
  raised : List EvRec
  /-- what the controller has sent to the outside, newest first (the model's own trace). -/
  out : List Out
  /-- how many free values have been used (the model's own counter). -/
  free : Nat
  /-- the commands that wait, first in, first out (the model's own queue). -/
  pending : List Instr
deriving DecidableEq, Repr

/-- State right after reset. -/
def State.reset : State :=
  { fuse := .reset, sysc := .reset, rest := .reset, hall := .reset, cxlp := .reset, mbox := .reset, ncch :=
    .reset, sram := .reset, drmc := [], tier := .reset, ftlm := .reset, media := .reset, clus := .reset, plan :=
    .reset, pers := .reset, aon := .reset, ilkn := .reset, kspe := .reset, ingp := [], strd := .reset, rple :=
    .reset, qrye := .reset, mprt := .reset, pseq := .reset, thrm := .reset, evtr := .reset, psto := .reset, boot
    := .reset, idnt := .reset, coht := .reset, raised := [], out := [], free := 0, pending := [] }

/-- Why the machine could stop with a fault. The controller has no such case: every command is given an effect (an effect on
registers, media or answers, or none), so this type has no constructor. -/
inductive Fault where
deriving DecidableEq, Repr

/-- Why a command could have no meaning in this model. -/
inductive Refusal where
  /-- The command has no meaning in this model yet: raised only by an arm of `exec`; safe, since the machine stops there. -/
  | notModelled (mnemonic : String)
deriving DecidableEq, Repr

end Sys2Proof.Machine
end

