-- ==== Sys2Proof/Machine/Status.lean ====
section
/-!
DEFINITION. What the machine shows of itself: time, headers, live counts, capability words and status words. Each is a
function of the state, so that a register that reports something never disagrees with it.
-/
namespace Sys2Proof.Machine

/-- Nanoseconds that have passed, the model's clock for intervals. -/
def State.now (s : State) : Nat := s.aon.uptime

/-- The cohort time in 250 ps units (20_cohort_and_time.md R783). -/
def State.cohort (s : State) : Nat := s.coht.phase / 2 ^ 32 % 2 ^ 66

/-- The cohort time in nanoseconds. -/
def State.cohortNs (s : State) : Nat := s.cohort / 4

/-- The header of a block page. -/
def State.hdr (s : State) (b : Block) : Hdr := tget Hdr.reset s.hall.hdrs b.page

/-- SYSC serves its registers: it is ready, or the boot ROM serves it in the hold of 02_modes_and_starts.md R99
(19_firmware_and_identity.md R779). -/
def State.syscServed (s : State) : Bool := (s.hdr .sysc).ready || s.boot.recoveryHold

/-- The blocks present. -/
def State.blocks (s : State) : List Block := directory s.fuse.part

/-- The parts of repeated blocks, each at its reset where nothing is listed. -/
def State.pipe (s : State) (p : Nat) : Pipe := tget Pipe.reset s.ingp p
/-- One DRAM channel. -/
def State.dram (s : State) (m : Nat) : Drmc := tget Drmc.reset s.drmc m
/-- One near-cache slice. -/
def State.slice (s : State) (i : Nat) : Slice := tget Slice.reset s.ncch.slices i
/-- One media cluster. -/
def State.cluster (s : State) (c : Nat) : Mclu := tget Mclu.reset s.clus.mclu c
/-- One ONFI channel. -/
def State.chan (s : State) (n : Nat) : Onfc := tget Onfc.reset s.clus.onfc n
/-- One die. -/
def State.die (s : State) (d : Nat) : Die := tget Die.reset s.clus.dies d
/-- One strand. -/
def State.strand (s : State) (n : Nat) : Strand := tget Strand.reset s.strd.strands n
/-- One replay slot. -/
def State.slot (s : State) (n : Nat) : Slot := tget Slot.reset s.rple.slots n
/-- One key slot. -/
def State.kslot (s : State) (n : Nat) : KSlot := tget KSlot.reset s.mprt.slots n
/-- One protection range. -/
def State.range (s : State) (n : Nat) : Range := tget Range.reset s.mprt.ranges n
/-- One record type of the Parameter Store. -/
def State.record (s : State) (t : Nat) : RecSlot := tget RecSlot.reset s.psto.recs t

/-- A die in service. -/
def Die.live (d : Die) : Bool := d.found && d.insvc && !d.retired

/-- A channel in service. -/
def Onfc.live (c : Onfc) : Bool := c.cstate = .active

/-- A DRAM channel in service: trained and not retired. -/
def Drmc.inService (c : Drmc) : Bool := c.cstate = .active || c.cstate = .selfRefresh

/-- A media cluster in service. -/
def State.clusterLive (s : State) (c : Nat) : Bool :=
  let h := s.hdr (.mclu c); h.ready && !h.outsvc && !(s.cluster c).lost

/-- The dies listed in service, on channels in service, by number. -/
def State.liveDies (s : State) : List Nat := (s.clus.dies.filter fun e => e.2.live && (s.chan (e.1 / 16)).live).map (·.1)

/-- The channels in service, by number. -/
def State.liveChans (s : State) : List Nat := (s.clus.onfc.filter fun e => e.2.live).map (·.1)

/-- The DRAM channels in service. -/
def State.liveDrams (s : State) : List Nat := (s.drmc.filter fun e => e.2.inService).map (·.1)

/-- The near-cache slices in service. -/
def State.liveSlices (s : State) : List Nat :=
  (s.ncch.slices.filter fun e => e.2.live && !(s.hdr (.ncch e.1)).outsvc).map (·.1)

/-- The live strand count. -/
def State.strandCount (s : State) : Nat := s.fuse.part.strands

/-- Lanes that passed the last CXL training (R868). -/
def State.cxlLanes (s : State) : Nat := if s.cxlp.capWidth = 0 then s.fuse.part.cxlWidth else s.cxlp.capWidth

/-- Width of the bundle last formed (R868). -/
def State.ilknLanes (s : State) : Nat := if s.ilkn.kept = 0 then s.fuse.part.lanes else s.ilkn.kept

/-- HALL.LIVE0 (03_registers_and_hallmark.md R121, R868). -/
def State.live0 (s : State) : Word :=
  packW [(6, s.liveChans.length), (10, s.liveDies.length),
    (3, ((List.range s.fuse.part.clusters).filter s.clusterLive).length), (4, s.liveDrams.length), (5, s.liveSlices.length),
    (6, 32), (5, 16)]

/-- HALL.LIVE1 (R121, R868). -/
def State.live1 (s : State) : Word :=
  packW [(19, s.strandCount), (3, 4), (2, 2 - s.boot.seqLost.length), (5, s.ilknLanes), (5, s.cxlLanes)]

/-- HALL.LIVE2 (R121). -/
def State.live2 (s : State) : Word := packW [(11, s.tier.liveGib), (1, 0), (16, s.hall.gen)]

/-- HALL.FUSE0 (R121). -/
def Part.fuse0 (p : Part) : Word :=
  packW [(6, p.channels), (10, p.dies), (3, p.clusters), (4, p.dramChannels), (5, p.slices), (6, 32), (5, 16)]
/-- HALL.FUSE1 (R121). -/
def Part.fuse1 (p : Part) : Word := packW [(19, p.strands), (3, 4), (2, 2), (5, p.lanes), (5, p.cxlWidth)]
/-- HALL.FUSE2 (R121). -/
def Part.fuse2 (p : Part) : Word := packW [(11, p.maxGib)]

/-- A profile that states everything the media bounds need (08_media_reliability.md R375). -/
def boundOk (p : Profile) : Bool := decide (p.tR ≤ 24000 ∧ p.suspP ≤ 3000 ∧ p.suspE ≤ 3000) && p.page16

/-- Quench reserve blocks per die (07_translation.md R308). -/
def State.quenchBlocks (s : State) : Nat := max 2 (ceilDiv 65536 (max 1 s.liveDies.length * 15))

/-- BLKCAP of a block, which is also the CAP slot of its entry (03_registers_and_hallmark.md R113). -/
def State.cap (s : State) : Block → Word
  | .cxlp => packW [(5, s.cxlLanes), (2, s.cxlp.capRate), (4, 8), (7, 64), (1, 1), (1, 1), (1, 1)]
  | .ncch _ => packW [(5, 16), (13, 4096), (7, 64), (6, 32), (1, b2n (s.fuse.part = .p4860)), (1, 1)]
  | .drmc m => let d := s.dram m
    if d.cstate = .training then 0 else
    packW [(2, d.rate), (2, d.form), (1, b2n d.x8), (2, d.ranks), (8, d.gib), (1, b2n (!d.x8)), (1, b2n d.drfm)]
  | .ftlm => match s.ftlm.profile with
    | none => 0
    | some p => packW [(5, s.ftlm.width), (13, p.densePpb), (13, p.slcPpb), (5, s.quenchBlocks)]
  | .onfc n => let c := s.chan n
    let dies := (s.liveDies.filter fun d => d / 16 = n).length
    match c.profile with
    | none => packW [(5, dies)]
    | some p => packW [(5, dies), (1, b2n (boundOk p)), (16, p.pid)]
  | .ilkn => packW [(5, s.fuse.part.lanes), (5, if s.ilkn.up then s.ilkn.width else 0), (1, 1)]
  | .rple => packW [(7, 64)]
  | .mprt => packW [(6, 32), (5, 16), (1, 1)]
  | .psto => packW [(11, 1024), (9, 256)]
  | _ => 0

/-- Lines of a slice's ways that are locked out (05_near_cache.md NCCH.STAT.LOCKED). -/
def Slice.lockedWays (c : Slice) : Nat := (c.ways.filter fun e => e.2.locked).length

/-- Page writes queued in the Parameter Store, raw one included (18_parameter_store.md PSTO.STAT.QUEUED). -/
def Psto.queued (p : Psto) : Nat := p.queue.length

/-- STAT of a block (03_registers_and_hallmark.md CTRL and STAT, and each block's chapter). -/
def State.stat (s : State) (b : Block) : Word :=
  let h := s.hdr b
  let rw := [(1, b2n h.ready), (1, b2n h.outsvc)]
  match b with
  | .ncch i => let c := s.slice i
    packW (rw ++ [(2, c.cstate.code), (7, c.miss.length), (6, c.victims.length), (7, c.lockedWays)])
  | .drmc m => let d := s.dram m
    packW (rw ++ [(2, d.cstate.code), (1, b2n (0 ∈ d.wdrain)), (1, b2n (1 ∈ d.wdrain))])
  | .onfc n => let c := s.chan n; packW (rw ++ [(2, c.cstate.code), (1, b2n c.railOff)])
  | .ingp p => let q := s.pipe p; packW (rw ++ [(1, q.filling), (1, b2n q.sealwait)])
  | .pseq => packW (rw ++ [(1, b2n (!s.pseq.adcFault)), (1, b2n s.pseq.record)])
  | .psto => packW (rw ++ [(1, b2n s.psto.running.isSome), (1, b2n s.psto.recalling.isSome),
      (10, (s.psto.running.map (·.page)).getD 0), (5, s.psto.queued)])
  | .idnt => packW (rw ++ [(1, b2n s.idnt.certA), (1, b2n s.idnt.certB), (1, b2n s.idnt.aliased)])
  | _ => packW rw

/-- Media writes of background work run in MEMORY and STREAM (02_modes_and_starts.md R48). -/
def State.working (s : State) : Bool := s.sysc.mode = .memory || s.sysc.mode = .stream

/-- No operation is issued to a die: the controller rests, or is entering REST (02_modes_and_starts.md R74, 09_media_bus.md R407). -/
def State.resting (s : State) : Bool := s.sysc.mode = .rest || s.rest.entering.isSome

/-- What SYSC.MODE.CUR shows: the current major mode. It reads 1 from the rise of VAON, before any start has run, as its reset
value says (R54 and the register table). -/
def State.modeReg (s : State) : Word :=
  packW [(3, s.sysc.mode.code), (3, s.sysc.prev.code), (3, (s.sysc.ret.map Mode.code).getD 0), (2, s.sysc.level.code),
    (1, b2n s.sysc.warm), (4, s.sysc.step), (8, s.aon.failcnt), (1, b2n s.sysc.fallback), (1, b2n s.sysc.svcstrap)]

/-- The live counts, OUTSVC flags and CAP slots that HALL.LIVE2.GEN counts changes of (R122). -/
def State.hallView (s : State) : List Nat :=
  s.live0.toNat :: s.live1.toNat :: s.tier.liveGib ::
    s.blocks.flatMap fun b => [b2n (s.hdr b).outsvc, (s.cap b).toNat]

end Sys2Proof.Machine
end

