-- ==== Sys2Proof/Machine/Flags.lean ====
section
/-!
DEFINITION. Interrupt causes, captured errors, event records and the Hallmark generation (03_registers_and_hallmark.md
R113 to R123, 17_event_recorder.md R695 to R699).
-/
namespace Sys2Proof.Machine

/-- The state with the header of a block changed. -/
def State.modHdr (s : State) (b : Block) (f : Hdr → Hdr) : State :=
  { s with hall.hdrs := tmod Hdr.reset s.hall.hdrs b.page f }

/-- The state with something sent to the outside. -/
def State.send (s : State) (o : Out) : State := { s with out := o :: s.out }

/-- One fresh free value. -/
def State.fresh1 (s : State) : Nat × State := (Config.free s.free, { s with free := s.free + 1 })

/-- A block requests an interrupt (R114). -/
def Hdr.requests (h : Hdr) : Bool := h.istat &&& h.ien != 0

/-- The OR of the requests on a vector (R117). -/
def State.vecReq (s : State) (v : Nat) : Bool := s.blocks.any fun b => b.vec = v && (s.hdr b).requests

/-- A message on a vector: sent, or left pending while the vector's MSI-X entry is masked (R117, PCIe's rules). -/
def State.message (s : State) (v : Nat) : State :=
  if v ∈ s.cxlp.msixMask then { s with cxlp.msixPend := withNew s.cxlp.msixPend v } else s.send (.msix v)

/-- A change of the header of a block with the message of R117 when its vector's OR rises, or when it is 1 after a write to
ISTAT or IEN (`written`). -/
def State.signal (s : State) (b : Block) (written : Bool) (f : Hdr → Hdr) : State :=
  let t := s.modHdr b f
  if t.vecReq b.vec && (written || !s.vecReq b.vec) then t.message b.vec else t

/-- A block whose unit can be retired or disabled alone (01_architecture.md R45, R46). -/
def Block.retirable : Block → Bool
  | .drmc _ | .ncch _ | .mclu _ | .onfc _ => true
  | _ => false

/-- The unit of a block is out of service: it sets no further cause bit (R114). -/
def State.silent (s : State) (b : Block) : Bool := b.retirable && (s.hdr b).outsvc

/-- Cause bits of a block, whether or not it is in service: what reports the retirement itself (R114, R123). -/
def State.reportCause (s : State) (b : Block) (bits : Nat) : State :=
  s.signal b false fun h => { h with istat := h.istat ||| bits }

/-- Cause bits of a block set by their hardware cause (R114, R116). -/
def State.setCause (s : State) (b : Block) (bits : Nat) : State :=
  if s.silent b then s else s.reportCause b bits

/-- An error captured in ERRSTAT (R118): the first one fills it and sets ISTAT.ERR; a later one sets MULTI. `quiet` leaves the cause bit
alone, as a unit out of service does (R114). -/
def State.captureAs (s : State) (b : Block) (code addr : Nat) (quiet : Bool) : State :=
  if (s.hdr b).evalid then s.modHdr b fun h => { h with emulti := true }
  else s.signal b false fun h =>
    { h with ecode := code % 256, eaddr := addr % 2 ^ 28, evalid := true, istat := h.istat ||| (if quiet then 0 else 1) }

/-- An error captured by a block (R118, R114). -/
def State.capture (s : State) (b : Block) (code addr : Nat) : State := s.captureAs b code addr (s.silent b)

/-- The step of the CRC-8 of R695. -/
def crc8Step (crc : Nat) : Nat → Nat
  | 0 => crc
  | n + 1 => crc8Step (if crc.testBit 7 then (crc * 2) % 256 ^^^ 7 else crc * 2 % 256) n

/-- CHECK over bytes 0 to 30 (R695). -/
def crc8 (bs : List Nat) : Nat := bs.foldl (fun c b => crc8Step (c ^^^ b) 8) 0xFF

/-- Bytes 0 to 30 of a record (R695). -/
def EvRec.body (r : EvRec) : List Nat :=
  bytesLE 31 (pack [(16, r.code), (4, r.sev), (12, r.src), (64, r.time), (32, r.seq), (40, r.p0), (40, r.p1), (40, r.p2)])

/-- A record with its CHECK. -/
def EvRec.checked (r : EvRec) : EvRec := { r with check := crc8 r.body }

/-- TIME of an event now (R696). -/
def State.evTime (s : State) : Nat :=
  if s.coht.running then s.cohortNs % 2 ^ 64 else 2 ^ 63 + s.aon.ticks % 2 ^ 63

/-- An event record raised: it takes its sequence when the command's records are settled (R715). Trace records are raised only
while EVTR.CTRL.TRACE is 1 (R700), and none while VAON is out of range or TEST_N was sampled low, when the recorder does not run
(22_pins_and_package.md R839). -/
def State.raise (s : State) (code sev src p0 p1 p2 : Nat) : State :=
  if sev = 0 && !wbit s.evtr.ctrl 0 then s
  else if !s.pseq.vaon || s.aon.testLow then s
  else { s with raised :=
      { code := code, sev := sev, src := src, time := s.evTime, seq := 0, p0 := p0 % 2 ^ 40, p1 := p1 % 2 ^ 40,
        p2 := p2 % 2 ^ 40, check := 0 } :: s.raised }

/-- The record of a cause bit set by its hardware cause (R698): number bit + 3. EVTR's own causes make no record, since the
recorder's records are those of family 0 (R697; DEDUCED, log 14). -/
def State.causeRecord (s : State) (b : Block) (bit sev : Nat) : State :=
  if b = .evtr then s
  else s.raise (b.family * 64 + bit + 3) sev b.page (s.hdr b).istat (s.stat b).toNat s.modeReg.toNat

/-- The record of a captured error (R698, R119). -/
def State.errorRecord (s : State) (b : Block) (code addr sev : Nat) : State :=
  if code < 0x40 then s.raise (b.family * 64 + code) 1 b.page (addr % 2 ^ 28) 0 0
  else s.raise (b.family * 64 + 0x20 + (code - 0x40)) sev b.page (addr % 2 ^ 28) (s.stat b).toNat s.modeReg.toNat

/-- A hardware cause: the bit and its record. Severity 2 NOTICE, 3 WARNING, 5 CRITICAL (R699). A unit out of service has none (R114). -/
def State.cause (s : State) (b : Block) (bit : Nat) (sev : Nat := 2) : State :=
  if s.silent b then s else (s.setCause b (2 ^ bit)).causeRecord b bit sev

/-- A captured error and its record, with the cause bits the same occurrence sets (R698: one record, the error's). -/
def State.error (s : State) (b : Block) (code addr : Nat) (bits : Nat := 0) (sev : Nat := 4) : State :=
  ((if bits = 0 then s else s.setCause b bits).capture b code addr).errorRecord b code addr sev

/-- The error that reports the retirement of its own unit, raised after the table (R114, R123). -/
def State.reportError (s : State) (b : Block) (code addr : Nat) (bits : Nat := 0) (sev : Nat := 4) : State :=
  ((if bits = 0 then s else s.reportCause b bits).captureAs b code addr false).errorRecord b code addr sev

/-- A change of configuration that carries neither cause nor error: record number 0x18 for the register at a BAR0 offset
(R698, R870). -/
def State.changeRecord (s : State) (b : Block) (reg old new : Nat) (sev : Nat := 2) : State :=
  s.raise (b.family * 64 + 0x18) sev b.page ((b.page * 4096 + reg) / 8) old new

/-- An event that no register records: number 0x19 (R870). -/
def State.namedRecord (s : State) (b : Block) (p0 p1 p2 sev : Nat) : State :=
  s.raise (b.family * 64 + 0x19) sev b.page p0 p1 p2

/-- HALL.LIVE2.GEN counts a change of any live count, OUTSVC flag or CAP slot, in the cycle of the change (R122). -/
def State.hallSync (s : State) : State :=
  let v := s.hallView
  if v = s.hall.view then s else { s with hall.view := v, hall.gen := wrapInc 16 s.hall.gen }

/-- The event of number 0x17: a unit of a block lost, with the block's capability and status (01_architecture.md R45; R123, R698). -/
def State.retirement (s : State) (b : Block) (sev : Nat := 2) : State :=
  s.raise (b.family * 64 + 0x17) sev b.page (s.cap b).toNat (s.stat b).toNat s.hall.gen

/-- A unit retired or disabled: OUTSVC, the table and GEN, then the event of number 0x17 (R123, R698). -/
def State.retireBlock (s : State) (b : Block) (sev : Nat := 2) : State := ((s.modHdr b fun h => { h with outsvc := true }).hallSync).retirement b sev

end Sys2Proof.Machine
end

