-- ==== Sys2Proof/Machine/StoreQueue.lean ====
section
/-!
DEFINITION. The page-write queue of the Parameter Store and the writing of records into it (18_parameter_store.md R720 to R735).
-/
namespace Sys2Proof.Machine

/-- First page of copy A, first page of copy B and pages per copy of a record type (R720, and the record table of
19_firmware_and_identity.md). -/
def recPages : Nat → Nat × Nat × Nat
  | 1 => (512, 516, 4) | 2 => (520, 521, 1) | 3 => (522, 523, 1) | 4 => (524, 525, 1) | 5 => (526, 531, 5)
  | 6 => (536, 543, 7) | 7 => (550, 556, 6) | 8 => (768, 769, 1) | 9 => (770, 777, 7) | 10 => (784, 785, 1)
  | 11 => (786, 788, 2) | _ => (0, 0, 0)

/-- The record types. -/
def recTypes : List Nat := [1, 2, 3, 4, 5, 6, 7, 8, 9, 10, 11]

/-- The state with the management of one record type changed. -/
def State.modRecord (s : State) (t : Nat) (f : RecSlot → RecSlot) : State :=
  { s with psto.recs := tmod RecSlot.reset s.psto.recs t f }

/-- The supervisor's settings as its record holds them (15_power_supervision.md R655). -/
def supervisorRec (p : Pseq) : Rec :=
  .supervisor ((List.range 28).foldl (fun t i =>
      let x := tget SnsIn.reset p.inputs i
      tput 0 (tput 0 (tput 0 t i x.cfg) (32 + i) x.uvth) (64 + i) x.ovth) [])
    p.upTable p.downTable p.seqcfg p.pfwcfg p.capcfg

/-- The contents that a record write carries now: for the records that a SAVE bit or the recorder fills, the contents last put in
force; for the others, what the registers and tables hold (R720, R735). -/
def State.recNow (s : State) (t : Nat) : Rec :=
  match t with
  | 3 => .hostcfg s.ftlm.hdrcfg s.pers.dirtycfg s.pers.holdupcfg
      (s.drmc.foldl (fun m e => tput 2 m e.1 (fld e.2.sched 16 2))
        (match (s.record 3).winner with | .hostcfg _ _ _ m _ => m | _ => [])) s.rple.poolGib
  | 4 => .marks (s.drmc.foldl (fun m e => e.2.marks.foldl (fun m' x => tins (16 * e.1 + x.1) (x.2, e.2.serial) m') m) [])
  | 7 => .soft s.sram.soft
  | 8 => .protection (s.mprt.ranges.map fun e => (e.1, { e.2 with locked := false, degraded := false }))
      s.mprt.devslot s.mprt.epoch
  | 9 => .keys s.mprt.slots
  | 10 => .image s.boot.img
  | _ => (s.record t).winner

/-- Nothing runs in the array and the next page write may start: none runs and no recall runs (R724, R726). -/
def Psto.pump (p : Psto) : Psto :=
  match p.running, p.recalling, p.queue with
  | none, none, w :: q =>
    -- a waiting internal requester takes the place that frees (R728)
    { p with running := some w, queue := q ++ p.waiting.take 1, waiting := p.waiting.drop 1 }
  | _, _, _ => p

/-- A page write requested by the controller itself; it waits while 16 internal writes are queued (R728). -/
def State.queuePage (s : State) (w : PageWrite) : State :=
  let p := s.psto
  let full := decide (16 ≤ (p.queue.filter fun x => !x.raw).length) || !p.waiting.isEmpty
  { s with psto := (if full then { p with waiting := p.waiting ++ [w] } else { p with queue := p.queue ++ [w] }).pump }

/-- A record write begins: into the copy that did not win, with the winner's sequence plus 1, pages in ascending order (R734). A copy of an older
major version stays untouched until the image's health confirmation: later writes go into the copy of the new one, that of a migration
included (R738). -/
def State.startRecord (s : State) (t : Nat) : State :=
  let r := s.record t
  let (a, b, n) := recPages t
  let keepOld := r.old && s.boot.img.trial
  let first := if (r.winSeq.isSome && !r.winB) != keepOld then b else a
  let c : RecCopy := { typ := t, minor := 0, major := s.psto.major, seq := (r.winSeq.map fun q => (q + 1) % 2 ^ 32).getD 1,
                       body := s.recNow t }
  let s := s.modRecord t fun r => { r with writing := true, again := false, winner := c.body, repair := r.repair && keepOld }
  (List.range n).foldl (fun s i =>
    s.queuePage { page := first + i, data := [], raw := false, copy := some (first, c, decide (i + 1 = n)), crit := none }) s

/-- A record write requested by the controller itself: at once, or merged with the one that runs. It ends a host deferral,
and the next host-caused write is deferred from its start (R735). -/
def State.writeRecord (s : State) (t : Nat) : State :=
  let r := s.record t
  let s := if r.deferred.isSome then s.modRecord t fun r => { r with deferred := none, hostAt := some s.now } else s
  if r.writing then s.modRecord t fun r => { r with again := true } else s.startRecord t

/-- A record write caused by host software: at most once per 10 s per record, else deferred to the end of that interval (R735). -/
def State.hostRecord (s : State) (t : Nat) : State :=
  let r := s.record t
  let due := r.hostAt.map (· + 10 * 10 ^ 9)
  match due with
  | some d =>
    if s.now < d then s.modRecord t fun r => { r with deferred := some d }
    else
      let s := s.modRecord t fun r => { r with hostAt := some s.now }
      if r.writing then s.modRecord t fun r => { r with again := true } else s.startRecord t
  | none =>
    let s := s.modRecord t fun r => { r with hostAt := some s.now }
    if r.writing then s.modRecord t fun r => { r with again := true } else s.startRecord t

/-- Contents put in force for a record that a SAVE bit fills. -/
def State.setRecord (s : State) (t : Nat) (b : Rec) : State := s.modRecord t fun r => { r with winner := b }

end Sys2Proof.Machine
end

