-- ==== Sys2Proof/Machine/Recorder.lean ====
section
/-!
DEFINITION. The event recorder: admission, stores, incidents and cursor windows (17_event_recorder.md).
-/
namespace Sys2Proof.Machine

/-- The default class of a code (R706). -/
def defaultClass (code : Nat) : Nat :=
  if code / 64 = 0 then 0 else if code % 64 = 0x1F then 3 else if 1 ≤ code % 64 ∧ code % 64 ≤ 3 then 4 else 2

/-- RATE and BURST of a class by default (R706), as an RCFG word. -/
def defaultRate : Nat → Word
  | 1 => packW [(16, 10000), (12, 1024)] | 2 => packW [(16, 1000), (12, 256)] | 3 => packW [(16, 100), (12, 64)]
  | 4 => packW [(16, 10), (12, 16)] | 0 => 0 | _ => packW [(16, 1), (12, 4)]

/-- The class of a code. -/
def Evtr.classOf (e : Evtr) (code : Nat) : Nat := if code / 64 = 0 then 0 else tget (defaultClass code) e.rcmap code

/-- The rate word of a class. -/
def Evtr.rateOf (e : Evtr) (k : Nat) : Word := if k = 0 then 0 else tget (defaultRate k) e.rates k

/-- THRESH in force (values below 16 are treated as 16). -/
def Evtr.thresh (e : Evtr) : Nat := max 16 (fld e.inccfg 0 12)

/-- LOGSEV in force (6 and 7 are treated as 5). -/
def Evtr.logsev (e : Evtr) : Nat := min 5 (fld e.ctrl 1 3)

/-- LOGFLUSH in force in ms (0 is treated as 1). -/
def Evtr.logflush (e : Evtr) : Nat := max 1 (fld e.ctrl 4 10)

/-- IWM and ITMO in force (0 is treated as 1). -/
def Evtr.iwm (e : Evtr) : Nat := max 1 (fld e.imod 0 10)
/-- ITMO in force in ms. -/
def Evtr.itmo (e : Evtr) : Nat := max 1 (fld e.imod 10 10)

/-- The records of a store, newest first, with how many were ever written to it (R711). Long-log padding does not count. -/
def State.evStore (s : State) : Nat → List EvRec × Nat
  | 0 => (s.evtr.mainRing, s.evtr.mainCount)
  | 1 => (s.evtr.aonRing, s.evtr.aonCount)
  | 2 => (s.evtr.log.filter fun r => r.code ≠ 0, s.evtr.logCount)
  | _ => ([], 0)

/-- Cursor group k. -/
def State.cursor (s : State) (k : Nat) : Cursor := tget Cursor.reset s.evtr.cursors k

/-- The windows over ring `src` take a record that stands at position `q` of it, until they hold 8 (R712). -/
def Evtr.fillWindows (e : Evtr) (src q : Nat) (r : EvRec) : Evtr :=
  { e with cursors := [0, 1, 2].foldl (fun t k =>
      let c := tget Cursor.reset t k
      if c.source = src ∧ c.win.length < 8 ∧ c.pos + c.win.length = q then
        tput Cursor.reset t k
          { c with win := c.win ++ [r], seq := if c.win.isEmpty then r.seq else c.seq,
                   filling := decide (c.win.length + 1 < 8) }
      else t) e.cursors }

/-- How many records lie after group 0's window (R716). -/
def State.afterWindow (s : State) : Nat :=
  let c := s.cursor 0
  (s.evStore c.source).2 - (c.pos + c.win.length)

/-- NEWREC is set, at most once per 10 ms during an incident (R716). -/
def State.setNewrec (s : State) : State :=
  if s.evtr.inc.active && (s.evtr.newrecAt.any fun t => decide (s.now < t + 10 * 10 ^ 6)) then s
  else { s.setCause .evtr (2 ^ 1) with evtr.newrecAt := some s.now }

/-- A record written to the main ring: HOSTLAG when it overwrites one after group 0's window (R703, R716, R877). -/
def State.mainPut (s : State) (r : EvRec) : State :=
  let e := s.evtr
  let q := e.mainCount
  let lag := decide (16384 ≤ e.mainRing.length) && (s.cursor 0).source = 0 &&
    decide ((s.cursor 0).pos + (s.cursor 0).win.length ≤ q - 16384)
  let s := { s with evtr := { e with mainRing := (r :: e.mainRing).take 16384, mainCount := q + 1 }.fillWindows 0 q r }
  if lag then s.setCause .evtr (2 ^ 4) else s

/-- A record written to the always-on ring (R703). -/
def State.aonPut (s : State) (r : EvRec) : State :=
  let e := s.evtr
  { s with evtr := { e with aonRing := (r :: e.aonRing).take 1024, aonCount := e.aonCount + 1 }.fillWindows 1 e.aonCount r }

/-- The long-log page being filled is programmed, padded with records of CODE 0x0000 (R704). -/
def State.flushLog (s : State) : State :=
  let e := s.evtr
  if e.logPage.isEmpty then s
  else
    let n := e.logPage.length
    let pad := List.replicate (512 - n) EvRec.reset
    { s with evtr := { e with log := (pad ++ e.logPage ++ e.log).take 67108864, logCount := e.logCount + n, logPage := [] } }

/-- The metadata reserve takes long-log pages: from the end of C7 until QUENCH has ended, outside SERVICE (R704, R48). -/
def State.logOpen (s : State) : Bool := (s.hdr .ftlm).ready && s.sysc.mode ≠ .dormant && s.sysc.mode ≠ .service

/-- A record entered in the long-log page; a full page is programmed (R704). -/
def State.logPut (s : State) (r : EvRec) : State :=
  let e := s.evtr
  let s := { s with evtr := { e with logPage := r :: e.logPage, logSince := if e.logPage.isEmpty then s.now else e.logSince } }
  if decide (512 ≤ s.evtr.logPage.length) && s.logOpen then s.flushLog else s

/-- The bytes of a record (R695). -/
def EvRec.bytes (r : EvRec) : List (BitVec 8) := (r.body ++ [r.check]).map (BitVec.ofNat 8)

/-- A critical-copy page of the oldest pending records, up to 8, queued as a page write; the rotation moves on (R705, R740). -/
def State.critPage1 (s : State) : State :=
  let e := s.evtr
  if e.critPend.isEmpty then s
  else
    let old := e.critPend.reverse
    let rs := old.take 8
    let data := (rs.flatMap EvRec.bytes ++ List.replicate 256 (0xFF : BitVec 8)).take 256
    let rest := (old.drop 8).reverse
    let s := { s with evtr.critPend := rest, evtr.critSince := s.now,
                      evtr.critPage := if e.critPage = 767 then 736 else e.critPage + 1 }
    s.queuePage { page := e.critPage, data := data, raw := false, copy := none, crit := rs.getLast?.map (·.seq) }

/-- Every pending critical record queued at once (R705, at step 4 of an entry and at Q7). -/
def State.critFlush (s : State) : Nat → State
  | 0 => s
  | n + 1 => (s.critPage1).critFlush n

/-- A critical record becomes pending; a 257th displaces the oldest; a page is written at 8 (R705). -/
def State.critPut (s : State) (r : EvRec) : State :=
  let e := s.evtr
  let s := { s with evtr.critPend := (r :: e.critPend).take 256,
                    evtr.critSince := if e.critPend.isEmpty then s.now else e.critSince }
  if 8 ≤ s.evtr.critPend.length then s.critPage1 else s

/-- A record of a power-sequencing fault, which goes into the always-on ring whatever its severity: a change of PSEQ.FAULT, or cause
SEQFAULT (15_power_supervision.md R665, R670). -/
def EvRec.ofFault (r : EvRec) : Bool :=
  (r.code = 0x118 && r.p0 = (3 * 4096 + 0xA8) / 8) || r.code = 0x108

/-- An admitted record that is not shed enters its stores (R703). While the main ring does not run, only the always-on ring
takes records; C4 and C7 copy them on (R877, R704, R705; DEDUCED, log 15). -/
def State.storeRecord (s : State) (r : EvRec) : State :=
  let s := if decide (3 ≤ r.sev) || r.ofFault || !s.evtr.mainRun then s.aonPut r else s
  let s := if s.evtr.mainRun then s.mainPut r else s
  let s := if s.evtr.mainRun && decide (s.evtr.logsev ≤ r.sev) then s.logPut r else s
  let s := if s.evtr.mainRun && r.sev = 5 then s.critPut r else s
  let s := if r.sev = 5 then s.setCause .evtr (2 ^ 2) else s
  let n := s.afterWindow
  if s.evtr.iwm ≤ n then s.setNewrec else s

/-- The sequence a record takes; at each multiple of 2^20 a reservation is written (R701, R702). -/
def State.takeSeq (s : State) : State :=
  let n := (s.evtr.next + 1) % 2 ^ 32
  let s := { s with evtr.next := n }
  if n % 2 ^ 20 = 0 then
    let v := (n + 2 ^ 20) % 2 ^ 32
    let s := { s with evtr.reserve := v }
    let body := match (s.record 6).winner with
      | .recorder _ a b => Rec.recorder v a b
      | _ => .recorder v [] []
    (s.setRecord 6 body).writeRecord 6
  else s

/-- The rate limit: the bucket of the code spends a token or the record is suppressed (R706). -/
def Evtr.spend (e : Evtr) (code : Nat) : Option Evtr :=
  let w := e.rateOf (e.classOf code)
  let miss := tget 0 e.spent code
  if miss + 1000 ≤ fld w 16 12 * 1000 then some { e with spent := tput 0 e.spent code (miss + 1000) } else none

/-- A record sheds its place: it keeps its sequence and enters the bookend buffer (R708). -/
def Evtr.shed (e : Evtr) (r : EvRec) : Evtr :=
  let e := { e with inc.bookend := (r :: e.inc.bookend).take 64, inc.shed := e.inc.shed + 1 }
  if r.sev = 0 then { e with shedTrace := satInc 20 e.shedTrace, sumTrace := e.sumTrace + 1 }
  else { e with shedInfo := satInc 20 e.shedInfo, sumInfo := e.sumInfo + 1 }

/-- One raised record: the rate limit, its sequence, and its stores or the bookend buffer (R701, R703, R706, R708). -/
def State.enrol (s : State) (r : EvRec) : State :=
  let e := s.evtr
  let limited := decide (r.sev ≠ 5) && decide (e.classOf r.code ≠ 0)
  match (if limited then e.spend r.code else some e) with
  | none => { s with evtr := { e with supp := satInc 20 e.supp, sumSupp := tmod 0 e.sumSupp r.code (· + 1) } }
  | some e =>
    let r := { r with seq := e.next }.checked
    let e := { e with inc.now := e.inc.now + 1, inc.nowInfo := e.inc.nowInfo + b2n (decide (1 ≤ r.sev)) }
    let e := if e.inc.active && r.code ≠ 2 then { e with inc.admitted := e.inc.admitted + 1 } else e
    let s := { s with evtr := e }.takeSeq
    let shed := e.inc.active && decide (64 < e.inc.admitted) &&
      (r.sev = 0 || (r.sev = 1 && decide (2 ≤ e.inc.level)))
    if shed then { s with evtr := s.evtr.shed r } else s.storeRecord r

/-- One record goes before another of the same cycle: lower SRC, then lower CODE (R715). -/
def EvRec.before (a b : EvRec) : Bool := decide (a.src < b.src) || (a.src = b.src && decide (a.code ≤ b.code))

/-- A record put in its place among those of its cycle. -/
def placeRecord (r : EvRec) : List EvRec → List EvRec
  | [] => [r]
  | x :: xs => if r.before x && !(x.before r) then r :: x :: xs else x :: placeRecord r xs

/-- The records raised, in the order in which they take sequences (R715). -/
def sortRecords (l : List EvRec) : List EvRec := l.reverse.foldl (fun acc r => placeRecord r acc) []

/-- The records raised so far in the command are admitted. -/
def State.settle (s : State) : State := (sortRecords s.raised).foldl State.enrol { s with raised := [] }

/-- The end of a command: its records are admitted. -/
def finish (s : State) : Host.Outcome State Fault Refusal := .next s.settle

end Sys2Proof.Machine
end

