-- ==== Sys2Proof/Machine/Budget.lean ====
section
/-!
DEFINITION. The dirty amount and the dirty limit L (10_persistence.md R415 to R424).
-/
namespace Sys2Proof.Machine

/-- The lines that are newer in the near cache than on media: Dirty lines and the victim buffers (05_near_cache.md R211, R215). -/
def State.nearDirty (s : State) : List Nat :=
  s.ncch.slices.flatMap fun e =>
    (e.2.ways.filter fun w => w.2.st = .modified).map (·.2.line) ++ e.2.victims.map (·.line)

/-- The lines of the DRAM tier that are newer than their media copy (01_architecture.md R30). -/
def State.tierDirty (s : State) : List Nat := (s.tier.lines.filter fun e => e.2.dirty).map (·.1)

/-- Every dirty line, counted once (R415, R211). -/
def State.dirtyLines (s : State) : List Nat :=
  let t := s.tierDirty
  t ++ ((distinct s.nearDirty).filter fun l => l ∉ t)

/-- The dirty amount in MiB, rounded up (R415). -/
def State.dirtyMib (s : State) : Nat := ceilDiv (64 * s.dirtyLines.length) (2 ^ 20)

/-- Sustained capture to media of the part, in bytes per ns (00_scope.md R1). -/
def Part.captureRate : Part → Nat | .p4860 => 128 | .p4830 => 85 | .p4815 => 42

/-- The fixed part of QUENCH in ns (R416). -/
def Part.quenchFixed : Part → Nat | .p4860 => 8000000 | .p4830 => 8220000 | .p4815 => 8900000

/-- The QUENCH drain rate r_q in bytes per ns, as a fraction (R417). -/
def State.drainRate (s : State) : Nat × Nat :=
  let p := s.ftlm.profile.getD {}
  (s.fuse.part.captureRate * s.liveChans.length * p.slcProgTyp, s.fuse.part.channels * max 1 p.slcProgMax)

/-- c_meas in force: 0 while the ADC is in ADCFAULT (R422, 15_power_supervision.md R642). -/
def State.cmeas (s : State) : Nat := if s.pseq.adcFault then 0 else s.pseq.cap.cmeas

/-- 20 times p_q, and c_meas times v_hi^2 - v_lo^2 in uF and 10 mV: their quotient is t_avail in ns (R416). -/
def State.energy (s : State) : Nat × Nat :=
  let w := s.pers.holdupcfg
  let hi := fld w 0 13
  let lo := fld w 13 13
  (s.cmeas * (hi * hi - lo * lo), 20 * max 1 (fld w 26 9))

/-- The QUENCH limit in ns (15_power_supervision.md R669; 0 is treated as 1 ms). -/
def State.quenchLimit (s : State) : Nat := max 1 (fld s.pseq.pfwcfg 0 10) * 10 ^ 6

/-- Bytes drained at r_q in a time given as a fraction of ns, less the fixed part. -/
def State.drainable (s : State) (num den : Nat) : Nat :=
  let r := s.drainRate
  r.1 * (num - s.fuse.part.quenchFixed * den) / (r.2 * den)

/-- L in MiB, and its source as byte 8 of R449 (R416, R418). Of equal bounds the first in the order of that byte is named. -/
def State.computeLimit (s : State) : Nat × Nat :=
  let (n, d) := s.energy
  if n < 12000000 * d ∨ s.quenchLimit < 12000000 ∨ !s.pseq.cap.bankReached ∨ s.pseq.cap.bankLow then (0, 3)
  else
    let cfg := clampN 1 512 (fld s.pers.dirtycfg 0 10) * 2 ^ 26
    let le := s.drainable n d
    let lt := s.drainable s.quenchLimit 1
    let m := min (min cfg le) (min lt (2 ^ 35))
    (m / 2 ^ 26 * 64, if m = cfg then 0 else if m = le then 1 else if m = lt then 2 else 4)

/-- The class of host destage: P0 for the excess over L and for writes under L = 0 (21_priorities.md R806); the class of the host's writes while
one waits for the room that it makes (R812); P4 otherwise. -/
def State.destageClass (s : State) : Nat :=
  if s.pers.draining || s.pers.limit = 0 then 0 else if s.cxlp.dirtyWait.isEmpty then 4 else 1

/-- Page programs that hold what a request of a class waits for take that class at every resource they still need: at their die and on its
channel (21_priorities.md R812). -/
def State.raiseClass (s : State) (cls : Nat) (pick : Prog → Bool) : State :=
  let ids := (s.ftlm.progs.filter fun e => pick e.2).map (·.1)
  let up (o : DieOp) : DieOp := if o.kind = .program && decide (o.ref ∈ ids) then { o with cls := min cls o.cls } else o
  let die (e : Nat × Die) : Nat × Die := (e.1, { e.2 with queue := e.2.queue.map up, array := e.2.array.map up, paused := e.2.paused.map up })
  let bus (t : Xfer1) : Xfer1 := if t.req ≠ 16 && decide (t.ref ∈ ids) then { t with cls := min cls t.cls } else t
  { s with clus.dies := s.clus.dies.map die
           clus.onfc := s.clus.onfc.map fun (e : Nat × Onfc) => (e.1, { e.2 with xfers := e.2.xfers.map bus }) }

/-- Host destage under way takes its class of the moment, where that is higher (R812). -/
def State.raiseDestage (s : State) : State := s.raiseClass s.destageClass fun p => p.src = .tier

/-- L applied anew: a fall sets BUDGETCUT, and is critical when L falls to 0 under R418; the excess is destaged as P0 (R420,
R421). -/
def State.applyLimit (s : State) : State :=
  let (l, src) := s.computeLimit
  let old := s.pers.limit
  let s := { s with pers.limit := l, pers.limitSrc := src }
  let s := { s with pers.draining := decide (l * 2 ^ 20 < 64 * s.dirtyLines.length) }
  let s := if s.destageClass = 0 then s.raiseDestage else s
  if l < old then s.cause .sysc 8 (if src = 3 then 5 else 2) else s

/-- The lines that may still become dirty (R151, R420). -/
def State.dirtyRoom (s : State) : Nat := s.pers.limit * 2 ^ 14 - s.dirtyLines.length

/-- The major mode changes (02_modes_and_starts.md R54, SYSC.MODE.PREV); MODECHG where no request asked for it (R63). -/
def State.setMode (s : State) (m : Mode) : State :=
  if s.sysc.mode = m then s
  else
    ({ s with sysc.prev := s.sysc.mode, sysc.mode := m, sysc.ret := none, sysc.level := .none, sysc.trans := none }).cause .sysc 1

/-- A requested transition completes or is refused: RESULT, GO and MODECHG (R62). -/
def State.modeDone (s : State) (result : Nat) : State :=
  ({ s with sysc.reqResult := result, sysc.reqGo := false }).cause .sysc 1

/-- The mode a completed request leads to; one MODECHG for the request (R62, R63). -/
def State.modeDoneTo (s : State) (m : Mode) : State :=
  ({ s with sysc.prev := s.sysc.mode, sysc.mode := m, sysc.trans := none }).modeDone 0

end Sys2Proof.Machine
end

