-- ==== Sys2Proof/Machine/Media.lean ====
section
/-!
DEFINITION. Translation: maps, bands, the allocator and the writing of pages (07_translation.md R290 to R334). Parity is not
stored: a stripe's lost page is a matter of what a rebuild reports (log 12).
-/
namespace Sys2Proof.Machine

/-! ### Map entries -/

/-- STATE of a map entry (R292). -/
def mapSt (w : Word) : Nat := fld w 36 4
/-- PUA of a map entry. -/
def mapPua (w : Word) : Nat := fld w 0 36
/-- A MAPPED entry. -/
def mapped (pua : Nat) : Word := BitVec.ofNat 40 (pua % 2 ^ 36 + 2 ^ 36)
/-- A DISCARDED entry with its write sequence. -/
def discarded (seq : Nat) : Word := BitVec.ofNat 40 (seq % 2 ^ 36 + 2 * 2 ^ 36)
/-- A POISONED entry. -/
def poisoned : Word := BitVec.ofNat 40 (3 * 2 ^ 36)

/-- BAND of a PUA (R297). -/
def puaBand (p : Nat) : Nat := p / 2 ^ 18
/-- DPAGE of a PUA. -/
def puaPage (p : Nat) : Nat := p / 4 % 2 ^ 16
/-- SLOT of a PUA. -/
def puaSlot (p : Nat) : Nat := p % 4
/-- A PUA from its fields. -/
def mkPua (band dpage slot : Nat) : Nat := band * 2 ^ 18 + dpage * 4 + slot
/-- The key of a media page. -/
def pageKey (band dpage : Nat) : Nat := band * 65536 + dpage

/-- The entry of a unit. -/
def State.mapEntry (s : State) (coarse : Bool) (u : Nat) : Word := tget 0 (if coarse then s.ftlm.coarse else s.ftlm.fine) u

/-- A band. -/
def State.band (s : State) (b : Nat) : Band := tget Band.reset s.ftlm.bands b
/-- The state with one band changed. -/
def State.modBand (s : State) (b : Nat) (f : Band → Band) : State := { s with ftlm.bands := tmod Band.reset s.ftlm.bands b f }
/-- An erase block. -/
def State.blk (s : State) (die block : Nat) : Blk := tget Blk.reset s.media.blocks (die * 8192 + block)
/-- The state with one erase block changed. -/
def State.modBlk (s : State) (die block : Nat) (f : Blk → Blk) : State :=
  { s with media.blocks := tmod Blk.reset s.media.blocks (die * 8192 + block) f }
/-- A media page. -/
def State.mpage (s : State) (band dpage : Nat) : MPage := tget MPage.reset s.media.pages (pageKey band dpage)
/-- The state with one die changed. -/
def State.modDie (s : State) (d : Nat) (f : Die → Die) : State := { s with clus.dies := tmod Die.reset s.clus.dies d f }

/-- Slots that a unit holds in its band. -/
def unitSlots (coarse : Bool) : Nat := if coarse then 256 else 1

/-- A band's blocks return to the free blocks once it holds nothing valid and no read needs it (R321, R323, R327). -/
def State.freeBand (s : State) (b : Nat) : State :=
  let x := s.band b
  if x.phase = .closed && x.valid = 0 && x.failedRow.isNone || x.phase = .freeing then
    if 0 < x.reads then s.modBand b fun x => { x with phase := .freeing }
    else
      let s := x.members.foldl (fun s m =>
        s.modBlk m.1 m.2 fun k => if k.use = .retired then k else { k with use := .free, rewrite := false }) s
      { s with ftlm.bands := tdel b s.ftlm.bands,
               media.pages := s.media.pages.filter fun e => e.1 / 65536 ≠ b,
               media.summaries := tdel b s.media.summaries }
  else s

/-- The valid count of a band changes by the slots of a unit. -/
def State.addValid (s : State) (b n : Nat) : State := s.modBand b fun x => { x with valid := x.valid + n }
/-- A unit leaves a band (R321, R328). -/
def State.subValid (s : State) (b n : Nat) : State := (s.modBand b fun x => { x with valid := x.valid - n }).freeBand b

/-- The entry of a unit changes; the valid counts of the bands follow (R313, R325, R328). -/
def State.setEntry (s : State) (coarse : Bool) (u : Nat) (e : Word) : State :=
  let old := s.mapEntry coarse u
  let s := if coarse then { s with ftlm.coarse := tput 0 s.ftlm.coarse u e, ftlm.changedCoarse := withNew s.ftlm.changedCoarse (u / 12) }
    else { s with ftlm.fine := tput 0 s.ftlm.fine u e, ftlm.changedFine := withNew s.ftlm.changedFine (u / 12) }
  let s := if mapSt e = 1 then s.addValid (puaBand (mapPua e)) (unitSlots coarse) else s
  if mapSt old = 1 then s.subValid (puaBand (mapPua old)) (unitSlots coarse) else s

/-- The next write sequence values (R312). -/
def State.takeSeqs (s : State) (n : Nat) : Nat × State := (s.ftlm.seq, { s with ftlm.seq := s.ftlm.seq + n })

/-! ### Reading what media hold -/

/-- The quarter record of a slot. -/
def MPage.rec_ (p : MPage) (slot : Nat) : Oob := p.oob.getD slot Oob.reset

/-- One line of a fine unit as media hold it: data and poison (R293, R331, R332). -/
def State.mediaLine (s : State) (line : Nat) : BitVec 512 × Bool :=
  let e := s.mapEntry false (line / 64)
  if mapSt e = 3 then (0, true)
  else if mapSt e ≠ 1 then (0, false)
  else
    let pua := mapPua e
    let p := s.mpage (puaBand pua) (puaPage pua)
    let slot := puaSlot pua
    (tget 0 p.lines (slot * 64 + line % 64), (p.rec_ slot).pmask.testBit (line % 64) || decide (slot ∈ p.bad))

/-- One line of host data: the DRAM tier's, else what media hold (R293). -/
def State.tierLine (s : State) (line : Nat) : BitVec 512 × Bool :=
  match s.tier.lines.find? fun e => e.1 = line with
  | some e => (e.2.data, e.2.poison)
  | none => s.mediaLine line

/-- A line written into the DRAM tier, newer than its media copy (01_architecture.md R30, R314). -/
def State.putTier (s : State) (line : Nat) (data : BitVec 512) (poison : Bool) : State :=
  let g := (tget TLine.reset s.tier.lines line).gen + 1
  { s with tier.lines := tins line { data := data, poison := poison, dirty := true, held := false, gen := g }
             s.tier.lines }

/-- The CXL event timestamp now: the base last set and the time since; 0 while none has been set (04_host_port.md R161). -/
def State.cxlStamp (s : State) : Nat :=
  match s.mbox.timestamp with | none => 0 | some (base, at_) => (base + (s.cohort - at_) / 4) % 2 ^ 64

/-- A line enters the poison list: 4,096 entries, then the overflow with its timestamp (04_host_port.md R157, R160), which
stays set until an erase of everything (DESIGN CHOICE, log 93). -/
def State.notePoison (s : State) (line : Nat) : State :=
  if line ∈ s.cxlp.poisonList then s
  else if s.cxlp.poisonList.length < 4096 then { s with cxlp.poisonList := s.cxlp.poisonList ++ [line] }
  else if s.cxlp.poisonOver.isNone then { s with cxlp.poisonOver := some s.cxlStamp } else s

/-- The lines of a unit that is POISONED join the poison list, but for those that the DRAM tier holds newer (R157, R160). -/
def State.noteUnit (s : State) (u : Nat) : State :=
  (((List.range 64).map (64 * u + ·)).filter fun l => !(s.tier.lines.any fun e => e.1 = l)).foldl State.notePoison s

/-- A line leaves the poison list (R159). -/
def State.clearPoison (s : State) (line : Nat) : State := { s with cxlp.poisonList := without s.cxlp.poisonList line }

/-- Every Dirty line of the near cache and the victim buffers put in the DRAM tier (R425 Q5); a victim that writes wait for stays until they
go on. -/
def State.flushNear (s : State) : State :=
  s.ncch.slices.foldl (fun s e =>
    let s := e.2.ways.foldl (fun s w => if w.2.st = .modified then s.putTier w.2.line w.2.data w.2.poison else s) s
    let s := e.2.victims.foldl (fun s v => s.putTier v.line v.data v.poison) s
    let c := { e.2 with victims := e.2.victims.filter fun v => !v.waits.isEmpty, ways := e.2.ways.map fun w => (w.1, if w.2.st = .modified then { w.2 with st := .clean } else w.2) }
    { s with ncch.slices := tput Slice.reset s.ncch.slices e.1 c }) s

/-! ### The allocator -/

/-- Blocks per die, pages per block in the dense mode and in pseudo-SLC, of the matched profile. -/
def State.geometry (s : State) : Nat × Nat × Nat :=
  match s.ftlm.profile with | some p => (p.blocks, p.densePpb, p.slcPpb) | none => (0, 0, 0)

/-- Spares of a die as made (R308). -/
def State.spareCount (s : State) : Nat := s.geometry.1 / 32

/-- FLOOR in force (FTLM.GCCTL). -/
def State.gcFloor (s : State) : Nat := clampN 16 256 (fld s.ftlm.gcctl 13 13)
/-- START in force. -/
def State.gcStart (s : State) : Nat := max (s.gcFloor + 32) (fld s.ftlm.gcctl 0 13)
/-- SLCLIM in force (FTLM.SLCCTL). -/
def State.slcLimit (s : State) : Nat :=
  min (fld s.ftlm.slcctl 0 13) (s.geometry.1 * 8 / 10)

/-- The blocks of a die that ordinary allocation may use: those above metadata, quench and spares, and the spares taken for
retired ones (R308, R334). The places of the reserves are the model's choice. -/
def State.ordinary (s : State) (d : Nat) : List Nat :=
  let lo := 16 + s.quenchBlocks
  let sp := s.spareCount
  (List.range s.geometry.1).filter fun b =>
    decide (lo + sp ≤ b) || (decide (lo ≤ b) && decide (b < lo + (s.die d).sparesUsed))

/-- The free blocks of a die outside the reserves, the GC floor included (R308). -/
def State.freeBlocks (s : State) (d : Nat) : List Nat :=
  let own := s.media.blocks.filter fun e => e.1 / 8192 = d
  (s.ordinary d).filter fun b => (tget Blk.reset own (d * 8192 + b)).use = .free

/-- A live die has no more free blocks than FLOOR (R324). -/
def State.atFloor (s : State) : Bool := s.liveDies.any fun d => decide ((s.freeBlocks d).length ≤ s.gcFloor)

/-- The free blocks of a die outside the reserves of R308, the GC floor among them. -/
def State.outsideFree (s : State) (d : Nat) : Nat := (s.freeBlocks d).length - s.gcFloor

/-- Fewer than W live dies on distinct channels each hold a free block outside the reserves (R336). -/
def State.fewFree (s : State) : Bool :=
  decide (((s.liveChans.filter fun c => s.liveDies.any fun d => d / 16 = c && decide (0 < s.outsideFree d))).length < s.ftlm.width)

/-- The erase count that the allocator compares (R306). -/
def Blk.wear (k : Blk) (slc : Bool) : Nat := if slc then k.slc else k.qlc

/-- The free block of a die with the lowest count, the lowest number on a tie (R306). -/
def State.leastWorn (s : State) (d : Nat) (slc : Bool) : Option (Nat × Nat) :=
  (s.freeBlocks d).foldl (fun m b =>
    let w := (s.blk d b).wear slc
    match m with | some (w', _) => if w < w' then some (w, b) else m | none => some (w, b)) none

/-- The dies that hold an open block of a class (R304). -/
def State.openDies (s : State) (cls : Nat) : List Nat :=
  (s.ftlm.bands.filter fun e => e.2.cls = cls && (e.2.phase = .opened || e.2.phase = .erasing)).flatMap fun e =>
    e.2.members.map (·.1)

/-- A stable insertion by a count. -/
def insertBy (x : Nat × Nat × Nat) : List (Nat × Nat × Nat) → List (Nat × Nat × Nat)
  | [] => [x]
  | y :: ys => if x.1 < y.1 then x :: y :: ys else y :: insertBy x ys

/-- The member blocks of a new band: count, die and block of each (R305). -/
def State.chooseBlocks (s : State) (cls : Nat) : List (Nat × Nat × Nat) :=
  let slc := decide (cls ≤ 1)
  let open_ := s.openDies cls
  let cand := s.liveChans.filterMap fun c =>
    ((s.liveDies.filter fun d => d / 16 = c && d ∉ open_).foldl (fun m d =>
      match s.leastWorn d slc with
      | none => m
      | some (w, b) => match m with | some (w', _, _) => if w < w' then some (w, d, b) else m | none => some (w, d, b))
      (none : Option (Nat × Nat × Nat)))
  (cand.foldl (fun l x => insertBy x l) []).take s.ftlm.width

/-- The lowest band number not in use (R305). -/
def State.newBand (s : State) : Nat :=
  s.ftlm.bands.foldl (fun n e => if e.1 = n then n + 1 else n) 0

/-- Some closed band is a victim that garbage collection could gain from (R336). -/
def State.gcVictim (s : State) : Option Nat :=
  (s.ftlm.bands.foldl (fun m e =>
    if e.2.phase = .closed && !e.2.slc && decide (e.2.valid < 4 * e.2.size) then
      match m with
      | some (v, q, _) => if e.2.valid < v ∨ (e.2.valid = v ∧ e.2.closeSeq < q) then some (e.2.valid, e.2.closeSeq, e.1) else m
      | none => some (e.2.valid, e.2.closeSeq, e.1)
    else m) (none : Option (Nat × Nat × Nat))).map (·.2.2)

/-- The dies whose free blocks the GC floor covers, and the flags that follow from the free counts (R322, R324, R347). -/
def State.spaceSync (s : State) : State :=
  let counts := s.liveDies.map fun d => (s.freeBlocks d).length
  let low := s.atFloor
  let was := s.ftlm.gcOnly
  let s := { s with ftlm.gcOnly := low }
  let s := if low && !was then s.cause .ftlm 1 else s
  if s.ftlm.gc && counts.all (fun n => decide (s.gcStart + 32 ≤ n)) then { s with ftlm.gc := false } else s

/-- Pseudo-SLC blocks and dense blocks in use on a die. -/
def State.inUse (s : State) (d : Nat) (slc : Bool) : Nat :=
  (s.ftlm.bands.filter fun e => e.2.slc = slc).foldl (fun n e => n + (e.2.members.filter fun m => m.1 = d).length) 0

/-- The landing space of a die in blocks (R317). -/
def State.landingOf (s : State) (d : Nat) : Nat :=
  let u := s.inUse d true
  min (s.slcLimit - u)
    (s.geometry.1 - s.spareCount - 16 - s.quenchBlocks - s.gcFloor - s.inUse d false - u)

/-- The smallest landing space across the live dies (R317). -/
def State.landing (s : State) : Nat := (s.liveDies.map s.landingOf).foldl (fun m n => some (min n (m.getD n))) none |>.getD 0

/-- LANDLOW is set when the landing space falls below LOWMARK (R347). -/
def State.landSync (s : State) : State :=
  let low := decide (s.landing < fld s.ftlm.slcctl 13 13)
  let was := s.ftlm.landLow
  let s := { s with ftlm.landLow := low }
  if low && !was then s.cause .ftlm 2 else s

/-- A band may be opened for a class now: only GC bands while a die is at the floor, and pseudo-SLC within its limit (R317,
R324). -/
def State.mayOpen (s : State) (cls : Nat) (m : List (Nat × Nat × Nat)) : Bool :=
  decide (m.length = s.ftlm.width) && decide (2 ≤ m.length) && (cls = 3 || !s.atFloor) &&
  (decide (2 ≤ cls) || m.all fun x => decide (s.inUse x.2.1 true < s.slcLimit))

/-- An operation that reads nothing given to a die: a free array takes it at once, else it waits in the die's queue (09_media_bus.md R400, R401). -/
def State.queueOp (s : State) (d : Nat) (o : DieOp) : State :=
  let o := { o with since := s.now }
  s.modDie d fun x =>
    if x.array.isNone && x.paused.isNone && x.queue.isEmpty && !s.resting then { x with array := some o, arrayDone := false }
    else { x with queue := x.queue ++ [o] }

/-- An erase queued on a die (09_media_bus.md R400). -/
def State.queueErase (s : State) (d b cls : Nat) : State :=
  s.queueOp d { DieOp.reset with kind := .erase, cls := cls, ref := d * 8192 + b, leg := .other }

/-- Work class of a stream class (R304). -/
def workClass (cls : Nat) : Nat := match cls with | 0 => 2 | 1 => 4 | 2 => 5 | _ => 6

/-- A band is opened for a class: its blocks are chosen and their erases queued; exhaustion where neither blocks nor a victim are
left (R305 to R307, R336). `now` says that the erases are complete at once, inside a drain; otherwise a band of the class whose
members are still being erased is the one that opens. -/
def State.openBand (s : State) (cls : Nat) (now : Bool) : State :=
  let m := s.chooseBlocks cls
  if !now && s.ftlm.bands.any (fun e => e.2.cls = cls && e.2.phase = .erasing) then s
  else if s.mayOpen cls m then
    let b := s.newBand
    let slc := decide (cls ≤ 1)
    let sorted := m.foldl (fun l x => insertBy (x.2.1 / 16, x.2.1, x.2.2) l) []
    let mem := sorted.map fun x => (x.2.1, x.2.2)
    let (_, dense, pslc) := s.geometry
    let rows := if slc then pslc else dense
    let x : Band := { Band.reset with
      slc := slc, cls := cls, members := mem, phase := if now then .opened else .erasing,
      unerased := if now then [] else List.range mem.length, size := rows * (s.ftlm.width - 1) }
    let s := { s with ftlm.bands := tins b x s.ftlm.bands }
    let s := mem.foldl (fun s k =>
      let s := s.modBlk k.1 k.2 fun y =>
        { y with use := .band b, rewrite := false, readAt := 0,
                 qlc := if now && !slc then y.qlc + 1 else y.qlc, slc := if now && slc then y.slc + 1 else y.slc }
      if now then s else s.queueErase k.1 k.2 (workClass cls)) s
    s.spaceSync.landSync
  else if s.gcVictim.isNone && s.fewFree then { s with ftlm.exhausted := true }
  else s

/-- Every member die of a band is in service. -/
def State.bandUp (s : State) (x : Band) : Bool := x.members.all fun m => (s.die m.1).live

/-- The open band of a class that has `n` data pages left; the lowest-numbered one (capture takes them in rotation, R316). -/
def State.openWith (s : State) (cls n : Nat) : Option Nat :=
  let l := (s.ftlm.bands.filter fun e => e.2.cls = cls && e.2.phase = .opened && decide (e.2.next + n ≤ e.2.size) && s.bandUp e.2).map (·.1)
  if cls = 0 then (l.find? fun b => decide (s.ftlm.rotation < b)).or l.head? else l.head?

/-- A band whose members are being erased is given up: its blocks are free again. -/
def State.giveUpBand (s : State) (b : Nat) : State :=
  let s := (s.band b).members.foldl (fun s m => s.modBlk m.1 m.2 fun k => if k.use = .retired then k else { k with use := .free }) s
  { s with ftlm.bands := tdel b s.ftlm.bands }

/-- Pages for a class: in an open band, else one is opened for it, and the pages are there at once only inside a drain. -/
def State.room (s : State) (cls n : Nat) (now : Bool) : Option Nat × State :=
  match s.openWith cls n with
  | some b => (some b, if cls = 0 then { s with ftlm.rotation := b } else s)
  | none =>
    let s := s.openBand cls now
    match s.openWith cls n with
    | some b => (some b, if cls = 0 then { s with ftlm.rotation := b } else s)
    | none => (none, s)

/-- A band closes: its close sequence, and its summary in the metadata reserve (R299, R303, R438). -/
def State.closeBand (s : State) (b : Nat) : State :=
  let q := s.ftlm.closeSeq + 1
  let recs := (s.media.pages.filter fun e => e.1 / 65536 = b).flatMap fun e =>
    e.2.oob.zipIdx.map fun r => (mkPua b (e.1 % 65536) r.2, r.1)
  let s := (s.band b).members.foldl (fun s m => s.modBlk m.1 m.2 fun k => { k with readAt := s.now }) s
  let s := { s with ftlm.closeSeq := q, media.summaries := tins b (q, recs) s.media.summaries }
  (s.modBand b fun x => { x with phase := .closed, closeSeq := q }).freeBand b

/-- Every page of a capture band that will be programmed has been: no frame is bound for it, and each coarse unit mapped to it has its
64 pages (R315). -/
def State.captureDone (s : State) (b : Nat) : Bool :=
  !(s.ingp.any fun e => (e.2.cruc0 ++ e.2.cruc1).any fun f => (f.place.any fun p => puaBand p = b) && !f.done) &&
  !(s.ftlm.redrives.any fun r => r.2.any fun p => puaBand p = b) &&
  s.ftlm.coarse.all fun e => mapSt e.2 ≠ 1 || puaBand (mapPua e.2) ≠ b ||
    (List.range 64).all fun i => s.media.pages.any fun p => p.1 = pageKey b (puaPage (mapPua e.2) + i)

/-- A full band whose programs have all completed closes; a capture band is full when it has no room for a coarse unit. -/
def State.closeIfFull (s : State) (b : Nat) : State :=
  let x := s.band b
  let full := if x.cls = 0 then decide (x.size < x.next + 64) && s.captureDone b else x.next = x.size
  if x.phase = .opened && full && !(s.ftlm.progs.any fun e => e.2.band = b) && !(s.ftlm.moves.any fun m => puaBand m.dst = b)
  then s.closeBand b else s

/-! ### Programs -/

/-- A fine unit as destage copies it: its 64 lines, its poison mask, and the generations of the tier's lines (R311). -/
def State.unitCopy (s : State) (u : Nat) : List (BitVec 512) × Nat × List (Nat × Nat) :=
  let ls := (List.range 64).map fun i => s.tierLine (64 * u + i)
  let held := s.tier.lines.filter fun e => e.1 / 64 = u
  (ls.map (·.1), bitsOf ((List.range 64).filter fun i => ((ls.getD i (0, false)).2)), held.map fun e => (e.1, e.2.gen))

/-- The bound range of a unit (14_memory_protection.md R591). -/
def State.unitRange (s : State) (coarse : Bool) (u : Nat) : Option (Nat × Range) :=
  s.mprt.ranges.find? fun e =>
    e.2.bound && e.2.packed = coarse && decide (e.2.first ≤ u) && decide (u < e.2.first + e.2.count)

/-- The key slot a unit is written under: its range's, else the device slot (14_memory_protection.md R592). -/
def State.unitSlot (s : State) (coarse : Bool) (u : Nat) : Nat :=
  match s.unitRange coarse u with
  | some e => e.2.slot
  | none => s.mprt.devslot

/-- A page of up to four fine units of a class, with its sequences and key slots (R297, R312, R331; 14_memory_protection.md R592). -/
def State.finePage (s : State) (cls : Nat) (units : List Nat) : MPage × List (Nat × Nat) × State :=
  let (q, s) := s.takeSeqs 4
  let c := units.map fun u => (u, s.unitCopy u)
  let page : MPage :=
    { MPage.reset with
      oob := c.zipIdx.map fun x => { Oob.reset with cls := cls, lunit := x.1.1, seq := q + x.2, pmask := x.1.2.2.1, slot := s.unitSlot false x.1.1 }
      lines := tputs 0 [] 0 (c.flatMap fun x => x.2.1) }
  (page, c.flatMap fun x => x.2.2.2, s)

/-- The data die, block and page of a data page (R300). -/
def Band.place (b : Band) (dpage : Nat) : Nat × Nat × Nat :=
  let w := b.members.length
  let r := dpage / (w - 1)
  let k := dpage % (w - 1)
  let p := r % w
  let m := if k < p then k else k + 1
  let x := b.members.getD m (0, 0)
  (x.1, x.2, r)

/-- A page program issued to the next data page of a band, in the class of its work (21_priorities.md R806); its number is the answer. -/
def State.issueProgram (s : State) (b : Nat) (page : MPage) (src : ProgSrc) (units : List (Nat × Nat)) : Nat × State :=
  let x := s.band b
  let id := s.ftlm.nextId
  let d := (x.place x.next).1
  let cls := if src = .tier then s.destageClass else workClass x.cls
  let s := { s with ftlm.progs := tins id { band := b, dpage := x.next, page := page, src := src, units := units } s.ftlm.progs,
                    ftlm.nextId := id + 1 }
  let s := s.modBand b fun x => { x with next := x.next + 1 }
  (id, s.queueOp d { DieOp.reset with kind := .program, cls := cls, ref := id, leg := .other })

/-- A completed page stands in media (R312, R435). -/
def State.storePage (s : State) (b dpage : Nat) (page : MPage) : State :=
  { s with media.pages := tins (pageKey b dpage) page s.media.pages,
           media.seqHigh := page.oob.foldl (fun m r => max m r.seq) s.media.seqHigh,
           pers.programmed := s.pers.programmed + 1 }

/-- A page's write sequence still maps its unit: no later discard and no later copy (R330). -/
def State.stillNewest (s : State) (coarse : Bool) (u seq : Nat) : Bool :=
  let e := s.mapEntry coarse u
  if mapSt e = 2 then decide (mapPua e < seq % 2 ^ 36)
  else if mapSt e = 1 then
    let p := mapPua e
    decide (((s.mpage (puaBand p) (puaPage p)).rec_ (puaSlot p)).seq < seq)
  else true

/-- The fine units of a completed destage page: their entries change and their unchanged lines are dirty no longer (R313, R314,
R443). -/
def State.destaged (s : State) (b dpage : Nat) (page : MPage) (gens : List (Nat × Nat)) : State :=
  let s := page.oob.zipIdx.foldl (fun s r =>
    if !r.1.coarse && s.stillNewest false r.1.lunit r.1.seq then s.setEntry false r.1.lunit (mapped (mkPua b dpage r.2)) else s) s
  { s with tier.lines := s.tier.lines.map fun e =>
      if gens.any fun g => g.1 = e.1 && g.2 = e.2.gen then (e.1, { e.2 with dirty := false, held := false }) else e }

/-- The fine units with a dirty line, or with one held from the quench reserve. -/
def State.dirtyUnits (s : State) : List Nat :=
  distinct ((s.tier.lines.filter fun e => e.2.dirty || e.2.held).map fun e => e.1 / 64)

/-- Four units at a time are destaged, each page programmed at once (R85 step 3). -/
def State.destageUnits (s : State) : List Nat → Nat → State
  | [], _ => s
  | _, 0 => s
  | us, n + 1 =>
    match s.room 1 1 true with
    | (none, s) => s
    | (some b, s) =>
      let dp := (s.band b).next
      let (page, gens, s) := s.finePage 1 (us.take 4)
      let s := s.modBand b fun x => { x with next := dp + 1 }
      let s := (s.storePage b dp page).destaged b dp page gens
      (s.closeIfFull b).destageUnits (us.drop 4) n

/-- The whole dirty budget destaged (R85 step 3, R55). Programs under way complete first. -/
def State.destageAll (s : State) : State :=
  let s := s.flushNear
  let s := s.ftlm.progs.foldl (fun s e =>
    if e.2.src = .tier then
      let s := (s.storePage e.2.band e.2.dpage e.2.page).destaged e.2.band e.2.dpage e.2.page e.2.units
      { s with ftlm.progs := tdel e.1 s.ftlm.progs }
    else s) s
  let us := s.dirtyUnits
  (s.destageUnits us us.length).applyLimit

/-- A reserve page of up to 236 dirty lines (R433). -/
def State.reservePage (s : State) (ls : List (Nat × TLine)) : State :=
  let (q, s) := s.takeSeqs 1
  let page : Qpage := { Qpage.reset with seq := q, lines := ls.map fun e => (e.1, e.2.data, e.2.poison) }
  let keys := ls.map (·.1)
  { s with media.reserve := page :: s.media.reserve, media.seqHigh := max q s.media.seqHigh,
           tier.lines := s.tier.lines.map fun e => if e.1 ∈ keys then (e.1, { e.2 with dirty := false, held := true }) else e }

/-- Up to `n` pages of dirty lines programmed into the quench reserve, in ascending order; the lines stay held (R52, R425, R432). -/
def State.reservePages (s : State) : Nat → State
  | 0 => s
  | n + 1 =>
    match (s.tier.lines.filter fun e => e.2.dirty).take 236 with
    | [] => s
    | ls => (s.reservePage ls).reservePages n

/-- Every dirty line programmed into the quench reserve (R425 Q5, R52). -/
def State.reserveDirty (s : State) : State :=
  let s := s.flushNear
  (s.reservePages (ceilDiv s.tierDirty.length 236)).applyLimit

/-- A QUENCH cut short has programmed some of the pages it needed. -/
def State.reserveSome (s : State) (k : Nat) : State :=
  let s := s.flushNear
  s.reservePages (k % (ceilDiv s.tierDirty.length 236 + 1))

/-- A marker page of the quench reserve (R434). -/
def State.markerPage (s : State) (kind duration dirty : Nat) (unsealed : List Nat) : State :=
  let (q, s) := s.takeSeqs 1
  { s with media.reserve := { Qpage.reset with seq := q, marker := kind, duration := duration, dirtyMib := dirty, unsealed := unsealed } ::
             s.media.reserve,
           media.seqHigh := max q s.media.seqHigh }

/-- The quench open marker (R432, R425 Q2). -/
def State.openMarker (s : State) : State := s.markerPage 1 0 0 []

/-- The quench final record (R434): the duration in us and the dirty amount at Q5. -/
def State.finalRecord (s : State) (us : Nat) (unsealed : List Nat) : State :=
  { s.markerPage 2 us (ceilDiv (64 * s.pers.quenchDirty) (2 ^ 20)) unsealed with media.session := .quenched }

/-- Queued die operations of classes P3 to P7 are dropped; the sources of their data stay as they were (R426). -/
def State.dropQueued (s : State) : State :=
  let keepOp (o : DieOp) : Bool := decide (o.cls < 3)
  let dropped := s.clus.dies.flatMap fun e => (e.2.queue.filter fun o => !keepOp o && o.kind = .program).map (·.ref)
  { s with clus.dies := s.clus.dies.map fun e => (e.1, { e.2 with queue := e.2.queue.filter keepOp }),
           ftlm.progs := s.ftlm.progs.filter fun e => e.1 ∉ dropped }

/-- Suspended operations are resumed (R406, R407); a read in an array is not aborted (R402), and the operation it suspended follows it. -/
def State.resumeAll (s : State) : State :=
  { s with clus.dies := s.clus.dies.map fun e =>
      (e.1, match e.2.paused, e.2.array with
        | some o, none => { e.2 with array := some o, paused := none, suspending := false, servedP1 := 0 }
        | _, _ => { e.2 with suspending := false, servedP1 := 2 }) }

/-- Every open band is sealed: programs in the dies complete, missing pages read as zeros, moves not complete are abandoned where
they were (R428, R425 Q6). -/
def State.sealBands (s : State) : State :=
  let s := s.ftlm.progs.foldl (fun s e =>
    match e.2.src with
    | .tier => (s.storePage e.2.band e.2.dpage e.2.page).destaged e.2.band e.2.dpage e.2.page e.2.units
    | .frame _ => s.storePage e.2.band e.2.dpage e.2.page
    | _ => s) s
  let s := { s with ftlm.progs := [], ftlm.moves := [] }
  (s.ftlm.bands.filter fun e => e.2.phase = .opened).foldl (fun s e => s.closeBand e.1) s

/-- Buffered abandonment records are programmed into the map journal (R440). -/
def State.flushJournal (s : State) : State :=
  { s with media.journal := s.ftlm.abandoned ++ s.media.journal, ftlm.abandoned := [] }

/-- A move is abandoned after its program: its record waits for the next journal page (R325, R439, R440). -/
def State.abandonMove (s : State) (m : Move) : State :=
  let (q, s) := s.takeSeqs 1
  { s with ftlm.abandoned := { seq := q, kind := .abandon, first := m.dst, count := 1 } :: s.ftlm.abandoned }

/-- A block retired: its spare takes its place while the die has one (R334); SPARELOW at 8 or fewer (R347). -/
def State.retireBlk (s : State) (d b : Nat) : State :=
  let left := s.spareCount - (s.die d).sparesUsed
  let s := s.modBlk d b fun k => { k with use := .retired }
  let s := { s with media.retiredBlocks := satInc 20 s.media.retiredBlocks }
  let s := s.modDie d fun x => { x with sparesUsed := min s.spareCount (x.sparesUsed + 1), badBlocksAt := s.now :: x.badBlocksAt }
  if 8 < left && decide (left - 1 ≤ 8) then s.cause .ftlm 3 else s

/-- The lines of discarded fine units leave the near cache and the DRAM tier; a fill under way is not installed (R153, R328). -/
def State.dropUnit (s : State) (u : Nat) : State :=
  { s with tier.lines := s.tier.lines.filter fun e => e.1 / 64 ≠ u,
           cxlp.poisonList := s.cxlp.poisonList.filter fun l => l / 64 ≠ u,
           ncch.slices := s.ncch.slices.map fun e =>
             (e.1, { e.2 with miss := e.2.miss.map fun m => if m.line / 64 = u then { m with noInstall := true } else m,
                              ways := e.2.ways.filterMap fun w =>
                                if w.2.st ≠ .invalid && w.2.line / 64 = u then
                                  (if w.2.locked then some (w.1, { Way.reset with locked := true }) else none)
                                else some w }) }

/-- The quench reserve holds data of a unit. -/
def State.inReserve (s : State) (coarse : Bool) (u : Nat) : Bool :=
  s.media.reserve.any fun p => if coarse then p.hank.any (fun h => h.1 = u) else p.lines.any fun l => l.1 / 64 = u

/-- Units are discarded with the write sequence of their journal record (R328 to R330). -/
def State.discardUnits (s : State) (coarse : Bool) (first count seq : Nat) : State :=
  (List.range count).foldl (fun s i =>
    let u := first + i
    let s := s.setEntry coarse u (discarded seq)
    if coarse then s else s.dropUnit u) s |>.spaceSync |>.landSync

/-- The exported capacity in MiB (R345). -/
def State.exportNow (s : State) : Nat :=
  let (b, dense, _) := s.geometry
  let w := s.ftlm.width
  if w = 0 then 0 else s.liveDies.length * (b * 57 / 64) * dense * 16 * (w - 1) / (1024 * w)

/-- The strand whose hank holds a coarse unit (R291). -/
def State.unitStrand (s : State) (c : Nat) : Option (Nat × Strand) :=
  s.strd.strands.find? fun e => e.2.st ≠ .free && decide (e.2.hbase ≤ c) && decide (c < e.2.hbase + e.2.hsize)

/-- Coarse units allocated to hanks: those that strands hold and the MAPPED ones that no strand holds, each once (FTLM.HANKUSE,
12_capture.md R493). -/
def State.hankUse (s : State) : Nat :=
  s.strd.strands.foldl (fun n e => if e.2.st = .free then n else n + e.2.hsize) 0 +
  (s.ftlm.coarse.filter fun e => mapSt e.2 = 1 && (s.unitStrand e.1).isNone).length

/-- R336 as C7 evaluates it. -/
def State.shortOfSpace (s : State) : Bool :=
  s.gcVictim.isNone && s.fewFree

/-! ### Moves -/

/-- The units MAPPED into a band: coarse ones, then fine ones. -/
def State.bandUnits (s : State) (b : Nat) : List (Bool × Nat × Nat) :=
  let pick (c : Bool) (t : Tbl Word) := t.filterMap fun e =>
    if mapSt e.2 = 1 && puaBand (mapPua e.2) = b && !(s.ftlm.moves.any fun m => m.coarse = c && m.unit = e.1) then
      some (c, e.1, mapPua e.2) else none
  pick true s.ftlm.coarse ++ pick false s.ftlm.fine

/-- Moves of units begun in the open band of a class: coarse units where 64 data pages remain, fine units four to a page (R307,
R325). -/
def State.startMoves (s : State) (cls : Nat) (kind : MoveKind) (now : Bool) : List (Bool × Nat × Nat) → Nat → State
  | [], _ => s
  | _, 0 => s
  | (true, u, src) :: rest, n + 1 =>
    match s.openWith cls 64 with
    | some b =>
      let (q, s) := s.takeSeqs 256
      let dp := (s.band b).next
      let s := s.modBand b fun x => { x with next := dp + 64 }
      let m : Move := { coarse := true, unit := u, src := src, dst := mkPua b dp 0, seq := q, kind := kind }
      State.startMoves { s with ftlm.moves := s.ftlm.moves ++ [m] } cls kind now rest n
    | none =>
      let s := s.openBand cls now
      if (s.openWith cls 64).isSome then s.startMoves cls kind now ((true, u, src) :: rest) n
      -- a coarse unit never spans two bands: what is left of the open band is filled with fine units
      else s.startMoves cls kind now (rest.filter fun x => !x.1) n
  | fine, n + 1 =>
    match s.openWith cls 1 with
    | none =>
      let s := s.openBand cls now
      if (s.openWith cls 1).isSome then s.startMoves cls kind now fine n else s
    | some b =>
      let (q, s) := s.takeSeqs 4
      let dp := (s.band b).next
      let s := s.modBand b fun x => { x with next := dp + 1 }
      let four := (fine.take 4).zipIdx.map fun x =>
        ({ coarse := false, unit := x.1.2.1, src := x.1.2.2, dst := mkPua b dp x.2, seq := q + x.2, kind := kind } : Move)
      State.startMoves { s with ftlm.moves := s.ftlm.moves ++ four } cls kind now (fine.drop 4) n

/-- A moved slot stands in its destination page. -/
def State.copySlot (s : State) (m : Move) : State :=
  let sp := s.mpage (puaBand m.src) (puaPage m.src)
  let dk := pageKey (puaBand m.dst) (puaPage m.dst)
  let dp := tget MPage.reset s.media.pages dk
  let ss := puaSlot m.src
  let ds := puaSlot m.dst
  let oob := (dp.oob ++ List.replicate 4 Oob.reset).take (max dp.oob.length (ds + 1))
  let pm := if ss ∈ sp.bad then 2 ^ 64 - 1 else (sp.rec_ ss).pmask
  let page := { dp with
    oob := oob.set ds { (sp.rec_ ss) with cls := (s.band (puaBand m.dst)).cls, lunit := m.unit, seq := m.seq, pmask := pm, slot := s.unitSlot false m.unit }
    lines := (List.range 64).foldl (fun t i => tput 0 t (64 * ds + i) (tget 0 sp.lines (64 * ss + i))) dp.lines }
  s.storePage (puaBand m.dst) (puaPage m.dst) page

/-- The 64 pages of a moved coarse unit stand in their destination (R327, R332). -/
def State.copyCoarse (s : State) (m : Move) : State :=
  (List.range 64).foldl (fun s i =>
    let sp := s.mpage (puaBand m.src) (puaPage m.src + i)
    if sp = MPage.reset then s else
    let page := { sp with oob := sp.oob.zipIdx.map fun r =>
      { r.1 with cls := (s.band (puaBand m.dst)).cls, seq := m.seq + 4 * i + r.2, slot := s.unitSlot true m.unit,
                 pmask := if r.2 ∈ sp.bad then 2 ^ 64 - 1 else r.1.pmask }, bad := [] }
    s.storePage (puaBand m.dst) (puaPage m.dst + i) page) s

/-- A move completes: its copy stands, and the map entry changes if it still holds the source (R325). -/
def State.completeMove (s : State) (m : Move) : State :=
  let s := { s with ftlm.moves := s.ftlm.moves.filter fun x => x ≠ m }
  let s := if m.coarse then s.copyCoarse m else s.copySlot m
  let s := if s.mapEntry m.coarse m.unit = mapped m.src then s.setEntry m.coarse m.unit (mapped m.dst) else s.abandonMove m
  (s.closeIfFull (puaBand m.dst)).spaceSync.landSync

/-- Units moved at once, inside a recovery phase or C7. -/
def State.relocate (s : State) (kind : MoveKind) (us : List (Bool × Nat × Nat)) : State :=
  let s := s.startMoves 3 kind true us (4 * us.length + 4)
  (s.ftlm.moves.filter fun m => m.kind = kind && us.any fun u => u.1 = m.coarse && u.2.1 = m.unit).foldl State.completeMove s

/-! ### Checkpoints -/

/-- A checkpoint takes its cut: the map lines changed since the last cut and one sixteenth of each map, the line numbers that leave
the rotation's remainder (R436). -/
def State.checkpointCut (s : State) : State :=
  let (q, s) := s.takeSeqs 1
  let r := s.pers.rotation
  let pick (changed : List Nat) (t : Tbl Word) : Tbl Word :=
    t.filter fun e => decide (e.1 / 12 ∈ changed) || decide (e.1 / 12 % 16 = r)
  let c : Ckpt :=
    { s := q, fine := pick s.ftlm.changedFine s.ftlm.fine, coarse := pick s.ftlm.changedCoarse s.ftlm.coarse,
      bands := s.ftlm.bands, jpos := s.media.journal.length + s.ftlm.abandoned.length,
      patina := s.clus.patina.map fun e => (e.1, e.2.off) }
  { s with pers.ckptBusy := some c, pers.ckptWaiting := false, pers.rotation := (r + 1) % 16, pers.cutAt := s.now,
           pers.cutCohort := s.cohortNs, pers.programmed := 0, ftlm.changedFine := [], ftlm.changedCoarse := [] }

/-- A checkpoint falls due (R435, R436): at rest it waits for the wake, behind another record for that one's end. -/
def State.checkpointDue (s : State) : State :=
  if s.pers.ckptBusy.isSome || s.sysc.mode = .rest then { s with pers.ckptWaiting := true }
  else match s.sysc.mode with
    | .memory | .stream | .safe => s.checkpointCut
    | _ => s

/-- The time that passes before a checkpoint is due: 60 s since the last cut, unless 64 GiB have been programmed since (R435; log 2). -/
def State.checkpointWait (s : State) : Nat :=
  if 64 * 2 ^ 30 ≤ s.pers.programmed * 16384 then 0 else s.pers.cutAt + 60 * 10 ^ 9 - s.now

/-- A checkpoint that waits takes its cut. -/
def State.checkpointNext (s : State) : State :=
  if s.pers.ckptWaiting then { s with pers.ckptWaiting := false }.checkpointDue else s

end Sys2Proof.Machine
end

