-- ==== Sys2Proof/Machine/Crucible.lean ====
section
/-!
DEFINITION. The crucibles: frames, the places of coarse units, the driving of sealed frames to media, and their release
(12_capture.md R504 to R516).
-/
namespace Sys2Proof.Machine

/-- Words of a coarse unit (07_translation.md R290). -/
def unitWords : Nat := 209664
/-- Words of a hank page. -/
def pageWords : Nat := 3276
/-- Coarse units of the packed view (R291). -/
def unitCount : Nat := 134250504

/-- The state with one strand changed. -/
def State.modStrand (s : State) (n : Nat) (f : Strand → Strand) : State :=
  { s with strd.strands := tmod Strand.reset s.strd.strands n f }
/-- The state with one ingest pipe changed. -/
def State.modPipe (s : State) (p : Nat) (f : Pipe → Pipe) : State := { s with ingp := tmod Pipe.reset s.ingp p f }

/-- The frames of a pipe, of both crucibles. -/
def Pipe.frames (q : Pipe) : List Frame := q.cruc0 ++ q.cruc1
/-- The frames of one crucible. -/
def Pipe.cruc (q : Pipe) (i : Nat) : List Frame := if i = 0 then q.cruc0 else q.cruc1
/-- The pipe with the frames of one crucible changed. -/
def Pipe.modCruc (q : Pipe) (i : Nat) (f : List Frame → List Frame) : Pipe :=
  if i = 0 then { q with cruc0 := f q.cruc0 } else { q with cruc1 := f q.cruc1 }
/-- Free frames of a crucible (R507). -/
def Pipe.free (q : Pipe) (i : Nat) : Nat := 256 - (q.cruc i).length
/-- The crucible that is not filling. -/
def Pipe.other (q : Pipe) : Nat := if q.filling = 0 then 1 else 0
/-- MARKREW. -/
def Pipe.markrew (q : Pipe) : Bool := wbit q.ctrl 0
/-- DROPREM. -/
def Pipe.droprem (q : Pipe) : Bool := wbit q.ctrl 1
/-- The producer may move to the other crucible (R511). -/
def Pipe.mayMove (q : Pipe) : Bool := if q.markrew then decide (0 < q.free q.other) else decide (q.free q.other = 256)
/-- Frames that a strand could take without waiting (R512). -/
def Pipe.avail (q : Pipe) : Nat := (if q.sealwait then 0 else q.free q.filling) + (if q.mayMove then q.free q.other else 0)

/-- Every frame changed. -/
def State.mapFrames (s : State) (f : Frame → Frame) : State :=
  { s with ingp := s.ingp.map fun (e : Nat × Pipe) => (e.1, { e.2 with cruc0 := e.2.cruc0.map f, cruc1 := e.2.cruc1.map f }) }

/-- Every frame in use. -/
def State.frames (s : State) : List Frame := s.ingp.flatMap fun e => e.2.frames

/-- The frame that holds a page of a coarse unit, newest contents only (R506, R508). -/
def State.frameOf (s : State) (c page : Nat) : Option Frame :=
  s.frames.find? fun f => f.unit = c && f.page = page && !f.stale

/-- SKID in force in units of 64 KiB (11_ingest_port.md KSPE.FCCTL). -/
def State.skid (s : State) : Nat := clampN 4 32 (fld s.kspe.fcctl 0 8)

/-- A pipe is held back below the skid reserve and released at twice that space (11_ingest_port.md R462). -/
def State.holdSync (s : State) (p : Nat) : State :=
  let a := (s.pipe p).avail
  if a < 4 * s.skid then { s with kspe.heldPipes := withNew s.kspe.heldPipes p }
  else if 8 * s.skid ≤ a then { s with kspe.heldPipes := without s.kspe.heldPipes p } else s

/-- The programmed media page that holds a page of a coarse unit: its band and data page (R315). -/
def State.hankPlace (s : State) (c page : Nat) : Option (Nat × Nat) :=
  let e := s.mapEntry true c
  if mapSt e = 1 then some (puaBand (mapPua e), puaPage (mapPua e) + page) else none

/-- A media page has been programmed. -/
def State.stored (s : State) (band dpage : Nat) : Bool := s.media.pages.any fun e => e.1 = pageKey band dpage

/-- The quench reserve pages written after the newest open marker, newest first (10_persistence.md R443). -/
def State.reserveNow (s : State) : List Qpage := s.media.reserve.takeWhile fun p => p.marker ≠ 1

/-- What a reserve page holds of a unit counts: the unit has not been discarded after the page was programmed (R330). -/
def State.reserveCounts (s : State) (coarse : Bool) (u : Nat) (p : Qpage) : Bool :=
  let e := s.mapEntry coarse u
  !(mapSt e = 2 && decide (p.seq < mapPua e))

/-- A hank page that the quench reserve holds (10_persistence.md R427). -/
def State.reserveHankPage (s : State) (c page : Nat) : Option MPage :=
  s.reserveNow.findSome? fun p => match p.hank with
    | some (u, i, m) => if u = c && i = page && s.reserveCounts true c p then some m else none
    | none => none

/-- Coarse units with pages in the quench reserve that count. -/
def State.reserveUnits (s : State) : List Nat :=
  distinct (s.reserveNow.reverse.filterMap fun p => p.hank.bind fun h => if s.reserveCounts true h.1 p then some h.1 else none)

/-- A page of a coarse unit as its place holds it, or else the quench reserve. -/
def State.hankPage (s : State) (c page : Nat) : Option MPage :=
  match s.hankPlace c page with
  | some (b, dp) => if s.stored b dp then some (s.mpage b dp) else s.reserveHankPage c page
  | none => s.reserveHankPage c page

/-- The quench reserve holds the only copy of a hank page. -/
def State.reserveNeeded (s : State) : Bool :=
  s.reserveUnits.any fun c => (List.range 64).any fun i => (s.reserveHankPage c i).isSome && match s.hankPlace c i with
    | some (b, dp) => !s.stored b dp
    | none => true

/-! ### Places of coarse units -/

/-- The open capture bands with room for a coarse unit. -/
def State.captureBands (s : State) : List Nat :=
  (s.ftlm.bands.filter fun e => e.2.cls = 0 && e.2.phase = .opened && decide (e.2.next + 64 ≤ e.2.size) && s.bandUp e.2).map (·.1)

/-- A capture band whose members are being erased. -/
def State.captureErasing (s : State) : Bool := s.ftlm.bands.any fun e => e.2.cls = 0 && e.2.phase = .erasing

/-- A place of 64 data pages in an open capture band other than `avoid`, the next in rotation; where there is none another band is
opened, and `avoid` serves only where none can be (R315, R316). -/
def State.capturePlace (s : State) (avoid : Option Nat) (now : Bool) : Option Nat × State :=
  let pick (s : State) : Option Nat :=
    let l := s.captureBands.filter fun b => some b ≠ avoid
    (l.find? fun b => decide (s.ftlm.rotation < b)).or l.head?
  let s := if (pick s).isNone && !s.captureErasing then s.openBand 0 now else s
  let b := (pick s).or (if s.captureErasing then none else s.captureBands.head?)
  match b with
  | none => (none, s)
  | some b =>
    let dp := (s.band b).next
    (some (mkPua b dp 0), { s.modBand b fun x => { x with next := dp + 64 } with ftlm.rotation := b })

/-- The capture band of the coarse unit before one in its hank (R316). -/
def State.bandBefore (s : State) (c : Nat) : Option Nat :=
  match s.unitStrand c with
  | none => none
  | some (_, x) =>
    let e := s.mapEntry true (x.hbase + (c - x.hbase + x.hsize - 1) % x.hsize)
    let b := puaBand (mapPua e)
    if mapSt e = 1 && (s.band b).cls = 0 then some b else none

/-- A page program issued to a given data page; its number is the answer. -/
def State.issueAt (s : State) (b dp : Nat) (page : MPage) (src : ProgSrc) : Nat × State :=
  let x := s.band b
  let id := s.ftlm.nextId
  let releasing (o : Oob) : Bool := o.coarse && (s.unitStrand o.lunit).any fun y => y.2.releasing.isSome
  let cls := if page.oob.any releasing then 1 else workClass x.cls
  let s := { s with ftlm.progs := tins id { band := b, dpage := dp, page := page, src := src, units := [] } s.ftlm.progs,
                    ftlm.nextId := id + 1 }
  (id, s.queueOp (x.place dp).1 { DieOp.reset with kind := .program, cls := cls, ref := id, leg := .other })

/-- The programmed pages of a coarse unit that no frame holds are copied to a new place as P2, with fresh sequences (R516). -/
def State.copyUnit (s : State) (c dst : Nat) : State :=
  (List.range 64).foldl (fun s i =>
    match s.hankPlace c i with
    | none => s
    | some (b, dp) =>
      if !s.stored b dp || (s.frameOf c i).isSome then s
      else
        let (q, s) := s.takeSeqs 4
        let old := s.mpage b dp
        let page := { old with
          oob := old.oob.zipIdx.map fun r =>
            { r.1 with cls := 0, seq := q + r.2, slot := s.unitSlot true c, pmask := if r.2 ∈ old.bad then 2 ^ 64 - 1 else r.1.pmask }
          bad := [] }
        (s.issueAt (puaBand dst) (puaPage dst + i) page .move).2) s

/-- The programs of a coarse unit's capture pages that are under way no longer count: they are driven again elsewhere. -/
def State.forgetPrograms (s : State) (c : Nat) : State :=
  { s with ftlm.progs := s.ftlm.progs.map fun (e : Nat × Prog) =>
      let mine := (e.2.page.oob.any fun r => r.coarse && r.lunit = c) && (match e.2.src with | .frame _ => true | .move => true | _ => false)
      (e.1, if mine then { e.2 with src := .none } else e.2) }

/-- A coarse unit moves to a new place: its pages already programmed are copied there, and its frames are driven there (R516). -/
def State.redriveUnit (s : State) (c : Nat) (now : Bool) : State :=
  let e := s.mapEntry true c
  let old := (s.ftlm.redrives.find? fun r => r.1 = c).bind (·.2)
  let s := s.forgetPrograms c
  let s := s.mapFrames fun f => if f.unit = c && !f.stale then { f with writing := none, done := false } else f
  let avoid := (old.map puaBand).or (if mapSt e = 1 then some (puaBand (mapPua e)) else none)
  let (p, s) := s.capturePlace avoid now
  let s := { s with ftlm.redrives := s.ftlm.redrives.filter (fun r => r.1 ≠ c) ++ [(c, p)] }
  match p with | some dst => s.copyUnit c dst | none => s

/-- The place to which a frame's page goes, if there is one now (R315, R516). A unit whose band takes no more capture pages moves to a
new place first. -/
def State.framePlace (s : State) (f : Frame) (now : Bool) : Option Nat × State :=
  match f.place with
  | some p => (some p, s)
  | none =>
    if f.stale then
      match s.capturePlace none now with
      | (none, s) => (none, s)
      | (some p, s) => (some p, s.mapFrames fun g => if g.unit = f.unit && g.stale && g.gen = f.gen then { g with place := some p } else g)
    else
      let move (s : State) : Option Nat × State :=
        let s := s.redriveUnit f.unit now
        ((s.ftlm.redrives.find? fun r => r.1 = f.unit).bind (·.2), s)
      match s.ftlm.redrives.find? fun r => r.1 = f.unit with
      | some (_, some p) => if (s.band (puaBand p)).phase = .opened then (some p, s) else move s
      | some (_, none) => move s
      | none =>
        let e := s.mapEntry true f.unit
        let b := s.band (puaBand (mapPua e))
        if mapSt e = 1 then
          if b.phase = .opened && b.cls = 0 then (some (mapPua e), s) else move s
        else
          match s.capturePlace (s.bandBefore f.unit) now with
          | (none, s) => (none, s)
          | (some p, s) => (some p, s.setEntry true f.unit (mapped p))

/-! ### Driving and releasing frames -/

/-- A record that has ended and is not committed yet covers a word of the frame's page: the frame is not drained before
(04_host_port.md R179). -/
def State.frameHeld (s : State) (f : Frame) : Bool :=
  let a := (f.unit - (s.strand f.strand).hbase) * unitWords + f.page * pageWords
  !f.stale && s.strd.commits.any fun k =>
    k.strand = f.strand && k.slot ≠ 0 && decide (k.start < a + pageWords) && decide (a < k.start + fld k.slot 0 18)

/-- The frame takes its hank page counter: the pages programmed into its hank since ALLOC, 0 skipped (R505). -/
def State.frameCounter (s : State) (f : Frame) : Nat × State :=
  if f.counter ≠ 0 then (f.counter, s)
  else
    let n := (s.strand f.strand).pages + 1
    let n := if n % 2 ^ 32 = 0 then n + 1 else n
    (n % 2 ^ 32, s.modStrand f.strand fun x => { x with pages := n })

/-- The hank page that a frame holds, with fresh write sequences (R312, R331, R504). -/
def State.framePage (s : State) (f : Frame) : MPage × State :=
  let (k, s) := s.frameCounter f
  let (q, s) := s.takeSeqs 4
  let slot := s.unitSlot true f.unit
  ({ MPage.reset with
     oob := (List.range 4).map fun i =>
       { Oob.reset with coarse := true, cls := 0, cpage := f.page, lunit := f.unit, seq := q + i, slot := slot }
     words := f.words, counter := k }, s)

/-- One frame of a pipe's crucible changed. -/
def State.modFrame (s : State) (p i : Nat) (f : Frame) (g : Frame → Frame) : State :=
  s.modPipe p fun q => q.modCruc i fun l => l.map fun x => if x.unit = f.unit && x.page = f.page && x.gen = f.gen && x.stale = f.stale && x.sealed = f.sealed then g x else x

/-- A sealed frame is driven to media (R514, R312); none where it has no place yet. -/
def State.driveFrame (s : State) (p i : Nat) (f : Frame) : State × Bool :=
  if s.frameHeld f then (s, false)
  else match s.framePlace f false with
  | (none, s) => (s, false)
  | (some dst, s) =>
    let (page, s) := s.framePage f
    let (id, s) := s.issueAt (puaBand dst) (puaPage dst + f.page) page (.frame p)
    (s.modFrame p i f fun x => { x with writing := some id, counter := page.counter }, true)

/-- The frames of a crucible are driven in frame order, as far as they have places (R514). -/
def State.driveList (s : State) (p i : Nat) : List Frame → State
  | [] => s
  | f :: fs =>
    if f.sealed && f.writing.isNone && !f.done then
      match s.driveFrame p i f with
      | (s, true) => s.driveList p i fs
      | (s, false) => s
    else s.driveList p i fs

/-- A pipe's sealed crucibles are drained, the one sealed first before the other. -/
def State.drivePipe (s : State) (p : Nat) : State :=
  let q := s.pipe p
  let (a, b) := if q.sealwait then (q.other, q.filling) else (q.filling, q.other)
  let s := s.driveList p a (q.cruc a)
  s.driveList p b ((s.pipe p).cruc b)

/-- Every pipe's sealed crucibles. -/
def State.driveAll (s : State) : State := (List.range 4).foldl (fun s p => s.drivePipe p) s

/-- A completed frame may go: no move of its unit keeps it (R516). -/
def State.frameFree (s : State) (f : Frame) : Bool := f.done && (f.stale || !(s.ftlm.redrives.any fun r => r.1 = f.unit))

/-- A waiting producer moves on (R511). -/
def State.movePipe (s : State) (p : Nat) : State :=
  let q := s.pipe p
  if q.sealwait && q.mayMove then s.modPipe p fun q => { q with filling := q.other, sealwait := false, since := none } else s

/-- Frames whose programs have completed are released: one by one, or crucible by crucible (R515). -/
def State.releaseFrames (s : State) (p : Nat) : State :=
  let q := s.pipe p
  let keep (l : List Frame) : List Frame :=
    if q.markrew then l.filter fun f => !s.frameFree f
    else if l.all fun f => f.sealed && s.frameFree f then [] else l
  let s := s.modPipe p fun q => { q with cruc0 := keep q.cruc0, cruc1 := keep q.cruc1 }
  (s.movePipe p).holdSync p

/-- A move of R516 ends when every page is at the new place; the map entry changes. -/
def State.redriveSync (s : State) (c : Nat) : State :=
  match s.ftlm.redrives.find? fun r => r.1 = c with
  | some (_, some dst) =>
    let busy := s.ftlm.progs.any fun e => e.2.src ≠ .none && e.2.band = puaBand dst && decide (puaPage dst ≤ e.2.dpage) &&
      decide (e.2.dpage < puaPage dst + 64)
    let left := s.frames.any fun f => f.unit = c && !f.stale && f.sealed && !f.done
    if busy || left then s
    else
      let s := { s with ftlm.redrives := s.ftlm.redrives.filter fun r => r.1 ≠ c }
      s.setEntry true c (mapped dst)
  | _ => s

/-- A hank page program has completed (R515, R516). -/
def State.hankProgrammed (s : State) (id : Nat) (page : MPage) : State :=
  let s := s.mapFrames fun f => if f.writing = some id then { f with writing := none, done := true } else f
  let s := s.redriveSync (page.rec_ 0).lunit
  let s := (List.range 4).foldl State.releaseFrames s
  s.driveAll

/-- A hank page program has failed: its unit goes to a new place in another open capture band (R516). `copy` says that the page was
being copied and comes from no frame. -/
def State.hankFailed (s : State) (id : Nat) (page : MPage) (copy : Bool) : State :=
  match s.frames.find? fun f => f.writing = some id with
  | none => if copy then (s.redriveUnit (page.rec_ 0).lunit false).driveAll else s
  | some f =>
    let s := s.error (.ingp (f.strand % 4)) 0x41 f.strand (2 ^ 3)
    if f.stale then
      -- earlier contents, no longer mapped: only this page needs another place
      (s.mapFrames fun g => if g.unit = f.unit && g.stale && g.gen = f.gen then
          { g with place := if g.writing.isNone || g.writing = some id then none else g.place, writing := if g.writing = some id then none else g.writing }
        else g).driveAll
    else (s.redriveUnit f.unit false).driveAll

/-! ### Drains -/

/-- A hank page programmed into the quench reserve (10_persistence.md R427). -/
def State.reserveHank (s : State) (c page : Nat) (p : MPage) : State :=
  let p := { p with oob := p.oob.map fun r => { r with qres := true } }
  let q := (p.rec_ 0).seq
  { s with media.reserve := { Qpage.reset with seq := q, hank := some (c, page, p) } :: s.media.reserve, media.seqHigh := max (q + 3) s.media.seqHigh }

/-- A frame programmed at once, inside a drain: at its place, or for QUENCH, where its unit has no place in an open band, into the
quench reserve as a hank page (10_persistence.md R427, R337). -/
def State.drainFrame (s : State) (quench : Bool) (f : Frame) : State :=
  let s := match f.writing with | some id => { s with ftlm.progs := tdel id s.ftlm.progs } | none => s
  let (page, s) := s.framePage f
  let store (s : State) (dst : Nat) : State := s.storePage (puaBand dst) (puaPage dst + f.page) page
  if quench then
    let e := s.mapEntry true f.unit
    let p := f.place.or (if !f.stale && mapSt e = 1 && !(s.ftlm.redrives.any fun r => r.1 = f.unit) then some (mapPua e) else none)
    match p with
    | some dst =>
      if (s.band (puaBand dst)).phase = .opened && (s.band (puaBand dst)).cls = 0 then store s dst
      else s.reserveHank f.unit f.page page
    | none => if f.stale then s else s.reserveHank f.unit f.page page
  else match s.framePlace f true with
    | (some dst, s) => store s dst
    | (none, s) => if f.stale then s else s.reserveHank f.unit f.page page

/-- Every frame of every pipe programmed, and every crucible free (02_modes_and_starts.md R52, R85; 10_persistence.md R425 Q5). -/
def State.drainCrucibles (s : State) (quench : Bool) : State :=
  let s := (List.range 4).foldl (fun s p =>
    let q := s.pipe p
    let s := (q.cruc q.other ++ q.cruc q.filling).foldl (fun s f => if f.done then s else s.drainFrame quench f) s
    (s.modPipe p fun q => { q with cruc0 := [], cruc1 := [], sealwait := false, since := none }).holdSync p) s
  -- copies of R516 complete with the rest, and the units they move are mapped to their new places
  let s := s.ftlm.progs.foldl (fun s e => if e.2.src = .move then
      { s.storePage e.2.band e.2.dpage e.2.page with ftlm.progs := tdel e.1 s.ftlm.progs } else s) s
  s.ftlm.redrives.foldl (fun s r => s.redriveSync r.1) s

end Sys2Proof.Machine
end

