-- ==== Sys2Proof/Machine/Reliability.lean ====
section
/-!
DEFINITION. Die queues, suspends, channel grants, the choice of a read's path, patina, rewrites, lost codewords and retirements
(08_media_reliability.md, 09_media_bus.md, 21_priorities.md R806 to R813).
-/
namespace Sys2Proof.Machine

/-- The state with one channel changed. -/
def State.modChan (s : State) (n : Nat) (f : Onfc → Onfc) : State := { s with clus.onfc := tmod Onfc.reset s.clus.onfc n f }
/-- The state with one media cluster changed. -/
def State.modClu (s : State) (c : Nat) (f : Mclu → Mclu) : State := { s with clus.mclu := tmod Mclu.reset s.clus.mclu c f }

/-- A die that takes commands. -/
def State.dieUp (s : State) (d : Nat) : Bool := (s.die d).live && (s.chan (d / 16)).live

/-- An operation may be suspended for a read leg (R377, R403). -/
def DieOp.suspendable (o : DieOp) (most : Nat) : Bool :=
  (o.kind = .program || o.kind = .erase) && decide (o.cls ≠ 0) && decide (o.suspends ≤ most)

/-- A read operation. -/
def DieOp.isRead (o : DieOp) : Bool := o.kind = .read || o.kind = .softRead

/-- The die is idle for a P1 read, or its operation may be suspended (R377, R404). -/
def Die.opens (x : Die) (most : Nat) : Bool :=
  match x.array, x.paused with
  | none, none => true
  | none, some _ => decide (x.servedP1 < 2)
  | some o, _ => o.suspendable most

/-- Direct-ready (R378 step 1). -/
def State.directReady (s : State) (d : Nat) : Bool :=
  let x := s.die d
  s.dieUp d && !(x.array.any DieOp.isRead) && !(x.queue.any DieOp.isRead) && x.opens 1

/-- Leg-ready (R378 step 2). -/
def State.legReady (s : State) (d : Nat) : Bool :=
  let x := s.die d
  s.dieUp d && !(x.queue.any DieOp.isRead) && (x.array.any DieOp.isRead || x.opens 3)

/-- The oldest operation of the highest class (R401). -/
def nextOp (q : List DieOp) : Option DieOp :=
  q.foldl (fun m o => match m with | some x => if o.cls < x.cls then some o else m | none => some o) none

/-- The patina entry of a block group; an entry not learned holds the profile's start offsets (R361). -/
def State.patinaOf (s : State) (d group : Nat) : Patina :=
  let p := tget Patina.reset s.clus.patina (128 * d + group)
  if p.off.isEmpty then
    { p with off := (((s.chan (d / 16)).profile.getD {}).start ++ List.replicate 16 0).take 16, acc := List.replicate 16 0 }
  else p

/-- The block that a die holds of the band of a PUA. -/
def State.memberBlock (s : State) (pua d : Nat) : Nat :=
  (((s.band (puaBand pua)).members.find? fun m => m.1 = d).map (·.2)).getD 0

/-- The erase block of a die that a read is of. -/
def State.opBlock (s : State) (d : Nat) (o : DieOp) : Nat :=
  if o.cls = 1 then
    match s.clus.reads.find? fun r => r.id = o.ref with
    | some r => s.memberBlock r.pua d
    | none => 0
  else o.ref % 8192

/-- An operation is issued to its die: a read takes the offsets that its block group has then, shifted for a soft read; a later update does
not change them (01_architecture.md R43; 08_media_reliability.md R352). -/
def State.issued (s : State) (d : Nat) (o : DieOp) : DieOp :=
  { o with since := s.now, offs := if o.isRead then (s.patinaOf d (s.opBlock d o / 32)).off.map (· + o.shift) else [] }

/-- The entries of a die's queue for each class (09_media_bus.md R400). -/
def classDepth (cls : Nat) : Nat := [16, 8, 4, 8, 4, 2, 2, 2].getD cls 0

/-- The operations in a die's queue: of each class as many as it has entries. Those behind them wait at the media core for a place, in the
order of their arrival (09_media_bus.md R400). -/
def placed (q : List DieOp) : List DieOp :=
  (q.foldl (fun (a : List DieOp) o => if (a.filter fun x => x.cls = o.cls).length < classDepth o.cls then o :: a else a) []).reverse

/-- A die whose array is free takes its next operation; a suspension serves two P1 reads at most, then resumes (R401, R404). None but
a suspended one is issued while the controller rests or is entering REST (R407). -/
def State.dieNext (s : State) (d : Nat) : State :=
  let x := s.die d
  if x.array.isSome then s
  else match x.paused with
    | some o =>
      match (placed x.queue).find? fun r => r.cls = 1 && r.isRead with
      | some r =>
        if x.servedP1 < 2 && !s.resting then
          s.modDie d fun x => { x with array := some (s.issued d r), queue := x.queue.erase r, servedP1 := x.servedP1 + 1, arrayDone := false }
        else s.modDie d fun x => { x with array := some o, paused := none, servedP1 := 0, arrayDone := false }
      | none => s.modDie d fun x => { x with array := some o, paused := none, servedP1 := 0, arrayDone := false }
    | none =>
      if s.resting then s
      else match nextOp (placed x.queue) with
      | some r => s.modDie d fun x => { x with array := some (s.issued d r), queue := x.queue.erase r, arrayDone := false }
      | none => s

/-- A read queued on a die: it starts on a free array, or asks for a suspend where its leg allows one (R377, R403). -/
def State.queueRead (s : State) (d cls ref : Nat) (kind : OpKind) (leg : Leg) (shift : Int := 0) : State :=
  let s := s.modDie d fun x => { x with queue := x.queue ++
    [{ kind := kind, cls := cls, ref := ref, leg := leg, suspends := 0, since := s.now, offs := [], shift := shift }] }
  let x := s.die d
  match x.array with
  | none => s.dieNext d
  | some o =>
    if cls = 1 && s.sysc.mode ≠ .quench && s.rest.entering.isNone && o.suspendable (if leg = .direct then 1 else 3) && x.paused.isNone then
      s.modDie d fun x => { x with suspending := true }
    else s

/-- A soft read: two array reads of the page, at the patina offsets plus and minus SOFTSTEP (R352). -/
def State.queueSoft (s : State) (d id : Nat) (leg : Leg) : State :=
  let step : Int := max 1 (fld (s.cluster (d / 128)).patctl 20 4)
  (s.queueRead d 1 id .softRead leg step).queueRead d 1 id .softRead leg (-step)

/-- Every operation of a read leaves the dies' queues and the channels' (R379, R872): the first path to produce the data cancels
the others. An array read in progress goes on. -/
def State.cancelRead (s : State) (id : Nat) : State :=
  { s with clus.dies := s.clus.dies.map fun e => (e.1, { e.2 with queue := e.2.queue.filter fun o => !(o.isRead && o.ref = id && o.cls = 1) }),
           clus.onfc := s.clus.onfc.map fun e => (e.1, { e.2 with xfers := e.2.xfers.filter fun t => !(t.req = 16 && t.ref = id) }) }

/-- A read under way changed. -/
def State.modRead (s : State) (id : Nat) (f : MRead → MRead) : State :=
  { s with clus.reads := s.clus.reads.map fun r => if r.id = id then f r else r }

/-- The member dies of a PUA's row other than its own, and its own (R300, R378). -/
def State.rowDies (s : State) (pua : Nat) : Nat × List Nat :=
  let b := s.band (puaBand pua)
  let t := (b.place (puaPage pua)).1
  (t, (b.members.map (·.1)).filter fun d => d ≠ t)

/-- A media read is done with: its band may be freed (R327). -/
def State.endRead (s : State) (id : Nat) : State :=
  match s.clus.reads.find? fun r => r.id = id with
  | none => s
  | some r =>
    let s := { s with clus.reads := s.clus.reads.filter fun x => x.id ≠ id }
    let b := puaBand r.pua
    if s.ftlm.bands.any fun e => e.1 = b then (s.modBand b fun b => { b with reads := b.reads - 1 }).freeBand b else s

/-! ### Channel grants -/

/-- The first requester at or after a pointer, counting upward modulo 17 (R809, R813). -/
def firstFrom (ptr : Nat) (reqs : List Nat) : Option Nat :=
  ((List.range 17).map fun i => (ptr + i) % 17).find? fun r => r ∈ reqs

/-- A channel that is free grants one codeword to the highest class, round-robin among its requesters; the read-return queue serves
its head (R376, R808, R809). -/
def Onfc.grant (c : Onfc) : Onfc :=
  if c.granted.isSome then c
  else
    match c.xfers.foldl (fun m t => some (min t.cls (m.getD t.cls))) (none : Option Nat) with
    | none => c
    | some k =>
      let mine := c.xfers.filter fun t => t.cls = k
      match firstFrom (tget 0 c.ptrs k) (mine.map (·.req)) with
      | none => c
      | some r =>
        match mine.find? fun t => t.req = r with
        | none => c
        | some t => { c with granted := some t, xfers := c.xfers.erase t, ptrs := tput 0 c.ptrs k ((r + 1) % 17) }

/-- A read's transfer joins the read-return queue; a recovery transfer goes behind the recovery transfers at its head (R376). -/
def Onfc.enqueue (c : Onfc) (t : Xfer1) : Onfc :=
  if t.recovery then
    Onfc.grant { c with xfers := c.xfers.filter (·.recovery) ++ [t] ++ c.xfers.filter (!·.recovery) }
  else { c with xfers := c.xfers ++ [t] }.grant

/-! ### Patina, rewrites, losses -/

/-- One level of a report applied (R358): `off` and `acc` of it. -/
def patinaLevel (gain mincnt : Nat) (off acc : Int) (up dn : Nat) : Int × Int :=
  if mincnt ≤ up + dn then
    let d := max (-8) (min 8 ((up : Int) - dn))
    let a := max (-128) (min 127 (acc + d))
    if (gain : Int) ≤ a then (max (off - 1) (-32), 0)
    else if a ≤ -(gain : Int) then (min (off + 1) 31, 0)
    else (off, a)
  else (off, acc)

/-- A patina entry whose storage has an uncorrectable error starts anew from the profile; the media core captures it (R361, R385; ERRADDR
holds 128 x die + group, log 97). -/
def State.patinaLost (s : State) (d group : Nat) : State :=
  let key := 128 * d + group
  State.error { s with clus.patina := tdel key s.clus.patina } (.mclu (d / 128)) 0x44 key

/-- A decoder's report applied to the entry of its block group (R357 to R360). -/
def State.patinaReport (s : State) (d block : Nat) (r : Decoded) : State :=
  let s := if r.entryLost then s.patinaLost d (block / 32) else s
  let key := 128 * d + block / 32
  let p := s.patinaOf d (block / 32)
  let ctl := (s.cluster (d / 128)).patctl
  let gain := max 1 (fld ctl 0 7)
  let mincnt := max 1 (fld ctl 7 4)
  let er := ((p.erate : Int) + ((r.errors : Int) * 256 - p.erate) / 16).toNat % 65536
  let lv := if wbit ctl 11 then [] else r.levels
  let p := lv.foldl (fun p x =>
    let (o, a) := patinaLevel gain mincnt (p.off.getD x.1 0) (p.acc.getD x.1 0) x.2.1 x.2.2
    { p with off := p.off.set x.1 o, acc := p.acc.set x.1 a }) { p with erate := er }
  let due := match p.sampled with | some t => decide (t + 10 ^ 8 ≤ s.now) | none => true
  let dense := match (s.blk d block).use with | .band b => !(s.band b).slc | _ => false
  if r.single && dense && decide (fld ctl 12 8 < r.errors) && due then
    let s := { s with clus.patina := tput Patina.reset s.clus.patina key { p with sampled := some s.now } }
    -- the other pages of the wordline: three of QLC, two of TLC
    (List.range (if ((s.chan (d / 16)).profile.getD {}).qlc then 3 else 2)).foldl (fun s _ =>
      let id := s.ftlm.nextId
      let s := { s with ftlm.nextId := id + 1, clus.samples := s.clus.samples ++ [(id, d, block)] }
      s.queueRead d 7 (d * 8192 + block) .read .other) s
  else { s with clus.patina := tput Patina.reset s.clus.patina key p }

/-- The units MAPPED into a band with a page slot in one of its blocks (R364, R369). -/
def State.blockUnits (s : State) (b : Nat) (m : Nat × Nat) : List (Bool × Nat × Nat) :=
  let x := s.band b
  (s.bandUnits b).filter fun u =>
    if u.1 then (List.range 64).any fun i => let p := x.place (puaPage u.2.2 + i); (p.1, p.2.1) = m
    else let p := x.place (puaPage u.2.2); (p.1, p.2.1) = m

/-- Moves may start: not in SAFE, REST or QUENCH (02_modes_and_starts.md R48). -/
def State.moving (s : State) : Bool := s.working || s.sysc.mode = .starting

/-- A block is scheduled for rewrite, once; its units move as P7 (R363, R364, R386), in a mode without moves at the next start (log 92). -/
def State.scheduleRewrite (s : State) (d block : Nat) : State :=
  let k := s.blk d block
  match k.use with
  | .band b =>
    if k.rewrite then s
    else
      let s := (s.modBlk d block fun k => { k with rewrite := true }).cause .plan 2
      if !s.moving then s
      else
        let us := s.blockUnits b (d, block)
        s.startMoves 3 .planish false us (us.length + 1)
  | _ => s

/-- 24 hours in ns. -/
def dayNs : Nat := 24 * 3600 * 10 ^ 9

/-- The data of a page program driven again: a destage page into the next page of another open band of its class with fresh sequences, a
capture page by the move of its unit (R368, R312; 12_capture.md R516). -/
def State.redrive (s : State) (id : Nat) (p : Prog) : State :=
  let cls := (s.band p.band).cls
  match p.src with
  | .tier =>
    match s.openWith cls 1 with
    | none => s.openBand cls false
    | some b =>
      let us := distinct (p.page.oob.map (·.lunit))
      let (page, gens, s) := s.finePage cls us
      (s.issueProgram b page .tier gens).2
  | .frame _ => s.hankFailed id p.page false
  | .move => s.hankFailed id p.page true
  | _ => s

/-- A band closed by a program failure keeps its failing page until its block's units have moved; then the block is retired (R369). -/
def State.failedDone (s : State) (b : Nat) : State :=
  match (s.band b).failedRow with
  | none => s
  | some dp =>
    if s.ftlm.moves.any fun m => puaBand m.src = b && m.kind = .failure then s
    else
      let p := (s.band b).place dp
      let s := s.retireBlk p.1 p.2.1
      (s.modBand b fun x => { x with failedRow := none }).freeBand b

/-- The data of a failed program driven again during QUENCH: into the next page of the quench reserve; a move's source stays mapped (R368;
10_persistence.md R429). -/
def State.reserveAgain (s : State) (id : Nat) (p : Prog) : State :=
  match p.src with
  | .tier =>
    let us := p.page.oob.map (·.lunit)
    let ls := s.tier.lines.filter fun e => e.2.dirty && decide (e.1 / 64 ∈ us)
    let s := if ls.isEmpty then s else s.reservePage (ls.take 236)
    if (ls.drop 236).isEmpty then s else s.reservePage (ls.drop 236)
  | .frame _ =>
    let r := p.page.rec_ 0
    let s := s.mapFrames fun f => if f.writing = some id then { f with writing := none, done := true } else f
    s.reserveHank r.lunit r.cpage p.page
  | _ => s

/-- A page program fails (R368, R369, R384, R385). During QUENCH the block stays, marked, until the next start retires it
(10_persistence.md R429). -/
def State.programFailed (s : State) (id : Nat) (p : Prog) : State :=
  let b := p.band
  let pl := (s.band b).place p.dpage
  let s := s.error (.mclu (pl.1 / 128)) 0x41 (mkPua b p.dpage 0 / 256) (2 ^ 3)
  let s := s.closeBand b
  if s.sysc.mode = .quench then (s.modBlk pl.1 pl.2.1 fun k => { k with failed := true }).reserveAgain id p
  else
  let s := s.modBand b fun x => { x with failedRow := some p.dpage }
  let s := s.redrive id p
  let us := s.blockUnits b (pl.1, pl.2.1)
  (s.startMoves 3 .failure false us (us.length + 1)).failedDone b

/-- Phase 1 or 2 of a retirement starts for the next retired die of a cluster (R373). -/
def State.nextRecovery (s : State) (c : Nat) : State :=
  let m := s.cluster c
  if m.retPhase ≠ 0 then s
  else match m.retQueue with
    | [] => s
    | d :: q => s.modClu c fun m => { m with retPhase := 1, retPct := 0, retDie := d, retQueue := q }

/-- A channel is retired (R372): all its dies with it, OUTSVC and the table first (R123); L follows the live channels (10_persistence.md
R417, R420). -/
def State.retireChan (s : State) (n : Nat) : State :=
  if (s.chan n).cstate = .retired then s
  else
    let c := n / 8
    let ds := (List.range 16).map (16 * n + ·) |>.filter fun d => (s.die d).live
    let s := s.modChan n fun x => { x with cstate := .retired, retraining := false }
    let s := ds.foldl (fun s d => s.modDie d fun x => { x with retired := true }) s
    let s := s.retireBlock (.onfc n)
    let s := s.modClu c fun m => { m with retQueue := m.retQueue ++ ds }
    ((s.error (.mclu c) 0x43 n (2 ^ 6)).nextRecovery c).applyLimit

/-- A codeword that no path recovers is lost (R354): the unit is POISONED, or a coarse unit moves with its quarter marked. -/
def State.loseCodeword (s : State) (pua : Nat) : State :=
  let b := puaBand pua
  let c := ((s.band b).place (puaPage pua)).1 / 128
  let key := pageKey b (puaPage pua)
  let slot := puaSlot pua
  let s := { s with media.pages := tmod MPage.reset s.media.pages key fun p => { p with bad := withNew p.bad slot } }
  let rec_ := (s.mpage b (puaPage pua)).rec_ slot
  let s := s.error (.mclu c) 0x40 (pua / 256) (2 ^ 2) 5
  let s := s.modClu c fun m => { m with errLost := satInc 12 m.errLost }
  if rec_.coarse then
    let e := s.mapEntry true rec_.lunit
    if mapSt e = 1 && s.moving then s.startMoves 3 .failure false [(true, rec_.lunit, mapPua e)] 2 else s
  else if s.mapEntry false rec_.lunit = mapped pua then
    (List.range 64).foldl (fun s i => s.notePoison (64 * rec_.lunit + i)) (s.setEntry false rec_.lunit poisoned)
  else s

/-- A read of a page whose die is out of service: it is rebuilt from the rest of its row (R373), and lost where another member is out of service
too (R374). -/
def State.rebuildRead (s : State) (r : MRead) : State :=
  let others := (s.rowDies r.pua).2
  if !others.isEmpty && others.all s.dieUp then
    others.foldl (fun s d => s.queueRead d 1 r.id .read .rebuild) (s.modRead r.id fun r => { r with path := .rebuild, legs := others, targetFail := true })
  else (s.modRead r.id fun r => { r with outcome := .lost, legs := [], soft := [] }).loseCodeword r.pua

/-- Every path of a read has failed (R872): the target's, and the stripe's where it was tried. -/
def MRead.allFailed (r : MRead) : Bool :=
  r.soft.isEmpty && r.targetFail && (!(r.recovery || r.path = .rebuild) || !r.badLegs.isEmpty)

/-- A read is lost where every path of it has failed (R354, R872). -/
def State.lostIfFailed (s : State) (id : Nat) : State :=
  match s.clus.reads.find? fun r => r.id = id with
  | none => s
  | some r =>
    if r.outcome = .pending && r.allFailed then
      (s.modRead id fun r => { r with outcome := .lost, legs := [], soft := [] }).loseCodeword r.pua
    else s

/-- A read loses a die that it waits for: the target is rebuilt (R373), or is one path less; a leg is a member unreadable (R872). -/
def State.readLoses (s : State) (r : MRead) (d : Nat) : State :=
  if r.outcome ≠ .pending then s
  else if r.target = d then
    if r.path = .rebuild || r.recovery then
      (s.modRead r.id fun r => { r with targetFail := true, soft := without r.soft d }).lostIfFailed r.id
    else s.rebuildRead r
  else
    let first := r.badLegs.isEmpty && r.path = .rebuild && !r.recovery
    let s := s.modRead r.id fun r => { r with badLegs := withNew r.badLegs d, legs := without r.legs d, soft := without r.soft d,
                                              targetFail := r.targetFail || (first && !s.dieUp r.target) }
    let s := if first && s.dieUp r.target then s.queueRead r.target 1 r.id .read .direct else s
    s.lostIfFailed r.id

/-- The queued work of a retired die is done by other paths (R408); bands being opened on it are given up, and open ones close: nothing more is
programmed into them. -/
def State.rehome (s : State) (d : Nat) : State :=
  let x := s.die d
  let ops := x.array.toList ++ x.paused.toList ++ x.queue
  let giveUp := (s.ftlm.bands.filter fun e => e.2.phase = .erasing && e.2.members.any fun m => m.1 = d).map (·.1)
  let shut := (s.ftlm.bands.filter fun e => e.2.phase = .opened && e.2.members.any fun m => m.1 = d).map (·.1)
  let s := shut.foldl State.closeBand (giveUp.foldl State.giveUpBand s)
  let s := s.modDie d fun x => { x with array := none, paused := none, queue := [], suspending := false, servedP1 := 0 }
  ops.foldl (fun s o =>
    match o.kind with
    | .program =>
      match s.ftlm.progs.find? fun e => e.1 = o.ref with
      | some (_, p) => { s with ftlm.progs := tdel o.ref s.ftlm.progs }.redrive o.ref p
      | none => s
    | .erase => s.retireBlk d (o.ref % 8192)
    | _ =>
      match s.clus.reads.find? fun r => r.id = o.ref && o.cls = 1 with
      | some r => s.readLoses r d
      | none => s) s

/-- A die is retired (R371, R373, R408); the fourth of a channel retires the channel (R372). -/
def State.retireDie (s : State) (d : Nat) : State :=
  if (s.die d).retired then s
  else
    let c := d / 128
    let s := (s.modDie d fun x => { x with retired := true }).hallSync
    let s := s.error (.mclu c) 0x42 d (2 ^ 5)
    let s := s.modClu c fun m => { m with retQueue := m.retQueue ++ [d] }
    let s := (s.rehome d).nextRecovery c
    let gone := (List.range 16).filter fun i => (s.die (16 * (d / 16) + i)).retired
    if 4 ≤ gone.length then s.retireChan (d / 16) else s

/-- A die with more than 256 blocks retired in 24 hours is retired (R371). -/
def State.blockDeaths (s : State) (d : Nat) : State :=
  let recent := (s.die d).badBlocksAt.filter fun t => decide (s.now < t + dayNs)
  let s := s.modDie d fun x => { x with badBlocksAt := recent }
  if 256 < recent.length then s.retireDie d else s

/-- A codeword that no path recovers is lost, and its die retired with too many (R354, R371). -/
def State.codewordLost (s : State) (pua : Nat) : State :=
  let d := ((s.band (puaBand pua)).place (puaPage pua)).1
  let s := s.loseCodeword pua
  let lost := s.now :: (s.die d).lostAt.filter fun t => decide (s.now < t + dayNs)
  let s := s.modDie d fun x => { x with lostAt := lost }
  if max 1 (fld (s.cluster (d / 128)).retctl 5 8) ≤ lost.length then s.retireDie d else s

/-- A media read has its data, or has lost it: the other paths are cancelled, the counts taken (R353, R354, R379, R383). -/
def State.readEnds (s : State) (r : MRead) (o : ROutcome) (rebuilt : Bool) : State :=
  let c := r.target / 128
  let s := s.cancelRead r.id
  let s := s.modRead r.id fun r => { r with outcome := o, legs := [], soft := [] }
  let s := if o = .lost then s.codewordLost r.pua
    else if rebuilt then s.modClu c fun m => { m with rdrebuild := wrapInc 40 m.rdrebuild }
    else s.modClu c fun m => { m with rddirect := wrapInc 40 m.rddirect }
  if r.since + 96000 < s.now then (s.modClu c fun m => { m with over96 := satInc 12 m.over96 }).cause (.mclu c) 7 else s

/-- A P1 media read dispatched for a line: direct, rebuild, or direct waiting (R378, MCLU.RDPOL); a page of a
retired die is always rebuilt (R373). -/
def State.dispatchRead (s : State) (line pua : Nat) : State :=
  let (t, others) := s.rowDies pua
  let id := s.ftlm.nextId
  let pol := (s.cluster (t / 128)).rdpol
  let path : RPath :=
    if s.directReady t then .direct
    else if !s.dieUp t then .rebuild
    else if wbit pol 0 && !others.isEmpty && others.all s.legReady then .rebuild else .waiting
  let r : MRead := { MRead.reset with id := id, line := line, pua := pua, path := path, target := t, since := s.now,
                                      legs := if path = .rebuild then others else [] }
  let s := { s with ftlm.nextId := id + 1, clus.reads := s.clus.reads ++ [r] }
  let s := s.modBand (puaBand pua) fun b => { b with reads := b.reads + 1 }
  if !s.dieUp t then s.rebuildRead r
  else match path with
  | .rebuild => others.foldl (fun s d => s.queueRead d 1 id .read .rebuild) s
  | _ => s.queueRead t 1 id .read .direct

/-- The next deadline of R365 in ns of the model's clock. -/
def State.nextDeadline (s : State) : Option Nat :=
  let days := clampN 1 30 (fld s.plan.ctrl 0 5)
  s.media.blocks.foldl (fun m e =>
    match e.2.use with
    | .band b =>
      if (s.band b).phase = .closed && decide (0 < (s.band b).valid) && e.1 ∉ s.plan.late then
        let d := e.2.readAt + days * dayNs
        some (min d (m.getD d))
      else m
    | _ => m) none

/-- Work of classes P0 to P4 queued or running (02_modes_and_starts.md R68, R878). -/
def State.workQueued (s : State) : Bool :=
  !s.ftlm.progs.isEmpty || s.pers.ckptBusy.isSome || s.pers.ckptWaiting || s.pers.draining || !s.clus.reads.isEmpty ||
  (s.clus.dies.any fun e => (e.2.queue ++ e.2.array.toList).any fun o => decide (o.cls ≤ 4)) ||
  (s.psto.running.toList ++ s.psto.queue ++ s.psto.waiting).any (fun w => w.crit.isSome) ||
  !s.strd.rebuild.isEmpty

/-- The dies whose array holds a program. -/
def State.programmingDies (s : State) : List Nat :=
  (s.clus.dies.filter fun e => (e.2.array.toList ++ e.2.paused.toList).any fun o => o.kind = .program).map (·.1)

/-- A program's operation leaves its die. -/
def State.programEnds (s : State) (id : Nat) : State :=
  let hit (o : DieOp) : Bool := o.kind = .program && o.ref = id
  let rest (x : Die) : Die := { x with array := x.array.filter (!hit ·), paused := x.paused.filter (!hit ·), queue := x.queue.filter (!hit ·) }
  let s : State := { s with clus.dies := s.clus.dies.map fun (e : Nat × Die) => (e.1, rest e.2) }
  s.clus.dies.foldl (fun s e => s.dieNext e.1) s

/-- An erase's operation leaves its die. -/
def State.eraseEnds (s : State) (d block : Nat) : State :=
  let hit (o : DieOp) : Bool := o.kind = .erase && o.ref = d * 8192 + block
  (s.modDie d fun x => { x with array := x.array.filter fun o => !hit o, paused := x.paused.filter fun o => !hit o,
                                queue := x.queue.filter fun o => !hit o }).dieNext d

end Sys2Proof.Machine
end

