-- ==== Sys2Proof/Machine/Dram.lean ====
section
/-!
DEFINITION. The DRAM tier and its channel controllers: addresses, queues, activation counting, marks, retirement, self-refresh
(06_dram_tier.md).
-/
namespace Sys2Proof.Machine

/-- The state with one DRAM channel changed. -/
def State.modDram (s : State) (m : Nat) (f : Drmc → Drmc) : State := { s with drmc := tmod Drmc.reset s.drmc m f }

/-- The channel and subchannel of a line of host data: tier unit u lies on subchannel u mod S (R261). Which unit the tier cache
gives a page is not stated (Config.tierPage). -/
def State.subOf (s : State) (line : Nat) : Nat × Nat :=
  let n := s.tier.order.length
  let j := Config.tierPage (line / 64) % (2 * max 1 n)
  (s.tier.order.getD (j / 2) 0, j % 2)

/-- Tier address bits [39:12] of a line, as ERRADDR holds them (R289). -/
def tierAddr (line : Nat) : Nat := Config.tierPage (line / 64) % 2 ^ 28

/-- Where a line lies in its channel (R262): subchannel and rank, bank number, row, and line within the row. -/
structure DramPlace where
  /-- 4 x subchannel + rank. -/
  rank : Nat
  /-- 32 x rank + 4 x bank group + bank. -/
  bank : Nat
  /-- The row. -/
  row : Nat
  /-- The line within the row. -/
  column : Nat
deriving DecidableEq, Repr

/-- The local line index of a line in its subchannel divided into its fields (R261, R262). -/
def State.placeOf (s : State) (line : Nat) : DramPlace :=
  let (m, b) := s.subOf line
  let d := s.dram m
  let n := Config.tierPage (line / 64) / (2 * max 1 s.tier.order.length)
  let l := 64 * n + line % 64
  let k := if d.x8 then 6 else 7
  let rank := 4 * b + l / 2 ^ (k + 5) % 2 ^ d.ranks
  { rank := rank, bank := 32 * rank + 4 * (l / 2 ^ k % 8) + l / 2 ^ (k + 3) % 4, row := l / 2 ^ (k + 5 + d.ranks), column := l % 2 ^ k }

/-! ### Activation counting (R277 to R279) -/

/-- The entry of lowest count, the lowest entry number on a tie (R277). -/
def lowestRow (l : List (Nat × Nat × Nat)) : Option (Nat × Nat × Nat) :=
  l.foldl (fun (m : Option (Nat × Nat × Nat)) (e : Nat × Nat × Nat) => match m with
    | some x => if e.2.2 < x.2.2 ∨ (e.2.2 = x.2.2 ∧ e.1 < x.1) then some e else m
    | none => some e) none

/-- The activation of a row of a bank (R277); `true` where it queues a directed refresh. -/
def Bank.activate (b : Bank) (row thresh : Nat) : Bank × Bool :=
  let b : Bank :=
    match b.rows.find? fun e => e.2.1 = row with
    | some _ => { b with rows := b.rows.map fun e => if e.2.1 = row then (e.1, e.2.1, e.2.2 + 1) else e }
    | none =>
      match (List.range 64).find? fun i => !(b.rows.any fun e => e.1 = i) with
      | some i => { b with rows := b.rows ++ [(i, row, b.floor + 1)] }
      | none =>
        match lowestRow b.rows with
        | some v => { b with floor := v.2.2, rows := b.rows.map fun e => if e.1 = v.1 then (e.1, row, v.2.2 + 1) else e }
        | none => b
  if b.rows.any fun e => e.2.1 = row && decide (thresh ≤ e.2.2) then
    ({ b with rows := b.rows.filter (fun e => e.2.1 ≠ row), directed := b.directed ++ [row] }, true)
  else (b, false)

/-- A row activated on a channel: it waits, with ACTSTALL, while the bank's directed-refresh queue is full (R277, R279, R288). -/
def State.activate (s : State) (m bank row : Nat) : State :=
  let d := s.dram m
  let b := tget Bank.reset d.banks bank
  let full := decide (4 ≤ b.directed.length)
  let b := if full then { b with directed := b.directed.drop 1 } else b
  let (b, q) := b.activate row (max 256 (fld d.actctl 0 16))
  let s := s.modDram m fun d => { d with
    banks := tput Bank.reset d.banks bank b
    floorMax := max d.floorMax b.floor
    mitig := if q then satInc 20 d.mitig else d.mitig }
  if full then s.cause (.drmc m) 6 else s

/-! ### Scheduling (R268 to R275) -/

/-- A burst of a group (0 HOST, 1 MAP, 2 REPLAY, 3 OTHER) spends a credit (R274). -/
def Drmc.burst (d : Drmc) (sub group : Nat) : Drmc := { d with credits := tmod 0 d.credits (4 * sub + group) (· + 1) }

/-- A group holds a credit in the window of a subchannel (R274, R275). -/
def Drmc.credit (d : Drmc) (sub group : Nat) : Bool :=
  decide (tget 0 d.credits (4 * sub + group) < 4 * fld (tget Drmc.reset.share d.shareNow sub) (7 * group) 7)

/-- A request is for the open row of its bank. -/
def Drmc.hits (d : Drmc) (r : DReq) : Bool := tget 0 d.rows r.bank = r.row + 1

/-- After HITCAP hits in a row to a bank, while an older request waits for another row of it, its row is closed (R272). -/
def Drmc.capped (d : Drmc) (l : List DReq) (r : DReq) : Bool :=
  decide (max 1 (fld d.sched 1 5) ≤ tget 0 d.runs r.bank) &&
  (l.takeWhile fun x => x ≠ r).any fun x => x.bank = r.bank && x.row ≠ r.row

/-- A request may be issued: no older one is for its line, the line is not locked, and its bank can accept a command (R267, R268, R272, R279). -/
def Drmc.able (d : Drmc) (l : List DReq) (r : DReq) : Bool :=
  !((l.takeWhile fun x => x ≠ r).any fun x => x.line = r.line) && decide (r.line ∉ d.locked) &&
  (d.hits r || decide ((tget Bank.reset d.banks r.bank).directed.length < 4))

/-- The request that a subchannel issues next of a queue, oldest first (R272 to R274): of those that may be issued, those whose group holds a
credit, where there are any. Policy 0 takes a row hit, then the oldest. Policy 1 takes one older than AGELIM, the oldest of them; then the
highest class, of it a row hit, then the oldest. -/
def Drmc.choose (d : Drmc) (now : Nat) (l : List DReq) : Option DReq :=
  let ready := l.filter fun r => d.able l r
  let rich := ready.filter fun r => d.credit r.sub r.group
  let c := if rich.isEmpty then ready else rich
  let hitFirst (c : List DReq) : Option DReq := (c.find? fun r => d.hits r && !d.capped l r).or c.head?
  if wbit d.sched 0 then
    match c.find? fun r => decide (r.since + 10 * max 1 (fld d.sched 6 10) < now) with
    | some r => some r
    | none =>
      let top := c.foldl (fun m r => min m r.cls) 7
      hitFirst (c.filter fun r => r.cls = top)
  else hitFirst c

/-- A request is issued: a hit to the open row, or after the activation of its own; it spends a credit (R272, R274, R277). `l` is the queue
it stood in. -/
def State.dramIssue (s : State) (m : Nat) (l : List DReq) (r : DReq) : State :=
  let d := s.dram m
  let s := if d.hits r && !d.capped l r then s.modDram m fun d => { d with runs := tmod 0 d.runs r.bank (· + 1) }
    else State.modDram (s.activate m r.bank r.row) m fun d => { d with rows := tput 0 d.rows r.bank (r.row + 1), runs := tput 0 d.runs r.bank 0 }
  s.modDram m fun d => d.burst r.sub r.group

/-- The write queue of a subchannel goes down as its drain rules say (R271): with no read waiting every write is issued; with reads waiting, from
48 lines down to 16. -/
def State.drainStep (s : State) (m sub : Nat) (entered : Bool) : Nat → State
  | 0 => s
  | n + 1 =>
    let d := s.dram m
    let mine := d.writeq.filter fun r => r.sub = sub
    let reads := d.readq.any fun r => r.sub = sub
    if reads && decide (mine.length ≤ 16) || reads && !entered && decide (mine.length < 48) then s
    else match d.choose s.now mine with
      | none => s
      | some r => State.drainStep ((s.modDram m fun d => { d with writeq := d.writeq.erase r }).dramIssue m mine r) m sub true n

/-- A subchannel drains its writes where it may. -/
def State.dramDrain (s : State) (m sub : Nat) : State :=
  let d := s.dram m
  let had := d.writeq.any fun r => r.sub = sub
  let s := s.drainStep m sub (decide (sub ∈ d.wdrain)) d.writeq.length
  s.modDram m fun d =>
    { d with wdrain := if (d.readq.any fun r => r.sub = sub) || !had then without d.wdrain sub else withNew d.wdrain sub }

/-- A request for a line, as its subchannel queues it. -/
def State.dramReq (s : State) (line cls : Nat) (merge : Bool) : DReq :=
  let p := s.placeOf line
  { sub := (s.subOf line).2, line := line, bank := p.bank, row := p.row, cls := cls, group := 0, since := s.now, merge := merge }

/-- A line read waits in the read queue until it is issued; a line with a queued write is served from the write queue (R268, R271). An older
request of the line takes the class of one that waits for it (21_priorities.md R812). -/
def State.dramRead (s : State) (line : Nat) (merge : Bool) : State :=
  let (m, b) := s.subOf line
  if s.tier.order.isEmpty then s
  else
    let r := s.dramReq line 1 merge
    s.modDram m fun d =>
      if d.writeq.any fun x => x.line = line then d
      else if d.readq.any fun x => x.line = line then
        { d with readq := d.readq.map fun x => if x.line = line then { x with cls := min x.cls r.cls, merge := x.merge || merge } else x }
      else { d with readq := d.readq ++ [r], wdrain := without d.wdrain b }

/-- The reads of a subchannel are issued in the order of the scheduler up to that of a line; the read of a read-modify-write locks its line
(R267, R272, R273). -/
def State.issueUntil (s : State) (m sub line : Nat) : Nat → State
  | 0 => s
  | n + 1 =>
    let d := s.dram m
    let mine := d.readq.filter fun r => r.sub = sub
    if !(mine.any fun r => r.line = line) then s
    else match (d.choose s.now mine).or (mine.find? fun r => r.line = line) with
      | none => s
      | some r =>
        let s := (s.modDram m fun d =>
          { d with readq := d.readq.erase r, locked := if r.merge then withNew d.locked r.line else d.locked }).dramIssue m mine r
        s.issueUntil m sub line n

/-- A read's data has arrived: those issued before it went first; its line is no longer locked, and writes may drain (R267, R271). -/
def State.dramReadDone (s : State) (line : Nat) : State :=
  let (m, b) := s.subOf line
  if s.tier.order.isEmpty then s
  else
    let s := s.issueUntil m b line (s.dram m).readq.length
    (s.modDram m fun d => { d with locked := without d.locked line }).dramDrain m b

/-- A full line written: an older queued write of the line is replaced (R266, R269). -/
def State.dramWrite (s : State) (line : Nat) : State :=
  let (m, b) := s.subOf line
  if s.tier.order.isEmpty then s
  else
    let r := s.dramReq line 1 false
    (s.modDram m fun d => { d with writeq := (d.writeq.filter fun x => x.line ≠ line) ++ [r] }).dramDrain m b

/-! ### Errors (R253 to R260) -/

/-- A line of the tier is uncorrectable (R259): a clean copy is dropped, a dirty line is poisoned. -/
def State.tierLost (s : State) (line : Nat) : State :=
  let t := tget TLine.reset s.tier.lines line
  if !(s.tier.lines.any fun e => e.1 = line) then s
  else if t.dirty || t.held then { s with tier.lines := tins line { t with poison := true } s.tier.lines }.notePoison line
  else { s with tier.lines := tdel line s.tier.lines }

/-- A channel is retired in operation: its content is lost as if every line there were uncorrectable (R260, R263), and the tier's live
capacity goes down with it (01_architecture.md R45, 03_registers_and_hallmark.md R868). -/
def State.retireDram (s : State) (m : Nat) : State :=
  if (s.dram m).cstate = .retired then s
  else
    let ls := (s.tier.lines.filter fun e => (s.subOf e.1).1 = m).map (·.1)
    let s := s.modDram m fun d => { d with cstate := .retired, readq := [], writeq := [], wdrain := [], locked := [], rows := [], runs := [] }
    let s := ls.foldl State.tierLost { s with tier.liveGib := s.tier.liveGib - (s.dram m).gib }
    s.retireBlock (.drmc m)

/-- A nibble of a rank reaches the marking conditions (R256, R260): the first is marked on x4 devices, a second retires the
channel. -/
def State.markNibble (s : State) (m place nibble line : Nat) : State :=
  let d := s.dram m
  let was := tget 0 d.marks place
  if d.x8 || was = nibble + 1 then s
  else if was = 0 then
    let s := s.modDram m fun d => { d with marks := tput 0 d.marks place (nibble + 1) }
    (s.error (.drmc m) 0x41 (tierAddr line) (2 ^ 3)).writeRecord 4
  else (s.retireDram m).reportError (.drmc m) 0x42 0 (2 ^ 4)

/-- Corrected symbols of a line: the counts, the write-back with the read, and the mark at MARKTHR (R256, R258). -/
def State.dramCorrect (s : State) (m place line : Nat) (nibbles : List (Nat × Nat)) : State :=
  let s := (s.modDram m fun d => { d.burst (place / 4 % 2) 0 with corr := wrapInc 40 d.corr }).cause (.drmc m) 1
  nibbles.foldl (fun s x =>
    if (s.dram m).cstate ≠ .active then s
    else
      let key := 16 * place + x.1
      let n := tget 0 (s.dram m).symbols key + x.2
      let s := s.modDram m fun d => { d with symbols := tput 0 d.symbols key n }
      if max 1 (fld (s.dram m).eccctl 0 16) ≤ n then s.markNibble m place x.1 line else s) s

/-- An uncorrectable line: the count, the cause, and retirement at RETIRETHR (R259, R260). -/
def State.dramUncorrectable (s : State) (m line : Nat) : State :=
  let s := s.modDram m fun d => { d with uncorr := satInc 16 d.uncorr }
  let s := s.error (.drmc m) 0x40 (tierAddr line) (2 ^ 2)
  let s := s.tierLost line
  let d := s.dram m
  if max 1 (fld d.eccctl 16 12) ≤ d.uncorr && d.cstate ≠ .retired then (s.retireDram m).reportCause (.drmc m) (2 ^ 4) else s

/-- A burst of a rank is decoded (R253 to R256, R258, R259). A line whose wrong symbols all lie in one nibble decodes with that nibble erased,
with a verifying MAC, which marks the nibble on x4 devices. -/
def State.dramErrors (s : State) (m place line : Nat) (errs : List (Nat × Nat × Nat)) : State :=
  let d := s.dram m
  if d.cstate ≠ .active then s
  else
    let was := tget 0 d.marks place
    match dramDecode (if was = 0 then none else some (was - 1)) errs with
    | .clean | .erased => s
    | .corrected ns => s.dramCorrect m place line ns
    | .lost (some n) => if d.x8 then s.dramUncorrectable m line else s.markNibble m place n line
    | .lost none => s.dramUncorrectable m line

/-- A lane's eye measured: the narrowest is kept, the centre moves at most one tap per 10 ms, MARGIN and retirement follow (R283,
R285, R260). -/
def State.eyeSample (s : State) (m lane : Nat) (up : Option Bool) (taps : Nat) : State :=
  let d := s.dram m
  if !wbit d.trainctl 0 then s
  else
    let w := decide (128 ≤ lane)
    let sub := lane / 64 % 2
    let ln := lane % 64
    let old := if w then fld d.margin 15 8 else fld d.margin 0 8
    let margin := if old ≠ 0 && decide (old ≤ taps) then d.margin
      else if w then setFld (setFld (setFld d.margin 15 8 taps) 23 6 ln) 29 1 sub
      else setFld (setFld (setFld d.margin 0 8 taps) 8 6 ln) 14 1 sub
    let may := tget 0 d.moved lane = 0 || decide (tget 0 d.moved lane - 1 + 10 ^ 7 ≤ s.now)
    let d := { d with margin := margin }
    let d := match up with
      | some u =>
        if may then
          let c := tget 0 d.centres lane
          { d with
            centres := tput 0 d.centres lane (if u then c + 1 else c - 1)
            moved := tput 0 d.moved lane (s.now + 1) }
        else d
      | none => d
    let s := s.modDram m fun _ => d
    let s := if taps < max 2 (fld d.trainctl 5 5) then s.cause (.drmc m) 5 else s
    if taps < 2 && d.cstate ≠ .retired then (s.retireDram m).reportError (.drmc m) 0x43 0 (2 ^ 4) else s

/-- Self-refresh entry of every channel in service: writes drained, directed refreshes issued (R286). -/
def State.selfRefreshAll (s : State) : State :=
  { s with drmc := s.drmc.map fun e =>
      if e.2.cstate = .active then
        let banks := e.2.banks.foldl (fun t b => tput Bank.reset t b.1 { b.2 with directed := [] }) []
        (e.1, { e.2 with cstate := .selfRefresh, writeq := [], wdrain := [], rows := [], runs := [], banks := banks })
      else e }

/-- Self-refresh exit (R278, R287). -/
def State.selfRefreshExit (s : State) : State :=
  { s with drmc := s.drmc.map fun e =>
      if e.2.cstate = .selfRefresh then (e.1, { e.2 with cstate := .active, banks := [], floorMax := 0 }) else e }

/-- The controller's end of REST: DRAM awake, ONFI rails and settings restored (R287, 09_media_bus.md R399). -/
def State.restOver (s : State) : State :=
  let s := s.selfRefreshExit
  { s with clus.onfc := s.clus.onfc.map fun e => (e.1, { e.2 with railOff := false }) }

/-- A REST entry under way is given up: channels in self-refresh and rails come back, and the dies take their queued operations again (R74,
R287; 09_media_bus.md R399, R407). -/
def State.restCancel (s : State) : State :=
  if s.rest.entering.isNone then s
  else
    let s := State.restOver { s with rest.entering := none }
    s.clus.dies.foldl (fun s e => s.dieNext e.1) s

/-- A content's size in whole tier units of 4 KiB (R265). -/
def tierUnits (bytes : Nat) : Nat := ceilDiv bytes 4096

/-- The replay pool of a start in GiB, `none` where the live tier falls short (R265, R602): the tier of `gib` GiB, the host data size in
MiB, and the pool asked for. -/
def tierPool (gib hdrMib pool : Nat) : Option Nat :=
  let t := gib * 2 ^ 30
  let fixed := tierUnits (t / 29) + tierUnits (11187542 * 64) + tierUnits (8196 * 2 ^ 20) + 2 * tierUnits (16 * 2 ^ 20) +
    tierUnits (3 * 2 ^ 20) + tierUnits (64 * ceilDiv (hdrMib * 256) 12)
  let units := t / 4096
  let least := ceilDiv units 16
  if units < fixed + least + 2 ^ 18 then none else some (min pool ((units - fixed - least) / 2 ^ 18))

/-- DRAM_REFRESH_DUE (R276, R279): a same-bank refresh, and the bank's oldest queued directed refresh. -/
def execDramRefreshDue (chan bank : Nat) (hot : Bool) (s : State) : Host.Outcome State Fault Refusal :=
  finish <| if (s.dram chan).cstate ≠ .active then s
  else s.modDram chan fun d => { d with
    refreshes := d.refreshes + 1
    hot := hot
    banks := tmod Bank.reset d.banks bank fun b => { b with directed := b.directed.drop 1 } }

/-- ACT_WINDOW_RESET (R278): tables and floors clear; queued directed refreshes stay. -/
def execActWindowReset (chan : Nat) (s : State) : Host.Outcome State Fault Refusal :=
  finish <| if (s.dram chan).cstate ≠ .active then s
  else s.modDram chan fun d => { d with
    floorMax := 0
    banks := d.banks.foldl (fun t e => tput Bank.reset t e.1 { e.2 with rows := [], floor := 0 }) [] }

/-- BURST_WINDOW_END (R274, R275). -/
def execBurstWindowEnd (chan sub : Nat) (s : State) : Host.Outcome State Fault Refusal :=
  finish <| if (s.dram chan).cstate ≠ .active then s
  else s.modDram chan fun d => { d with
    credits := d.credits.filter fun e => e.1 / 4 ≠ sub
    shareNow := tput Drmc.reset.share d.shareNow sub d.share }

/-- DRMC_SHARE_WRITE (R275). -/
def State.regDrmcShareWrite (s : State) (chan : Nat) (v : Word) : State :=
  if !(s.hdr (.drmc chan)).ready || decide (s.fuse.part.dramChannels ≤ chan) then s
  else if fld v 0 7 + fld v 7 7 + fld v 14 7 + fld v 21 7 = 64 then s.modDram chan fun d => { d with share := keep v 0xFFFFFFF }
  else s.error (.drmc chan) 0x44 0

end Sys2Proof.Machine
end

