-- ==== Sys2Proof/Machine/Tree.lean ====
section
/-!
DEFINITION. Device addresses and their ranges, counter lines, key slots, and what follows a failed check
(04_host_port.md R141 to R143, R168; 14_memory_protection.md). Contents are held as plaintext with the slot they are encrypted
under (log 9).
-/
namespace Sys2Proof.Machine

/-! ### Device addresses -/

/-- The first line of the word view (R141). -/
def wordView : Nat := 2 ^ 39
/-- The first line of the packed view (R141). -/
def packedView : Nat := 2 ^ 41

/-- A line of a hank view. -/
def hankSide (line : Nat) : Bool := decide (wordView ≤ line)

/-- The packed word indices that a hank-view line holds any byte of (R168). -/
def lineWords (line : Nat) : List Nat :=
  if line < packedView then (List.range 8).map ((line - wordView) * 8 + ·)
  else
    let q := (line - packedView) * 64
    (List.range ((q + 63) / 5 - q / 5 + 1)).map (q / 5 + ·)

/-- The coarse unit of the first word of a hank-view line; a unit begins on a line boundary of both views (R290, R591). -/
def lineUnit (line : Nat) : Nat := (lineWords line).headD 0 / unitWords

/-- A region backs the line (R142, R143; 07_translation.md R291). -/
def State.backed (s : State) (line : Nat) : Bool :=
  if hankSide line then decide (lineUnit line < unitCount) else decide (line / 64 < 256 * s.ftlm.hdrMib)

/-- The lines of both views that hold a word (R168, R172): in the word view while R169 gives it one. -/
def wordLines (w : Nat) : List Nat :=
  let a := packedView + w * 5 / 64
  let b := packedView + (w * 5 + 4) / 64
  (if a = b then [a] else [a, b]) ++ (if w * 5 < 60 * 2 ^ 40 then [wordView + w / 8] else [])

/-- The lines of both views that hold any of `n` words from word `w` (R172). -/
def spanLines (w n : Nat) : List Nat :=
  if n = 0 then [] else
  let a := w * 5 / 64
  let b := ((w + n) * 5 - 1) / 64
  let x := w / 8
  let y := (w + n - 1) / 8
  (List.range (b - a + 1)).map (packedView + a + ·) ++
  ((List.range (y - x + 1)).map (wordView + x + ·)).filter fun l => decide (l < packedView)

/-! ### Ranges -/

/-- The state with one protection range changed. -/
def State.modRange (s : State) (r : Nat) (f : Range → Range) : State :=
  { s with mprt.ranges := tmod Range.reset s.mprt.ranges r f }

/-- The state with one key slot changed. -/
def State.modSlot (s : State) (k : Nat) (f : KSlot → KSlot) : State :=
  { s with mprt.slots := tmod KSlot.reset s.mprt.slots k f }

/-- The span of a range covers a line (R591). -/
def Range.covers (r : Range) (line : Nat) : Bool :=
  let u := if hankSide line then lineUnit line else line / 64
  decide (0 < r.count) && (r.packed = hankSide line) && decide (r.first ≤ u) && decide (u < r.first + r.count)

/-- The region of a line: the range whose span covers it, bound or not, the lowest of several; 16 for none (05_near_cache.md R876). -/
def State.regionOf (s : State) (line : Nat) : Nat :=
  ((List.range 16).find? fun r => (s.range r).covers line).getD 16

/-- The bound range of a line. -/
def State.rangeOf (s : State) (line : Nat) : Option Nat :=
  (List.range 16).find? fun r => (s.range r).bound && (s.range r).covers line

/-- The slot that content of a line is written under (R592). -/
def State.slotOf (s : State) (line : Nat) : Nat := (s.rangeOf line).elim s.mprt.devslot fun r => (s.range r).slot

/-- The line's range is LOCKED (R593). -/
def State.lockedLine (s : State) (line : Nat) : Bool := (s.rangeOf line).any fun r => (s.range r).locked

/-- The line's range uses verify-first (R610). -/
def State.verifyFirst (s : State) (line : Nat) : Bool := (s.rangeOf line).any fun r => (s.range r).verify

/-- The word of MPRT.RCFG of a range. -/
def Range.rcfg (r : Range) : Word :=
  packW [(5, r.slot), (1, b2n r.bound), (1, b2n r.verify), (1, b2n r.viral), (1, b2n r.locked), (1, b2n r.degraded),
    (1, b2n r.rekeying), (5, r.oldslot)]

/-! ### Key slots -/

/-- The lowest-numbered EMPTY slot. -/
def State.emptySlot (s : State) : Option Nat := (List.range 32).find? fun k => (s.kslot k).st = .empty

/-- A key put into a slot, with its subkeys and its check value (R585, R588 to R590). -/
def State.putKey (s : State) (k : Nat) (key : BitVec 256) (volatile_ generated : Bool) : State :=
  s.modSlot k fun _ => KSlot.ofKey key volatile_ generated

/-- A persistent key of the controller's own generated into a slot (R586, R617). -/
def State.generateKey (s : State) (k : Nat) : State :=
  { s with free := s.free + 1 }.putKey k (Config.newKey s.free) false true

/-! ### Counter lines -/

/-- The memory page of a line of device addresses. -/
def tierPageOf (line : Nat) : Nat := Config.tierPage (line / 64)

/-- Page `p` lies below node `n` of level `k`. -/
def underNode (k n p : Nat) : Bool := p / 8 ^ k = n

/-- The counter line of a memory page; an unlisted one is as its last rebuild left it (R594, R625). -/
def State.cline (s : State) (p : Nat) : CLine :=
  if s.mprt.pages.any fun e => e.1 = p then tget CLine.reset s.mprt.pages p
  else match s.mprt.rebuilt.find? fun e => underNode e.1 e.2.1 p with
    | some (_, _, m, _) => { CLine.reset with major := m }
    | none => CLine.reset

/-- The state with a counter line written. -/
def State.putCline (s : State) (p : Nat) (c : CLine) : State := { s with mprt.pages := tins p c s.mprt.pages }

/-- The highest MAJOR assigned since the start (R625). -/
def State.noteMajor (s : State) (m : Nat) : State := { s with mprt.majhw := max s.mprt.majhw m }

/-- A write of a line may be performed: its page is not being re-encrypted (R616). -/
def State.pageFree (s : State) (line : Nat) : Bool := !(s.cline (tierPageOf line)).reenc

/-- A write of a line would take its minor counter past 63 (R616). -/
def State.minorFull (s : State) (line : Nat) : Bool :=
  decide (63 ≤ tget 0 (s.cline (tierPageOf line)).minors (line % 64))

/-- A page's MAJOR would pass 2^40 - 1 (R617). -/
def State.majorFull (s : State) (line : Nat) : Bool := decide (2 ^ 40 - 1 ≤ (s.cline (tierPageOf line)).major)

/-! ### The counter tree (R599 to R603) -/

/-- Nodes of a level of the tree over `n` memory pages: level 0 has one counter line for each page, and a node covers 8 of the level below. -/
def levelNodes (n k : Nat) : Nat := ceilDiv n (8 ^ k)

/-- The top DRAM level: the lowest above 0 that has at most 64 nodes. -/
def topLevel (n : Nat) : Nat := ((List.range 16).find? fun k => decide (1 ≤ k ∧ levelNodes n k ≤ 64)).getD 15

/-- Lines of the tree over `n` memory pages. -/
def treeLines (n : Nat) : Nat := ((List.range (topLevel n + 1)).map (levelNodes n)).sum

/-- Tier units of this start. -/
def State.allUnits (s : State) : Nat := ((s.tier.order.map fun m => (s.dram m).gib).sum) * 2 ^ 18

/-- The groups of four tier units of the tree region: the fewest that hold the tree over the units below them, about 1/116 of the units
(R602; log 99). -/
def treeGroups (units : Nat) : Nat :=
  ((List.range 8).map (units / 116 - 3 + ·)).find? (fun g => decide (treeLines (units - 4 * g) ≤ 128 * g)) |>.getD (units / 116 + 5)

/-- The memory pages outside the tree region (R599, R602). -/
def State.treePages (s : State) : Nat := s.allUnits - 4 * treeGroups s.allUnits

/-- The tier line number of the primary copy, or of the mirror, of a node: each group holds 128 lines of primaries, in its units 0 and 1 with
two or more live channels, in its units 0 and 2 with one; the mirror lies two units on, or one (R602). -/
def State.nodeLine (s : State) (level node : Nat) (mirror : Bool) : Nat :=
  let g := treeGroups s.allUnits
  let i := Config.nodePlace level node % (128 * max 1 g)
  let one := decide (s.tier.order.length ≤ 1)
  let u := i % 128 / 64 * (if one then 2 else 1) + (if mirror then (if one then 1 else 2) else 0)
  64 * (s.allUnits - 4 * g + 4 * (i / 128) + u) + i % 64

/-- The AES pipeline whose buffer holds a node: that of the channel of its primary copy (R601; log 99). -/
def State.nodePipe (s : State) (level node : Nat) : Nat :=
  let n := s.tier.order.length
  s.tier.order.getD (s.nodeLine level node false / 64 % (2 * max 1 n) / 2) 0

/-- A node lies below another, or is it. -/
def nodeUnder (top node l n : Nat) : Bool := decide (l ≤ top) && decide (n / 8 ^ (top - l) = node)

/-- The counter of a node as its parent, or the root, holds it (R599, R625). -/
def Mprt.counterOf (m : Mprt) (level node : Nat) : Nat :=
  let k := level * 2 ^ 32 + node
  if m.nodes.any fun e => e.1 = k then tget 0 m.nodes k
  else match m.rebuilt.find? fun e => decide (level < e.1) && nodeUnder e.1 e.2.1 level node with
    | some (_, _, _, c) => c
    | none => 0

/-- The counter of a node goes up, and NODEHW with the highest (R601, R625). -/
def Mprt.bumpNode (m : Mprt) (level node : Nat) : Mprt :=
  let c := m.counterOf level node + 1
  { m with nodes := tins (level * 2 ^ 32 + node) c m.nodes, nodehw := max m.nodehw (ceilDiv c (2 ^ 16)) }

/-- An entry of the node buffers is of a node. -/
def NodeEnt.is (e : NodeEnt) (level node : Nat) : Bool := decide (e.level = level ∧ e.node = node)

/-- A node that is in a buffer changes there. -/
def Mprt.changeNode (m : Mprt) (level node : Nat) : Mprt :=
  { m with nodeBuf := m.nodeBuf.map fun e => if e.is level node then { e with changed := true } else e }

/-- A buffer with more than 512 lines evicts: a changed node is written, to both copies, its counter goes up, and its parent is brought into
the buffer (R601, R602). The newest entry stays. -/
def Mprt.evict (m : Mprt) (top : Nat) (pipeOf : Nat → Nat → Nat) (pipe : Nat) : Nat → Mprt
  | 0 => m
  | k + 1 =>
    let mine := m.nodeBuf.filter fun e => e.pipe = pipe
    if mine.length ≤ 512 then m
    else
      let v := mine.getD (Config.nodeVictim m.evictions % 512) .reset
      let m := { m with nodeBuf := m.nodeBuf.erase v, evictions := m.evictions + 1 }
      if !v.changed then m
      else
        let m := m.bumpNode v.level v.node
        let up := v.level + 1
        let parent := v.node / 8
        if top < up then m
        else if m.nodeBuf.any fun e => e.is up parent then m.changeNode up parent
        else
          let p := pipeOf up parent
          Mprt.evict { m with nodeBuf := m.nodeBuf ++ [{ pipe := p, level := up, node := parent, changed := true }] } top pipeOf p k

/-- A node brought into its buffer, verified (R601, R603). -/
def Mprt.bring (m : Mprt) (top : Nat) (pipeOf : Nat → Nat → Nat) (level node : Nat) : Mprt :=
  if m.nodeBuf.any fun e => e.is level node then m
  else
    let p := pipeOf level node
    Mprt.evict { m with nodeBuf := m.nodeBuf ++ [{ pipe := p, level := level, node := node, changed := false }] } top pipeOf p 8192

/-- The counter line of a memory page and every ancestor that no buffer holds fetched and verified together (R603). -/
def State.fetchPath (s : State) (page : Nat) : State :=
  let top := topLevel s.treePages
  let lack := (List.range (top + 1)).takeWhile fun k => !(s.mprt.nodeBuf.any fun e => e.is k (page / 8 ^ k))
  { s with mprt := lack.foldr (fun k m => m.bring top s.nodePipe k (page / 8 ^ k)) s.mprt }

/-- The counter line of a memory page changed, in the buffer (R601). -/
def State.touchPage (s : State) (page : Nat) : State :=
  let s := s.fetchPath page
  { s with mprt := s.mprt.changeNode 0 page }

/-- Every changed node of a level written to the DRAM tier, its parent changed with it (R628). -/
def Mprt.flushLevel (m : Mprt) (top level : Nat) : Mprt :=
  (m.nodeBuf.filter fun e => e.changed && e.level = level).foldl (fun m e =>
    let m := m.bumpNode e.level e.node
    if top ≤ level then m
    else if m.nodeBuf.any fun x => x.is (level + 1) (e.node / 8) then m.changeNode (level + 1) (e.node / 8)
    else { m with nodeBuf := m.nodeBuf ++ [{ pipe := e.pipe, level := level + 1, node := e.node / 8, changed := true }] }) m

/-- Every node buffer written back, level by level, and emptied (R628). -/
def State.flushNodes (s : State) : State :=
  let top := topLevel s.treePages
  let m := (List.range (top + 1)).foldl (fun m k => m.flushLevel top k) s.mprt
  { s with mprt := { m with nodeBuf := [] } }

/-- The root as the warm record holds it: the counters of the nodes of the top level (R599, R628). -/
def State.treeRoot (s : State) : Tbl Nat :=
  let top := topLevel s.treePages
  (List.range (levelNodes s.treePages top)).foldl (fun t n => tput 0 t (top * 2 ^ 32 + n) (s.mprt.counterOf top n)) []

/-- Each write of a line increments its minor counter, in the buffer; the page's first write names its slot (R592, R598, R601). -/
def State.countLine (s : State) (line : Nat) : State :=
  let p := tierPageOf line
  let s := s.touchPage p
  let c := s.cline p
  s.putCline p { c with minors := tmod 0 c.minors (line % 64) (· + 1), slot := c.slot.or (some (s.slotOf line)) }

/-- A rekey joins the queue of R617: an overflowing page's range, or the device slot's own content, moves to a new slot. -/
def State.queueRekey (s : State) (j : RekeyJob) : State :=
  let j := { j with step := 1 }
  match s.mprt.rekey with
  | none => { s with mprt.rekey := some j, mprt.rekeyPct := 0 }
  | some _ => { s with mprt.rekeyQueue := s.mprt.rekeyQueue ++ [j] }

/-- The queued or running rekey of a range or of the device slot (R617). -/
def State.rekeyOf (s : State) (r : Option Nat) : Option RekeyJob :=
  (s.mprt.rekey.toList ++ s.mprt.rekeyQueue).find? fun j => j.range = r

/-- A minor overflow: the page is re-encrypted under MAJOR + 1, and its writes wait (R616). A MAJOR overflow re-encrypts it with MAJOR
0 under the new slot of its queued rekey, or of one that begins now with a generated key (R617). `false` where no slot is EMPTY
(R618). -/
def State.reencrypt (s : State) (line : Nat) : State × Bool :=
  let p := tierPageOf line
  let s := s.touchPage p
  let c := s.cline p
  if c.major + 1 < 2 ^ 40 then
    ((s.putCline p { c with major := c.major + 1, minors := [], reenc := true }).noteMajor (c.major + 1), true)
  else
    let r := s.rangeOf line
    match s.rekeyOf r with
    | some j => (s.putCline p { c with major := 0, minors := [], reenc := true, slot := some j.new }, true)
    | none =>
      match s.emptySlot with
      | none => (s.cause .mprt 5 5, false)
      | some k =>
        let s := (s.generateKey k).writeRecord 9
        let s := s.putCline p { c with major := 0, minors := [], reenc := true, slot := some k }
        (s.queueRekey { range := r, old := s.slotOf line, new := k, retire := true, step := 1, byHost := false }, true)

/-! ### Failed checks -/

/-- Viral signalled to the host (04_host_port.md R179, R340; R612). -/
def State.goViral (s : State) : State := { s with cxlp.viral := true }.send .viral

/-- The poison list follows a write (R157, R159). -/
def State.markPoison (s : State) (line : Nat) (poison : Bool) : State := if poison then s.notePoison line else s.clearPoison line

/-- A line stored in the DRAM tier by the controller: a victim, a write-back (R212, R213, R215). -/
def State.storeBack (s : State) (line : Nat) (data : BitVec 512) (poison : Bool) : State :=
  let s := if s.pageFree line && s.minorFull line then (s.reencrypt line).1 else s.countLine line
  ((s.putTier line data poison).dramWrite line).markPoison line poison

/-- A line found poisoned: the poison bit of a near-cache or victim-buffer copy is set, and a Dirty copy is written back with poison
(05_near_cache.md R225). -/
def State.poisonNear (s : State) (line : Nat) : State :=
  let dirty := (s.ncch.slices.flatMap fun e => e.2.ways.map (·.2)).filter fun w => w.st = .modified && w.line = line
  let s := dirty.foldl (fun s w => s.storeBack line w.data true) s
  { s with ncch.slices := s.ncch.slices.map fun (e : Nat × Slice) =>
      (e.1, { e.2 with
        ways := e.2.ways.map fun (w : Nat × Way) =>
          if w.2.st ≠ .invalid && w.2.line = line then (w.1, { w.2 with st := .clean, poison := true }) else w
        victims := e.2.victims.map fun v => if v.line = line then { v with poison := true } else v }) }

/-- A line poisoned as it stands in the DRAM tier (R597, R612); the poisoned line is newer than its media copy (log 16). -/
def State.poisonTier (s : State) (line : Nat) : State :=
  if hankSide line then
    { s with tier.hank := s.tier.hank.map fun (e : Nat × Bool) => if e.1 = line then (line, true) else e }.notePoison line
  else
    let t := tget TLine.reset s.tier.lines line
    let (d, _) := s.tierLine line
    { s with tier.lines := tins line { data := d, poison := true, dirty := true, held := t.held, gen := t.gen + 1 } s.tier.lines
      }.notePoison line

/-- A late alarm (R612): the line is poisoned unless a full-line write has been performed since, and the event names the line. -/
def State.lateAlarm (s : State) (line : Nat) (media rewritten : Bool) : State :=
  let s := if rewritten then s else (s.poisonTier line).poisonNear line
  let s := { s with mprt.late := satInc 20 s.mprt.late }
  let addr := if media then mapPua (s.mapEntry false (line / 64)) / 256 else tierAddr line
  let s := s.error .mprt (if media then 0x41 else 0x40) addr (2 ^ 1) 5
  if (s.rangeOf line).any fun r => (s.range r).viral then s.goViral else s

/-- A node repaired from its mirror: its primary copy is rewritten (R623, R637). -/
def State.nodeRepaired (s : State) (level node : Nat) : State :=
  { s with mprt.noderep := satInc 20 s.mprt.noderep }.error .mprt 0x42 (s.nodeLine level node false / 64 % 2 ^ 28) (2 ^ 2)

/-- The lines held in the DRAM tier that a node covers (R599). -/
def State.coveredLines (s : State) (level node : Nat) : List Nat :=
  (s.tier.lines.map (·.1) ++ s.tier.hank.map (·.1)).filter fun l => underNode level node (tierPageOf l)

/-- A node lost in both copies (R624), and the rebuild of what it covers (R625). -/
def State.nodeLost (s : State) (level node : Nat) : State :=
  let ls := s.coveredLines level node
  let s := ls.foldl (fun s l => (s.poisonTier l).poisonNear l) s
  let rs := distinct (ls.filterMap s.rangeOf)
  let s := rs.foldl (fun s r => s.modRange r fun x => { x with degraded := true }) s
  let s := s.error .mprt 0x43 (s.nodeLine level node false / 64 % 2 ^ 28) (2 ^ 3) 5
  let s := if rs.any fun r => (s.range r).viral then s.goViral else s
  let m := s.mprt.majhw + 1
  let h := s.mprt.nodehw + 1
  let x : Mprt := { s.mprt with
    majhw := m
    nodehw := h
    pages := s.mprt.pages.map fun (e : Nat × CLine) =>
      if underNode level node e.1 then (e.1, { e.2 with major := m, minors := [] }) else e
    nodes := s.mprt.nodes.filter fun e => !(decide (e.1 / 2 ^ 32 < level) && nodeUnder level node (e.1 / 2 ^ 32) (e.1 % 2 ^ 32))
    nodeBuf := s.mprt.nodeBuf.filter fun e => !nodeUnder level node e.level e.node
    rebuilt := (level, node, m, h * 2 ^ 16) :: s.mprt.rebuilt }
  { s with mprt := x.bumpNode level node }

end Sys2Proof.Machine
end

