-- ==== Sys2Proof/Machine/Hank.lean ====
section
/-!
DEFINITION. What a host read of a line finds: hank words from crucibles and media, host data from the DRAM tier and media
(12_capture.md R491 to R506, R170; 01_architecture.md R33 to R36).
-/
namespace Sys2Proof.Machine

/-- A word of a hank that its strand has not committed yet: of the open record, or of a record that waits for back-invalidation
(R33, R502). -/
def State.uncommitted (s : State) (n : Nat) (x : Strand) (h : Nat) : Bool :=
  let wp := x.wpunit * unitWords + x.wpword
  (x.opened && decide (wp - x.rlen ≤ h) && decide (h < wp)) ||
  s.strd.commits.any fun k => k.strand = n && decide (k.start ≤ h) && decide (h < k.start + fld k.slot 0 18)

/-- One packed word as a host read finds it, with its poison (R35, R36, R170, R502). -/
def State.hankWord (s : State) (w : Nat) : Word × Bool :=
  let c := w / unitWords
  let k := w % unitWords
  let page := k / pageWords
  let j := k % pageWords
  let hidden := match s.unitStrand c with
    | some (n, x) => s.uncommitted n x ((c - x.hbase) * unitWords + k)
    | none => false
  if hidden then (0, false)
  else match s.frameOf c page with
    | some f => (tget 0 f.words j, false)
    | none =>
      if mapSt (s.mapEntry true c) = 3 then (0, true)
      else
        let p := (s.hankPage c page).getD .reset
        let hit (byte : Nat) : Bool := decide (byte / 4096 ∈ p.bad) || (p.rec_ (byte / 4096)).pmask.testBit (byte % 4096 / 64)
        (tget 0 p.words j, hit (5 * j) || hit (5 * j + 4))

/-- One line of a hank view: 8 zero-extended words, or 64 bytes of packed words (R168, R10). -/
def State.hankLine (s : State) (line : Nat) : BitVec 512 × Bool :=
  let ws := (lineWords line).map s.hankWord
  let n := if line < packedView then
      pack (ws.map fun x => (64, x.1.toNat))
    else
      let q := (line - packedView) * 64
      pack (ws.map fun x => (40, x.1.toNat)) / 2 ^ (8 * (q % 5))
  (BitVec.ofNat 512 n, ws.any (·.2))

/-- The DRAM tier holds the line. -/
def State.tierHas (s : State) (line : Nat) : Bool :=
  if hankSide line then s.tier.hank.any fun e => e.1 = line else s.tier.lines.any fun e => e.1 = line

/-- A line as the DRAM tier, the crucibles and media hold it (R293, R26, R36). -/
def State.lineData (s : State) (line : Nat) : BitVec 512 × Bool :=
  if hankSide line then
    let (d, p) := s.hankLine line
    (d, p || s.tier.hank.any fun e => e.1 = line && e.2)
  else s.tierLine line

/-- The physical units that a fill of the line must read from media: none where the tier, a crucible or an entry that maps nothing
supplies it (04_host_port.md R162; 07_translation.md R293). -/
def State.mediaPuas (s : State) (line : Nat) : List Nat :=
  if s.tierHas line then []
  else if hankSide line then
    distinct ((lineWords line).filterMap fun w =>
      let c := w / unitWords
      let k := w % unitWords
      let page := k / pageWords
      if (s.frameOf c page).isSome then none
      else ((s.hankPlace c page).filter fun x => s.stored x.1 x.2).map fun x => mkPua x.1 x.2 (k % pageWords * 5 / 4096))
  else
    let e := s.mapEntry false (line / 64)
    if mapSt e = 1 then [mapPua e] else []

/-- Everything that a fill needs is there. -/
def State.fillReady (s : State) (line : Nat) : Bool :=
  (s.mediaPuas line).all fun p => s.clus.reads.any fun r => r.line = line && r.pua = p && r.outcome ≠ .pending

/-- The fill of a line is for a partial write that merges with it (06_dram_tier.md R267). -/
def State.merging (s : State) (line : Nat) : Bool :=
  (s.ncch.bypass ++ s.ncch.slices.flatMap fun e => e.2.miss).any fun m => m.line = line && m.joined.head?.any fun r => r.write.isSome

/-- A fill begins: a DRAM-tier read, with the nodes of the line's path that no buffer holds, or a P1 media read of each physical unit wanted
(R378; 14_memory_protection.md R603). -/
def State.startFill (s : State) (line : Nat) : State :=
  let puas := s.mediaPuas line
  if puas.isEmpty then (if s.tierHas line then (s.fetchPath (tierPageOf line)).dramRead line (s.merging line) else s)
  else puas.foldl (fun s p =>
    if s.clus.reads.any fun r => r.line = line && r.pua = p then s else s.dispatchRead line p) s

/-- A fill's reads are done with. -/
def State.fillEnds (s : State) (line : Nat) : State :=
  ((s.clus.reads.filter fun r => r.line = line).map (·.id)).foldl State.endRead (s.dramReadDone line)

/-- Near-cache and DRAM-tier copies of hank-view lines are invalidated; a miss entry that meets it is not installed
(05_near_cache.md R225, R227; R33, R506). -/
def State.invalidate (s : State) (hit : Nat → Bool) : State :=
  let mark (m : Miss) : Miss := if hit m.line then { m with noInstall := true } else m
  { s with tier.hank := s.tier.hank.filter fun e => !hit e.1
           ncch.bypass := s.ncch.bypass.map mark
           ncch.slices := s.ncch.slices.map fun (e : Nat × Slice) =>
             (e.1, { e.2 with
               miss := e.2.miss.map mark
               ways := e.2.ways.filterMap fun (w : Nat × Way) =>
                 if w.2.st ≠ .invalid && hit w.2.line then
                   (if w.2.locked then some (w.1, { Way.reset with locked := true }) else none)
                 else some w }) }

/-- A hank-view line holds a word of a coarse unit. -/
def unitLine (c line : Nat) : Bool := hankSide line && lineUnit line = c

end Sys2Proof.Machine
end

