-- ==== Sys2Proof/Machine/Cache.lean ====
section
/-!
DEFINITION. How a CXL.mem request is served: completions and their event records, the near-cache slices, the DRAM tier behind
them (04_host_port.md, 05_near_cache.md).
-/
namespace Sys2Proof.Machine

/-! ### Completions -/

/-- The line of a request. -/
def MemReq.line (r : MemReq) : Nat := r.dpa / 64
/-- Every byte of the line is written. -/
def MemReq.full (r : MemReq) : Bool := r.write.any fun w => w.2 = BitVec.allOnes 64

/-- A record added to a CXL event log (R161); a log whose policy asks for it signals vector 2 (R140). -/
def State.logEvent (s : State) (log : Nat) (e : CxlEvent) : State :=
  let h := s.mbox.logHandle
  let e := { e with handle := h, stamp := s.cxlStamp }
  let s := { s with mbox.logs := tput [] s.mbox.logs log (tget [] s.mbox.logs log ++ [e]),
                    mbox.logHandle := if h = 65535 then 1 else h + 1 }
  if s.mbox.evPolicy / 256 ^ log % 4 = 1 then s.message 2 else s

/-- An access that raises one event record with `f`: it is put in the Failure log as a General Media Event and in the Informational
log with the controller's own record (R161). A record that the rate limit suppresses took no sequence, so the one it carries is a
free value. -/
def State.mediaEvent (s : State) (dpa : Nat) (f : State → State) : State :=
  let s := s.settle
  let n := s.evtr.next
  let s := f s
  let r := s.raised.head?
  let s := s.settle
  let (v, s) := if s.evtr.next = n then s.fresh1 else (n, s)
  let r := r.map fun r => { r with seq := v % 2 ^ 32 }.checked
  (s.logEvent 2 { CxlEvent.reset with media := true, dpa := dpa }).logEvent 0 { CxlEvent.reset with record := r }

/-- The bound of a latency class in ns, 0 near cache, 1 DRAM tier, 2 media, at the core clock in force and in the line's range (R7,
R165, R166); the 40 ns of verify-first are added after the scaling (DESIGN CHOICE, log 93). -/
def State.latBound (s : State) (line cls : Nat) : Nat :=
  let f := match s.thrm.clock with | 0 => 30 | 1 => 24 | _ => 18
  let v := if s.verifyFirst line then 40 else 0
  match cls with | 0 => 120 * 30 / f | 1 => 320 * 30 / f + v | _ => 96000 + v

/-- Bytes of a line replaced where enabled. -/
def mergeLine (old new : BitVec 512) (en : BitVec 64) : BitVec 512 :=
  let m : BitVec 512 := (List.range 64).foldl (fun m i => if en.getLsbD i then m ||| (255#512 <<< (8 * i)) else m) 0
  (old &&& ~~~m) ||| (new &&& m)

/-- A line's data and poison after a write. -/
def MemReq.applyTo (r : MemReq) (x : BitVec 512 × Bool) : BitVec 512 × Bool :=
  match r.write with
  | none => x
  | some (d, en) => if r.full then (d, r.poison) else if x.2 then x else (mergeLine x.1 d en, r.poison)

/-- A request in its place among others, in the order of arrival (R146). -/
def insOrd (r : MemReq) : List MemReq → List MemReq
  | [] => [r]
  | x :: l => if r.ord < x.ord then r :: x :: l else x :: insOrd r l

/-- The writes of a request's line received before it that wait for room, for a victim's write-back or for a re-encryption, in the order
of arrival (R146). -/
def State.waitingWrites (s : State) (r : MemReq) : List MemReq :=
  let all := (s.ncch.slices.flatMap fun e => e.2.victims.flatMap (·.waits)) ++ s.mprt.pages.flatMap (fun e => e.2.waits) ++ s.cxlp.dirtyWait
  (all.filter fun w => w.write.isSome && w.line = r.line && decide (w.ord < r.ord)).foldl (fun l w => insOrd w l) []

/-- A read completes (R157, R161, R187), in a latency class unless it waited on the filter (R167). `err` is a CXLP error code that it
captures. A read that completes poisoned before it reaches any stage counts in the DRAM-tier class (DESIGN CHOICE, log 93). -/
def State.sendRead (s : State) (r : MemReq) (x : BitVec 512 × Bool) (cls : Nat) (err : Option Nat := none) : State :=
  let t := s.now - r.since
  let l := tget LatRec.reset s.cxlp.latency cls
  let late := if s.latBound r.line cls < t then 1 else 0
  let l := { count := (l.count + 1) % 2 ^ 64, longest := satN 32 (max l.longest t), late := satN 32 (l.late + late) }
  let s := { s with cxlp.latency := if r.outside then s.cxlp.latency else tput LatRec.reset s.cxlp.latency cls l,
                    cxlp.reads := s.cxlp.reads - 1, cxlp.lastReq := s.now }
  let s := s.send (.readDone r.tag x.1 x.2)
  match err with
  | some code => s.mediaEvent r.dpa fun s => s.error .cxlp code (r.dpa / 2 ^ 20) (2 ^ 4)
  | none => if x.2 then s.mediaEvent r.dpa fun s => s.cause .cxlp 4 else s

/-- GPF phase 2 is answered once every write received is in the persistence domain: only writes performed and held under L = 0 are left
(R152, 10_persistence.md R419). -/
def State.gpfCheck (s : State) : State :=
  if s.cxlp.gpfWait && decide (s.cxlp.writes ≤ s.cxlp.zeroWait.length) then
    { s with cxlp.gpfWait := false, cxlp.gpf := 2 }.send (.gpfDone 2)
  else s

/-- A write completes. -/
def State.finishWrite (s : State) (r : MemReq) : State :=
  (State.send { s with cxlp.lastReq := s.now, cxlp.writes := s.cxlp.writes - 1 } (.writeDone r.tag)).gpfCheck

/-- A write is refused with a CXLP error: it completes and stores nothing (R143, R158, R171, R49). -/
def State.refuseWrite (s : State) (r : MemReq) (code : Nat) : State :=
  (s.mediaEvent r.dpa fun s => s.error .cxlp code (r.dpa / 2 ^ 20) (2 ^ 5)).finishWrite r

/-- Lines of the refused-line table (07_translation.md R340). -/
def refusedMax : Nat := 1048576

/-- A refused line joins the refused-line table; a full table does not record it, and the controller signals viral (R339, R340). -/
def State.recordRefused (s : State) (dpa : Nat) : State :=
  let line := dpa / 64
  if line ∈ s.media.refused then s
  else if s.media.refused.length < refusedMax then { s with media.refused := s.media.refused ++ [line] }.notePoison line
  else (s.error .ftlm 0x44 (dpa / 2 ^ 20) (2 ^ 6)).goViral

/-- A write is refused for lack of space: its line joins the refused-line table (07_translation.md R339, R340). -/
def State.refuseSpace (s : State) (r : MemReq) : State :=
  let s := { s with ftlm.refusedCount := satInc 19 s.ftlm.refusedCount }
  let s := s.mediaEvent r.dpa fun s => s.error .ftlm 0x40 (r.dpa / 2 ^ 20) (2 ^ 4)
  (s.recordRefused r.dpa).finishWrite r

/-- A write of a LOCKED range completes and stores nothing (14_memory_protection.md R593). -/
def State.refuseLocked (s : State) (r : MemReq) : State :=
  let w := ((s.rangeOf r.line).elim Range.reset s.range).rcfg.toNat
  (s.mediaEvent r.dpa fun s => s.changeRecord .mprt 0x68 w w).finishWrite r

/-- A line written in full, or its poison cleared, leaves the refused-line table outside SAFE (R159, R343). -/
def State.unrefuse (s : State) (line : Nat) : State :=
  if s.sysc.mode = .safe then s else { s with media.refused := without s.media.refused line }

/-- A line is poisoned: by its copy's poison bit, or as a line whose write was refused (R157, R158, 07_translation.md R339). -/
def State.lineBad (s : State) (line : Nat) (bit : Bool) : Bool := bit || decide (line ∈ s.media.refused)

/-! ### The host-ownership filter -/

/-- The line lies in an HDM-DB range (R145). -/
def State.dbRange (s : State) (dpa : Nat) : Bool :=
  s.cxlp.decoders.any fun e => e.2.committed && e.2.db && decide (e.2.base ≤ dpa) && decide (dpa < e.2.base + e.2.size)

/-- A line has a BISnpInv outstanding. -/
def State.snooped (s : State) (line : Nat) : Bool := s.cxlp.biOut.any fun b => b.line = line

/-- A line is back-invalidated for a commit or a filter eviction (R176, R178): a BISnpInv goes out, unless one is outstanding already, which
is then waited for by both. -/
def State.bisnp (s : State) (line : Nat) (commit evict : Option Nat) : State :=
  if s.snooped line then
    { s with cxlp.biOut := s.cxlp.biOut.map fun (b : BiOut) =>
        if b.line = line then { b with commits := b.commits ++ commit.toList, evict := evict.or b.evict } else b }
  else { s with cxlp.biOut := s.cxlp.biOut ++ [({ line := line, since := s.now, commits := commit.toList, evict := evict } : BiOut)]
         }.send (.bisnpInv line)

/-- The filter's 16 ways for a line: keys of the set of its 4 KiB region (R174). Which address bits name the set is the model's
choice (log 17). -/
def filtKeys (line : Nat) : List Nat := (List.range 16).map (line / 64 % 4096 * 16 + ·)

/-- The presence bit of a line set in a way of the filter that covers its region. -/
def State.setPresence (s : State) (key line : Nat) : State :=
  { s with cxlp.filter := tmod Filt.reset s.cxlp.filter key fun f => { f with lines := withNew f.lines (line % 64) } }

/-- The way of the filter that covers a line's region. -/
def State.filtWay (s : State) (line : Nat) : Option Nat :=
  (filtKeys line).find? fun k => (tget Filt.reset s.cxlp.filter k).page = line / 64 + 1

/-- A free way allocated to a line's region. -/
def State.allocFilt (s : State) (key line : Nat) : State :=
  { s with cxlp.filter := tput Filt.reset s.cxlp.filter key { page := line / 64 + 1, lines := [line % 64], order := s.cxlp.filtOrder },
           cxlp.filtOrder := s.cxlp.filtOrder + 1 }

/-- The way of a set that was allocated longest ago (R178). -/
def State.oldestFilt (s : State) (keys : List Nat) : Option Nat :=
  (keys.foldl (fun m k =>
    let o := (tget Filt.reset s.cxlp.filter k).order
    match m with | some (p, _) => if o < p then some (o, k) else m | none => some (o, k)) (none : Option (Nat × Nat))).map (·.2)

/-- A way of the filter is being evicted. -/
def State.evicting (s : State) (key : Nat) : Bool := s.cxlp.biOut.any fun b => b.evict = some key

/-- A read waits for the end of an eviction (R178, R191). -/
def State.holdEvict (s : State) (r : MemReq) : State :=
  { s with cxlp.biHold := insOrd { r with outside := true } s.cxlp.biHold }.cause .cxlp 6

/-- A read passes the filter, or is held: for its line's BISnpInv, which it conflicts with (the controller then acknowledges the
conflict, PRESUMED of the BIConflict flow, log 94), or for the eviction of a way (R175, R177, R178). A read whose filter word could not
be read writes nothing into it (05_near_cache.md R239). -/
def State.filterRead (s : State) (r : MemReq) : State × Bool :=
  let line := r.line
  if s.snooped line then
    ((State.send { s with cxlp.biHold := insOrd r s.cxlp.biHold } (.biConflictAck line)), false)
  else if !(r.cacheable && s.dbRange r.dpa) || r.blind then (s, true)
  else match s.filtWay line with
    | some k => if s.evicting k then (s.holdEvict r, false) else (s.setPresence k line, true)
    | none =>
      match (filtKeys line).find? fun k => (tget Filt.reset s.cxlp.filter k).page = 0 with
      | some k => (s.allocFilt k line, true)
      | none =>
        match s.oldestFilt (filtKeys line) with
        | none => (s, true)
        | some k =>
          let f := tget Filt.reset s.cxlp.filter k
          if s.evicting k then (s.holdEvict r, false)
          else
            let s := { s with cxlp.evict := satInc 12 s.cxlp.evict }
            if f.lines.isEmpty then (State.allocFilt { s with cxlp.filter := tdel k s.cxlp.filter } k line, true)
            else ((f.lines.foldl (fun s l => s.bisnp ((f.page - 1) * 64 + l) none (some k)) s).holdEvict r, false)

/-- A read completes with what its stage supplies: it sees the writes received before it that still wait (R146), and it passes the filter
as its data is about to be sent, or is held (R175, R177). -/
def State.finishRead (s : State) (r : MemReq) (x : BitVec 512 × Bool) (cls : Nat) : State :=
  match s.filterRead r with
  | (s, false) => s
  | (s, true) => s.sendRead r ((s.waitingWrites r).foldl (fun x w => w.applyTo x) x) cls

/-! ### Slices -/

/-- The slice hash of a line (R194). -/
def sliceHash (line : Nat) : Nat := (line % 16) ^^^ (line / 2 ^ 12 % 16) ^^^ (line / 2 ^ 24 % 16) ^^^ (line / 2 ^ 36 % 16)
/-- The set index of a line (R194). -/
def lineSet (line : Nat) : Nat := line / 16 % 4096

/-- The state with one slice changed. -/
def State.modSlice (s : State) (i : Nat) (f : Slice → Slice) : State :=
  { s with ncch.slices := tmod Slice.reset s.ncch.slices i f }

/-- The slice that serves a line (R195). -/
def State.sliceOf (s : State) (line : Nat) : Option Nat :=
  (s.ncch.slices.find? fun e => e.2.live && e.2.serves.testBit (sliceHash line)).map (·.1)

/-- The way that holds a line. -/
def Slice.lookup (c : Slice) (line : Nat) : Option (Nat × Way) :=
  c.ways.find? fun w => w.1 / 16 = lineSet line && w.2.st ≠ .invalid && w.2.line = line

/-- One step of the replacement register (R204). -/
def lfsrStep (n : Nat) : Nat :=
  let b (i : Nat) : Nat := n / 2 ^ i % 2
  n / 2 + (b 0 + b 2 + b 3 + b 5) % 2 * 2 ^ 15

/-- The start seed of slice i (R205). -/
def lfsrSeed (i : Nat) : Nat := 0xACE1 ^^^ (0x0101 * i)

/-- A way that may be a victim (R206 step 3). -/
def Slice.mayEvict (c : Slice) (key : Nat) : Bool :=
  let w := tget Way.reset c.ways key
  !w.locked && !(c.miss.any fun m => m.line = w.line && m.filled.isNone) && !(c.victims.any fun v => v.line = w.line)

/-- The way that an allocation takes, and the slice with its register stepped; `stepped` marks a retry (R206). -/
def Slice.choose (c : Slice) (set : Nat) (stepped : Bool) : Slice × Option Nat :=
  let keys := (List.range 16).map (16 * set + ·)
  match keys.find? fun k => let w := tget Way.reset c.ways k; w.st = .invalid && !w.locked with
  | some k => (c, some k)
  | none =>
    let c := if stepped then c else { c with lfsr := lfsrStep c.lfsr }
    (c, ((List.range 16).map fun i => 16 * set + (c.lfsr + i) % 16).find? c.mayEvict)

/-- A line installed Clean (R206, R215, R218); `false` where the install waits. -/
def Slice.install (c : Slice) (w : Way) (stepped : Bool) : Slice × Bool :=
  let (c, k) := c.choose (lineSet w.line) stepped
  match k with
  | none => (c, false)
  | some k =>
    let v := tget Way.reset c.ways k
    if v.st = .modified then
      if 32 ≤ c.victims.length then (c, false)
      else ({ c with victims := c.victims ++ [{ line := v.line, data := v.data, poison := v.poison, waits := [] }],
                     ways := tput Way.reset c.ways k w }, true)
    else ({ c with ways := tput Way.reset c.ways k w }, true)

/-- The attribute of a line's region now (R207, R208). -/
def State.attr (s : State) (line : Nat) : Nat :=
  if s.fuse.part ≠ .p4860 then 2
  else let r := s.regionOf line; if r = 16 then fld s.ncch.rgnattr 32 2 else fld s.ncch.rgnattr (2 * r) 2

/-- Requests pass the slice by (R231, R236). -/
def Slice.passed (c : Slice) : Bool := c.cstate = .disabled || c.cstate = .bypass

/-! ### Writes -/

/-- The write may make its line dirty now (R151, R211, R419). -/
def State.roomFor (s : State) (line : Nat) : Bool :=
  s.pers.limit = 0 || decide (0 < s.dirtyRoom) || decide (line ∈ s.dirtyLines)

/-- The completion of a performed write: under L = 0 only once its line is on media (R419). -/
def State.acknowledge (s : State) (r : MemReq) : State :=
  if s.pers.limit = 0 then { s with cxlp.zeroWait := s.cxlp.zeroWait ++ [(r.line, r.tag)], cxlp.lastReq := s.now }.gpfCheck
  else s.finishWrite r

/-- A write that waits for its page's re-encryption (R616). -/
def State.waitPage (s : State) (r : MemReq) : State :=
  let p := tierPageOf r.line
  let c := s.cline p
  s.putCline p { c with waits := insOrd r c.waits }

/-- A write that waits for room in the dirty budget (R151); the destage that makes it takes the write's class (21_priorities.md R812). -/
def State.waitRoom (s : State) (r : MemReq) : State :=
  State.raiseDestage { s with cxlp.dirtyWait := insOrd r s.cxlp.dirtyWait }

/-- A miss entry whose data is there follows a write of its line. -/
def State.refill (s : State) (line : Nat) (x : BitVec 512 × Bool) (full : Bool) : State :=
  let f (m : Miss) : Miss := if m.line = line && m.filled.isSome then { m with filled := some x, rewritten := m.rewritten || full } else m
  { s with ncch.bypass := s.ncch.bypass.map f
           ncch.slices := s.ncch.slices.map fun (e : Nat × Slice) => (e.1, { e.2 with miss := e.2.miss.map f }) }

/-- A write performed in the DRAM tier on the line `old`: `true` where it was performed, `false` where it waits or was refused
(R155, R158, R598, R616 to R618). `first` marks the write that its page was re-encrypted for. -/
def State.tierWrite (s : State) (r : MemReq) (old : BitVec 512 × Bool) (first : Bool) : State × Bool :=
  let line := r.line
  let new := r.applyTo old
  if !r.full && s.lineBad line old.2 then (s.refuseWrite r 0x43, false)
  else if !s.roomFor line then (s.waitRoom r, false)
  else if !first && !s.pageFree line then (s.waitPage r, false)
  else if !first && s.minorFull line then
    match s.reencrypt line with
    | (s, true) => (s.waitPage r, false)
    | (s, false) => (s.refuseSpace r, false)
  else
    let s := if first then s else s.countLine line
    let s := (((s.putTier line new.1 new.2).dramWrite line).markPoison line new.2).refill line new r.full
    ((if r.full then s.unrefuse line else s).acknowledge r, true)

/-- A write that hits a way (R207, R210, R211, R229). -/
def State.hitWrite (s : State) (i key : Nat) (w : Way) (r : MemReq) (first : Bool) : State :=
  let line := r.line
  let c := s.slice i
  let new := r.applyTo (w.data, w.poison)
  if !r.full && s.lineBad line w.poison then s.refuseWrite r 0x43
  else if s.attr line = 0 && c.cstate = .enabled then
    if w.st ≠ .modified && !s.roomFor line then s.waitRoom r
    else
      let w := { w with st := .modified, data := new.1, poison := new.2 }
      let s := (s.modSlice i fun c => { c with ways := tput Way.reset c.ways key w }).markPoison line new.2
      (if r.full then s.unrefuse line else s).acknowledge r
  else
    let (s, done) := s.tierWrite r (w.data, w.poison) first
    if done then
      let w := { w with st := .clean, data := new.1, poison := new.2 }
      s.modSlice i fun c => { c with ways := tput Way.reset c.ways key w }
    else s

/-- A write that must come after one that already waits for the same line waits behind it (R146, R156). -/
def State.behind (s : State) (r : MemReq) : Option State :=
  let before (w : MemReq) : Bool := w.line = r.line && decide (w.ord < r.ord)
  if r.write.isNone then none
  else if s.cxlp.dirtyWait.any before then some (s.waitRoom r)
  else if (s.cline (tierPageOf r.line)).waits.any before then some (s.waitPage r)
  else none

/-- A request served past the slices: a read from what the fill found, a write in the DRAM tier (R207, R231). -/
def State.direct (s : State) (media : Bool) (r : MemReq) : State :=
  match r.write with
  | none => s.finishRead r (s.lineData r.line) (if media then 2 else 1)
  | some _ => (s.behind r).getD (s.tierWrite r (s.lineData r.line) false).1

/-- A request that passes no slice and takes no miss entry: at once, or behind a media read of its line (R155, R207, R231). -/
def State.pass (s : State) (r : MemReq) : State :=
  let line := r.line
  if r.full && !(s.ncch.bypass.any fun m => m.line = line) then s.direct false r
  else match s.ncch.bypass.find? fun m => m.line = line with
    | some m =>
      let m' := if m.noInstall then { m with after := insOrd r m.after } else { m with joined := insOrd r m.joined }
      { s with ncch.bypass := s.ncch.bypass.map fun x => if x.line = line then m' else x }
    | none =>
      if (s.mediaPuas line).isEmpty then s.direct false r
      else { s with ncch.bypass := s.ncch.bypass ++ [{ Miss.reset with line := line, joined := [r], media := true }] }.startFill line

/-! ### Miss entries -/

/-- A miss entry taken for a line, and its fill begun (R199). -/
def State.newMiss (s : State) (i : Nat) (m : Miss) : State :=
  let m := { m with media := !(s.mediaPuas m.line).isEmpty }
  let s := s.modSlice i fun c => { c with miss := c.miss ++ [m] }
  if m.filled.isNone then s.startFill m.line else s

/-- The miss entry of a line changed. -/
def State.modMiss (s : State) (i line : Nat) (f : Miss → Miss) : State :=
  s.modSlice i fun c => { c with miss := c.miss.map fun m => if m.line = line then f m else m }

/-- A request waits at the slice input (R200, R202). -/
def State.atInput (s : State) (i : Nat) (r : MemReq) : State := s.modSlice i fun c => { c with inWait := insOrd r c.inWait }

/-- A request counted as a hit, once. -/
def State.countHit (s : State) (i : Nat) (r : MemReq) : State :=
  if r.seen then s else s.modSlice i fun c => { c with hits := wrapInc 40 c.hits }

/-- A request that joined a miss entry, once the line is installed: a read in the class of the fill, a write as a hit (R203). -/
def State.serveJoined (s : State) (i line : Nat) (media : Bool) (r : MemReq) : State :=
  match (s.slice i).lookup line, r.write with
  | some (_, w), none => s.finishRead r (w.data, w.poison) (if media then 2 else 1)
  | some (key, w), some _ => (s.behind r).getD (s.hitWrite i key w r false)
  | none, _ => s.direct media r

/-- A request served from the data of a miss entry whose install waits (R218). A write is then performed in the DRAM tier, whatever the
attribute, and in the entry's data (DESIGN CHOICE, log 95). -/
def State.serveEntry (s : State) (i line : Nat) (media : Bool) (r : MemReq) : State :=
  let x := (((s.slice i).miss.find? fun m => m.line = line).bind (·.filled)).getD (s.lineData line)
  match r.write with
  | none => s.finishRead r x (if media then 2 else 1)
  | some _ => (s.behind r).getD (s.tierWrite r x false).1

/-- A line as a fill installs it: Clean, with its region (R196, R203, R223). -/
def State.wayFor (s : State) (line : Nat) (x : BitVec 512 × Bool) : Way :=
  { st := .clean, line := line, poison := x.2, region := s.regionOf line, data := x.1, locked := false }

/-- The data of a miss entry is there and checked: the line is installed where its region and slice allow it, and the requests that wait
are served in order; where the install finds no place, only the install waits (R203, R206, R218). -/
def State.settleOpen (s : State) (i : Nat) (m : Miss) (x : BitVec 512 × Bool) : State :=
  let c := s.slice i
  let line := m.line
  let free (c : Slice) : Slice := { c with miss := c.miss.filter fun y => y.line ≠ line }
  if s.attr line = 3 || c.cstate ≠ .enabled then m.joined.foldl (fun s r => s.direct m.media r) (s.modSlice i free)
  else
    match c.install (s.wayFor line x) m.stepped with
    | (c, true) => m.joined.foldl (fun s r => s.serveJoined i line m.media r) (s.modSlice i fun _ => free c)
    | (c, false) =>
      let s := s.modSlice i fun _ =>
        { c with miss := c.miss.map fun y => if y.line = line then { y with stepped := true, joined := [] } else y }
      m.joined.foldl (fun s r => s.serveEntry i line m.media r) s

/-- A request meets the miss entry of its line (R200, R218, R227; 14_memory_protection.md R613). -/
def State.joinMiss (s : State) (i : Nat) (m : Miss) (r : MemReq) : State :=
  let join (s : State) : State :=
    if m.joined.length < 8 then s.modMiss i m.line fun m => { m with joined := insOrd r m.joined, prefetch := false } else s.atInput i r
  if m.noInstall then s.modMiss i m.line fun m => { m with after := insOrd r m.after }
  else match m.filled with
    | none => join s
    | some x =>
      if !m.checking then s.serveEntry i m.line m.media r
      else if r.write.isNone && m.joined.all (·.write.isNone) then s.finishRead r x (if m.media then 2 else 1)
      else join s

/-- A slice looks a request up (R199 to R218). A write miss that allocates and finds no entry waits at the input. -/
def State.lookup (s : State) (i : Nat) (r : MemReq) : State :=
  let line := r.line
  let c := s.slice i
  if c.inWait.any fun x => x.line = line && decide (x.ord < r.ord) then s.atInput i r
  else match c.lookup line with
    | some (key, w) =>
      let s := s.countHit i r
      let r := { r with seen := true }
      match r.write with
      | none => s.finishRead r (w.data, w.poison) 0
      | some _ => s.hitWrite i key w r false
    | none => match c.victims.find? fun v => v.line = line with
      | some v =>
        match r.write with
        | none => (s.countHit i r).finishRead { r with seen := true } (v.data, v.poison) 0
        | some _ => s.modSlice i fun c =>
            { c with victims := c.victims.map fun v => if v.line = line then { v with waits := insOrd r v.waits } else v }
      | none => match c.miss.find? fun m => m.line = line with
        | some m => s.joinMiss i m { r with seen := true }
        | none =>
          let s := if r.seen then s else s.modSlice i fun c => { c with misses := wrapInc 40 c.misses }
          let again := r.seen
          let r := { r with seen := true }
          let room := decide (c.miss.length < 64)
          let alloc := decide (s.attr line ≤ 1) && c.cstate = .enabled
          match r.write with
          | none =>
            let s := if s.ncch.nextline && !again && line % 64 ≠ 63 then { s with ncch.nextq := s.ncch.nextq ++ [line + 1] } else s
            if room then s.newMiss i { Miss.reset with line := line, joined := [r] } else s.atInput i r
          | some (d, _) =>
            if !alloc then s.pass r
            else if !s.roomFor line then s.waitRoom r
            else if !room then s.atInput i r
            else if r.full then
              let m := { Miss.reset with line := line, joined := [r], filled := some (d, r.poison) }
              (s.newMiss i m).settleOpen i m (d, r.poison)
            else s.newMiss i { Miss.reset with line := line, joined := [r] }

/-- A request that its region accepts is presented to its slice, or passes it by. -/
def State.access (s : State) (r : MemReq) : State :=
  let line := r.line
  if r.write.isNone && line ∈ s.media.refused then s.finishRead r (0, true) 1
  else match s.behind r with
    | some s => s
    | none =>
      if s.ncch.bypass.any fun m => m.line = line then s.pass r
      else match s.sliceOf line with
        | none => s.pass r
        | some i => if (s.slice i).passed then s.pass r else s.lookup i r

/-! ### Fills -/

/-- A miss entry whose fill is there and checked is settled; one that a capture invalidation met completes the requests before it and is
not installed, and those after it ask anew (R203, R218, R227). -/
def State.settleMiss (s : State) (i line : Nat) : State :=
  match (s.slice i).miss.find? fun m => m.line = line with
  | none => s
  | some m =>
    match m.filled, m.checking with
    | some x, false =>
      if m.noInstall then
        let s := s.modSlice i fun c => { c with miss := c.miss.filter fun y => y.line ≠ line }
        let s := m.joined.foldl (fun s r => s.direct m.media r) s
        m.after.foldl State.access s
      else s.settleOpen i m x
    | _, _ => s

/-- Every install that waits in a slice is tried again. -/
def State.retryInstalls (s : State) (i : Nat) : State :=
  ((s.slice i).miss.map (·.line)).foldl (fun s l => s.settleMiss i l) s

/-- The requests at a slice's input are presented again, in order (R202). -/
def State.retryInput (s : State) (i : Nat) : State :=
  let l := (s.slice i).inWait
  l.foldl State.access (s.modSlice i fun c => { c with inWait := [] })

/-- A fill from media is written into the DRAM tier (R26, R27; 14_memory_protection.md R598, R613). -/
def State.fillTier (s : State) (line : Nat) (x : BitVec 512 × Bool) : State :=
  if hankSide line then
    if s.tier.hank.any fun e => e.1 = line then s else { s with tier.hank := s.tier.hank ++ [(line, x.2)] }
  else if s.tierHas line || mapSt (s.mapEntry false (line / 64)) ≠ 1 || !s.pageFree line || s.minorFull line then s
  else
    let s := s.countLine line
    { s with tier.lines := tins line { data := x.1, poison := x.2, dirty := false, held := false, gen := 0 } s.tier.lines }

/-- The data sent on a fill before its check completes: reads ahead of any write; the rest wait for the check (R609, R611, R613). -/
def splitReads (l : List MemReq) : List MemReq × List MemReq := (l.takeWhile (·.write.isNone), l.dropWhile (·.write.isNone))

/-! ### Prefetch -/

/-- A line that a prefetch fetches: host data that is backed, not refused, in a region that allocates, not already in its slice
(R221). -/
def State.wanted (s : State) (line : Nat) : Option Nat :=
  if hankSide line || !s.backed line || s.lockedLine line || s.attr line = 3 || decide (line ∈ s.media.refused) then none
  else match s.sliceOf line with
    | none => none
    | some i =>
      let c := s.slice i
      if c.cstate ≠ .enabled || (c.lookup line).isSome || c.victims.any (fun v => v.line = line) || c.miss.any (fun m => m.line = line)
      then none else some i

/-- A prefetch takes a miss entry: at most 48 of a slice, and behind every demand miss of it (R222); `none` where it must wait. -/
def State.prefetch (s : State) (line : Nat) : Option State :=
  match s.wanted line with
  | none => some s
  | some i =>
    let c := s.slice i
    if decide (48 ≤ c.miss.length) || !c.inWait.isEmpty then none
    else some (s.newMiss i { Miss.reset with line := line, prefetch := true })

/-- Queued next-line prefetches and hints go on as far as miss entries allow (R219 to R224). -/
def State.pump (s : State) : Nat → State
  | 0 => s
  | n + 1 =>
    match s.ncch.nextq with
    | l :: q =>
      match { s with ncch.nextq := q }.prefetch l with
      | some s => s.pump n
      | none => s
    | [] =>
      match s.ncch.hints with
      | [] => s
      | h :: q =>
        if h.left = 0 then State.pump { s with ncch.hints := q } n
        else match s.prefetch h.line with
          | some s => State.pump { s with ncch.hints := { line := h.line + 1, left := h.left - 1 } :: q } n
          | none => s

/-- Lines of all prefetches that can be queued, and more. -/
def pumpFuel : Nat := 131072

/-! ### Drains -/

/-- Every line of a slice that `pick` chooses and that is Dirty is written back and made Clean (R213, R229). -/
def State.cleanWays (s : State) (i : Nat) (pick : Way → Bool) : State :=
  let ws := (s.slice i).ways.filter fun w => w.2.st = .modified && pick w.2
  let s := ws.foldl (fun s w => s.storeBack w.2.line w.2.data w.2.poison) s
  s.modSlice i fun c => { c with ways := c.ways.map fun (w : Nat × Way) =>
    if w.2.st = .modified && pick w.2 then (w.1, { w.2 with st := .clean }) else w }

/-- The Dirty copies of a fine unit's lines written back before host destage moves them (R212). -/
def State.cleanUnit (s : State) (unit : Nat) : State :=
  (s.ncch.slices.map (·.1)).foldl (fun s i => s.cleanWays i fun w => w.line / 64 = unit) s

/-- Lines invalidated; a locked-out way stays locked out. -/
def Slice.dropWays (c : Slice) (pick : Way → Bool) : Slice :=
  { c with ways := c.ways.filterMap fun (w : Nat × Way) =>
      if w.2.st ≠ .invalid && pick w.2 then (if w.2.locked then some (w.1, { Way.reset with locked := true }) else none) else some w }

/-- A victim's DRAM-tier write is done: the entry frees, writes that waited for it are handled as misses, installs go on (R215, R217,
R218). -/
def State.victimDone (s : State) (i : Nat) (v : Vict) : State :=
  let s := s.storeBack v.line v.data v.poison
  let s := s.modSlice i fun c => { c with victims := c.victims.filter fun x => x.line ≠ v.line }
  (v.waits.foldl State.access s).retryInstalls i

/-- A slice's victim buffer empties. -/
def State.emptyVictims (s : State) (i : Nat) : State := (s.slice i).victims.foldl (fun s v => s.victimDone i v) s

/-- A victim-buffer copy of a line is written back first, and the writes that wait for it go on (R217, R225). -/
def State.settleVictim (s : State) (line : Nat) : State :=
  s.ncch.slices.foldl (fun s e =>
    match (s.slice e.1).victims.find? fun v => v.line = line with | some v => s.victimDone e.1 v | none => s) s

/-- A write that waited for its page's re-encryption and that the page was re-encrypted for: performed in the copy that the slice holds, or
in the DRAM tier (R207, R616). -/
def State.performFirst (s : State) (r : MemReq) : State :=
  let s := s.settleVictim r.line
  match (s.sliceOf r.line).bind fun i => ((s.slice i).lookup r.line).map fun w => (i, w) with
  | some (i, key, w) => s.hitWrite i key w r true
  | none => (s.tierWrite r (s.lineData r.line) true).1

/-- Writes held under L = 0 complete once their lines are no longer dirty (R419). -/
def State.zeroDone (s : State) : State :=
  let d := s.dirtyLines
  let z := s.cxlp.zeroWait.filter fun w => w.1 ∉ d
  if z.isEmpty then s
  else
    let s := { s with cxlp.zeroWait := s.cxlp.zeroWait.filter fun w => w.1 ∈ d, cxlp.writes := s.cxlp.writes - z.length }
    z.foldl (fun s w => s.send (.writeDone w.2)) s

end Sys2Proof.Machine
end

