-- ==== Sys2Proof/Machine/Host.lean ====
section
/-!
DEFINITION. The commands of the host port and the near cache (04_host_port.md, 05_near_cache.md), but for the answers to
back-invalidations, which may commit records (Machine/Strands.lean).
-/
namespace Sys2Proof.Machine

/-! ### What a read finds on its way -/

/-- A hard fault becomes a soft-fuse entry, stored in the Parameter Store while it has room (R238, R241). -/
def State.hardFault (s : State) (m row col : Nat) : State :=
  let stored := decide ((m, row, col) ∈ s.sram.soft)
  let s := { s with sram.fault := packW [(12, m), (12, row), (10, col), (1, b2n stored)] }.cause .sram 3
  if stored then s
  else if s.sram.soft.length < 255 then { s with sram.soft := s.sram.soft ++ [(m, row, col)] }.writeRecord 7
  else s.cause .sram 4

/-- A way with a hard fault that no spare covers is locked out, after its line is written back or invalidated: at most 64 of a slice,
past which the slice is retired at the next start (R243). -/
def State.lockWay (s : State) (i key : Nat) : State :=
  let c := s.slice i
  let w := tget Way.reset c.ways key
  if w.locked then s
  else if 64 ≤ c.lockedWays then { s with sram.retire := withNew s.sram.retire i }
  else
    let s := if w.st = .modified then s.storeBack w.line w.data w.poison else s
    (s.modSlice i fun c => { c with ways := tput Way.reset c.ways key { Way.reset with locked := true } }).cause (.ncch i) 4

/-- Both tag copies of a way are lost (R236): a Clean line is lost without harm; a Dirty line makes the controller signal viral and
the slice drain to BYPASS. -/
def State.tagLost (s : State) (i key : Nat) : State :=
  let w := tget Way.reset (s.slice i).ways key
  let s := s.modSlice i fun c => { c with ways := tput Way.reset c.ways key { Way.reset with locked := w.locked } }
  if w.st = .modified then
    let s := (s.cause (.ncch i) 3 5).goViral
    s.modSlice i fun c => if c.cstate = .bypass then c else { c with cstate := .draining, viralDrain := true }
  else s.error (.ncch i) 0x43 key (2 ^ 3)

/-- The data of a way is uncorrectable (R235): a Clean line is invalidated, a Dirty line is poisoned and written back. -/
def State.dataLost (s : State) (i key : Nat) : State :=
  let w := tget Way.reset (s.slice i).ways key
  match w.st with
  | .invalid => s
  | .modified =>
    let s := s.storeBack w.line w.data true
    (s.modSlice i fun c => { c with ways := tput Way.reset c.ways key { w with st := .clean, poison := true } }).error (.ncch i) 0x41 key (2 ^ 3)
  | _ =>
    (s.modSlice i fun c => { c with ways := tput Way.reset c.ways key { Way.reset with locked := w.locked } }).error (.ncch i) 0x40 key (2 ^ 3)

/-- A finding of SRAM, DRAM or the counter tree on the way to a line. -/
def State.found (s : State) (line : Nat) (f : Finding) : State :=
  let dramUp (m : Nat) : Bool := (s.dram m).cstate = .active
  match f with
  | .tagLost way => (s.sliceOf line).elim s fun i => s.tagLost i (16 * lineSet line + way % 16)
  | .dataLost way => (s.sliceOf line).elim s fun i => s.dataLost i (16 * lineSet line + way % 16)
  | .corrected _ => (s.sliceOf line).elim s fun i => (s.modSlice i fun c => { c with corr := c.corr + 1 }).cause (.ncch i) 2
  | .tagRepaired way => (s.sliceOf line).elim s fun i => s.error (.ncch i) 0x42 (16 * lineSet line + way % 16) (2 ^ 3)
  | .sram lost => s.cause .sram (if lost then 2 else 1)
  | .hardFault m row col way =>
    let s := s.hardFault m row col
    match way, s.sliceOf line with
    | some w, some i =>
      let s := (s.modSlice i fun c => { c with corr := c.corr + 1 }).cause (.ncch i) 2
      s.lockWay i (16 * lineSet line + w % 16)
    | _, _ => s.cause .sram 1
  | .dram errs => s.dramErrors (s.subOf line).1 (s.placeOf line).rank line errs
  | .dramOther m place errs => s.dramErrors m place line errs
  | .activate m bank row => if dramUp m then s.activate m bank row else s
  | .eye m lane up taps => if dramUp m then s.eyeSample m lane up taps else s
  | .nodeRepaired level node => s.nodeRepaired level node
  | .nodeLost level node => s.nodeLost level node
  | .macBad => s
  | .evicted =>
    let t := tget TLine.reset s.tier.lines line
    if hankSide line then { s with tier.hank := s.tier.hank.filter fun e => e.1 ≠ line }
    else if t.dirty || t.held then s else { s with tier.lines := tdel line s.tier.lines }

/-- Every finding of a command. -/
def State.findings (s : State) (line : Nat) (l : List Finding) : State := l.foldl (fun s f => s.found line f) s

/-! ### Admission -/

/-- The answer that a request gets at once (R143, R171, R51, R337, R593); `none` for one that is to be served. In SAFE a write to a hank
view, an unbacked DPA or a LOCKED range gets that refusal and no refused-line entry (DESIGN CHOICE, log 93). -/
def State.screen (s : State) (r : MemReq) : Option State :=
  let line := r.line
  match r.write with
  | none =>
    if !s.backed line then some (s.sendRead r (0, true) 1 (some 0x41))
    else if s.lockedLine line then some (s.sendRead r (0, true) 1)
    else none
  | some _ =>
    if hankSide line then some (s.refuseWrite r 0x40)
    else if !s.backed line then some (s.refuseWrite r 0x41)
    else if s.lockedLine line then some (s.refuseLocked r)
    else if s.sysc.mode = .safe || s.ftlm.exhausted then some (s.refuseSpace r)
    else none

/-- A request served in MEMORY, STREAM or SAFE. -/
def State.serve (s : State) (found : List Finding) (r : MemReq) : State :=
  let r := { r with blind := r.blind || decide (Finding.sram true ∈ found) }
  match s.screen r, r.write with
  | some t, _ => t
  | none, none =>
    match s.filterRead r with
    | (s, true) => ((s.findings r.line found).access r).pump pumpFuel
    | (s, false) => s
  | none, some _ => (s.findings r.line found).access r

/-- A CXL.mem request arrives (R49, R874; 02_modes_and_starts.md R73, R74). None arrives after admission has stopped, and nothing answers
one in DORMANT or QUENCH (log 10); no credit lets a write arrive while 512 are outstanding (R873). -/
def State.admitMem (s : State) (found : List Finding) (r : MemReq) : State :=
  let r := { r with since := s.now, ord := s.cxlp.arrivals }
  let t : State := { s.restCancel with cxlp.lastReq := s.now, cxlp.arrivals := s.cxlp.arrivals + 1 }
  let t := if r.write.isNone then { t with cxlp.reads := t.cxlp.reads + 1 } else { t with cxlp.writes := t.cxlp.writes + 1 }
  if r.write.isSome && decide (512 ≤ s.cxlp.writes) then s
  else match s.sysc.mode with
  | .dormant | .quench => s
  | .starting | .service => if r.write.isNone then t.sendRead r (0, true) 1 (some 0x44) else t.refuseWrite r 0x44
  | .rest => { t with rest.held := t.rest.held ++ [r], rest.waking := true }
  | _ => if s.cxlp.stopped then s else t.serve found r

/-- Requests that arrived in REST are served (02_modes_and_starts.md R73, R75). -/
def State.serveHeld (s : State) : State :=
  let l := s.rest.held
  l.foldl (fun s r => s.serve [] r) { s with rest.held := [] }

/-- CXL_MEM_READ (R146). -/
def execCxlMemRead (dpa tag : Nat) (cacheable : Bool) (found : List Finding) (s : State) : Host.Outcome State Fault Refusal :=
  finish <| s.admitMem found
    { MemReq.reset with dpa := dpa % 2 ^ 48, tag := tag, write := none, poison := false, cacheable := cacheable }

/-- CXL_MEM_WRITE (R29, R146). -/
def execCxlMemWrite (dpa tag : Nat) (data : BitVec 512) (poison : Bool) (found : List Finding) (s : State) :
    Host.Outcome State Fault Refusal :=
  finish <| s.admitMem found
    { MemReq.reset with dpa := dpa % 2 ^ 48, tag := tag, write := some (data, BitVec.allOnes 64), poison := poison, cacheable := false }

/-- MEMWRPTL (R155): with every byte enabled it writes the whole line. -/
def execMemwrptl (dpa tag : Nat) (data : BitVec 512) (enables : BitVec 64) (poison : Bool) (found : List Finding) (s : State) :
    Host.Outcome State Fault Refusal :=
  finish <| s.admitMem found
    { MemReq.reset with dpa := dpa % 2 ^ 48, tag := tag, write := some (data, enables), poison := poison, cacheable := false }

/-! ### Fills -/

/-- A fill whose MAC fails before any data has been sent (R614, R615): the DRAM copy of a Clean host line is dropped and media serve it;
any other line is poisoned, and so is one whose merge waits. -/
def State.badMac (s : State) (line : Nat) (merge : Bool) : State :=
  let t := tget TLine.reset s.tier.lines line
  let fromTier := s.tierHas line
  let addr := if fromTier then tierAddr line else mapPua (s.mapEntry (hankSide line) (if hankSide line then lineUnit line else line / 64)) / 256
  let s := s.error .mprt (if merge then 0x44 else if fromTier then 0x40 else 0x41) addr
  if !merge && fromTier && !hankSide line && !t.dirty && !t.held then { s with tier.lines := tdel line s.tier.lines }
  else
    -- a hank line enters the DRAM tier with its poison
    (if hankSide line && !fromTier then { s with tier.hank := s.tier.hank ++ [(line, false)] } else s).poisonTier line |>.poisonNear line

/-- Every fill that needs more reads asks for them; a ready one supplies its miss entry (R203, R609 to R615). -/
def State.fillEntry (s : State) (m : Miss) (found : List Finding) : State × Option Miss :=
  let line := m.line
  let s := s.findings line found
  let merge := m.joined.head?.any (·.write.isSome)
  let bad := decide (Finding.macBad ∈ found) && (merge || s.verifyFirst line || m.joined.isEmpty)
  if !s.fillReady line then (s.startFill line, none)
  else
    let s := if bad then s.badMac line merge else s
    if !s.fillReady line then (s.startFill line, none)
    else
      let x := s.lineData line
      let m := { m with rewritten := false }
      let checked := s.tierHas line || !(s.mediaPuas line).isEmpty
      let spec := checked && !s.verifyFirst line && !merge && !m.joined.isEmpty
      let s := if spec then s else s.fillTier line x
      let s := s.fillEnds line
      if spec then
        let (now, rest) := splitReads m.joined
        let s := now.foldl (fun s r => s.finishRead r x (if m.media then 2 else 1)) s
        (s, some { m with joined := rest, filled := some x, checking := true })
      else (s, some { m with filled := some x, checking := false })

/-- A request that passed the slices and has its fill is served; what a capture invalidation met is asked for again (R227). -/
def State.settlePass (s : State) (line : Nat) : State :=
  match s.ncch.bypass.find? fun m => m.line = line with
  | none => s
  | some m =>
    if m.filled.isNone || m.checking then s
    else
      let s := { s with ncch.bypass := s.ncch.bypass.filter fun x => x.line ≠ line }
      let s := m.joined.foldl (fun s r => s.direct m.media r) s
      m.after.foldl State.access s

/-- LINE_FILL_COMPLETE (R203). -/
def execLineFillComplete (slice line : Nat) (found : List Finding) (s : State) : Host.Outcome State Fault Refusal :=
  finish <| match (s.slice slice).miss.find? fun m => m.line = line && m.filled.isNone with
  | some m =>
    match s.fillEntry m found with
    | (s, some m) => (((s.modMiss slice line fun _ => m).settleMiss slice line).retryInstalls slice).pump pumpFuel
    | (s, none) => s
  | none =>
    match s.ncch.bypass.find? fun m => m.line = line && m.filled.isNone with
    | none => s
    | some m =>
      match s.fillEntry m found with
      | (s, some m) => State.settlePass { s with ncch.bypass := s.ncch.bypass.map fun x => if x.line = line then m else x } line
      | (s, none) => s

/-- The check of a line sent speculatively ends: it is installed, or a late alarm poisons it first (R612, R613). -/
def State.checkEnds (s : State) (m : Miss) (ok : Bool) : State × Miss :=
  let x := m.filled.getD (0, false)
  if ok then (if m.media && !m.noInstall then s.fillTier m.line x else s, { m with checking := false })
  else
    let s := if m.media && hankSide m.line && !s.tierHas m.line then { s with tier.hank := s.tier.hank ++ [(m.line, false)] } else s
    (s.lateAlarm m.line m.media m.rewritten, { m with checking := false, filled := some (x.1, x.2 || !m.rewritten) })

/-- TAG_CHECK_COMPLETE (R613). -/
def execTagCheckComplete (line : Nat) (ok : Bool) (s : State) : Host.Outcome State Fault Refusal :=
  finish <| match s.ncch.slices.find? fun e => e.2.miss.any fun m => m.line = line && m.checking with
  | some (i, c) =>
    match c.miss.find? fun m => m.line = line with
    | some m =>
      let (s, m) := s.checkEnds m ok
      (s.modMiss i line fun _ => m).settleMiss i line
    | none => s
  | none =>
    match s.ncch.bypass.find? fun m => m.line = line && m.checking with
    | none => s
    | some m =>
      let (s, m) := s.checkEnds m ok
      State.settlePass { s with ncch.bypass := s.ncch.bypass.map fun x => if x.line = line then m else x } line

/-- MISS_ENTRY_FREED (R202). -/
def execMissEntryFreed (slice : Nat) (s : State) : Host.Outcome State Fault Refusal :=
  finish <| if (s.slice slice).inWait.isEmpty then s else ((s.retryInput slice).retryInstalls slice).pump pumpFuel

/-- VICTIM_WRITE_COMPLETE (R215). -/
def execVictimWriteComplete (slice line : Nat) (s : State) : Host.Outcome State Fault Refusal :=
  finish <| match (s.slice slice).victims.find? fun v => v.line = line with
  | some v => if s.pageFree line then s.victimDone slice v else s
  | none => s

/-- PAGE_REENCRYPT_COMPLETE (14_memory_protection.md R616): the write that overflowed is encrypted under the new values; the others
count on from them. -/
def execPageReencryptComplete (page : Nat) (s : State) : Host.Outcome State Fault Refusal :=
  let c := s.cline page
  finish <| if !c.reenc then s
  else
    let s := s.putCline page { c with reenc := false, waits := [] }
    match c.waits with
    | [] => s
    | r :: rs =>
      rs.foldl State.access (s.performFirst r)

/-- DIRTY_WAIT_RELEASE (R151): the oldest waiting write proceeds where there is room. -/
def execDirtyWaitRelease (s : State) : Host.Outcome State Fault Refusal :=
  finish <| match s.cxlp.dirtyWait with
  | [] => s
  | r :: rs => if s.roomFor r.line then State.access { s with cxlp.dirtyWait := rs } r else s

/-! ### Global Persistent Flush and the link -/

/-- GPF_PHASE1 (R152): admission stops, then the answer. -/
def execGpfPhase1 (s : State) : Host.Outcome State Fault Refusal :=
  finish <| if !s.cxlp.up then s else { s with cxlp.stopped := true, cxlp.gpf := 1 }.send (.gpfDone 1)

/-- GPF_PHASE2 (R152): the answer, after every write received is in the persistence domain; a write that waits for room delays it. -/
def execGpfPhase2 (s : State) : Host.Outcome State Fault Refusal :=
  finish <| if !s.cxlp.up then s else State.gpfCheck { s with cxlp.gpfWait := true }

/-- The width that the lanes that passed training give: the widest of 16, 8 and 4 (R137, R180). -/
def linkWidth (lanes : Nat) : Nat := ([16, 8, 4].find? fun w => decide (w ≤ lanes)).getD 0

/-- CXL_LINK_UP (R137, R180, R191, R868): the lanes and rate that passed training. At 64 GT/s only 256B flits are supported. -/
def execCxlLinkUp (width rate : Nat) (flit256 lopt : Bool) (s : State) : Host.Outcome State Fault Refusal :=
  let w := linkWidth (min width s.fuse.part.cxlWidth)
  finish <| if s.sysc.perst || !(s.hdr .cxlp).ready || w = 0 then s
  else
    let changed := s.cxlp.up && (s.cxlp.width ≠ w || s.cxlp.rate ≠ rate % 4)
    let had := if s.cxlp.capWidth = 0 then s.fuse.part.cxlWidth else s.cxlp.capWidth
    let flit := flit256 || rate % 4 = 3
    let s := { s with cxlp.up := true, cxlp.training := false, cxlp.width := w, cxlp.rate := rate % 4, cxlp.flit256 := flit,
                      cxlp.lopt := flit && lopt, cxlp.capWidth := w, cxlp.capRate := rate % 4 }
    let s := s.hallSync
    -- lanes left out by training are lost units (R180; 01_architecture.md R45)
    let s := if w < had then s.retirement .cxlp else s
    if changed then s.cause .cxlp 1 else s

/-- CXL_LINK_DOWN (R183): the mode stays, and the link trains again. -/
def execCxlLinkDown (s : State) : Host.Outcome State Fault Refusal :=
  finish <| if !s.cxlp.up then s
  else ({ s with cxlp.up := false, cxlp.width := 0, cxlp.rate := 0, cxlp.flit256 := false, cxlp.lopt := false,
                 cxlp.gpfWait := false, cxlp.training := !s.sysc.perst }.cause .cxlp 2)

/-! ### Regions, prefetch, replacement, disabling -/

/-- The live slice through which a global field is reported as written: the lowest-numbered (log 18). -/
def State.firstSlice (s : State) : Nat := s.liveSlices.headD 0

/-- Some slice is ready for register accesses. -/
def State.ncchReady (s : State) : Bool := s.liveSlices.any fun i => (s.hdr (.ncch i)).ready

/-- The regions whose attribute a new RGNATTR changes. -/
def changedRegions (old new : Word) : List Nat :=
  ((List.range 16).filter fun r => fld old (2 * r) 2 ≠ fld new (2 * r) 2) ++ (if fld old 32 2 ≠ fld new 32 2 then [16] else [])

/-- RGNATTR_WRITE (R208, R213, R214). -/
def State.regRgnattrWrite (s : State) (v : Word) : State :=
  if !s.ncchReady || s.fuse.part ≠ .p4860 then s
  else if !s.ncch.busy.isEmpty then s.error (.ncch s.firstSlice) 0x44 0
  else
    let w := keep v 0x3FFFFFFFF
    { s with ncch.rgnattr := w, ncch.busy := changedRegions s.ncch.rgnattr w }

/-- RGNATTR_CHANGE_COMPLETE (R213, R876): of the addresses concerned, Dirty lines written back unless they are write-back, lines
invalidated where they are uncached; each live slice reports it. -/
def execRgnattrChangeComplete (region : Nat) (s : State) : Host.Outcome State Fault Refusal :=
  finish <| if region ∉ s.ncch.busy then s
  else
    let mine (s : State) (w : Way) : Bool := w.region = region || s.regionOf w.line = region
    let s := s.liveSlices.foldl (fun s i =>
      let s := s.cleanWays i fun w => mine s w && s.attr w.line ≠ 0
      let s := s.modSlice i fun c => c.dropWays fun w => mine s w && s.attr w.line = 3
      let tag (w : Nat × Way) : Nat × Way :=
        if w.2.st ≠ .invalid && mine s w.2 then (w.1, { w.2 with region := s.regionOf w.2.line }) else w
      s.modSlice i fun c => { c with ways := c.ways.map tag }) s
    let s := { s with ncch.busy := without s.ncch.busy region }
    s.liveSlices.foldl (fun s i => s.cause (.ncch i) 6) s

/-- PREFETCH_HINT (R219, R220): LEN + 1 units of 4 KiB. -/
def State.regPrefetchHint (s : State) (v : Word) : State :=
  if !s.ncchReady then s
  else if 64 ≤ s.ncch.hints.length then { s with ncch.drop := satInc 20 s.ncch.drop }.cause (.ncch s.firstSlice) 5
  else State.pump { s with ncch.hints := s.ncch.hints ++ [{ line := 64 * fld v 0 36, left := 64 * (fld v 36 4 + 1) }] } pumpFuel

/-- LFSR_WRITE (R205). -/
def State.regLfsrWrite (s : State) (slice : Nat) (v : Word) : State :=
  let n := fld v 0 16
  if slice ∉ s.liveSlices || !(s.hdr (.ncch slice)).ready then s
  else s.modSlice slice fun c => { c with lfsr := if n = 0 then lfsrSeed slice else n }

/-- NCCH_DISABLE (R229). -/
def State.regNcchDisable (s : State) : State :=
  if !s.ncchReady then s
  else { s with ncch.disable := true
                ncch.slices := s.ncch.slices.map fun (e : Nat × Slice) =>
                  (e.1, if e.2.live && e.2.cstate = .enabled then { e.2 with cstate := .draining } else e.2) }

/-- NCCH_ENABLE (R232). -/
def State.regNcchEnable (s : State) : State :=
  if !s.ncchReady || s.ncch.slices.any (fun e => e.2.cstate = .draining) then s
  else { s with ncch.disable := false
                ncch.slices := s.ncch.slices.map fun (e : Nat × Slice) =>
                  (e.1, if e.2.cstate = .disabled then { (e.2.dropWays fun _ => true) with cstate := .enabled } else e.2) }

/-- The miss entries of a slice go on outside it, and so do the requests at its input. -/
def State.evictMisses (s : State) (i : Nat) : State :=
  let c := s.slice i
  let s := s.modSlice i fun c => { c with miss := [], inWait := [] }
  let ms := (c.miss.filter fun m => !m.joined.isEmpty || !m.after.isEmpty || m.checking).map fun m => { m with prefetch := false }
  let s := { s with ncch.bypass := s.ncch.bypass ++ ms }
  let s := ms.foldl (fun s m => s.settlePass m.line) s
  c.inWait.foldl State.access s

/-- SLICE_DRAINED (R230, R236): no line of the slice is Dirty and its victim buffer is empty; it becomes DISABLED, or BYPASS after the loss
of a Dirty line, with every line invalid. -/
def execSliceDrained (slice : Nat) (s : State) : Host.Outcome State Fault Refusal :=
  finish <| if (s.slice slice).cstate ≠ .draining then s
  else
    let s := (s.cleanWays slice fun _ => true).emptyVictims slice
    let viral := (s.slice slice).viralDrain
    let s := s.modSlice slice fun c => { (c.dropWays fun _ => true) with cstate := if viral then .bypass else .disabled }
    let s := s.evictMisses slice
    if viral then s else s.cause (.ncch slice) 1

end Sys2Proof.Machine
end

