-- ==== Sys2Proof/Machine/Records.lean ====
section
/-!
DEFINITION. Records in hanks: the write point, length slots, commits, splits, seals, the hank modes, filters and triggers
(12_capture.md R496 to R538, 20_cohort_and_time.md R801, R802).
-/
namespace Sys2Proof.Machine

/-- How a record ends (R497). -/
structure EndFlags where
  split : Bool := false
  trunc : Bool := false
  overflow : Bool := false
  dropped : Bool := false
  full : Bool := false
deriving DecidableEq, Repr

/-- A strand that accepts segments (R488). -/
def Strand.live (x : Strand) : Bool := x.st = .armed || x.st = .running

/-- The write point as a hank word. -/
def Strand.wp (x : Strand) : Nat := x.wpunit * unitWords + x.wpword

/-- The time index line of a coarse unit. -/
def State.idxLine (s : State) (c : Nat) : IdxLine := tget IdxLine.reset s.strd.idx c

/-- One time index line changed. -/
def State.modIdx (s : State) (c : Nat) (f : IdxLine → IdxLine) : State := { s with strd.idx := tmod IdxLine.reset s.strd.idx c f }

/-- A unit of a hank is marked kept (R529). -/
def State.kept (s : State) (x : Strand) (u : Nat) : Bool := (s.idxLine (x.hbase + u)).kept

/-- Units of a hank that are marked kept. -/
def State.keptUnits (s : State) (x : Strand) : List Nat :=
  (s.strd.idx.filter fun e => e.2.kept && decide (x.hbase ≤ e.1) && decide (e.1 < x.hbase + x.hsize)).map fun e => e.1 - x.hbase

/-- Units not marked kept (R525). -/
def State.unkept (s : State) (x : Strand) : Nat := x.hsize - (s.keptUnits x).length

/-- The next unit in ring order that is not kept, at most `n` steps on (R523, R526). -/
def State.nextUnit (s : State) (x : Strand) (u : Nat) : Nat → Option Nat
  | 0 => none
  | n + 1 =>
    let v := (u + 1) % x.hsize
    if x.mode = 2 && s.kept x v then s.nextUnit x v n else some v

/-- The previous unit in ring order that is not kept. -/
def State.prevUnit (s : State) (x : Strand) (u : Nat) : Nat → Option Nat
  | 0 => none
  | n + 1 =>
    let v := (u + x.hsize - 1) % x.hsize
    if s.kept x v then s.prevUnit x v n else some v

/-! ### Back-invalidation and commits -/

/-- The lines of HDM-DB ranges that the host may hold, of those that `hit` names (04_host_port.md R173 to R176). -/
def State.presentLines (s : State) (hit : Nat → Bool) : List Nat :=
  (s.cxlp.filter.flatMap fun e => if e.2.page = 0 then [] else e.2.lines.map fun l => (e.2.page - 1) * 64 + l).filter fun l =>
    hit l && s.dbRange (64 * l)

/-- The lines of both views that hold a word of a commit. -/
def State.commitLines (s : State) (k : Commit) : List Nat :=
  spanLines ((s.strand k.strand).hbase * unitWords + k.start) (fld k.slot 0 18)

/-- The lines whose back-invalidation a commit waits for: those of its record (R172), or, for a unit about to be reused, the unit's
(R506). A commit of slot 0 stands for the latter. -/
def State.commitHit (s : State) (k : Commit) : Nat → Bool :=
  if k.slot = 0 then unitLine ((s.strand k.strand).hbase + k.start / unitWords)
  else
    let ls := s.commitLines k
    fun l => decide (l ∈ ls)

/-- BISnpInv goes out for each line that the host may hold, for a commit; a line whose BISnpInv for a filter eviction is outstanding is
waited for as well (R176). -/
def State.snoop (s : State) (k : Commit) : State :=
  let hit := s.commitHit k
  let waits (b : BiOut) : BiOut := if hit b.line then { b with commits := withNew b.commits k.id } else b
  let s := { s with cxlp.biOut := s.cxlp.biOut.map waits }
  ((s.presentLines hit).filter fun l => !s.snooped l).foldl (fun s l => s.bisnp l (some k.id) none) s

/-- A record that has ended begins its commit (R33, R176). -/
def State.pushCommit (s : State) (k : Commit) : State :=
  let k := { k with id := s.strd.nextCommit }
  State.snoop { s with strd.nextCommit := s.strd.nextCommit + 1, strd.commits := s.strd.commits ++ [k] } k

/-- The entry of a span takes a committed record's slot (R537, R538). -/
def IdxLine.addSlot (l : IdxLine) (k : Nat) (ts : Nat) (slot : Word) : IdxLine :=
  let i := k / 52416
  let es := (l.e ++ List.replicate 4 IdxEnt.reset).take 4
  let x := es.getD i IdxEnt.reset
  let first := x.off.isNone
  { l with e := es.set i { x with
      ts := if first then ts else x.ts, off := if first then some (k % 52416) else x.off, slots := x.slots + 1, valid := true,
      trig := x.trig || wbit slot 18, cont := if first then wbit slot 20 else x.cont } }

/-- A strand enters DONE (R528, R542). -/
def State.enterDone (s : State) (n : Nat) : State := (s.modStrand n fun x => { x with st := .done }).cause .strd 3

/-- A commit is performed (R33, R502, R532, R538): its lines are invalidated, its words counted, its index entry updated. -/
def State.performCommit (s : State) (k : Commit) : State :=
  let s := { s with strd.commits := s.strd.commits.filter fun c => c.id ≠ k.id }
  if k.slot = 0 then s
  else
    let ls := s.commitLines k
    let s := s.invalidate fun l => decide (l ∈ ls)
    let x := s.strand k.strand
    let record := !wbit k.slot 24
    let whole := record && !wbit k.slot 20
    let s := s.modStrand k.strand fun x =>
      { x with words := (x.words + fld k.slot 0 18) % 2 ^ 40, records := if whole then wrapInc 24 x.records else x.records }
    let s := if whole then s.modPipe (k.strand % 4) fun q => { q with records := wrapInc 40 q.records } else s
    let s := if record then s.modIdx (x.hbase + k.start / unitWords) fun l => l.addSlot (k.start % unitWords) k.ts k.slot else s
    if wbit k.slot 18 && x.action && x.mode ≠ 2 && x.st = .running then s.enterDone k.strand else s

/-- The commits of a strand that wait for nothing are performed, in hank order (R502). -/
def State.commitReady (s : State) (n : Nat) : Nat → State
  | 0 => s
  | fuel + 1 =>
    match s.strd.commits.find? fun k => k.strand = n with
    | none => s
    | some k =>
      -- a line that the host has taken since is back-invalidated as well
      let s := s.snoop k
      if s.cxlp.biOut.any fun b => decide (k.id ∈ b.commits) then s else (s.performCommit k).commitReady n fuel

/-- Every commit that can be performed. -/
def State.commitSync (s : State) (n : Nat) : State := s.commitReady n s.strd.commits.length

/-! ### Staging -/

/-- A unit leaves its earlier contents: DISCARDED, its staged pages stale, its index line cleared but for KEPT, its copies in caches
invalidated (R329, R506). -/
def State.dropHankUnit (s : State) (c : Nat) : State :=
  let e := s.mapEntry true c
  let (q, s) := s.takeSeqs 1
  let at_ := ((s.ftlm.redrives.find? fun r => r.1 = c).bind (·.2)).or (if mapSt e = 1 then some (mapPua e) else none)
  let s := s.mapFrames fun f => if f.unit = c && !f.stale then { f with stale := true, gen := q, place := f.place.or at_ } else f
  let s := { s with ftlm.redrives := s.ftlm.redrives.filter fun r => r.1 ≠ c }
  let s := if mapSt e = 1 || mapSt e = 3 || s.inReserve true c then s.setEntry true c (discarded q) else s
  let s := s.modIdx c fun l => { l with e := [] }
  s.invalidate (unitLine c)

/-- A unit holds data: mapped, or staged. -/
def State.unitHolds (s : State) (c : Nat) : Bool :=
  let m := mapSt (s.mapEntry true c)
  m = 1 || m = 3 || s.frames.any (fun f => f.unit = c && !f.stale) || decide (c ∈ s.reserveUnits)

/-- The write point enters a unit (R506, R576): earlier contents are dropped; later commits of the strand wait for the back-invalidations. -/
def State.enterUnit (s : State) (n : Nat) : State :=
  let x := s.strand n
  let c := x.hbase + x.wpunit
  if !s.unitHolds c then s
  else
    let s := s.dropHankUnit c
    let s := if s.qrye.go && s.qrye.strand = n then { s with qrye.entered := withNew s.qrye.entered c } else s
    (s.pushCommit { Commit.reset with strand := n, start := x.wpunit * unitWords }).commitSync n

/-- A word put into the frame of its page in the filling crucible; a page with no frame takes one (R508). -/
def putWord (l : List Frame) (n c page j : Nat) (w : Word) : List Frame :=
  let mine (f : Frame) : Bool := f.strand = n && f.unit = c && f.page = page && !f.stale && !f.sealed
  if l.any mine then l.map fun f => if mine f then { f with words := tput 0 f.words j w } else f
  else l ++ [{ Frame.reset with strand := n, unit := c, page := page, words := tput 0 [] j w }]

/-- A word staged at a hank word of a strand. -/
def State.putStaged (s : State) (n h : Nat) (w : Word) : State :=
  let c := (s.strand n).hbase + h / unitWords
  let k := h % unitWords
  s.modPipe (n % 4) fun q =>
    { q.modCruc q.filling fun l => putWord l n c (k / pageWords) (k % pageWords) w with since := q.since.or (some s.now) }

/-- A word staged at the write point, which moves on. -/
def State.stagePut (s : State) (n : Nat) (w : Word) : State :=
  let s := if (s.strand n).wpword = 0 then s.enterUnit n else s
  let s := s.putStaged n (s.strand n).wp w
  s.modStrand n fun x => { x with wpword := x.wpword + 1, sinceArm := if x.wpunit ∈ x.sinceArm then x.sinceArm else x.wpunit :: x.sinceArm }

/-- The open record of a strand ends with flags: its length slot is written and its commit begins (R497, R502, R503). A record that
was split and whose next link has not begun has no slot to write (log 21). -/
def State.closeRecord (s : State) (n : Nat) (e : EndFlags) : State :=
  let x := s.strand n
  if !x.opened then s
  else
    let bad := e.trunc || e.overflow || e.dropped || e.full
    let y := { x with
      drops := if bad then satInc 16 x.drops else x.drops
      discard := x.discard || e.overflow || e.dropped || e.full
      opened := e.split, resume := e.split, rlen := 0, filterWait := x.filterWait && e.split
      recSplit := e.split, recTrig := if x.resume then x.recTrig else false }
    if x.resume then s.modStrand n fun _ => { y with recHead := [] }
    else
      let start := x.wp - x.rlen
      let slot := packW [(18, x.rlen), (1, b2n x.recTrig), (1, b2n e.split), (1, b2n x.recCont), (1, b2n e.trunc), (1, b2n e.overflow),
        (1, b2n e.dropped), (1, 0), (1, b2n e.full), (1, b2n (s.kspe.agreed = 1))]
      let s := s.putStaged n start slot
      let s := s.modStrand n fun _ => { y with recHead := if e.split then x.recHead else [] }
      let s := if e.split then s.modPipe (n % 4) fun q => { q with splits := satInc 20 q.splits } else s
      let k : Commit := { id := 0, strand := n, start := start, slot := slot, ts := x.recTs }
      (s.pushCommit k).commitSync n

/-- An entry of the filter table matches payload words (R519, R520). -/
def State.filterMatch (s : State) (entry : Nat) (head : List Word) : Bool :=
  (List.range 4).all fun k =>
    let m := tget 0 s.strd.filters (16 * entry + k)
    (head.getD k 0 &&& m) = (tget 0 s.strd.filters (16 * entry + 4 + k) &&& m)

/-- A strand's filter accepts a record by its first payload words (R520). -/
def State.filterAccepts (s : State) (x : Strand) (head : List Word) : Bool :=
  x.filtcnt = 0 || match ((List.range x.filtcnt).map (x.filtfirst + ·)).find? fun e => s.filterMatch e head with
    | some e => wbit (tget 0 s.strd.filters (16 * e + 8)) 0
    | none => false

/-- A rejected record is counted (R522). -/
def State.countFiltered (s : State) (n : Nat) : State :=
  s.modPipe (n % 4) fun q => { q with filtered := satInc 20 q.filtered }

/-- A record rejected late is removed whole: the frames that hold nothing else go, and the write point returns to its slot (R521). -/
def State.removeRecord (s : State) (n : Nat) : State :=
  let x := s.strand n
  let start := x.wp - x.rlen
  let k := start % unitWords
  let c := x.hbase + start / unitWords
  let s := s.modPipe (n % 4) fun q => q.modCruc q.filling fun l =>
    (l.filter fun f => !(f.unit = c && !f.stale && !f.sealed && decide (k ≤ f.page * pageWords))).map fun f =>
      if f.unit = c && !f.stale && !f.sealed && f.page = k / pageWords then { f with words := f.words.filter fun w => decide (w.1 < k % pageWords) } else f
  s.modStrand n fun x =>
    { x with wpunit := start / unitWords, wpword := k, opened := false, rlen := 0, filterWait := false, recHead := [],
             trigWait := x.trigWait || x.recTrig, recTrig := false }

/-- The filter of a record staged before it could be judged (R521, R517): removed, or ended with DROPPED. -/
def State.judge (s : State) (n : Nat) : State :=
  let x := s.strand n
  let s := s.modStrand n fun x => { x with filterWait := false }
  if s.filterAccepts x x.recHead then s
  else
    let s := s.countFiltered n
    if !x.recCont && !x.recSplit && !x.resume then s.removeRecord n |>.modStrand n fun x => { x with discard := true }
    else
      -- counted in FILTERED and not in the strand's counters
      let d := (s.strand n).drops
      (s.closeRecord n { dropped := true }).modStrand n fun x => { x with drops := d }

/-- The open record of a strand ends: a late filter judges it first (R521), and what is left of a record whose trigger record has been
committed by this ends with it (R532; log 21). -/
def State.endRecord (s : State) (n : Nat) (e : EndFlags) : State :=
  let x := s.strand n
  let s := if x.opened && x.filterWait && !e.split then
      (s.judge n).modStrand n fun y => { y with discard := y.discard && !e.trunc }
    else s
  let s := s.closeRecord n e
  if (s.strand n).st = .done && (s.strand n).opened then s.closeRecord n { trunc := true } else s

/-- A pad from the write point to a word of its unit (R497, R499, R510). -/
def State.padTo (s : State) (n e : Nat) : State :=
  let x := s.strand n
  if e ≤ x.wpword then s
  else
    let len := e - x.wpword
    let slot := packW [(18, len), (6, 0), (1, 1)]
    let s := s.stagePut n slot
    let s := s.modStrand n fun x => { x with wpword := e }
    let s := s.modPipe (n % 4) fun q => { q with padwords := (q.padwords + len) % 2 ^ 40 }
    let k : Commit := { id := 0, strand := n, start := x.wp, slot := slot, ts := 0 }
    (s.pushCommit k).commitSync n

/-! ### Hank modes -/

/-- Coarse units of a hank that hold data. -/
def State.hankUnits (s : State) (x : Strand) : List Nat :=
  let own (c : Nat) : Bool := decide (x.hbase ≤ c) && decide (c < x.hbase + x.hsize)
  distinct (((s.ftlm.coarse.filter fun e => own e.1 && (mapSt e.2 = 1 || mapSt e.2 = 3)).map (·.1)) ++
    ((s.frames.filter fun f => own f.unit && !f.stale).map (·.unit)) ++ s.reserveUnits.filter own)

/-- A PRETRIG strand enters DONE: unkept units that hold data are discarded (R528). -/
def State.pretrigDone (s : State) (n : Nat) : State :=
  let x := s.strand n
  let s := ((s.hankUnits x).filter fun c => !s.kept x (c - x.hbase)).foldl State.dropHankUnit s
  s.enterDone n

/-- Units before the trigger unit in ring order that were written since the strand was armed, at most `n` (R526). -/
def State.preUnits (s : State) (x : Strand) (u : Nat) : Nat → List Nat
  | 0 => []
  | n + 1 =>
    match s.prevUnit x u x.hsize with
    | none => []
    | some v => if v ∈ x.sinceArm && v ≠ x.trigUnit then v :: s.preUnits x v n else []

/-- Units from `u` on in ring order as far as `last`, at most `n`. -/
def State.postUnits (s : State) (x : Strand) (u last : Nat) : Nat → List Nat
  | 0 => []
  | n + 1 =>
    if u = last then [u]
    else match s.nextUnit x u x.hsize with
      | none => [u]
      | some v => u :: s.postUnits x v last n

/-- A PRETRIG window is complete: its units are kept; the strand is armed again or DONE (R526 to R529). -/
def State.windowDone (s : State) (n : Nat) : State :=
  let x := s.strand n
  let us := distinct (s.preUnits x x.trigUnit x.pre ++ s.postUnits x x.trigUnit x.wpunit (x.post + 1))
  let s := us.foldl (fun s u => s.modIdx (x.hbase + u) fun l => { l with kept := true }) s
  let s := s.modStrand n fun x => { x with events := satInc 8 x.events, postLeft := 0 }
  if x.rearm && decide (x.pre + 1 + x.post ≤ s.unkept x) then s.modStrand n fun x => { x with st := .armed, sinceArm := [], trigWait := false }
  else s.pretrigDone n

/-- The write point leaves a full unit (R523, R524, R526, R527). -/
def State.leaveUnit (s : State) (n : Nat) : State :=
  let x := s.strand n
  match x.mode with
  | 1 =>
    let s := s.modStrand n fun x => { x with wpunit := x.wpunit + 1, wpword := 0 }
    if x.wpunit + 1 = x.hsize then s.enterDone n else s
  | 2 =>
    let s := if x.st = .running && decide (0 < x.postLeft) then
        if x.postLeft = 1 then s.windowDone n else s.modStrand n fun x => { x with postLeft := x.postLeft - 1 }
      else s
    match s.nextUnit (s.strand n) x.wpunit x.hsize with
    | some v => s.modStrand n fun x => { x with wpunit := v, wpword := 0 }
    | none => s
  | _ => s.modStrand n fun x => { x with wpunit := (x.wpunit + 1) % max 1 x.hsize, wpword := 0 }

/-- The hank or the window ends with the write point's unit (R524, R527). -/
def Strand.lastUnit (x : Strand) : Bool :=
  (x.mode = 1 && x.wpunit + 1 = x.hsize) || (x.mode = 2 && x.st = .running && x.postLeft = 1)

/-- An open record reaches the end of its unit; `last` says that its E segment's last word is the unit's (R500, R524, R527). -/
def State.unitEnd (s : State) (n : Nat) (last : Bool) : State :=
  let x := s.strand n
  let s := if last then s.endRecord n {} else if x.lastUnit then s.endRecord n { full := true } else s.endRecord n { split := true }
  s.leaveUnit n

/-- A pad to the end of the write point's unit, which is left (R499, R524). -/
def State.padUnit (s : State) (n : Nat) : State := (s.padTo n unitWords).leaveUnit n

/-- A FILL hank with fewer than 3 words left in its last unit is padded and DONE (R524). -/
def State.fillTail (s : State) (n : Nat) : State :=
  let x := s.strand n
  if x.mode = 1 && x.live && !x.opened && x.wpunit + 1 = x.hsize && decide (unitWords < x.wpword + 3) then s.padUnit n else s

/-! ### Records -/

/-- A record or CONT link starts at the write point: its slot and its timestamp are staged (R496, R499 to R501, R531). -/
def State.startLink (s : State) (n : Nat) (cont : Bool) (ts : Nat) : State :=
  let s := if unitWords < (s.strand n).wpword + 3 then s.padUnit n else s
  let x := s.strand n
  if !x.live then s
  else
    let s := ((s.stagePut n 0).stagePut n (BitVec.ofNat 40 ts)).stagePut n (BitVec.ofNat 40 (ts / 2 ^ 40))
    s.modStrand n fun x =>
      { x with opened := true, resume := false, rlen := 3, recTs := ts, recCont := cont,
               recTrig := x.recTrig || (!cont && x.trigWait), trigWait := x.trigWait && cont,
               recHead := if cont then x.recHead else [] }

/-- A link that fills its unit with its header alone is split at once. -/
def State.openLink (s : State) (n : Nat) (cont : Bool) (ts : Nat) : State :=
  let s := s.startLink n cont ts
  let x := s.strand n
  if x.opened && x.wpword = unitWords then
    let s := s.unitEnd n false
    if (s.strand n).resume then s.startLink n true ts else s
  else s

/-- The body words of a segment are staged (R471, R500, R521). -/
def State.stageBody (s : State) (n : Nat) (e : Bool) : List Word → State
  | [] => s
  | w :: ws =>
    let s := if (s.strand n).resume then s.openLink n true (s.strand n).recTs else s
    if !(s.strand n).opened then s
    else
      let s := s.stagePut n w
      let s := s.modStrand n fun x => { x with rlen := x.rlen + 1, recHead := if x.recHead.length < 4 then x.recHead ++ [w] else x.recHead }
      let x := s.strand n
      let last := e && ws.isEmpty
      let full := decide (x.wpword = unitWords)
      let s := if x.filterWait && (x.recHead.length = 4 || (full && (last || x.lastUnit))) then s.judge n else s
      let x := s.strand n
      let s := if x.wpword = unitWords && !x.resume then (if x.opened then s.unitEnd n last else s.leaveUnit n) else s
      s.stageBody n e ws

/-- After the last word of an E segment its record ends (R471, R521). -/
def State.stageEnd (s : State) (n : Nat) : State :=
  let s := s.endRecord n {}
  s.modStrand n fun x => { x with discard := false }

/-! ### Seals -/

/-- The strands of a pipe that have words in a page of the filling crucible, or an open record. -/
def State.pipeStrands (s : State) (p : Nat) : List Nat :=
  (s.strd.strands.filter fun e => e.1 % 4 = p && e.2.st ≠ .free).map (·.1)

/-- The write point of a strand stands inside a page that the filling crucible holds. -/
def State.partPage (s : State) (n : Nat) : Bool :=
  let x := s.strand n
  let q := s.pipe (n % 4)
  x.wpword % pageWords ≠ 0 && (q.cruc q.filling).any fun f =>
    f.strand = n && f.unit = x.hbase + x.wpunit && f.page = x.wpword / pageWords && !f.stale && !f.sealed

/-- A partly filled page is padded to its end; a unit that it completes is left (R510, R524, R527). -/
def State.padPage (s : State) (n : Nat) : State :=
  if !s.partPage n then s
  else
    let x := s.strand n
    let s := s.padTo n ((x.wpword / pageWords + 1) * pageWords)
    let x := s.strand n
    if x.wpword = unitWords then (if x.opened && x.lastUnit then s.endRecord n { full := true } else s).leaveUnit n else s

/-- The filling crucible of a pipe seals (R509 to R511): open records are split, pages padded, frames sealed, the producer moves where
it can. An empty crucible has nothing to seal. -/
def State.sealPipe (s : State) (p : Nat) : State :=
  let q := s.pipe p
  if q.sealwait || (q.cruc q.filling).all (·.sealed) then s
  else
    let ns := s.pipeStrands p
    let s := ns.foldl (fun s n => if (s.strand n).opened && !(s.strand n).resume then s.endRecord n { split := true } else s) s
    let s := ns.foldl State.padPage s
    let s := s.modPipe p fun q => { q.modCruc q.filling fun l => l.map fun f => { f with sealed := true } with seals := satInc 20 q.seals, since := none, sealwait := true }
    let s := s.movePipe p
    let s := if (s.pipe p).sealwait then s.cause (.ingp p) 1 else s
    (s.drivePipe p).holdSync p

/-- Every crucible seals (R509). -/
def State.sealCrucibles (s : State) : State := (List.range 4).foldl State.sealPipe s

/-! ### Segments -/

/-- A segment is discarded: its count and its cause (11_ingest_port.md R473, R485). -/
def State.countDiscard (s : State) (key : Nat) : State := { s with kspe.disc := tmod 0 s.kspe.disc key (satInc 20) }.cause .kspe 3

/-- The words of an accepted segment staged, as if the crucible had room (R474, R499, R501, R521). A pad that completes the window leaves
the strand DONE, and the segment finds it so. -/
def State.stageSegment (s : State) (n : Nat) (first last late : Bool) (ts : Nat) (body : List Word) : State :=
  let s := if first && decide (unitWords < (s.strand n).wpword + 3) then s.padUnit n else s
  if first && !(s.strand n).live then s.countDiscard 4
  else
    let s := if first then
        ((s.modStrand n fun x => { x with recSplit := false }).openLink n false ts).modStrand n fun x => { x with filterWait := x.opened && late }
      else s
    let s := s.stageBody n last body
    let s := if last then s.stageEnd n else s
    s.fillTail n

/-- The filling crucible holds all that is staged in it. -/
def State.fits (s : State) (p : Nat) : Bool := let q := s.pipe p; decide ((q.cruc q.filling).length ≤ 256)

/-- A segment for which a pipe has no free staging space (R466, R518). -/
def State.overflow (s : State) (n : Nat) (last : Bool) : State :=
  let s := if (s.strand n).opened then s.endRecord n { overflow := true }
    else s.modStrand n fun x => { x with drops := satInc 16 x.drops }
  let s := s.modStrand n fun x => { x with opened := false, resume := false, discard := !last }
  let s := s.modPipe (n % 4) fun q => { q with overflow := satInc 20 q.overflow }
  let s := s.error (.ingp (n % 4)) 0x40 n (2 ^ 2)
  let s := { s with kspe.disc := tmod 0 s.kspe.disc 6 (satInc 20) }
  s.error .kspe 0x42 n (2 ^ 4)

/-- A segment staged wholly before or wholly after a seal (R509, R511, R513). -/
def State.stage (s : State) (n : Nat) (first last late : Bool) (ts : Nat) (body : List Word) : State :=
  let p := n % 4
  let go (s : State) : State := s.stageSegment n first last late ts body
  let s :=
    if (s.pipe p).sealwait then s.overflow n last
    else if (go s).fits p then go s
    else
      let s := s.sealPipe p
      if (s.pipe p).sealwait then s.overflow n last
      else if (go s).fits p then go s else s.overflow n last
  s.holdSync p

/-- An accepted data segment (R466, R474, R503, R521). -/
def State.takeSegment (s : State) (n : Nat) (first last : Bool) (ts : Nat) (body : List Word) : State :=
  if first then
    let s := s.endRecord n { trunc := true }
    let s := s.modStrand n fun x => { x with discard := false, recTrig := false, trigWait := x.trigWait || x.recTrig, opened := false, resume := false }
    let x := s.strand n
    let early := decide (4 ≤ body.length) || !(s.pipe (n % 4)).droprem || x.filtcnt = 0
    if early && !s.filterAccepts x (body.take 4) then (s.countFiltered n).modStrand n fun x => { x with discard := !last }
    else s.stage n true last (!early) ts body
  else if (s.strand n).discard then (if last then s.modStrand n fun x => { x with discard := false } else s)
  else s.stage n false last false ts body

/-! ### Triggers -/

/-- A control frame goes out on channel 0, under the next control sequence (11_ingest_port.md R469). -/
def State.sendControl (s : State) (o : Out) : State :=
  if s.ilkn.up then { s with kspe.sentSeq := wrapInc 16 s.kspe.sentSeq }.send o else s

/-- OUTLAT, PULSE and HOLDOFF in force, in 250 ps units (20_cohort_and_time.md COHT.TRIGCFG). -/
def Coht.outlat (c : Coht) : Nat := 40 * max 100 (fld c.trigcfg 0 10)
/-- PULSE in force. -/
def Coht.pulse (c : Coht) : Nat := 40 * max 1 (fld c.trigcfg 10 10)
/-- HOLDOFF in force. -/
def Coht.holdoff (c : Coht) : Nat := 4000 * max 1 (fld c.trigcfg 36 3)

/-- A request for a pulse of TRIG_OUT at a rise time (R801, R802). -/
def State.trigOut (s : State) (ts : Nat) : State :=
  let c := s.coht
  let rise := ts % 2 ^ 66 + c.outlat
  let within (at_ : Nat) : Bool := decide (at_ ≤ rise) && decide (rise < at_ + c.pulse + c.holdoff)
  if c.outRise.any within || (c.outEver && within c.outStart) then { s with coht.merged := satInc 12 c.merged }
  else if rise < s.cohort then
    { s with coht.lateOut := satInc 12 c.lateOut, coht.outHigh := true, coht.outStart := s.cohort, coht.outEver := true }
  else { s with coht.outRise := c.outRise.filter (fun t => decide (t ≤ rise)) ++ rise :: c.outRise.filter fun t => decide (rise < t) }

/-- A trigger accepted by a strand (R526, R531, R533, R535). -/
def State.acceptTrigger (s : State) (n src ts : Nat) (inRecord : Bool) : State :=
  let x := s.strand n
  let s := s.modStrand n fun x =>
    { x with st := .running, trigUnit := x.wpunit, postLeft := x.post + 1,
             recTrig := x.recTrig || (inRecord && x.opened), trigWait := x.trigWait || !(inRecord && x.opened) }
  let full := decide (64 ≤ s.strd.trigLog.length)
  let log := (if full then s.strd.trigLog.drop 1 else s.strd.trigLog) ++ [({ strand := n, src := src, ts := ts, unit := x.wpunit } : TrigEnt)]
  let s := { s with strd.trigLog := log, strd.trigLost := s.strd.trigLost || full }
  let s := s.cause .strd 2
  let s := if full then s.cause .strd 4 else s
  let s := if x.trigout && src ≠ 1 then s.trigOut ts else s
  if x.sendtrig && s.kspe.agreed = 2 then s.sendControl (.trigFrame n ts) else s

/-- A trigger of a source reaches a strand that enables it: accepted in ARMED, else ignored and counted (R530, R531). The answer says
whether it was accepted. -/
def State.offer (s : State) (n src ts : Nat) (inRecord : Bool) : State × Bool :=
  let x := s.strand n
  if !x.srcen.testBit src then (s, false)
  else if x.st = .armed then (s.acceptTrigger n src ts inRecord, true)
  else ({ s with strd.trigIgn := satInc 20 s.strd.trigIgn }, false)

/-- The strands whose strand source is a strand (R533). -/
def State.followers (s : State) (n : Nat) : List Nat :=
  (s.strd.strands.filter fun e => e.2.srcstrand = n && e.2.srcen.testBit 3 && e.2.st ≠ .free).map (·.1)

/-- Triggers handed on from strand to strand (R533): each strand accepts at most one. -/
def State.spread (s : State) (ts : Nat) : List Nat → Nat → State
  | _, 0 => s
  | [], _ => s
  | n :: ns, fuel + 1 =>
    match s.offer n 3 ts false with
    | (s, true) => s.spread ts (ns ++ s.followers n) fuel
    | (s, false) => s.spread ts ns fuel

/-- A trigger for a list of strands, in one cycle (R530 to R536). -/
def State.trigger (s : State) (ns : List Nat) (src ts : Nat) (inRecord : Bool) : State :=
  ns.foldl (fun s n =>
    match s.offer n src ts inRecord with
    | (s, true) => s.spread ts (s.followers n) (s.strd.strands.length * s.strd.strands.length + 1)
    | (s, false) => s) s

/-- The timestamp of the present cycle (20_cohort_and_time.md R786, R787). -/
def State.stamp (s : State) : Nat := s.cohort + (if s.coht.running then 0 else 2 ^ 79)

/-! ### Stops -/

/-- A strand stops (R490): its open record is truncated and committed, its scheduled arm and timed triggers are removed, it is IDLE. -/
def State.stopStrand (s : State) (n : Nat) : State :=
  let s := s.endRecord n { trunc := true }
  let s := s.modStrand n fun x => { x with st := .idle, armAt := none, opened := false, resume := false, recTrig := false, trigWait := false, postLeft := 0 }
  { s with strd.timed := s.strd.timed.filter fun t => t.strand ≠ n }

/-- Every strand that is SCHEDULED, ARMED or RUNNING stops (R490, R52, R85, R425 Q4). -/
def State.stopStrands (s : State) : State :=
  ((s.strd.strands.filter fun e => e.2.live || e.2.st = .scheduled).map (·.1)).foldl State.stopStrand s

/-- Commits that still wait are performed: a mode change commits every record in a crucible first (02_modes_and_starts.md R52). -/
def State.commitAll (s : State) : State :=
  s.strd.commits.foldl State.performCommit { s with cxlp.biOut := s.cxlp.biOut.map fun (b : BiOut) => { b with commits := [] } }

end Sys2Proof.Machine
end

