-- ==== Sys2Proof/Machine/Cohort.lean ====
section
/-!
DEFINITION. The time base, its PPS discipline, and the trigger lines (20_cohort_and_time.md).
-/
namespace Sys2Proof.Machine

/-- One second in 250 ps units. -/
def second : Nat := 4000000000

/-- A replay slot is WAITING or RUNNING (13_replay_and_query.md R548). -/
def State.replayActive (s : State) : Bool := s.rple.slots.any fun e => e.2.st = .waiting || e.2.st = .running

/-! ### Sets -/

/-- The STATUS of a TOD frame (11_ingest_port.md R481). -/
def State.todStatus (s : State) (seq result : Nat) : State := s.sendControl (.status 2 seq result)

/-- A register set is refused (R790, R791, R793). -/
def State.refuseRegister (s : State) : State :=
  State.error { s with coht.setGo := false, coht.setRefused := true } .coht 0x40 0

/-- The STATUS that waits for a pending TOD set is sent. -/
def State.todAnswer (s : State) (result : Nat) : State :=
  match s.kspe.todWait with
  | some a => State.todStatus { s with kspe.todWait := none } a.seq result
  | none => s

/-- The pending set is refused (R790). -/
def State.refusePending (s : State) : State :=
  match s.coht.setWait with
  | none => s
  | some w =>
    let s := { s with coht.setWait := none }
    match w.frame with
    | none => s.refuseRegister
    | some _ => State.todAnswer { s with coht.setRefused := true } 2

/-- A pending set is replaced by a later one (R793). -/
def State.replacePending (s : State) (register : Bool) : State :=
  match s.coht.setWait with
  | none => s
  | some w =>
    let s := { s with coht.setWait := none }
    match w.frame with
    | none => if register then s else s.refuseRegister
    | some _ => s.todAnswer 2

/-- The time is loaded (R786, R789, R792). -/
def State.loadTime (s : State) (time : Nat) : State :=
  State.cause { s with coht.phase := time % 2 ^ 66 * 2 ^ 32, coht.running := true, coht.setRefused := false } .coht 3

/-- A set is submitted: loaded at once, left to wait for an edge, or refused (R789 to R791, R793). The answer is RESULT of a STATUS,
none while it waits. -/
def State.submitSet (s : State) (time : Nat) (atPps : Bool) (frame : Option Nat) : State × Option Nat :=
  if s.replayActive || decide (2 ^ 65 ≤ time) || (atPps && !wbit s.coht.disc 0) then
    (if frame.isNone then s.refuseRegister else { s with coht.setRefused := true }, some 2)
  else
    let replaced := frame.isSome && s.coht.setWait.any fun w => w.frame.isNone
    let s := s.replacePending frame.isNone
    if atPps then ({ s with coht.setWait := some { time := time, frame := frame, at_ := s.now } }, none)
    else
      -- the register set that this one replaced stays shown as refused
      let s : State := { s.loadTime time with coht.setRefused := replaced }
      (if frame.isNone then { s with coht.setGo := false } else s, some 0)

/-- TIME_SET (R789): the value of SETLO and SETHI. -/
def State.regTimeSet (s : State) : State :=
  if !(s.hdr .coht).ready then s
  else
    let h := s.coht.sethi
    let time := fld h 24 2 + 4 * (fld s.coht.setlo 0 40 + 2 ^ 40 * fld h 0 24)
    (State.submitSet { s with coht.setGo := true, coht.setRefused := false } time (wbit h 26) none).1

/-- ATPPS_SET_TIMEOUT (R790): 2.5 s after the submission. -/
def execAtppsSetTimeout (s : State) : Host.Outcome State Fault Refusal :=
  finish (if s.coht.setWait.any fun w => decide (w.at_ + 2500000000 ≤ s.now) then s.refusePending else s)

/-- A read of TIMELO latches the rest of the time into TIMEHI (R788). -/
def State.latchTime (s : State) : State :=
  { s with coht.timehi := packW [(24, s.cohortNs / 2 ^ 40), (2, s.cohort), (1, b2n s.coht.running)] }

/-- TIMELO_READ (R788): TIMEHI takes the rest of the time. -/
def State.regTimeloRead (s : State) : State :=
  if !(s.hdr .coht).ready then s else s.latchTime.send (.regRead (BitVec.ofNat 64 (s.cohortNs % 2 ^ 40)))

/-! ### Discipline -/

/-- The discipline's state changes, with LOCKED or UNLOCK (R805). -/
def State.setDisc (s : State) (d : DiscState) : State :=
  let old := s.coht.dstate
  let s := { s with coht.dstate := d }
  if d = .locked && old ≠ .locked then s.cause .coht 1
  else if old = .locked && d ≠ .locked then s.cause .coht 2
  else s

/-- The signed distance of a time from the nearest whole second (R794). -/
def ppsError (stamp : Nat) : Int := (stamp : Int) - ((stamp + second / 2) / second * second : Nat)

/-- The clamp of R794, in 2^-15 of its unit. -/
def clampRate (z : Int) : Int := max (-(800000 * 2 ^ 15)) (min (800000 * 2 ^ 15) z)

/-- STEPTHR, in 250 ps units. -/
def Coht.stepThr (c : Coht) : Nat := 1000 * fld c.disc 8 16
/-- WINDOW. -/
def Coht.window (c : Coht) : Nat := fld c.disc 24 16

/-- The discipline runs on an accepted edge with error `e` (R794). -/
def State.discipline (s : State) (e : Int) : State :=
  let c := s.coht
  if c.dstate ≠ .locked && decide (c.stepThr < e.natAbs) && !s.replayActive then
    let phase := ((c.phase : Int) - e * 2 ^ 32) % 2 ^ 98
    State.setDisc (State.cause { s with coht.phase := phase.toNat, coht.integ := 0, coht.good := 0 } .coht 3) .acquiring
  else
    let integ := clampRate (c.integ + e * 2 ^ (15 - fld c.disc 4 4))
    let f := clampRate (integ + e * 2 ^ (15 - fld c.disc 1 3))
    let good := if e.natAbs ≤ c.window then satInc 3 c.good else 0
    let s := { s with coht.integ := integ, coht.rate := f, coht.good := good }
    if 4 ≤ good then s.setDisc .locked else s

/-- PPS_EDGE (R789, R794, R795): the edge lies `frac` quarters of a nanosecond after the present one. -/
def execPpsEdge (frac : Nat) (s : State) : Host.Outcome State Fault Refusal :=
  let fr := frac % 4
  finish <| if !(s.hdr .coht).ready || !wbit s.coht.disc 0 then s
  else
    let e := ppsError (s.cohort + fr)
    let s := { s with coht.err := e }
    if s.coht.dstate = .locked && decide (s.coht.window < e.natAbs) then
      let g := s.coht.glitches + 1
      let s := { s with coht.glitches := min 3 g }
      if 3 ≤ g then s.setDisc .acquiring else s
    else
      let s := { s with coht.glitches := 0, coht.missed := 0, coht.lastEdge := s.now }
      let s := if s.coht.dstate = .holdover then State.setDisc { s with coht.good := 0 } .acquiring else s
      match s.coht.setWait with
      | none => s.discipline e
      | some w =>
        if s.replayActive then s.refusePending.discipline e
        else
          -- the edge reads exactly the value given, and the discipline measures e from it
          let s := State.loadTime { s with coht.setWait := none } (w.time + 2 ^ 66 - fr)
          let s := if w.frame.isNone then { s with coht.setGo := false } else s.todAnswer 0
          let e := ppsError w.time
          State.discipline { s with coht.err := e } e

/-- PPS_MISSED_SECOND (R795): at 1.5 s, 2.5 s, … after the last accepted edge. -/
def execPpsMissedSecond (s : State) : Host.Outcome State Fault Refusal :=
  let c := s.coht
  finish <| if !(s.hdr .coht).ready || !wbit c.disc 0 || decide (s.now < c.lastEdge + 1500000000 + 1000000000 * c.missed) then s
  else
    let s := { s with coht.missed := satInc 8 c.missed }
    if c.dstate = .locked && decide (3 ≤ s.coht.missed) then s.setDisc .holdover else s

/-- DISC_WRITE (R790, R795): STEPTHR and WINDOW of 0 are stored as 1; discipline begins, or ends with the rate nominal. -/
def State.regDiscWrite (s : State) (v : Word) : State :=
  if !(s.hdr .coht).ready then s
  else
    let was := wbit s.coht.disc 0
    let w := setFld (setFld v 8 16 (max 1 (fld v 8 16))) 24 16 (max 1 (fld v 24 16))
    let s := { s with coht.disc := w }
    if wbit v 0 && !was then
      State.setDisc { s with coht.lastEdge := s.now, coht.missed := 0, coht.glitches := 0, coht.good := 0, coht.integ := 0 } .acquiring
    else if was && !wbit v 0 then
      (State.setDisc { s with coht.rate := 0, coht.missed := 0, coht.glitches := 0, coht.good := 0, coht.integ := 0 } .free).refusePending
    else s

/-- The global name of one of the controller's strands (R800). -/
def State.globalName (s : State) (strand : Nat) : Word := packW [(18, strand), (16, fld s.coht.member 0 16)]

/-! ### Trigger lines -/

/-- TRIG_IN_EDGE (R803, R530): an edge that stayed high for 4 ns, stamped `frac` quarters of a nanosecond after the present one. -/
def execTrigInEdge (frac : Nat) (s : State) : Host.Outcome State Fault Refusal :=
  let c := s.coht
  let at_ := s.cohort + frac % 4
  let up := 4 * s.now + frac % 4
  finish <| if !(s.hdr .coht).ready || (wbit c.trigcfg 39 && c.outHigh) ||
      (c.lastIn.any fun t => decide (up < t + c.holdoff)) then s
  else
    let s := State.cause { s with coht.lastIn := some up, coht.trigIn := satInc 16 c.trigIn } .coht 5
    let ts := (at_ + 2 ^ 66 - fld c.trigcfg 20 16) % 2 ^ 66 + (if c.running then 0 else 2 ^ 79)
    let ns := (s.strd.strands.filter fun e => e.2.st ≠ .free && e.2.srcen.testBit 1).map (·.1)
    if s.sysc.mode = .stream then s.trigger ns 1 ts false else s

/-- TRIG_OUT_RISE (R801): the scheduled rise, OUTLAT after the trigger's time. -/
def execTrigOutRise (s : State) : Host.Outcome State Fault Refusal :=
  finish <| match s.coht.outRise with
  | t :: rest => if t ≤ s.cohort then { s with coht.outRise := rest, coht.outHigh := true, coht.outStart := t, coht.outEver := true } else s
  | [] => s

/-- TRIG_OUT_PULSE_END (R801): PULSE after the rise, the line is released. -/
def execTrigOutPulseEnd (s : State) : Host.Outcome State Fault Refusal :=
  finish (if s.coht.outHigh && decide (s.coht.outStart + s.coht.pulse ≤ s.cohort) then { s with coht.outHigh := false } else s)

end Sys2Proof.Machine
end

