-- ==== Sys2Proof/Machine/Events.lean ====
section
/-!
DEFINITION. The commands of the event recorder: its ticks, timers, cursors and settings (17_event_recorder.md).
-/
namespace Sys2Proof.Machine

/-- The record that 32 bytes spell (R695). -/
def EvRec.ofBytes (bs : List (BitVec 8)) : EvRec :=
  let n := ofBytesLE (bs.map (·.toNat))
  { code := n % 2 ^ 16, sev := n / 2 ^ 16 % 16, src := n / 2 ^ 20 % 2 ^ 12, time := n / 2 ^ 32 % 2 ^ 64,
    seq := n / 2 ^ 96 % 2 ^ 32, p0 := n / 2 ^ 128 % 2 ^ 40, p1 := n / 2 ^ 168 % 2 ^ 40, p2 := n / 2 ^ 208 % 2 ^ 40,
    check := n / 2 ^ 248 % 256 }

/-- The record's CHECK is right (R713). -/
def EvRec.good (r : EvRec) : Bool := r.check = crc8 r.body

/-- The records that one critical-copy page holds; a slot of all 0xFF is empty (18_parameter_store.md R740). -/
def critSlots (p : Psto) (page : Nat) : List EvRec :=
  (List.range 8).filterMap fun i =>
    let bs := tgets 0xFF p.bytes (256 * page + 32 * i) 32
    if bs.all (· = 0xFF) then none else some (EvRec.ofBytes bs)

/-- The critical copies, oldest page of the rotation first (R705). -/
def State.critRecords (s : State) : List EvRec :=
  (List.range 32).flatMap fun i => critSlots s.psto (736 + (s.evtr.critPage - 736 + i) % 32)

/-- The records of a source, oldest first, and the position of the first of them (R711). -/
def State.source (s : State) (src : Nat) : List EvRec × Nat :=
  if src = 3 then (s.critRecords, 0)
  else let (l, n) := s.evStore src; (l.reverse, n - l.length)

/-- The window of a cursor filled from a position: over a ring at once with what has arrived, over the long log and the critical
copies at the end of the fill (R712). -/
def State.windowAt (s : State) (k src pos seq : Nat) (lost : Bool) : State :=
  let (l, base) := s.source src
  let win := if src ≤ 1 then (l.drop (pos - base)).take 8 else []
  let c := s.cursor k
  let c := { c with source := src, pos := pos, seq := (win.head?.map (·.seq)).getD seq, win := win,
                    filling := decide (win.length < 8), lost := c.lost || lost }
  { s with evtr.cursors := tput Cursor.reset s.evtr.cursors k c }

/-- A window placed by sequence and source (R711). -/
def State.place (s : State) (k seq src : Nat) : State :=
  let (l, base) := s.source src
  match l with
  | [] => s.windowAt k src base s.evtr.next false
  | first :: _ =>
    match l.findIdx? (fun r => r.seq = seq) with
    | some i => s.windowAt k src (base + i) seq false
    | none =>
      if newer32 first.seq seq && decide (0 < base) then s.windowAt k src base first.seq true
      else match l.findIdx? (fun r => newer32 r.seq seq) with
        | some i => s.windowAt k src (base + i) (((l.drop i).head?.map (·.seq)).getD seq) false
        | none => s.windowAt k src (base + l.length) seq false

/-- A window moved to the record after its last; at the oldest held record, with LOST, when that one has been overwritten
(R711). -/
def State.advance (s : State) (k : Nat) : State :=
  let c := s.cursor k
  let (l, base) := s.source c.source
  let pos := c.pos + c.win.length
  if pos < base then s.windowAt k c.source base ((l.head?.map (·.seq)).getD s.evtr.next) (!l.isEmpty)
  else s.windowAt k c.source pos (((l.drop (pos - base)).head?.map (·.seq)).getD s.evtr.next) false

/-- NEWREC where its watermark still holds after group 0's window has moved (R716). -/
def State.newrecCheck (s : State) (k : Nat) : State :=
  if k = 0 && decide (s.evtr.iwm ≤ s.afterWindow) then s.setNewrec else s

/-- A host write to group 1 or 2 is discarded with code 0x40 (R714), and so is a sideband write to group 0 or 2
(19_firmware_and_identity.md R778); `who` is 0 for the host, 1 for the sideband, 2 for a management core. -/
def State.cursorWrite (s : State) (who k : Nat) (f : State → State) : State :=
  if !(s.hdr .evtr).ready || decide (2 < k) then s
  else if (who = 0 && k ≠ 0) || (who = 1 && k ≠ 1) then s.error .evtr 0x40 k
  else (f s).newrecCheck k

/-- CURSOR_PLACE (R711, R712, R714). -/
def State.regCursorPlace (s : State) (who group : Nat) (v : Word) : State :=
  s.cursorWrite who group fun s => s.place group (fld v 0 32) (fld v 32 2)

/-- CURSOR_ADVANCE (R711, R714): its SEQ and SOURCE fields are ignored. -/
def State.regCursorAdvance (s : State) (who group : Nat) (_v : Word) : State :=
  s.cursorWrite who group fun s => s.advance group

/-- WINDOW_FILL_COMPLETE (R712, R713): the window holds what the source held at its position. -/
def execWindowFillComplete (group : Nat) (s : State) : Host.Outcome State Fault Refusal :=
  let c := s.cursor group
  finish <| if c.source ≤ 1 || !c.filling || decide (2 < group) then s
  else
    let (l, base) := s.source c.source
    let win := (l.drop (c.pos - base)).take 8
    let c := { c with win := win, filling := false, seq := (win.head?.map (·.seq)).getD c.seq }
    { s with evtr.cursors := tput Cursor.reset s.evtr.cursors group c }

/-- NEWREC_TIMEOUT (R716): ITMO has passed since the first record after group 0's window, or a deferral has ended. -/
def execNewrecTimeout (s : State) : Host.Outcome State Fault Refusal :=
  finish (if 1 ≤ s.afterWindow then s.setNewrec else s)

/-- The buckets refilled for 1 ms: a class of RATE tokens per second gains RATE thousandths (R706). -/
def Evtr.refill (e : Evtr) : Evtr :=
  { e with spent := e.spent.filterMap fun x =>
      let v := x.2 - fld (e.rateOf (e.classOf x.1)) 0 16
      if v = 0 then none else some (x.1, v) }

/-- The incident rule at the end of a 1 ms tick (R707). -/
def State.incidentTick (s : State) : State :=
  let e := s.evtr
  let n := e.inc.now
  let hi := e.inc.nowInfo
  let clear : Incident → Incident := fun i => { i with ticks := (n :: i.ticks).take 10, now := 0, nowInfo := 0 }
  if !e.inc.active && decide (e.thresh < n) then
    let s := { s with evtr.inc := { clear e.inc with active := true, level := 1, since := s.now, admitted := 0, shed := 0 } }
    (s.raise 2 2 Block.evtr.page n e.thresh 0).setCause .evtr (2 ^ 3)
  else if e.inc.active && decide (e.thresh < hi) then { s with evtr.inc := { clear e.inc with level := 2 } }
  else { s with evtr.inc := clear e.inc }

/-- RECORDER_TICK (R706, R707). -/
def execRecorderTick (s : State) : Host.Outcome State Fault Refusal :=
  finish ({ s with evtr := s.evtr.refill }.incidentTick)

/-- The code most suppressed since the last SUMMARY, with its count; the lowest on a tie (R700). -/
def mostSuppressed (t : Tbl Nat) : Nat × Nat := t.foldl (fun m e => if m.2 < e.2 then e else m) (0, 0)

/-- SUMMARY where a count since the last one is not zero; the counts are cleared (R709). -/
def State.summary (s : State) : State :=
  let e := s.evtr
  if e.sumTrace = 0 ∧ e.sumInfo = 0 ∧ e.sumSupp = [] then s
  else
    let m := mostSuppressed e.sumSupp
    let total := (e.sumSupp.map (·.2)).foldl (· + ·) 0
    (s.raise 1 2 Block.evtr.page (pack [(20, satN 20 e.sumTrace), (20, satN 20 e.sumInfo)]) (satN 20 total)
      (pack [(16, m.1), (20, satN 20 m.2)])) |> fun s => { s with evtr.sumTrace := 0, evtr.sumInfo := 0, evtr.sumSupp := [] }

/-- The end of an incident: the bookend buffer's records, then INCEND (R710). -/
def State.incidentEnd (s : State) : State :=
  let i := s.evtr.inc
  if i.active && decide (i.ticks.length = 10) && i.ticks.all (fun n => decide (n ≤ s.evtr.thresh / 2)) then
    let s := { s with evtr.inc := { i with active := false, level := 0, bookend := [] } }
    let s := i.bookend.reverse.foldl State.storeRecord s
    s.raise 3 2 Block.evtr.page ((s.now - i.since) / 10 ^ 6) i.shed i.admitted
  else s

/-- RECORDER_10MS_TICK (R709, R710, R716). -/
def execRecorder10msTick (s : State) : Host.Outcome State Fault Refusal :=
  let s := s.summary.settle
  let s := if s.evtr.inc.active && decide (s.evtr.iwm ≤ s.afterWindow) then s.setNewrec else s
  finish s.incidentEnd

/-- LOGFLUSH has passed since the first record of the long-log page being filled (R704). -/
def State.logDue (s : State) : Bool := !s.evtr.logPage.isEmpty && decide (s.evtr.logSince + s.evtr.logflush * 10 ^ 6 ≤ s.now)

/-- LONG_LOG_FLUSH_DUE (R704): the page is programmed; a flush that falls due in REST waits for the next wake (R878). -/
def execLongLogFlushDue (s : State) : Host.Outcome State Fault Refusal :=
  finish (if !s.logOpen || !s.logDue then s else if s.sysc.mode = .rest then { s with evtr.flushWait := true } else s.flushLog)

/-- CRITICAL_COPY_TIMER (R705): 10 ms after the first pending record. -/
def execCriticalCopyTimer (s : State) : Host.Outcome State Fault Refusal :=
  finish (if s.evtr.critSince + 10 ^ 7 ≤ s.now then s.critPage1 else s)

/-- RECORDER_SAVE (R706): the rate settings and the class map are stored; SAVE reads 1 until the write completes (R735). -/
def State.regRecorderSave (s : State) : State :=
  if !(s.hdr .evtr).ready then s
  else
    let res := match (s.record 6).winner with | .recorder v _ _ => v | _ => s.evtr.reserve
    ({ s with evtr.save := true }.setRecord 6 (.recorder res s.evtr.rates s.evtr.rcmap)).hostRecord 6

/-- RATE_CLASS_WRITE (R706, R717): class 0 is read-only; RATE 0 or BURST 0 is discarded with code 0x41. -/
def State.regRateClassWrite (s : State) (v : Word) : State :=
  let k := fld s.evtr.rcsel 0 3
  if !(s.hdr .evtr).ready || k = 0 then s
  else if fld v 0 16 = 0 ∨ fld v 16 12 = 0 then s.error .evtr 0x41 k
  else { s with evtr.rates := tput (defaultRate k) s.evtr.rates k (keep v 0xFFFFFFF) }

end Sys2Proof.Machine
end

