-- ==== Sys2Proof/Machine/Image.lean ====
section
/-!
DEFINITION. Firmware images in the boot flash (19_firmware_and_identity.md R743 to R749).
-/
namespace Sys2Proof.Machine

/-- Bytes of the boot flash; a byte that nothing has programmed reads 0xFF (log 6). -/
def Boot.bytes (b : Boot) (off n : Nat) : List Nat := (tgets 0xFF b.flash off n).map (·.toNat)

/-- The flash offset of a slot: 0 A, 1 B, 2 recovery (R743). -/
def slotBase (slot : Nat) : Nat := slot * 0x1000000

/-- Bytes of an image block, its CRC included, and of its content (R745). -/
def blockBytes : Nat := 65536

/-- The header of the image in a slot (R746). -/
def Boot.head (b : Boot) (slot : Nat) : ImgHead :=
  let at_ (o n : Nat) : Nat := ofBytesLE (b.bytes (slotBase slot + o) n)
  { blocks := at_ 10 2, svn := at_ 12 4, minsvn := at_ 16 4, version := at_ 20 4, keyset := at_ 24 1,
    recovery := (at_ 25 1).testBit 0, revoke := at_ 25 1 / 2 % 16 }

/-- The magic of an image: the characters "RLTRSIMG" (R746). -/
def imageMagic : List Nat := [0x52, 0x4C, 0x54, 0x52, 0x53, 0x49, 0x4D, 0x47]

/-- What R748 asks of the header: magic, format, N, the key set not revoked, the security version, and the RECOVERY flag. The block
checks, the digest and the signatures are what the command reports (log 9). -/
def State.headOk (s : State) (slot : Nat) : Bool :=
  let h := s.boot.head slot
  s.boot.bytes (slotBase slot) 8 = imageMagic && s.boot.bytes (slotBase slot + 9) 1 = [1] &&
  decide (2 ≤ h.blocks) && decide (h.blocks ≤ 256) && decide (h.keyset < 4) && h.keyset ∉ s.fuse.keyRevoked &&
  decide (s.boot.img.minsvn ≤ h.svn) && h.recovery = decide (slot = 2)

/-! ### The content stream and its sections (R745, R746) -/

/-- `n` bytes of the content stream of the image in a slot, from an offset: the contents of its blocks in order, without their checks. -/
def Boot.stream (b : Boot) (slot off n : Nat) : List (BitVec 8) :=
  (List.range n).map fun i =>
    let p := off + i
    tget 0xFF b.flash (slotBase slot + p / (blockBytes - 4) * blockBytes + p % (blockBytes - 4))

/-- The section entries of the header: type, offset in the content stream, length. -/
def Boot.entries (b : Boot) (slot : Nat) : List (Nat × Nat × Nat) :=
  (List.range 6).map fun i =>
    let at_ (o : Nat) : Nat := ofBytesLE ((b.stream slot (32 + 16 * i + o) 4).map (·.toNat))
    (at_ 0, at_ 4, at_ 8)

/-- The section of a type, 1 to 5; nothing where no entry has it. -/
def Boot.section_ (b : Boot) (slot typ : Nat) : List (BitVec 8) :=
  match (b.entries slot).find? fun e => e.1 = typ with
  | some (_, off, n) => b.stream slot off n
  | none => []

/-! ### The signature block (R745, R747) -/

/-- The flash offset of the signature block of the image in a slot: its last image block. -/
def Boot.sigBase (b : Boot) (slot : Nat) : Nat := slotBase slot + ((b.head slot).blocks - 1) * blockBytes

/-- D, as the signature block holds it. -/
def Boot.signedDigest (b : Boot) (slot : Nat) : BitVec 512 := BitVec.ofNat 512 (ofBytesLE (b.bytes (b.sigBase slot) 64))

/-- The two signatures over D: the bytes of Ed25519 and of ML-DSA-65, the latter with the context string "SKW-IMAGE". -/
def Boot.signatures (b : Boot) (slot : Nat) : List Nat × List Nat := (b.bytes (b.sigBase slot + 64) 64, b.bytes (b.sigBase slot + 128) 3309)

end Sys2Proof.Machine
end

