-- ==== Sys2Proof/Machine/Ladder.lean ====
section
/-!
DEFINITION. The throttle ladder combined with the power cap (16_thermal.md R687, 23_electrical.md R848, R849).
-/
namespace Sys2Proof.Machine

/-- The ladder's core clock: 0 3.0 GHz, 1 2.4 GHz, 2 1.8 GHz (R687). -/
def Ladder.clock : Ladder → Nat | .s3fast => 1 | .s3slow => 2 | .s4 => 2 | _ => 0

/-- The ladder's XOFF part of each 100 us, in us (R687). -/
def Ladder.xoff : Ladder → Nat | .s3fast => 20 | .s3slow => 40 | .s4 => 40 | _ => 0

/-- THRM.PCAP.MODE in force: 3 is treated as 2. -/
def Thrm.capMode (t : Thrm) : Nat := min 2 (fld t.pcap 0 2)

/-- THRM.GOV.STEP: the higher of the ladder's step and the cap's floor (R849). -/
def Thrm.govStep (t : Thrm) : Nat := max t.step.code (if t.capMode = 0 then 0 else 3)

/-- The core clock that the ladder and the cap ask for (R849). -/
def Thrm.clockWanted (t : Thrm) : Nat := max t.step.clock t.capMode

/-- The XOFF part of each 100 us in force, in us (R849). -/
def Thrm.xoff (t : Thrm) : Nat := max t.step.xoff (match t.capMode with | 0 => 0 | 1 => 40 | _ => 70)

/-- The clock follows what is asked for, within 20 us; a hold that no longer applies ends (R689, R690). -/
def State.clockSync (s : State) : State :=
  let t := s.thrm
  { s with thrm.clockTarget := if t.clockWanted = t.clock then none else some t.clockWanted
           thrm.dutyHold := t.dutyHold && decide (0 < t.xoff) }

/-- Anneal is paused: the ladder is at step 1 or above, or FTLM.ANNCTL.PAUSE is set (R687, 07_translation.md R320). -/
def State.annealPaused (s : State) : Bool := s.ftlm.annPause || decide (1 ≤ s.thrm.govStep)

/-- Planish is paused: the ladder is at step 1 or above (R687, 08_media_reliability.md R366). -/
def State.planishPaused (s : State) : Bool := decide (1 ≤ s.thrm.govStep)

end Sys2Proof.Machine
end

