-- ==== Sys2Proof/Machine/Strands.lean ====
section
/-!
DEFINITION. The commands of the strand table, of the filter table and the trigger log, the seal timer, the time index, and the answers
to back-invalidations (12_capture.md, 04_host_port.md R176 to R179).
-/
namespace Sys2Proof.Machine

/-! ### Command checks -/

/-- Entries of the list that scheduled arms and timed triggers share (R534). -/
def State.timedUsed (s : State) : Nat := s.strd.timed.length + (s.strd.strands.filter fun e => e.2.armAt.isSome).length

/-- A strand is bound to a replay slot (13_replay_and_query.md R546). -/
def State.replayBound (s : State) (n : Nat) : Bool := s.rple.slots.any fun e => e.2.st ≠ .unbound && e.2.strand = n

/-- A LOCKED range covers a unit of a span of hank space (14_memory_protection.md R593). -/
def State.hankLocked (s : State) (base size : Nat) : Bool :=
  s.mprt.ranges.any fun e => e.2.locked && e.2.packed && decide (e.2.first < base + size) && decide (base < e.2.first + e.2.count)

/-- A strand's configuration as words 2, 4 and 5 of its context give it (R491). -/
def Strand.configure (x : Strand) (w2 w4 w5 : Word) : Strand :=
  { x with filtcnt := fld w2 23 4, mode := fld w2 27 2, policy := wbit w2 29, rearm := wbit w2 30,
           pre := fld w4 0 20, post := fld w4 20 20, srcen := fld w5 0 5, srcstrand := fld w5 5 18, bcast := wbit w5 23,
           trigout := wbit w5 24, sendtrig := wbit w5 25, action := wbit w5 26 }

/-- The configuration is valid (R492). -/
def State.configOk (s : State) (x : Strand) : Bool :=
  decide (0 < x.hsize) && decide (x.hsize ≤ 4194304) && x.mode ≠ 3 && (x.mode = 1 || decide (2 ≤ x.hsize)) &&
  (x.mode ≠ 2 || (decide (x.pre + 1 + x.post ≤ x.hsize) && x.post ≠ 0)) && decide (x.filtfirst + x.filtcnt ≤ 4096) &&
  decide (x.srcstrand < s.strandCount)

/-- A strand's hank overlaps another strand's (R492). -/
def State.hankTaken (s : State) (n : Nat) (x : Strand) : Bool :=
  s.strd.strands.any fun e => e.1 ≠ n && e.2.st ≠ .free && decide (e.2.hbase < x.hbase + x.hsize) && decide (x.hbase < e.2.hbase + e.2.hsize)

/-- A command completes or is refused: RESULT, GO, CMDDONE, and code 0x40 for a refusal (R542, R543). -/
def State.strdDone (s : State) (n result : Nat) : State :=
  let s := { s with strd.result := result, strd.go := false }
  if result = 0 then s.cause .strd 1 else s.error .strd 0x40 n (2 ^ 1)

/-- A register command: its mode and its strand are checked, and it is performed; `f` answers RESULT, or none while it goes on. A
command given while another is in progress is answered busy (R541; log 22). -/
def State.strdCommand (s : State) (op : Nat) (modes : List Mode) (f : Nat → State → State × Option Nat) : State :=
  let n := fld s.strd.sel 0 18
  if !(s.hdr .strd).ready then s
  else if s.strd.go then { s with strd.result := 1 }.error .strd 0x40 n (2 ^ 1)
  else
    let s := { s with strd.op := op }
    let (t, r) := if s.sysc.mode ∉ modes then (s, some 2) else if s.strandCount ≤ n then (s, some 4) else f n s
    match r with
    | some r => t.strdDone n r
    | none => { t with strd.go := true, strd.waitStrand := n }

/-! ### ALLOC and CONFIG -/

/-- The strand that ALLOC makes from the staged words (R492). -/
def State.staged (s : State) : Strand :=
  let d := s.strd
  { Strand.reset with st := .idle, hbase := fld d.stage1 0 28, filtfirst := fld d.stage1 28 12, hsize := fld d.stage2 0 23 }.configure
    d.stage2 d.stage4 d.stage5

/-- ALLOC performed on a strand (R492, R494, R593). -/
def State.alloc (s : State) (n : Nat) (adopt : Bool) : State × Option Nat :=
  let x := s.staged
  if (s.strand n).st ≠ .free then (s, some 3)
  else if !s.configOk x || unitCount < x.hbase + x.hsize then (s, some 4)
  else if s.hankLocked x.hbase x.hsize then (s, some 4)
  else
    let t := s.modStrand n fun _ => x
    if s.hankTaken n x || t.ftlm.exported < t.hankUse + t.ftlm.hdrMib then (s, some 5)
    else if adopt then ({ t with strd.adopting := some n }, none) else (t, some 0)

/-- ALLOC (R492, R541). -/
def State.regAlloc (s : State) (adopt : Bool) : State :=
  ({ s with strd.adopt := adopt } : State).strdCommand 1 [.memory, .stream] fun n s => s.alloc n adopt

/-- The programmed hank pages of a strand's MAPPED units: unit within the hank, page and counter (R494). -/
def State.hankPages (s : State) (x : Strand) : List (Nat × Nat × Nat) :=
  ((s.ftlm.coarse.filter fun e => mapSt e.2 = 1 && decide (x.hbase ≤ e.1) && decide (e.1 < x.hbase + x.hsize)).flatMap fun e =>
    (List.range 64).filterMap fun i =>
      match s.hankPlace e.1 i with
      | some (b, dp) => let c := (s.mpage b dp).counter; if c = 0 then none else some (e.1 - x.hbase, i, c)
      | none => none)

/-- The newest hank page: no other's counter exceeds its own; of several, the one that lies highest (R494, R866). -/
def newestPage (l : List (Nat × Nat × Nat)) : Option (Nat × Nat) :=
  (l.filter fun p => l.all fun q => !newer32 q.2.2 p.2.2).foldl (fun m p =>
    match m with
    | some (u, i) => if decide (u < p.1) || (u = p.1 && decide (i < p.2.1)) then some (p.1, p.2.1) else m
    | none => some (p.1, p.2.1)) none

/-- The write point of an adopted hank (R494). -/
def State.adoptPoint (s : State) (n : Nat) : State :=
  let x := s.strand n
  match newestPage (s.hankPages x) with
  | none => s
  | some (u, i) =>
    let s := s.modStrand n fun x => { x with wpunit := u, wpword := (i + 1) * pageWords }
    if x.mode = 2 then
      match s.nextUnit x u x.hsize with
      | some v => s.modStrand n fun x => { x with wpunit := v, wpword := 0 }
      | none => s
    else if i = 63 then s.leaveUnit n else s

/-- ALLOC_ADOPT_COMPLETE (R494, R540): the write point is found; the index lines of the hank's units are rebuilt in the background. -/
def execAllocAdoptComplete (s : State) : Host.Outcome State Fault Refusal :=
  finish <| match s.strd.adopting with
  | none => s
  | some n =>
    let x := s.strand n
    let us := (s.ftlm.coarse.filter fun e => mapSt e.2 = 1 && decide (x.hbase ≤ e.1) && decide (e.1 < x.hbase + x.hsize)).map (·.1)
    let s := if x.mode = 2 then us.foldl (fun s c => s.modIdx c fun l => { l with kept := true }) s else s
    let full := s.adoptPoint n
    -- finding the write point of a full FILL hank changes no state of the strand
    let s := full.modStrand n fun y => { y with st := .idle }
    State.strdDone { s with strd.adopting := none, strd.rebuild := us.foldl withNew s.strd.rebuild } n 0

/-- CONFIG performed on a strand (R541, R546): HSIZE and the fields that the pipe maintains stay. -/
def State.config (s : State) (n : Nat) : State × Option Nat :=
  let x := s.strand n
  if !(x.st = .idle || x.st = .done) || s.replayBound n then (s, some 3)
  else
    let y := x.configure s.strd.stage2 s.strd.stage4 s.strd.stage5
    if s.configOk y then (s.modStrand n fun _ => y, some 0) else (s, some 4)

/-- CONFIG (R541). -/
def State.regConfig (s : State) : State :=
  s.strdCommand 2 [.memory, .stream] fun n s => s.config n

/-! ### ARM, STOP, triggers -/

/-- ARM performed on a strand at a time in ns, 0 for at once (R525, R534, R546, R593; 20_cohort_and_time.md R786). -/
def State.arm (s : State) (n time : Nat) : State × Option Nat :=
  let x := s.strand n
  if !(x.st = .idle || x.st = .done) || s.replayBound n || s.strd.adopting = some n || x.releasing.isSome then (s, some 3)
  else if x.mode = 1 && decide (x.hsize ≤ x.wpunit) then (s, some 3)
  else if x.mode = 2 && decide (s.unkept x < x.pre + 1 + x.post) then (s, some 3)
  else if s.hankLocked x.hbase x.hsize then (s, some 4)
  else if time ≠ 0 && !s.coht.running then (s, some 4)
  else if time ≠ 0 && decide (4096 ≤ s.timedUsed) then (s, some 6)
  else
    (s.modStrand n fun x =>
      { x with st := if time = 0 then .armed else .scheduled, armAt := if time = 0 then none else some time,
               seqany := true, opened := false, resume := false, discard := false, sinceArm := [], trigWait := false, recTrig := false,
               postLeft := 0 }, some 0)

/-- STRD.TIME and TIMEHI as a time in ns. -/
def Strd.time (d : Strd) : Nat := fld d.timeLo 0 40 + 2 ^ 40 * fld d.timeHi 0 24

/-- ARM (R525). -/
def State.regStrandArm (s : State) : State :=
  s.strdCommand 3 [.stream] fun n s => s.arm n s.strd.time

/-- STOP performed on a strand (R490). -/
def State.stop (s : State) (n : Nat) : State × Option Nat :=
  let x := s.strand n
  if x.live || x.st = .scheduled then (s.stopStrand n, some 0) else (s, some 3)

/-- STOP (R490). -/
def State.regStrandStop (s : State) : State :=
  s.strdCommand 4 [.stream] fun n s => s.stop n

/-- TRIGGER (R530, R531): a register trigger at the cycle of the command. A FREE strand refuses it. -/
def State.regTrigger (s : State) : State :=
  s.strdCommand 5 [.stream] fun n s => if (s.strand n).st = .free then (s, some 3) else (s.trigger [n] 4 s.stamp false, some 0)

/-- TIMEDTRIG performed on a strand (R534, R786). -/
def State.timedTrig (s : State) (n time : Nat) : State × Option Nat :=
  if (s.strand n).st = .free then (s, some 3)
  else if time ≠ 0 && !s.coht.running then (s, some 4)
  else if 4096 ≤ s.timedUsed then (s, some 6)
  else ({ s with strd.timed := s.strd.timed ++ [{ at_ := time, strand := n }] }, some 0)

/-- TIMEDTRIG (R534). -/
def State.regTimedtrig (s : State) : State :=
  s.strdCommand 6 [.stream] fun n s => s.timedTrig n s.strd.time

/-- DROPREM (R517): the open record ends with DROPPED at its staged length. -/
def State.regDroprem (s : State) : State :=
  s.strdCommand 7 [.stream] fun n s =>
    if (s.strand n).live then ((s.endRecord n { dropped := true }).fillTail n, some 0) else (s, some 3)

/-- ARM_TIME_REACHED (R487): a SCHEDULED strand becomes ARMED. -/
def execArmTimeReached (strand : Nat) (s : State) : Host.Outcome State Fault Refusal :=
  let x := s.strand strand
  finish <| if x.st = .scheduled && s.sysc.mode = .stream && (x.armAt.any fun t => decide (t ≤ s.cohortNs)) then
    s.modStrand strand fun x => { x with st := .armed, armAt := none }
  else s

/-- The timed trigger that fell due first. -/
def State.dueTimed (s : State) : Option TimedTrig :=
  s.strd.timed.foldl (fun m t =>
    if t.at_ ≤ s.cohortNs then match m with | some u => if t.at_ < u.at_ then some t else m | none => some t
    else m) none

/-- TIMED_TRIGGER_DUE (R534): delivered, or counted as ignored. -/
def execTimedTriggerDue (s : State) : Host.Outcome State Fault Refusal :=
  finish <| match s.dueTimed with
  | none => s
  | some t =>
    let s := { s with strd.timed := s.strd.timed.erase t }
    if (s.strand t.strand).st = .armed then s.trigger [t.strand] 2 (t.at_ * 4 + if s.coht.running then 0 else 2 ^ 79) false
    else { s with strd.trigIgn := satInc 20 s.strd.trigIgn }

/-- TRIGGER_LOG_POP (R535). -/
def State.regTriggerLogPop (s : State) : State :=
  if (s.hdr .strd).ready then { s with strd.trigLog := s.strd.trigLog.drop 1 } else s

/-- FILTER_WRITE (R519, R522): the word that FSEL names; words 9 to 15 stand for word 8, of which bit 0 is kept. -/
def State.regFilterWrite (s : State) (v : Word) : State :=
  let w := min 8 (fld s.strd.fsel 12 4)
  let v := if w = 8 then keep v 1 else v
  if (s.hdr .strd).ready then { s with strd.filters := tput 0 s.strd.filters (16 * fld s.strd.fsel 0 12 + w) v } else s

/-! ### REWIND and RELEASE -/

/-- The frames and commits of a strand are gone (R495). -/
def State.framesGone (s : State) (n : Nat) : Bool :=
  !(s.frames.any fun f => f.strand = n) && !(s.strd.commits.any fun k => k.strand = n)

/-- A hank's data is dropped: every unit DISCARDED with a journal record, the index lines invalidated (R495, R329, R440). -/
def State.dropHank (s : State) (n : Nat) : State :=
  let x := s.strand n
  let s := (s.hankUnits x).foldl State.dropHankUnit s
  let (q, s) := s.takeSeqs 1
  let j : Jrnl := { seq := q, kind := .discardCoarse, first := x.hbase, count := x.hsize }
  let own (c : Nat) : Bool := decide (x.hbase ≤ c) && decide (c < x.hbase + x.hsize)
  { s with media.journal := j :: s.media.journal, media.seqHigh := max q s.media.seqHigh
           strd.idx := s.strd.idx.filter (fun e => !own e.1)
           strd.rebuild := s.strd.rebuild.filter (fun c => !own c) }

/-- REWIND ends: the hank stays, empty (R495). -/
def State.rewound (s : State) (n : Nat) : State :=
  ((s.dropHank n).modStrand n fun x => { x with st := .idle, wpunit := 0, wpword := 0, releasing := none }).strdDone n 0

/-- RELEASE ends: the strand is FREE (R495), and its timed triggers go with it (DESIGN CHOICE, log 102). -/
def State.released (s : State) (n : Nat) : State :=
  let s := s.dropHank n
  State.strdDone { s.modStrand n fun _ => Strand.reset with strd.timed := s.strd.timed.filter fun t => t.strand ≠ n } n 0

/-- REWIND or RELEASE begins (R495, R546). -/
def State.clearStrand (s : State) (n : Nat) (release : Bool) : State × Option Nat :=
  let x := s.strand n
  if !(x.st = .idle || x.st = .done) || s.replayBound n then (s, some 3)
  else
    let s := s.modStrand n fun x => { x with releasing := some release }
    -- the programs of the frames that it waits for take its class (21_priorities.md R812)
    let mine (p : Prog) : Bool := p.page.oob.any fun o => o.coarse && (s.unitStrand o.lunit).any fun y => y.1 = n
    (s.raiseClass 1 mine, none)

/-- A REWIND whose frames are gone ends. -/
def State.rewindSync (s : State) : State :=
  match s.strd.strands.find? fun e => e.2.releasing = some false with
  | some (n, _) => if s.framesGone n then s.rewound n else s
  | none => s

/-- REWIND (R495): complete at once where the strand has no frame staged. -/
def State.regRewind (s : State) : State :=
  (s.strdCommand 8 [.memory, .stream] fun n s => s.clearStrand n false).rewindSync

/-- RELEASE (R495, R342): it waits until every frame of the strand has been released. -/
def State.regRelease (s : State) : State :=
  s.strdCommand 9 [.memory, .stream, .safe] fun n s => s.clearStrand n true

/-- RELEASE_COMPLETE (R495): the frames are released and the journal record is programmed. -/
def execReleaseComplete (s : State) : Host.Outcome State Fault Refusal :=
  finish <| match s.strd.strands.find? fun e => e.2.releasing = some true with
  | some (n, _) => if s.framesGone n then s.released n else s
  | none => s

/-- STRD_UNKNOWN_OP (R541): RESULT 7. An OP that has a command of its own leaves the state as it is here. -/
def State.regStrdUnknownOp (s : State) (op : Nat) : State :=
  if op ∈ [1, 2, 3, 4, 5, 6, 7, 8, 9] || !(s.hdr .strd).ready then s
  else if s.strd.go then { s with strd.result := 1 }.error .strd 0x40 (fld s.strd.sel 0 18) (2 ^ 1)
  else State.strdDone { s with strd.op := op % 16 } (fld s.strd.sel 0 18) 7

/-! ### Seals and the time index -/

/-- SEAL_INTERVAL_EXPIRED (R509). -/
def execSealIntervalExpired (pipe : Nat) (s : State) : Host.Outcome State Fault Refusal :=
  let q := s.pipe pipe
  finish <| if pipe < 4 && q.since.any fun t => decide (t + max 10 (fld q.ctrl 2 14) * 1000 ≤ s.now) then s.sealPipe pipe else s

/-- The slots of a unit walked from a word on, into its index line (R537, R540). -/
def State.walkSlots (s : State) (c : Nat) (l : IdxLine) (k : Nat) : Nat → IdxLine
  | 0 => l
  | n + 1 =>
    if unitWords ≤ k then l
    else
      let w (i : Nat) : Word := (s.hankWord (c * unitWords + k + i)).1
      let slot := w 0
      let len := fld slot 0 18
      if len = 0 then l
      else
        let ts := (w 1).toNat + 2 ^ 40 * (w 2).toNat
        let l := if wbit slot 24 then l else l.addSlot k ts slot
        s.walkSlots c l (k + len) n

/-- INDEX_REBUILD_COMPLETE (R540, R542, R543): a line rebuilt for an adopted hank, or after an error found in it. -/
def execIndexRebuildComplete (unit : Nat) (s : State) : Host.Outcome State Fault Refusal :=
  finish <| if !(s.hdr .strd).ready || decide (unitCount ≤ unit) then s
  else
    let wanted := decide (unit ∈ s.strd.rebuild) || (s.idxLine unit).e.isEmpty
    let s := { s with strd.idx := tput IdxLine.reset s.strd.idx unit (s.walkSlots unit { (s.idxLine unit) with e := [] } 0 unitWords)
                      strd.rebuild := without s.strd.rebuild unit }
    let s := if wanted then s else s.error .strd 0x41 unit
    if s.strd.rebuild.isEmpty then s.cause .strd 5 else s

/-! ### Answers to back-invalidations -/

/-- A line's back-invalidation ends: its presence bit clears, the commit or the eviction that waited goes on, and reads that were held
are served (04_host_port.md R176 to R178). -/
def State.snoopEnds (s : State) (b : BiOut) : State :=
  let s : State := { s with cxlp.biOut := s.cxlp.biOut.filter fun x => x.line ≠ b.line }
  let s : State := match s.filtWay b.line with
    | some k => { s with cxlp.filter := tmod Filt.reset s.cxlp.filter k fun f => { f with lines := without f.lines (b.line % 64) } }
    | none => s
  let s : State := b.commits.foldl (fun (s : State) id => match s.strd.commits.find? fun k => k.id = id with
    | some k =>
      let s : State := s.commitSync k.strand
      let s : State := if (s.strand k.strand).st = SState.done then s.endRecord k.strand { trunc := true } else s
      s.driveAll
    | none => s) s
  let s : State := match b.evict with
    | some key => if s.cxlp.biOut.any fun x => x.evict = some key then s else { s with cxlp.filter := tdel key s.cxlp.filter }
    | none => s
  let held := s.cxlp.biHold
  let covered (line : Nat) : Bool := s.strd.commits.any fun k => s.commitHit k line
  held.foldl (fun (s : State) (r : MemReq) => if covered r.line then { s with cxlp.biHold := insOrd r s.cxlp.biHold } else s.serve [] r) { s with cxlp.biHold := [] }

/-- BIRSP (R176). -/
def execBirsp (line : Nat) (s : State) : Host.Outcome State Fault Refusal :=
  finish <| match s.cxlp.biOut.find? fun b => b.line = line with
  | some b => s.snoopEnds b
  | none => s

/-- BI_TIMEOUT (R179): the line counts as invalidated; a critical event; viral where VIRALEN asks for it. -/
def execBiTimeout (line : Nat) (s : State) : Host.Outcome State Fault Refusal :=
  finish <| match s.cxlp.biOut.find? fun b => b.line = line with
  | some b =>
    let limit := max 1 (fld s.cxlp.portctl 0 16) * 10 ^ 6
    if s.now < b.since + limit then s
    else
      let s := s.error .cxlp 0x42 (line / 2 ^ 14) (2 ^ 3) 5
      (if wbit s.cxlp.portctl 16 then s.goViral else s).snoopEnds b
  | none => s

end Sys2Proof.Machine
end

