-- ==== Sys2Proof/Machine/Completion.lean ====
section
/-!
DEFINITION. Every request that waits in the host path completes, where a mode is left or SAFE is entered (04_host_port.md R873, R874;
02_modes_and_starts.md R52, R85, R88; 10_persistence.md R425 Q3).
-/
namespace Sys2Proof.Machine

/-- The requests that wait in the host path, but for those held in REST. -/
def State.hostWaiting (s : State) : List MemReq :=
  (s.ncch.bypass ++ s.ncch.slices.flatMap fun e => e.2.miss).flatMap (fun m => m.joined ++ m.after) ++
  s.ncch.slices.flatMap (fun e => e.2.victims.flatMap (·.waits)) ++ s.ncch.slices.flatMap (fun e => e.2.inWait) ++
  s.mprt.pages.flatMap (fun e => e.2.waits) ++ s.cxlp.dirtyWait ++ s.cxlp.biHold

/-- The requests of the lines that `pick` names, in the order of arrival, and the state without them: their fills and the re-encryptions
that they waited for are over. -/
def State.takeWaiting (s : State) (pick : Nat → Bool) : List MemReq × State :=
  let out (l : List MemReq) : List MemReq := l.filter fun r => !pick r.line
  let l := (s.hostWaiting.filter fun r => pick r.line).foldl (fun l r => insOrd r l) []
  let fills := ((s.ncch.bypass ++ s.ncch.slices.flatMap fun e => e.2.miss).filter fun m => pick m.line).map (·.line)
  let s := { s with
    ncch.bypass := s.ncch.bypass.filter fun m => !pick m.line
    cxlp.dirtyWait := out s.cxlp.dirtyWait
    cxlp.biHold := out s.cxlp.biHold
    ncch.slices := s.ncch.slices.map fun (e : Nat × Slice) =>
      (e.1, { e.2 with miss := e.2.miss.filter fun m => !pick m.line, inWait := out e.2.inWait,
                       victims := e.2.victims.map fun v => { v with waits := out v.waits } })
    mprt.pages := s.mprt.pages.map fun (e : Nat × CLine) =>
      (e.1, { e.2 with waits := out e.2.waits, reenc := e.2.reenc && !(e.2.waits.any fun r => pick r.line) }) }
  (l, fills.foldl State.fillEnds s)

/-- A request performed without waiting: a read returns the line, a write goes into the DRAM tier and into the copy that its slice holds.
`room` makes room where the dirty budget is full, and a write that finds none even so waits on; without it the budget may be exceeded
(R873). -/
def State.forceServe (room : Option (State → State)) (s : State) (r : MemReq) : State :=
  let line := r.line
  let s := s.settleVictim line
  let s := match room with
    | some f => if r.write.isSome && !s.roomFor line then f s else s
    | none => s
  let near := (s.sliceOf line).bind fun i => ((s.slice i).lookup line).map fun w => (i, w)
  let old := match near with | some (_, _, w) => (w.data, w.poison) | none => s.lineData line
  match r.write with
  | none =>
    s.sendRead r (if line ∈ s.media.refused then (0, true) else old)
      (if near.isSome then 0 else if (s.mediaPuas line).isEmpty then 1 else 2)
  | some _ =>
    if !r.full && s.lineBad line old.2 then s.refuseWrite r 0x43
    else if room.isSome && !s.roomFor line then s.waitRoom r
    else
      let new := r.applyTo old
      let s := s.storeBack line new.1 new.2
      let s := match near with
        | some (i, key, w) => s.modSlice i fun c =>
            { c with ways := tput Way.reset c.ways key { w with st := .clean, data := new.1, poison := new.2 } }
        | none => s
      (if r.full then s.unrefuse line else s).acknowledge r

/-- Every request received completes (R85 step 1, R425 Q3, R873). A read held for a commit sees that commit (R177). -/
def State.completeHost (s : State) (room : Option (State → State)) : State :=
  let s := if s.cxlp.biHold.isEmpty then s else s.commitAll
  let (l, s) := s.takeWaiting fun _ => true
  let s := l.foldl (State.forceServe room) s
  s.rest.held.foldl (fun s r => (s.screen r).getD (s.forceServe room r)) { s with rest.held := [] }

/-- The writes that wait complete as SAFE is entered, with the requests of their lines: those received before are performed, and the quench
reserve makes the room (R52, R873). -/
def State.completeWrites (s : State) : State :=
  let ls := (s.hostWaiting.filter fun r => r.write.isSome).map MemReq.line
  let (l, s) := s.takeWaiting fun line => decide (line ∈ ls)
  l.foldl (State.forceServe (some State.reserveDirty)) s

end Sys2Proof.Machine
end

