-- ==== Sys2Proof/Machine/HankWalk.lean ====
section
/-!
DEFINITION. The slots and records of a hank in replay order, as replay and the query engine find them (13_replay_and_query.md R551 to
R553, R575 to R577).
-/
namespace Sys2Proof.Machine

/-- One length slot of a hank with what lies behind it. -/
structure HSlot where
  /-- Its hank word. -/
  h : Nat
  /-- LEN. -/
  len : Nat
  /-- The timestamp. -/
  ts : Nat
  /-- The length slot. -/
  slot : Word
deriving DecidableEq, Repr

/-- The first slot of a later span of a unit, by the time index (12_capture.md R537). -/
def IdxLine.after (l : IdxLine) (k : Nat) : Option Nat :=
  (l.e.zipIdx.filterMap fun e => match e.1.off with | some o => if e.1.valid && decide (k < 52416 * e.2 + o) then some (52416 * e.2 + o) else none | none => none).head?

/-- The slots of a unit from a word on, pads left out: each slot's length leads to the next; past a slot that media have lost, the time
index leads on. -/
def State.unitWalk (s : State) (base c k limit : Nat) : Nat → List HSlot
  | 0 => []
  | fuel + 1 =>
    if limit ≤ k then []
    else
      let w (i : Nat) : Word × Bool := s.hankWord (c * unitWords + k + i)
      let slot := w 0
      if slot.2 then
        match (tget IdxLine.reset s.strd.idx c).after k with
        | some j => s.unitWalk base c j limit fuel
        | none => []
      else
        let len := fld slot.1 0 18
        if len = 0 then []
        else
          let rest := s.unitWalk base c (k + len) limit fuel
          if wbit slot.1 24 then rest
          else { h := (c - base) * unitWords + k, len := len, ts := (w 1).1.toNat + 2 ^ 40 * (w 2).1.toNat, slot := slot.1 } :: rest

/-- The coarse units of a hank that hold data: MAPPED, or staged. -/
def State.dataUnits (s : State) (x : Strand) : List Nat :=
  let own (c : Nat) : Bool := decide (x.hbase ≤ c) && decide (c < x.hbase + x.hsize)
  distinct (((s.ftlm.coarse.filter fun e => own e.1 && mapSt e.2 = 1).map (·.1)) ++
    ((s.frames.filter fun f => own f.unit && !f.stale).map (·.unit)))

/-- The place of a unit in replay order (R551). -/
def Strand.replayRank (x : Strand) (u : Nat) : Nat := if x.mode = 1 then u else (u + 2 * x.hsize - x.wpunit - 1) % x.hsize

/-- A unit put in its place in replay order. -/
def placeUnit (x : Strand) (c : Nat) : List Nat → List Nat
  | [] => [c]
  | d :: ds => if x.replayRank (c - x.hbase) ≤ x.replayRank (d - x.hbase) then c :: d :: ds else d :: placeUnit x c ds

/-- The slots of a strand's hank in replay order: it ends at the write point (R551). -/
def State.hankSlots (s : State) (n : Nat) : List HSlot :=
  let x := s.strand n
  let us := (s.dataUnits x).foldl (fun l c => placeUnit x c l) []
  us.flatMap fun c => s.unitWalk x.hbase c 0 (if c = x.hbase + x.wpunit then x.wpword else unitWords) unitWords

/-- Slots joined into records: a CONT link goes with the SPLIT link before it (R553). A CONT link whose head is lost begins a record. -/
def joinLinks : List HSlot → List (List HSlot)
  | [] => []
  | a :: rest =>
    match joinLinks rest with
    | (b :: bs) :: rs => if wbit a.slot 19 && wbit b.slot 20 then (a :: b :: bs) :: rs else [a] :: (b :: bs) :: rs
    | rs => [a] :: rs

/-- The records of a strand's hank in replay order, each as its links. -/
def State.hankRecords (s : State) (n : Nat) : List (List HSlot) := joinLinks (s.hankSlots n)

end Sys2Proof.Machine
end

