-- ==== Sys2Proof/Machine/Query.lean ====
section
/-!
DEFINITION. The query engine (13_replay_and_query.md R575 to R584).
-/
namespace Sys2Proof.Machine

/-- A query ends: RESULT, QDONE, and code 0x40 where a span could not be read (R584). -/
def State.queryDone (s : State) (result : Nat) (found wrapped incomplete : Bool) : State :=
  let s := { s with qrye.go := false, qrye.result := result, qrye.found := found, qrye.wrapped := wrapped, qrye.incomplete := incomplete,
                    qrye.used := [], qrye.entered := [] }
  if incomplete then s.error .qrye 0x40 s.qrye.strand (2 ^ 1) else s.cause .qrye 1

/-- T, or T1. -/
def Qrye.t1 (q : Qrye) : Nat := q.t1lo.toNat + 2 ^ 40 * q.t1hi.toNat
/-- T2. -/
def Qrye.t2 (q : Qrye) : Nat := q.t2lo.toNat + 2 ^ 40 * q.t2hi.toNat

/-- The slots that a query's answer rests on: the one found, or those counted. -/
def State.querySlots (s : State) (l : List HSlot) : List HSlot :=
  let q := s.qrye
  if q.op = 1 then (l.find? fun a => decide (q.t1 ≤ a.ts)).toList
  else l.filter fun a => decide (q.t1 ≤ a.ts) && decide (a.ts < q.t2)

/-- A query is submitted (R578 to R580, R582). A line of the index that is being rebuilt is rebuilt first. -/
def State.query (s : State) (op : Nat) : State :=
  if !(s.hdr .qrye).ready then s
  else if s.qrye.go then State.cause { s with qrye.result := 1 } .qrye 1
  else
    let n := s.qrye.strand
    let s := { s with qrye.op := op }
    if s.sysc.mode ∉ [Mode.memory, .stream, .safe] then s.queryDone 2 false false false
    else if decide (s.strandCount ≤ n) || (s.strand n).st = .free then s.queryDone 3 false false false
    else if op = 2 && decide (s.qrye.t2 ≤ s.qrye.t1) then s.queryDone 4 false false false
    else
      let x := s.strand n
      let own (c : Nat) : Bool := decide (x.hbase ≤ c) && decide (c < x.hbase + x.hsize)
      let used := distinct ((s.querySlots (s.hankSlots n)).map fun a => x.hbase + a.h / unitWords)
      { s with qrye.go := true, qrye.used := used, qrye.entered := []
               strd.rebuild := s.strd.rebuild.filter own ++ s.strd.rebuild.filter fun c => !own c }

/-- QRYE_UNKNOWN_OP (R584): OP 0 and 3. An OP that has a command of its own leaves the state as it is here. -/
def State.regQryeUnknownOp (s : State) (op : Nat) : State :=
  if op = 1 ∨ op = 2 ∨ !(s.hdr .qrye).ready then s
  else if s.qrye.go then State.cause { s with qrye.result := 1 } .qrye 1
  else State.queryDone { s with qrye.op := op % 4 } 7 false false false

/-- QUERY_COMPLETE (R575 to R580): `skipped` lists the spans that could not be read, each as 4 x unit of the hank + span. -/
def execQueryComplete (skipped : List Nat) (s : State) : Host.Outcome State Fault Refusal :=
  let n := s.qrye.strand
  let x := s.strand n
  finish <| if !s.qrye.go || s.strd.rebuild.any (fun c => decide (c ∈ s.qrye.used)) then s
  else
    let l := (s.hankSlots n).filter fun a => a.h / 52416 ∉ skipped
    let hit := s.querySlots l
    let wrapped := x.mode ≠ 1 && s.qrye.used.any fun c => decide (c ∈ s.qrye.entered)
    let s := if s.qrye.op = 1 then
        match hit with
        | a :: _ => { s with qrye.hword := a.h, qrye.rts := a.ts, qrye.count := 0 }
        | [] => { s with qrye.hword := x.wpunit * unitWords + x.wpword, qrye.rts := 0, qrye.count := 0 }
      else { s with qrye.hword := 0, qrye.rts := 0, qrye.count := hit.length % 2 ^ 40 }
    s.queryDone 0 (s.qrye.op = 1 && !hit.isEmpty) wrapped (!skipped.isEmpty)

end Sys2Proof.Machine
end

