-- ==== Sys2Proof/Machine/Store.lean ====
section
/-!
DEFINITION. The Parameter Store: its bytes, the judging of record copies, raw commands and protection (18_parameter_store.md).
-/
namespace Sys2Proof.Machine

/-- Byte i of a copy that the controller wrote, where spec/ does not give the layout of its body (R731). -/
opaque recordByte : RecCopy → Nat → BitVec 8

/-- The body that the bytes of a copy written raw spell for a record type (R731). -/
opaque recordBody : Nat → List (BitVec 8) → Option Rec

/-- The free values the model has used are counted, so that each is a fresh one (log 8). -/
def State.fresh (s : State) (n : Nat) : List Nat × State :=
  ((List.range n).map fun i => Config.free (s.free + i), { s with free := s.free + n })

/-- The copy that a page belongs to: record type, first page, and the page's place in the copy. -/
def copyOf (page : Nat) : Option (Nat × Nat × Nat) :=
  recTypes.findSome? fun t =>
    let (a, b, n) := recPages t
    if a ≤ page ∧ page < a + n then some (t, a, page - a)
    else if b ≤ page ∧ page < b + n then some (t, b, page - b) else none

/-- The bytes of page i of a copy that the controller wrote: header fields as R731 gives them, the rest as the layout of the
body makes them. -/
def copyBytes (c : RecCopy) (i : Nat) : List (BitVec 8) :=
  let head := bytesLE 8 (pack [(16, c.typ), (8, c.minor), (8, c.major), (32, c.seq)])
  (List.range 256).map fun k =>
    if i = 0 ∧ k < 8 then BitVec.ofNat 8 (head.getD k 0)
    else if i = 0 ∧ (k = 10 ∨ k = 11) then 0 else recordByte c (256 * i + k)

/-- The 256 bytes of a store page (R718, R731). -/
def Psto.pageBytes (p : Psto) (page : Nat) : List (BitVec 8) :=
  match copyOf page with
  | some (_, first, i) =>
    match tget none p.copies first with
    | some c => copyBytes c i
    | none => tgets 0xFF p.bytes (256 * page) 256
  | none => tgets 0xFF p.bytes (256 * page) 256

/-- The bytes of a page written; a copy written by the controller that the page belongs to becomes plain bytes (R721). -/
def Psto.setPage (p : Psto) (page : Nat) (data : List (BitVec 8)) : Psto :=
  let p := match copyOf page with
    | some (t, first, _) =>
      match tget none p.copies first with
      | some c => { p with copies := tdel first p.copies,
                           bytes := tputs 0xFF p.bytes (256 * first)
                             ((List.range (recPages t).2.2).flatMap fun i => copyBytes c i) }
      | none => p
    | none => p
  { p with bytes := tputs 0xFF p.bytes (256 * page) data }

/-- Pages that R720 marks reserved: they read 0xFF and are never written. -/
def reservedPage (page : Nat) : Bool := (decide (562 ≤ page) && decide (page ≤ 735)) || decide (848 ≤ page)

/-- One step of CRC-32C. -/
def crc32cStep (crc : Nat) : Nat → Nat
  | 0 => crc
  | n + 1 => crc32cStep (if crc.testBit 0 then crc / 2 ^^^ 0x82F63B78 else crc / 2) n

/-- CRC-32C of a byte string (R731). -/
def crc32c (bs : List (BitVec 8)) : Nat :=
  bs.foldl (fun c b => crc32cStep (c ^^^ b.toNat) 8) 0xFFFFFFFF ^^^ 0xFFFFFFFF

/-- A page is being written or queued for writing (R732). -/
def Psto.inQueue (p : Psto) (page : Nat) : Bool :=
  (p.running.any fun w => w.page = page) || p.queue.any (fun w => w.page = page) || p.waiting.any (fun w => w.page = page)

/-- The copy of a record in the pages from `first` on, if it is valid (R732). -/
def Psto.copyAt (p : Psto) (t first : Nat) : Option RecCopy :=
  let n := (recPages t).2.2
  if (List.range n).any fun i => p.inQueue (first + i) then none
  else match tget none p.copies first with
    | some c => some c
    | none =>
      let bs := tgets 0xFF p.bytes (256 * first) (256 * n)
      let num (lo len : Nat) : Nat := ofBytesLE (((bs.drop lo).take len).map (·.toNat))
      let len := num 8 2
      let body := (bs.drop 16).take len
      if num 0 2 = t ∧ 16 + len ≤ 256 * n ∧ num 12 4 = crc32c (bs.take 12 ++ body) then
        some { typ := t, minor := num 2 1, major := num 3 1, seq := num 4 4, body := (recordBody t body).getD .none }
      else none

/-- What a reader of a record finds: the winner, whether it is copy B, whether the other copy is to be rewritten, and the error
code it reports, if any (R733, R736). -/
def Psto.judge (p : Psto) (t : Nat) : Option (RecCopy × Bool × Bool) × Option Nat :=
  let (a, b, _) := recPages t
  let known (c : Option RecCopy) : Option RecCopy := c.filter fun c => c.major = p.major || decide (c.major ∈ p.migrates)
  let ca := p.copyAt t a
  let cb := p.copyAt t b
  match known ca, known cb with
  | none, none => (none, some 0x41)
  | some x, none => (some (x, false, cb.isNone), none)
  | none, some y => (some (y, true, ca.isNone), none)
  | some x, some y =>
    if newer32 x.seq y.seq then (some (x, false, false), none)
    else if newer32 y.seq x.seq then (some (y, true, false), none)
    else if x.seq = y.seq ∧ x.body = y.body ∧ x.minor = y.minor ∧ x.major = y.major then (some (x, false, false), none)
    else (some (x, false, false), some 0x42)

/-- A record read: its contents come into force, and the outcome is reported (R733, R741, R742). -/
def State.readRecord (s : State) (t : Nat) : State :=
  match s.psto.judge t with
  | (none, _) =>
    (s.modRecord t fun r => { r with winner := .none, winSeq := none, winB := false, repair := false }).error .psto 0x41 t (2 ^ 2)
  | (some (c, isB, rep), e) =>
    let (a, b, _) := recPages t
    let other := s.psto.copyAt t (if isB then a else b)
    let s := s.modRecord t fun r => { r with
      winner := c.body, winSeq := some c.seq, winB := isB, repair := rep, major := c.major, old := other.any fun o => decide (o.major < c.major) }
    if e.isSome then s.error .psto 0x42 t (2 ^ 3) else s

/-- An invalid copy rewritten from the winner, with the winner's sequence number; event with code 0x44 (R736). -/
def State.repairRecord (s : State) (t : Nat) : State :=
  let r := s.record t
  if !r.repair || r.writing then s
  else
    let (a, b, n) := recPages t
    let first := if r.winB then a else b
    let c := (s.psto.copyAt t (if r.winB then b else a)).getD
      { typ := t, minor := 0, major := r.major, seq := r.winSeq.getD 1, body := r.winner }
    let s := s.modRecord t fun r => { r with repair := false }
    let s := (List.range n).foldl (fun s i =>
      s.queuePage { page := first + i, data := [], raw := false, copy := some (first, c, decide (i + 1 = n)), crit := none }) s
    s.error .psto 0x44 t (2 ^ 4)

/-- The DATA registers' 256 bytes (PSTO.DATA). -/
def Psto.dataBytes (p : Psto) : List (BitVec 8) :=
  (List.range 256).map fun i => BitVec.ofNat 8 (fld (tget 0 p.data (i / 5)) (8 * (i % 5)) 8)

/-- The DATA registers filled from a page (R727). -/
def dataWords (bs : List (BitVec 8)) : Tbl Word :=
  (List.range 52).foldl (fun t k =>
    tput 0 t k (BitVec.ofNat 40 (ofBytesLE (((bs.drop (5 * k)).take 5).map (·.toNat))))) []

/-- A raw command that ends at once: RESULT and cause WDONE (R741). -/
def State.rawDone (s : State) (op page result : Nat) : State :=
  { s with psto.op := op, psto.page := page, psto.result := result, psto.go := false }.cause .psto 1

/-- A raw command is taken: the block is ready and GO reads 0; else the write is discarded whole (R728). -/
def State.rawOk (s : State) : Bool := (s.hdr .psto).ready && !s.psto.go

/-- PSTO_READ (R721, R724, R727). -/
def State.regPstoRead (s : State) (v : Word) : State :=
  let page := fld v 7 10
  if !s.rawOk then s
  else if s.psto.recalling.isSome then s.rawDone 1 page 1
  else if s.psto.running.any fun w => w.page = page then s.rawDone 1 page 2
  else { s with psto.data := dataWords (s.psto.pageBytes page) }.rawDone 1 page 0

/-- The pages that a protection level refuses to raw writes (R722). -/
def protectedPage (level page : Nat) : Bool :=
  if level = 3 then true else if level = 2 then decide (512 ≤ page) else decide (768 ≤ page)

/-- PSTO_WRITE (R721, R722, R724, R728). -/
def State.regPstoWrite (s : State) (v : Word) : State :=
  let page := fld v 7 10
  if !s.rawOk then s
  else if s.psto.recalling.isSome then s.rawDone 2 page 1
  else if protectedPage (fld s.psto.prot 0 2) page then
    { s with psto.op := 2, psto.page := page, psto.result := 3 }.error .psto 0x40 page (2 ^ 1)
  else
    let w : PageWrite := { page := page, data := s.psto.dataBytes, raw := true, copy := none, crit := none }
    { s with psto := { s.psto with op := 2, page := page, go := true, queue := s.psto.queue ++ [w] }.pump }

/-- PSTO_INVALID_OP (R728): OP 0 or 3 completes with RESULT 4. -/
def State.regPstoInvalidOp (s : State) (v : Word) : State :=
  if !s.rawOk then s else if s.psto.recalling.isSome then s.rawDone (fld v 0 2) (fld v 7 10) 1
    else s.rawDone (fld v 0 2) (fld v 7 10) 4

/-- PROTECTION_WRITE (R723). -/
def State.regProtectionWrite (s : State) (v : Word) : State :=
  let level := max 1 (fld v 0 2)
  if !(s.hdr .psto).ready then s
  else if fld s.psto.prot 0 2 ≤ level ∨ s.sysc.mode = .service then { s with psto.prot := BitVec.ofNat 40 level }
  else s.error .psto 0x43 0

/-- RECORD_DEFER_EXPIRED (R735). -/
def execRecordDeferExpired (typ : Nat) (s : State) : Host.Outcome State Fault Refusal :=
  let r := s.record typ
  finish <| if r.deferred.isNone then s
  else
    let s := s.modRecord typ fun r => { r with deferred := none, hostAt := some s.now }
    if r.writing then s.modRecord typ fun r => { r with again := true } else s.startRecord typ

/-- A SAVE bit of the block that owns a record reads 0 once its contents are stored (R735). -/
def State.clearSave (s : State) (t : Nat) : State :=
  match t with
  | 1 => { s with pseq.save := false }
  | 2 => { s with thrm.save := false }
  | 6 => { s with evtr.save := false }
  | _ => s

/-- The last page of a record copy is programmed: it is the winner now; a merged request is written next (R734, R735). -/
def State.recordDone (s : State) (first : Nat) (c : RecCopy) : State :=
  let t := c.typ
  let r := s.record t
  if !r.writing then s
  else
    let (a, b, _) := recPages t
    let other := s.psto.copyAt t (if first = b then a else b)
    let s := s.modRecord t fun r => { r with
      writing := false, winSeq := some c.seq, winB := decide (first = b), major := c.major, old := other.any fun o => decide (o.major < c.major) }
    -- SRAM.FAULT.STORED (05_near_cache.md)
    let f := s.sram.fault
    let s := match c.body with
      | .soft es => if (fld f 0 12, fld f 12 12, fld f 24 10) ∈ es then { s with sram.fault := setFld f 34 1 1 } else s
      | _ => s
    if r.again then s.startRecord t else if r.deferred.isNone then s.clearSave t else s

/-- The bytes that a page write programs (R728, R731). -/
def PageWrite.bytes (w : PageWrite) : List (BitVec 8) :=
  match w.copy with
  | some (first, c, _) => copyBytes c (w.page - first)
  | none => w.data

/-- The page write that ran completes: its bytes stand, the next one starts (R725, R726, R728, R730). With its last page the whole copy stands. -/
def State.pageDone (s : State) (w : PageWrite) : State :=
  let p := { s.psto with running := none, wcount := wrapInc 40 s.psto.wcount }
  let p := match w.copy with
    | some (first, c, true) => { p with copies := tins first (some c) p.copies }
    | _ => if reservedPage w.page then p else p.setPage w.page w.bytes
  let s := { s with psto := p.pump }
  let s := match w.crit with | some q => { s with evtr.critHigh := some q } | none => s
  let s := if w.raw then s.rawDone s.psto.op s.psto.page 0 else s
  match w.copy with
  | some (first, c, true) => s.recordDone first c
  | _ => s

end Sys2Proof.Machine
end

