-- ==== Sys2Proof/Machine/Domain.lean ====
section
/-!
DEFINITION. What every start does to the state: the fields that take their reset values, and those that the always-on domain, the
media and the warm record keep (03_registers_and_hallmark.md R109, 01_architecture.md R21, 02_modes_and_starts.md R85 step 7).
-/
namespace Sys2Proof.Machine

/-- The recorder at a start: the always-on ring, the sequence, the critical copies and the long log stay; the rate classes are those of the
recorder record (17_event_recorder.md R701 to R706, R877). -/
def Evtr.atStart (e : Evtr) (r : Rec) : Evtr :=
  let (rates, rcmap) := match r with | .recorder _ rates rcmap => (rates, rcmap) | _ => ([], [])
  { Evtr.reset with
    next := e.next
    reserve := e.reserve
    rates := rates
    rcmap := rcmap
    aonRing := e.aonRing
    aonCount := e.aonCount
    aonCopied := if e.mainRun then e.aonCount else e.aonCopied
    log := e.log
    logCount := e.logCount
    critPage := e.critPage
    critHigh := e.critHigh }

/-- The mailbox block at a start: the label storage area and the Dirty Shutdown Count lie in media (log 6). -/
def Mbox.atStart (m : Mbox) : Mbox := { Mbox.reset with lsa := m.lsa, dirtyShut := m.dirtyShut }

/-- Translation at a start. The band table has a copy in the metadata reserve (07_translation.md R308), the host data size in force
outlives the start (R346); in a warm start the maps in the DRAM tier stay (02_modes_and_starts.md R92). -/
def Ftlm.atStart (f : Ftlm) (warm : Bool) : Ftlm :=
  let base : Ftlm := { Ftlm.reset with
    bands := f.bands, hdrMib := f.hdrMib, seq := f.seq, closeSeq := f.closeSeq, rotation := f.rotation }
  if warm then
    { base with
      fine := f.fine
      coarse := f.coarse
      width := f.width
      profile := f.profile
      exported := f.exported
      gc := f.gc
      gcOnly := f.gcOnly
      landLow := f.landLow
      changedFine := f.changedFine
      changedCoarse := f.changedCoarse }
  else base

/-- The media clusters at a start: discovery begins anew; in a warm start the dies in service and the patina table stay until C6
(08_media_reliability.md R362, 09_media_bus.md R398). A cluster that was lost stays lost (R374). -/
def Clus.atStart (c : Clus) (warm : Bool) : Clus :=
  { Clus.reset with
    mclu := (c.mclu.filter fun e => e.2.lost).map fun e => (e.1, { Mclu.reset with lost := true })
    dies := if warm then c.dies.map fun e => (e.1, { Die.reset with found := e.2.found, insvc := e.2.insvc, retired := e.2.retired,
                                                                    sparesUsed := e.2.sparesUsed }) else []
    patina := if warm then c.patina else [] }

/-- Memory protection at a start: keys on the die and the ranges are read again from their records; a warm start keeps the counter tree
(14_memory_protection.md R627, R629). -/
def Mprt.atStart (m : Mprt) (warm : Bool) : Mprt :=
  if warm then
    { Mprt.reset with
      epoch := m.epoch
      devslot := m.devslot
      slots := m.slots
      ranges := m.ranges
      majhw := m.majhw
      nodehw := m.nodehw
      pages := m.pages
      rebuilt := m.rebuilt
      nodes := m.nodes
      rekey := m.rekey
      rekeyPct := m.rekeyPct
      rekeyQueue := m.rekeyQueue }
  else { Mprt.reset with epoch := m.epoch, devslot := m.devslot, slots := m.slots, ranges := m.ranges }

/-- SYSC's persistence part at a start. -/
def Pers.atStart (p : Pers) (warm : Bool) : Pers :=
  { Pers.reset with
    cutAt := p.cutAt
    cutCohort := p.cutCohort
    programmed := p.programmed
    rotation := p.rotation
    mapGen := if warm then p.mapGen else 0
    mapCheck := if warm then p.mapCheck else 0
    patinaCheck := if warm then p.patinaCheck else 0
    dramKept := warm && p.dramKept }

/-- The cohort time base at a start: the time goes on (20_cohort_and_time.md R785), the registers take their reset values (R109, R797). -/
def Coht.atStart (c : Coht) : Coht := { Coht.reset with phase := c.phase, running := c.running }

/-- Every domain but the always-on one takes its reset state (03_registers_and_hallmark.md R109, R867). -/
def State.domainReset (s : State) (warm : Bool) : State :=
  let s : State := { s with
    sysc := { Sysc.reset with mode := s.sysc.mode, prev := s.sysc.prev, perst := s.sysc.perst }
    rest := .reset
    hall := { Hall.reset with hdrs := s.hall.hdrs.filterMap fun e =>
      if e.1 = Block.pseq.page || e.1 = Block.psto.page then some (e.1, { Hdr.reset with ready := e.2.ready }) else none }
    cxlp := { Cxlp.reset with poisonList := s.cxlp.poisonList, poisonOver := s.cxlp.poisonOver }
    mbox := s.mbox.atStart
    ncch := .reset
    sram := { Sram.reset with soft := s.sram.soft, retire := s.sram.retire }
    drmc := []
    tier := if warm then s.tier else .reset
    ftlm := s.ftlm.atStart warm
    clus := s.clus.atStart warm
    plan := .reset
    pers := s.pers.atStart warm
    ilkn := .reset
    kspe := .reset
    ingp := []
    strd := { Strd.reset with idx := if warm then s.strd.idx else [] }
    rple := .reset
    qrye := .reset
    mprt := s.mprt.atStart warm
    thrm := .reset
    evtr := s.evtr.atStart (s.record 6).winner
    psto := { s.psto with prot := 2, op := 0, go := false, result := 0, page := 0, data := [], wcount := 0 }
    pseq := { s.pseq with save := false, sel := 0, tsel := 0, cap.dt := 0, cap.dv := 0, cap.outcome := 0, cap.requested := false }
    boot := { Boot.reset with flash := s.boot.flash, img := s.boot.img, digest := s.boot.digest, trialDue := s.boot.trialDue, voided := s.boot.voided }
    idnt := .reset
    coht := s.coht.atStart
    -- a rewrite not begun is scheduled again by the next read that calls for one (log 92)
    media.blocks := s.media.blocks.map fun (e : Nat × Blk) => (e.1, { e.2 with rewrite := false }) }
  { s with hall.view := s.hallView }

/-- STAT.READY rises in blocks (R867). -/
def State.readyBlocks (s : State) (bs : List Block) : State :=
  (bs.filter (· ∈ s.blocks)).foldl (fun s b => s.modHdr b fun h => { h with ready := true }) s

end Sys2Proof.Machine
end

