-- ==== Sys2Proof/Machine/Ingest.lean ====
section
/-!
DEFINITION. The stream port's link, version negotiation, data segments and control frames (11_ingest_port.md).
-/
namespace Sys2Proof.Machine

/-! ### Link-up -/

/-- The modes in which the controller brings the link up (R455). -/
def Mode.links : Mode → Bool | .memory => true | .stream => true | .rest => true | .safe => true | _ => false

/-- The lane group: the lowest-numbered group of healthy lanes at the greatest width, as group index and width (R457). -/
def laneGroup (lanes healthy : Nat) : Option (Nat × Nat) :=
  [16, 8, 4, 2, 1].findSome? fun w =>
    if lanes < w then none
    else ((List.range (lanes / w)).find? fun k => (List.range w).all fun i => healthy.testBit (w * k + i)).map fun k => (k, w)

/-- A VERSION frame goes out with the controller's member number (R476, R480; 20_cohort_and_time.md R799). -/
def State.sendVersion (s : State) (lo hi : Nat) : State :=
  s.sendControl (.versionFrame lo hi (fld s.coht.member 0 16) (wbit s.coht.member 16))

/-- L4: the link is up and negotiation begins (R456, R476, R484). Lanes left out of the bundle since the last one are lost units
(01_architecture.md R45). -/
def State.linkIsUp (s : State) : State :=
  let lanes := s.fuse.part.lanes
  let w := s.ilkn.width
  let had := if s.ilkn.kept = 0 then lanes else s.ilkn.kept
  let s := { s with ilkn.up := true, ilkn.step := 4, ilkn.kept := w
                    kspe.vstate := 1, kspe.agreed := 0, kspe.vmin := fld s.kspe.version 0 8, kspe.vmax := fld s.kspe.version 8 8 }
  let s := s.hallSync.cause .ilkn 1
  let s := if w < had then s.retirement .ilkn else s
  let s := if w < lanes then s.error .ilkn 0x40 (if s.ilkn.group = 0 then w else 0) (2 ^ 3) else s
  s.sendVersion s.kspe.vmin s.kspe.vmax

/-- ILKN_LINKUP_STEP (R454 to R457): the lanes with word lock and those that the sender reports healthy. -/
def execIlknLinkupStep (rx peer : Nat) (s : State) : Host.Outcome State Fault Refusal :=
  let mask := 2 ^ s.fuse.part.lanes
  finish <| if !s.sysc.mode.links || !(s.hdr .ilkn).ready || s.ilkn.up || s.ilkn.waitRestart then s
  else match s.ilkn.step with
    | 0 => { s with ilkn.step := 1, ilkn.rate := min 4 (fld s.ilkn.lanecfg 0 3) }
    | 1 => { s with ilkn.step := 2, ilkn.rxok := rx % mask, ilkn.peerok := peer % mask }
    | 2 =>
      let s := { s with ilkn.rxok := rx % mask, ilkn.peerok := peer % mask }
      match laneGroup s.fuse.part.lanes (s.ilkn.rxok &&& s.ilkn.peerok) with
      | some (k, w) => { s with ilkn.step := 3, ilkn.group := k, ilkn.width := w }
      | none => s
    | _ => s.linkIsUp

/-- ILKN_LINKUP_TIMEOUT (R456). -/
def execIlknLinkupTimeout (s : State) : Host.Outcome State Fault Refusal :=
  finish <| if !s.sysc.mode.links || s.ilkn.up then s
  else { s with ilkn.waitRestart := true, ilkn.step := 0, ilkn.group := 0, ilkn.width := 0 }

/-- ILKN_RESTART_DELAY (R456). -/
def execIlknRestartDelay (s : State) : Host.Outcome State Fault Refusal := finish { s with ilkn.waitRestart := false }

/-- The link goes down: no version is agreed, and link-up starts again at L1 (R455, R460). -/
def State.linkIsDown (s : State) : State :=
  State.hallSync { s with ilkn.up := false, ilkn.step := 0, ilkn.group := 0, ilkn.width := 0, kspe.vstate := 0, kspe.agreed := 0 }

/-- ILKN_ALIGNMENT_LOSS (R460, R484): a lane of the group. -/
def execIlknAlignmentLoss (lane : Nat) (s : State) : Host.Outcome State Fault Refusal :=
  let base := s.ilkn.group * s.ilkn.width
  finish <| if !s.ilkn.up || decide (lane < base) || decide (base + s.ilkn.width ≤ lane) then s
  else State.error { s.linkIsDown with ilkn.rxok := clrBits s.ilkn.rxok (2 ^ lane) } .ilkn 0x41 lane (2 ^ 2)

/-! ### Flow control -/

/-- Every data channel is in XOFF (R461): QUENCH, REST, a throttle or cap period, or no agreed version. -/
def State.allXoff (s : State) : Bool :=
  s.sysc.mode = .quench || s.sysc.mode = .rest || s.thrm.dutyHold || s.kspe.agreed = 0

/-- The calendar entry that the controller sends for a channel is XOFF (R461, R462). A throttle or cap period never holds channel 0
(16_thermal.md R689). -/
def State.calendarXoff (s : State) (c : Nat) : Bool :=
  if c = 0 then s.sysc.mode = .quench || s.sysc.mode = .rest
  else s.allXoff || decide (c % 4 ∈ s.kspe.heldPipes) || wbit s.kspe.fcctl (8 + c % 4)

/-! ### Segment checks -/

/-- One bit of the header check (R470). -/
def hcrcStep (v crc i : Nat) : Nat :=
  let fb := v.testBit i ^^ crc.testBit 15
  let c := crc * 2 % 2 ^ 16
  if fb then c ^^^ 0x1021 else c

/-- The header check value of two header words (R470). -/
def hcrc (w0 w1 : Word) : Nat := (List.range 64).foldl (hcrcStep (w0.toNat + w1.toNat % 2 ^ 24 * 2 ^ 40)) 0xFFFF

end Sys2Proof.Machine

namespace Sys2Proof

/-- Header word k of a segment. -/
def Segment.head (g : Segment) (k : Nat) : Word := g.words.getD k 0
/-- STRAND. -/
def Segment.strand (g : Segment) : Nat := Machine.fld (g.head 0) 0 18
/-- SEQ. -/
def Segment.seq (g : Segment) : Nat := Machine.fld (g.head 0) 18 16
/-- TYPE. -/
def Segment.typ (g : Segment) : Nat := Machine.fld (g.head 0) 38 2
/-- COP. -/
def Segment.cop (g : Segment) : Nat := Machine.fld (g.head 1) 8 8
/-- The body words. -/
def Segment.body (g : Segment) : List Word := g.words.drop 2
/-- The number that two body words hold, 40 bits and more (R480). -/
def Segment.wide (g : Segment) (n : Nat) : Nat := Machine.fld (g.body.getD 0 0) 0 40 + 2 ^ 40 * Machine.fld (g.body.getD 1 0) 0 n

end Sys2Proof

namespace Sys2Proof.Machine

/-- The header words are there and, under version 2, their check value is right (R469, R470, R479). -/
def State.headerOk (s : State) (g : Segment) : Bool :=
  decide (2 ≤ g.words.length) && (s.kspe.agreed ≠ 2 || hcrc (g.head 0) (g.head 1) = fld (g.head 1) 24 16)

/-- TYPE is one the port takes now: data only under an agreed version (R473, R478). -/
def State.typeOk (s : State) (g : Segment) : Bool := g.typ = 1 || (g.typ = 0 && s.kspe.agreed ≠ 0)

/-- The range check (R473, R479). -/
def State.rangeOk (s : State) (g : Segment) : Bool :=
  decide (g.strand < s.strandCount) && (s.kspe.agreed ≠ 1 || decide (g.strand < 65536)) &&
  (if g.typ = 1 then g.chan = 0 else decide (1 ≤ g.chan) && g.strand % 4 = g.chan % 4)

/-- The first of the checks that fails, before those of the strand, as its counter's number: 7 LINKERR, 0 HCRC, 2 TYPE, 1 LENGTH, 3
RANGE (R473). -/
def State.failedCheck (s : State) (g : Segment) : Option Nat :=
  if !g.intact then some 7
  else if g.words.length < 2 then some 1
  else if !s.headerOk g then some 0
  else if !s.typeOk g then some 2
  else if g.bytes ≠ 5 * (3 + fld (g.head 1) 0 8) ∨ g.words.length ≠ 3 + fld (g.head 1) 0 8 then some 1
  else if !s.rangeOk g then some 3
  else none

/-- The strand of a segment takes segments now (R473). -/
def State.armedFor (s : State) (n : Nat) : Bool := s.sysc.mode = .stream && (s.strand n).live

/-- A sequence gap of a strand: its open record is truncated, what is left of it will be discarded, and SEQ + 1 is expected next
(R473). -/
def State.gap (s : State) (n seq : Nat) : State :=
  (s.endRecord n { trunc := true }).modStrand n fun x =>
    { x with opened := false, resume := false, discard := false, seqany := false, expseq := (seq + 1) % 2 ^ 16 }

/-- A segment that fails a check is discarded and counted; where its header shows its strand, that strand has a gap (R473, R486). -/
def State.discardSegment (s : State) (g : Segment) (key : Nat) : State :=
  if key = 0 then State.error { s with kspe.disc := tmod 0 s.kspe.disc 0 (satInc 20) } .kspe 0x41 g.chan (2 ^ 3)
  else
    let charged := (key = 7 || key = 1) && s.headerOk g && g.typ = 0 && s.typeOk g && s.rangeOk g && s.armedFor g.strand
    let s := s.countDiscard key
    if charged then s.gap g.strand g.seq else s

/-- Framing errors seen with a segment are counted (R484). -/
def State.framingErrors (s : State) (g : Segment) : State :=
  if g.crc24 = 0 ∧ g.crc32 = 0 then s
  else State.cause { s with ilkn.crc24 := satN 20 (s.ilkn.crc24 + g.crc24), ilkn.crc32 := satN 20 (s.ilkn.crc32 + g.crc32) } .ilkn 4

/-! ### Data segments -/

/-- A segment that passes every check is staged (R472 to R475, R530, R531). -/
def State.acceptData (s : State) (g : Segment) : State :=
  let n := g.strand
  let first := wbit (g.head 0) 34
  let last := wbit (g.head 0) 35
  let t := wbit (g.head 0) 36 && s.kspe.agreed = 2
  let s := s.modStrand n fun x => { x with seqany := false, expseq := (g.seq + 1) % 2 ^ 16 }
  let s := { s with kspe.segs := wrapInc 40 s.kspe.segs }
  let ts := s.stamp
  if !t then s.takeSegment n first last ts g.body
  else if first then ((s.endRecord n { trunc := true }).trigger [n] 0 ts false).takeSegment n true last ts g.body
  else (s.trigger [n] 0 ts true).takeSegment n false last ts g.body

/-- The checks of R473 that concern the strand, and the segment's effect. -/
def State.strandChecks (s : State) (g : Segment) : State :=
  let n := g.strand
  let first := wbit (g.head 0) 34
  let x := s.strand n
  if !s.armedFor n then s.countDiscard 4
  else if !x.seqany && x.expseq ≠ g.seq then
    if first then
      -- the gap is counted; the segment is accepted and nothing is discarded of it
      (State.gap { s with kspe.disc := tmod 0 s.kspe.disc 5 (satInc 20) } n g.seq).acceptData g
    else (s.countDiscard 5).gap n g.seq
  else if !first && !x.opened && !x.discard then
    (s.countDiscard 5).modStrand n fun x => if x.seqany then x else { x with expseq := (g.seq + 1) % 2 ^ 16 }
  else s.acceptData g

/-- DATA_SEGMENT (R473): a packet that is no control frame. -/
def execDataSegment (seg : Segment) (s : State) : Host.Outcome State Fault Refusal :=
  finish <| if !s.ilkn.up || (decide (2 ≤ seg.words.length) && seg.typ = 1) then s
  else
    let s := s.framingErrors seg
    match s.failedCheck seg with
    | some k => s.discardSegment seg k
    | none => s.strandChecks seg

/-! ### Control frames -/

/-- A received control frame: the checks of R473, then its effect. -/
def State.control (s : State) (g : Segment) (mine : Bool) (f : State → State) : State :=
  if !s.ilkn.up || decide (g.words.length < 2) || g.typ ≠ 1 || !mine then s
  else
    let s := s.framingErrors g
    match s.failedCheck g with
    | some k => s.discardSegment g k
    | none => f s

/-- The STATUS that answers a frame (R481). -/
def State.answer (s : State) (g : Segment) (result : Nat) : State := s.sendControl (.status g.cop g.seq result)

/-- A frame with a STATUS: its body length, the bit of KSPE.CTRL that enables it, then its effect (R481, R482, R485). -/
def State.answered (s : State) (g : Segment) (len bit : Nat) (f : State → State × Option Nat) : State :=
  if g.body.length ≠ len then s.answer g 4
  else if !wbit s.kspe.ctrl bit then s.answer g 5
  else
    let (t, r) := f (s.cause .kspe 5)
    match r with
    | some r => t.answer g r
    | none => t

/-- A VERSION frame's range judged before agreement (R476, R478). -/
def State.negotiate (s : State) (lo hi : Nat) : State :=
  let a := max lo s.kspe.vmin
  let b := min hi s.kspe.vmax
  if a ≤ b then
    let s := { s with kspe.agreed := b, kspe.vstate := 2, ilkn.step := 6 }
    (s.sendVersion b b).cause .kspe 1
  else if s.kspe.vstate = 3 then s
  else State.error { s with kspe.vstate := 3 } .kspe 0x40 0 (2 ^ 2)

/-- Both member numbers are assigned and equal (20_cohort_and_time.md R799). -/
def Coht.duplicate (c : Coht) : Bool := wbit c.member 16 && c.peerValid && fld c.member 0 16 = c.peer

/-- VERSION (R476 to R478; 20_cohort_and_time.md R799). -/
def execVersion (seg : Segment) (s : State) : Host.Outcome State Fault Refusal :=
  finish <| s.control seg (seg.cop = 1) fun s =>
    if seg.body.length ≠ 1 then s
    else
      let w := seg.body.getD 0 0
      let s := { s with coht.peer := fld w 16 16, coht.peerValid := wbit w 32 }
      let s := if s.coht.duplicate then s.error .coht 0x41 0 (2 ^ 4) else s
      if s.kspe.vstate = 1 || s.kspe.vstate = 3 then s.negotiate (fld w 0 8) (fld w 8 8) else s

/-- VERSION_FRAME_TIMER (R476, R478). -/
def execVersionFrameTimer (s : State) : Host.Outcome State Fault Refusal :=
  finish (if s.ilkn.up && (s.kspe.vstate = 1 || s.kspe.vstate = 3) then s.sendVersion s.kspe.vmin s.kspe.vmax else s)

/-- TOD (R480, R481; 20_cohort_and_time.md R789). -/
def execTod (seg : Segment) (s : State) : Host.Outcome State Fault Refusal :=
  finish <| s.control seg (seg.cop = 2) fun s => s.answered seg 2 1 fun s =>
    let w := seg.body.getD 1 0
    let (t, r) := s.submitSet (fld w 24 2 + 4 * seg.wide 24) (wbit w 26) (some seg.strand)
    (if r.isNone then { t with kspe.todWait := some { seq := seg.seq, strand := seg.strand } } else t, r)

/-- The RESULT of a STATUS for that of a command (12_capture.md R541); a refusal captures code 0x40. -/
def State.strandAnswer (s : State) (n : Nat) (r : State × Option Nat) : State × Option Nat :=
  match r with
  | (t, some 0) => (t, some 0)
  | _ => (s.error .strd 0x40 n 0, some 2)

/-- What an ARM frame does (R480, R481; 12_capture.md R525, R541). -/
def State.armFrame (s : State) (seg : Segment) : State :=
  s.control seg (seg.cop = 3) fun s => s.answered seg 2 0 fun s =>
    if s.sysc.mode ≠ .stream then (s, some 1) else s.strandAnswer seg.strand (s.arm seg.strand (seg.wide 24))

/-- What a STOP frame does (R480, R481; 12_capture.md R490). -/
def State.stopFrame (s : State) (seg : Segment) : State :=
  s.control seg (seg.cop = 4) fun s => s.answered seg 1 0 fun s =>
    if s.sysc.mode ≠ .stream then (s, some 1) else s.strandAnswer seg.strand (s.stop seg.strand)

/-- TRIG (R479 to R481; 12_capture.md R530): for one strand, or for every strand that accepts broadcast. -/
def execTrig (seg : Segment) (s : State) : Host.Outcome State Fault Refusal :=
  finish <| s.control seg (seg.cop = 5) fun s =>
    if s.kspe.agreed = 1 then s.answer seg 3
    else s.answered seg 2 2 fun s =>
      if s.sysc.mode ≠ .stream then (s, some 1)
      else if wbit (seg.head 1) 16 then
        (s.trigger ((s.strd.strands.filter fun e => e.2.st ≠ .free && e.2.bcast).map (·.1)) 0 (seg.wide 40) false, some 0)
      else if (s.strand seg.strand).st = .free then (s, some 2)
      else (s.trigger [seg.strand] 0 (seg.wide 40) false, some 0)

/-- UNKNOWN_CONTROL_FRAME (R481): a COP that the controller does not take. -/
def execUnknownControlFrame (seg : Segment) (s : State) : Host.Outcome State Fault Refusal :=
  finish <| s.control seg (decide (seg.cop ∉ [1, 2, 3, 4, 5])) fun s => s.answer seg 3

end Sys2Proof.Machine
end

