-- ==== Sys2Proof/Machine/Protection.lean ====
section
/-!
DEFINITION. Range spans, rekeys and the retirement of key slots (14_memory_protection.md R591, R617 to R621, R635). The mailbox
commands on keys are in Machine/Mailbox.lean.
-/
namespace Sys2Proof.Machine

/-- The background mailbox command completes (04_host_port.md R186, MBOX.ISTAT). -/
def State.bgDone (s : State) : State := { s with mbox.bg := none, mbox.bgPct := 100 }.cause .mbox 2

/-- The units of a kind whose current copies lie in media, with their places. -/
def State.mappedUnits (s : State) (coarse : Bool) : List (Bool × Nat × Nat) :=
  (if coarse then s.ftlm.coarse else s.ftlm.fine).filterMap fun e => if mapSt e.2 = 1 then some (coarse, e.1, mapPua e.2) else none

/-- Some quarter of a unit's copy names a slot (R592, R604). -/
def State.unitNames (s : State) (k : Nat) (u : Bool × Nat × Nat) : Bool :=
  if u.1 then (List.range 64).any fun i => (s.mpage (puaBand u.2.2) (puaPage u.2.2 + i)).oob.any fun q => q.slot = k
  else ((s.mpage (puaBand u.2.2) (puaPage u.2.2)).rec_ (puaSlot u.2.2)).slot = k

/-- Content still names a slot: a memory page, or a quarter of a current copy (R620). -/
def State.slotNamed (s : State) (k : Nat) : Bool :=
  (s.mprt.pages.any fun e => e.2.slot = some k) || (s.mappedUnits false ++ s.mappedUnits true).any (s.unitNames k)

/-- A slot retired, where no range is bound to it, it is not the device slot, and no content names it (R620): its key and stored copy
are gone and it is EMPTY. -/
def State.retireSlot (s : State) (k : Nat) : State :=
  if (s.mprt.ranges.any fun e => e.2.bound && e.2.slot = k) || s.mprt.devslot = k || s.slotNamed k then s
  else (s.modSlot k fun _ => KSlot.reset).writeRecord 9

/-- A memory page belongs to the content that a rekey moves: of its range, or of the device slot; a page that holds no line of the
tier cache is moved with them. -/
def State.pageOfJob (s : State) (j : RekeyJob) (p : Nat) : Bool :=
  match s.tier.lines.find? fun e => tierPageOf e.1 = p with
  | some e => s.rangeOf e.1 = j.range
  | none => true

/-- The memory pages that a rekey re-encrypts at K2. -/
def State.jobPages (s : State) (j : RekeyJob) : List Nat :=
  (s.mprt.pages.filter fun e => e.2.slot = some j.old && s.pageOfJob j e.1).map (·.1)

/-- The units that a rekey moves at K3. -/
def State.jobUnits (s : State) (j : RekeyJob) : List (Bool × Nat × Nat) :=
  ((s.mappedUnits false ++ s.mappedUnits true).filter fun u => (s.unitRange u.1 u.2.1).map (·.1) = j.range).filter (s.unitNames j.old)

/-- K2: the pages re-encrypted under the new slot, as under R616. -/
def State.rekeyPages (s : State) (j : RekeyJob) : State :=
  (s.jobPages j).foldl (fun s p =>
    let c := s.cline p
    let m := if c.major + 1 < 2 ^ 40 then c.major + 1 else 0
    ((s.touchPage p).putCline p { c with major := m, minors := [], slot := some j.new }).noteMajor m) s

/-- K4: the near-cache lines and victims of the moved content written back (R213, R225); the node buffers, whose nodes the device slot
authenticates, are written back where that slot is left (R587, R619). -/
def State.rekeyNear (s : State) (j : RekeyJob) : State :=
  let s := s.liveSlices.foldl (fun s i => (s.cleanWays i fun w => s.rangeOf w.line = j.range).emptyVictims i) s
  if j.range.isNone then s.flushNodes else s

/-- K5 (R617, R619): REKEYING clears, the device slot changes where it was moved, the old slot may be retired, and the next rekey begins. -/
def State.rekeyEnd (s : State) (j : RekeyJob) : State :=
  let s := match j.range with
    | some r => s.modRange r fun x => { x with rekeying := false, oldslot := 0 }
    | none => { s with mprt.devslot := j.new }
  let s := (s.writeRecord 8).cause .mprt 4
  let s := { s with mprt.rekey := s.mprt.rekeyQueue.head?, mprt.rekeyQueue := s.mprt.rekeyQueue.drop 1, mprt.rekeyPct := 0 }
  let s := if j.retire then s.retireSlot j.old else s
  if j.byHost then s.bgDone else s

/-- The percentage of K2 and K3 that K2's pages make up. -/
def pctOf (done all : Nat) : Nat := if all = 0 then 100 else 100 * done / all

/-- REKEY_STEP_COMPLETE (R619). -/
def execRekeyStepComplete (s : State) : Host.Outcome State Fault Refusal :=
  finish <| match s.mprt.rekey with
  | none => s
  | some j =>
    let setStep (s : State) (n : Nat) : State := { s with mprt.rekey := some { j with step := n } }
    match j.step with
    | 1 =>
      let s := match j.range with
        | some r => s.modRange r fun x => { x with slot := j.new, oldslot := j.old, rekeying := true }
        | none => s
      setStep (s.writeRecord 8) 2
    | 2 =>
      let n := (s.jobPages j).length
      let pct := pctOf n (n + (s.jobUnits j).length)
      setStep { s.rekeyPages j with mprt.rekeyPct := pct, mbox.bgPct := if j.byHost then pct else s.mbox.bgPct } 3
    | 3 =>
      let s := s.relocate .rekey (s.jobUnits j)
      -- a unit that found no room keeps the step open
      if (s.jobUnits j).isEmpty then setStep { s with mprt.rekeyPct := 100, mbox.bgPct := if j.byHost then 100 else s.mbox.bgPct } 4 else s
    | _ => (s.rekeyNear j).rekeyEnd j

/-- RANGE_DEF_WRITE (R635, 05_near_cache.md R876): the span of the selected range, refused while it is bound; addresses that it moves
into or out of the region are applied as a change of the region. -/
def State.regRangeDefWrite (s : State) (size : Bool) (v : Word) : State :=
  let r := fld s.mprt.rsel 0 4
  let x := s.range r
  if !(s.hdr .mprt).ready then s
  else if x.bound then s.error .mprt 0x46 r
  else
    let y := if size then { x with count := fld v 0 34 } else { x with packed := wbit v 0, first := fld v 1 33 }
    let s := (s.modRange r fun _ => y).hostRecord 8
    if y = x || (x.count = 0 && y.count = 0) then s else { s with ncch.busy := withNew s.ncch.busy r }

end Sys2Proof.Machine
end

