-- ==== Sys2Proof/Machine/Replay.lean ====
section
/-!
DEFINITION. Replay: slots, their commands, prefetch, departures and gap markers (13_replay_and_query.md R545 to R574).
-/
namespace Sys2Proof.Machine

/-- The state with one replay slot changed. -/
def State.modReplay (s : State) (k : Nat) (f : Slot → Slot) : State := { s with rple.slots := tmod Slot.reset s.rple.slots k f }

/-! ### Fields of a slot's configuration -/

/-- CHAN. -/
def Slot.chan (x : Slot) : Nat := fld x.app0 18 8
/-- LOOP. -/
def Slot.loop (x : Slot) : Bool := wbit x.app0 26
/-- SKIPBAD. -/
def Slot.skipbad (x : Slot) : Bool := wbit x.app0 27
/-- TFLAG. -/
def Slot.tflag (x : Slot) : Bool := wbit x.app0 28
/-- GAPEN. -/
def Slot.gapen (x : Slot) : Bool := wbit x.app0 29
/-- OUTSTRAND. -/
def Slot.outstrand (x : Slot) : Nat := fld x.app1 0 18
/-- GAPSTRAND. -/
def Slot.gapstrand (x : Slot) : Nat := fld x.app1 18 18
/-- BUFMIB. -/
def Slot.bufmib (x : Slot) : Nat := max 4 (fld x.app2 0 12)
/-- HORIZON in 250 ps units. -/
def Slot.horizon (x : Slot) : Nat := 4000 * max 100 (fld x.app2 12 16)

/-! ### The window, due times and pages -/

/-- The record of a window that begins at a hank word. -/
def recordFrom (recs : List (List HSlot)) (h : Nat) : List HSlot := (recs.find? fun r => r.head?.any fun a => a.h = h).getD []

/-- The timestamp of a record. -/
def recTime (r : List HSlot) : Nat := (r.head?.map (·.ts)).getD 0

/-- The flags of every link of a record. -/
def recFlag (r : List HSlot) (bits : List Nat) : Bool := r.any fun a => bits.any fun i => wbit a.slot i

/-- The window of a slot: from the first record at or after FROM to the last below TO (R552). -/
def State.replayWindow (s : State) (x : Slot) : List Nat :=
  let recs := (s.hankRecords x.strand).dropWhile fun r => decide (recTime r < x.from_)
  let recs := if x.to_ = 0 then recs else (recs.reverse.dropWhile fun r => decide (x.to_ ≤ recTime r)).reverse
  recs.filterMap fun r => r.head?.map (·.h)

/-- base of R558. -/
def replayBase (x : Slot) (recs : List (List HSlot)) : Nat :=
  if x.from_ ≠ 0 then x.from_ % 2 ^ 66 else recTime (recordFrom recs (x.window.headD 0)) % 2 ^ 66

/-- A record's place in time within its pass: ts - base (R558). -/
def Slot.rel (x : Slot) (r : List HSlot) : Int := ((recTime r % 2 ^ 66 : Nat) : Int) - x.base

/-- The period of R560. -/
def Slot.period (x : Slot) (recs : List (List HSlot)) : Int := x.rel (recordFrom recs (x.window.getLastD 0)) + x.gap

/-- The due time of a record in a pass (R558, R560). -/
def Slot.due (x : Slot) (recs : List (List HSlot)) (pass : Nat) (r : List HSlot) : Int := x.start + pass * x.period recs + x.rel r

/-- The key of a hank page in a pass. -/
def replayKey (pass page : Nat) : Nat := pass * 2 ^ 32 + page

/-- The hank pages that hold words of a record. -/
def recPagesOf (r : List HSlot) : List Nat :=
  distinct (r.flatMap fun a => (List.range ((a.h + a.len - 1) / pageWords + 1 - a.h / pageWords)).map (a.h / pageWords + ·))

/-- The records that are still to be sent in the pass that runs, and, in a loop, those of the next: with the pass of each. -/
def Slot.ahead (x : Slot) (recs : List (List HSlot)) : List (Nat × List HSlot) :=
  ((x.window.drop x.next).map fun h => (x.pass, recordFrom recs h)) ++
    if x.loop then x.window.map fun h => (x.pass + 1, recordFrom recs h) else []

/-- The pages still wanted, in replay order. -/
def Slot.wanted (x : Slot) (recs : List (List HSlot)) : List Nat :=
  distinct ((x.ahead recs).flatMap fun r => (recPagesOf r.2).map (replayKey r.1))

/-- The due time of a page: of the first record that starts in it, or, where none does, of the one that runs into it (R565). -/
def Slot.pageDue (x : Slot) (recs : List (List HSlot)) (key : Nat) : Int :=
  let mine := (x.ahead recs).filter fun r => r.1 = key / 2 ^ 32
  let at_ (p : Nat × List HSlot → Bool) : Option Int := (mine.find? p).map fun r => x.due recs r.1 r.2
  match at_ fun r => r.2.any fun a => a.h / pageWords = key % 2 ^ 32 with
  | some d => d
  | none => (at_ fun r => decide (key % 2 ^ 32 ∈ recPagesOf r.2)).getD 0

/-- Every page of a record is buffered (R561, R570). -/
def Slot.buffers (x : Slot) (pass : Nat) (r : List HSlot) : Bool := (recPagesOf r).all fun p => decide (replayKey pass p ∈ x.buffered)

/-- A record has a word in lost or poisoned data (R569). -/
def State.recordLost (s : State) (x : Slot) (pass : Nat) (r : List HSlot) : Bool :=
  let c := (s.strand x.strand).hbase * unitWords
  (recPagesOf r).any (fun p => decide (replayKey pass p ∈ x.bad)) ||
    r.any fun a => (List.range a.len).any fun i => (s.hankWord (c + a.h + i)).2

/-- The page that the slot may read next: the first wanted one neither read nor buffered, within the horizon and the buffer's limit
(R565). Before the start, the horizon runs from the first record's due time. -/
def State.nextPage (s : State) (x : Slot) (recs : List (List HSlot)) : Option Nat :=
  match (x.wanted recs).find? fun k => k ∉ x.reading && k ∉ x.buffered with
  | none => none
  | some k =>
    let origin : Int := if x.st = .loading || x.startWait then x.due recs 0 (recordFrom recs (x.window.headD 0)) else s.cohort
    if x.pageDue recs k ≤ origin + x.horizon ∧ x.reading.length + x.buffered.length + 1 ≤ 64 * x.bufmib then some k else none

/-- Pages that no record still to be sent begins in are released (R566). -/
def State.releasePages (s : State) (k : Nat) : State :=
  let x := s.slot k
  let recs := s.hankRecords x.strand
  -- the pages of the record that is being sent have been read out by its segments
  let w := x.wanted recs
  s.modReplay k fun x => { x with buffered := x.buffered.filter (fun p => p ∈ w), bad := x.bad.filter fun p => p ∈ w }

/-! ### States and commands -/

/-- Pool space not assigned to a slot, in MiB (R567). -/
def State.poolFree (s : State) : Nat := s.tier.poolGib * 1024 - (s.rple.slots.map fun e => e.2.poolMib).foldl (· + ·) 0

/-- A slot enters DONE: its buffer is freed (R548, R550, R583). -/
def State.slotDone (s : State) (k : Nat) : State :=
  (s.modReplay k fun x => { x with
    st := .done, preloading := false, startWait := false, reading := [], buffered := [], bad := [], poolMib := 0, sending := false,
    late := false, stopping := false, segq := [], run := 0, runDown := false, endSent := false }).cause .rple 4

/-- A slot's preload ends, and a START that waited for it starts the slot 10 us on (R559, R565): no page may be read, and none is being
read. -/
def State.preloadSync (s : State) (k : Nat) : State :=
  let x := s.slot k
  if !x.preloading || !x.reading.isEmpty || (s.nextPage x (s.hankRecords x.strand)).isSome then s
  else
    let s := s.modReplay k fun x => { x with preloading := false, startWait := false, start := if x.startWait then s.cohort + 40000 else x.start }
    s.cause .rple 2

/-- The end of a slot command: RESULT, CMDDONE, and code 0x40 for a refusal (R583). -/
def State.rpleDone (s : State) (k op result : Nat) : State :=
  let s := s.modReplay k fun x => { x with op := op, result := result, go := false }
  if result = 0 then s.cause .rple 1 else s.error .rple 0x40 k (2 ^ 1)

/-- A slot command: the mode is checked and the command performed on the slot that SEL names (R550). -/
def State.rpleCommand (s : State) (op : Nat) (modes : Option (List Mode)) (f : Nat → Slot → State × Nat) : State :=
  let k := fld s.rple.sel 0 6
  if !(s.hdr .rple).ready then s
  else if modes.any fun l => s.sysc.mode ∉ l then s.rpleDone k op 2
  else let (t, r) := f k (s.slot k); t.rpleDone k op r

/-- BIND performed (R545; 14_memory_protection.md R593). -/
def State.bind (s : State) (k : Nat) (x : Slot) : State × Nat :=
  let n := fld x.cfg0 0 18
  let y := s.strand n
  if x.st ≠ .unbound || decide (s.strandCount ≤ n) || !(y.st = .idle || y.st = .done) || y.releasing.isSome || s.strd.adopting = some n then (s, 3)
  else if s.hankLocked y.hbase y.hsize then (s, 4)
  else (s.modReplay k fun x => { x with st := .bound, strand := n }, 0)

/-- BIND (R545). -/
def State.regBind (s : State) : State :=
  s.rpleCommand 1 (some [.memory, .stream]) fun k x => s.bind k x

/-- CONFIG (R550, R572): in BOUND or DONE. -/
def State.regReplayConfig (s : State) : State :=
  s.rpleCommand 2 (some [.memory, .stream]) fun k x =>
    if !(x.st = .bound || x.st = .done) then (s, 3)
    else if fld x.cfg0 18 8 = 0 ∨ fld x.cfg1 0 18 = fld x.cfg1 18 18 then (s, 4)
    else (s.modReplay k fun x =>
      { x with app0 := x.cfg0, app1 := x.cfg1, app2 := x.cfg2, from_ := x.fromLo.toNat + 2 ^ 40 * x.fromHi.toNat,
               to_ := x.toLo.toNat + 2 ^ 40 * x.toHi.toNat, gap := x.loopgap.toNat }, 0)

/-- The window fixed, with base, for a slot that takes its share of the pool. -/
def State.fixWindow (s : State) (k : Nat) : State :=
  let x := s.slot k
  let w := s.replayWindow x
  let y := { x with window := w, next := 0, pass := 0, poolMib := x.bufmib }
  s.modReplay k fun _ => { y with base := replayBase y (s.hankRecords x.strand) }

/-- The slot's buffer fits in the pool (R567). -/
def State.poolHolds (s : State) (x : Slot) : Bool := decide (x.bufmib ≤ s.poolFree + x.poolMib)

/-- PRELOAD (R550, R565, R567). -/
def State.regPreload (s : State) : State :=
  s.rpleCommand 3 (some [.memory, .stream]) fun k x =>
    if x.st ≠ .bound then (s, 3)
    else if !s.poolHolds x then (s, 5)
    else (((s.fixWindow k).modReplay k fun x => { x with st := .loading, preloading := true, start := 0 }).preloadSync k, 0)

/-- START performed (R552, R556, R559, R567; 20_cohort_and_time.md R786). -/
def State.startSlot (s : State) (k : Nat) (x : Slot) : State × Nat :=
  let t := x.startLo.toNat + 2 ^ 40 * fld x.startHi 0 26
  if s.kspe.agreed = 0 then (s, 2)
  else if !(x.st = .bound || x.st = .loading || x.st = .done) then (s, 3)
  else if s.kspe.agreed = 1 && (decide (65536 ≤ x.outstrand) || decide (65536 ≤ x.gapstrand)) then (s, 4)
  else if t ≠ 0 && !s.coht.running then (s, 4)
  else if t ≠ 0 && decide (t < s.cohort + 40000) then (s, 6)
  else if !s.poolHolds x then (s, 5)
  else
    let s := (s.fixWindow k).modReplay k fun y =>
      { y with st := .waiting, seq := 0, run := 0, runDown := false, endSent := false, sent := 0, start := t, startWait := t = 0,
               preloading := t = 0, sending := false, late := false }
    if (s.slot k).window.isEmpty then (s.slotDone k, 0) else (s.preloadSync k, 0)

/-- START (R550). -/
def State.regStart (s : State) : State :=
  s.rpleCommand 4 (some [.stream]) fun k x => s.startSlot k x

/-- STOP performed: DONE once the segment in progress has been sent (R550). -/
def State.stopSlot (s : State) (k : Nat) : State :=
  let x := s.slot k
  if x.st = .unbound || x.st = .done then s
  else if s.rple.framer = some k then s.modReplay k fun x => { x with stopping := true, late := false }
  else s.slotDone k

/-- STOP (R550). -/
def State.regReplayStop (s : State) : State :=
  s.rpleCommand 5 none fun k x => if x.st = .unbound then (s, 3) else (s.stopSlot k, 0)

/-- Every slot stops (R549, 10_persistence.md R425 Q4): the framer's segment is the last. -/
def State.stopSlots (s : State) : State :=
  let s := { s with rple.framer := none }
  (s.rple.slots.filter fun e => e.2.st ≠ .unbound && e.2.st ≠ .done).foldl (fun s e => s.slotDone e.1) s

/-- UNBIND (R550). -/
def State.regUnbind (s : State) : State :=
  s.rpleCommand 6 none fun k x =>
    if x.st = .bound || x.st = .loading || x.st = .done then
      (s.modReplay k fun x => { x with
        st := .unbound, strand := 0, preloading := false, window := [], next := 0, pass := 0, reading := [], buffered := [], bad := [],
        poolMib := 0 }, 0)
    else (s, 3)

/-- RPLE_UNKNOWN_OP (R550). An OP that has a command of its own leaves the state as it is here. -/
def State.regRpleUnknownOp (s : State) (op : Nat) : State :=
  if op ∈ [1, 2, 3, 4, 5, 6] then s else s.rpleCommand (op % 16) none fun _ _ => (s, 7)

/-! ### Prefetch -/

/-- REPLAY_PAGE_READ (R565): the next page of the slot in replay order. -/
def execReplayPageRead (slot page : Nat) (s : State) : Host.Outcome State Fault Refusal :=
  let x := s.slot slot
  finish <| if !(x.preloading || x.st = .waiting || x.st = .running) then s
  else match s.nextPage x (s.hankRecords x.strand) with
    | some k => if k % 2 ^ 32 = page then s.modReplay slot fun x => { x with reading := x.reading ++ [k] } else s
    | none => s

/-- REPLAY_PAGE_BUFFERED (R565, R569): a page whose records have all been sent or skipped is released at once. -/
def execReplayPageBuffered (slot page : Nat) (ok : Bool) (s : State) : Host.Outcome State Fault Refusal :=
  let x := s.slot slot
  finish <| match x.reading.find? fun k => k % 2 ^ 32 = page with
  | none => s
  | some k =>
    let s := s.modReplay slot fun x =>
      { x with reading := without x.reading k, buffered := x.buffered ++ [k], bad := if ok then x.bad else x.bad ++ [k] }
    (s.releasePages slot).preloadSync slot

/-! ### Departures -/

/-- Segments may leave now: the link is up and a version is agreed (R550, R573). -/
def State.replayLink (s : State) : Bool := s.ilkn.up && s.kspe.agreed ≠ 0

/-- A segment leaves on a slot's channel under the slot's next SEQ; the header's check value is part of it (R555, R469, R470). -/
def State.sendSegment (s : State) (k strand : Nat) (body : List Word) (first last trig : Bool) : State :=
  let x := s.slot k
  let w0 := packW [(18, strand), (16, x.seq), (1, b2n first), (1, b2n last), (1, b2n trig)]
  let low := packW [(8, body.length - 1)]
  let w1 := if s.kspe.agreed = 1 then low else setFld low 24 16 (hcrc w0 low)
  (s.modReplay k fun x => { x with seq := wrapInc 16 x.seq }).send (.segment x.chan (w0 :: w1 :: body))

/-- A gap marker (R571, R572). -/
def State.sendMarker (s : State) (k : Nat) (isEnd : Bool) (ts skipped : Nat) : State :=
  let x := s.slot k
  s.sendSegment k x.gapstrand
    [BitVec.ofNat 40 ts, BitVec.ofNat 40 (ts / 2 ^ 40), packW [(1, b2n isEnd), (39, if isEnd then skipped else 0)]] true true false

/-- Words cut into segment bodies of 256. -/
def cutBodies (ws : List Word) : Nat → List (List Word)
  | 0 => []
  | n + 1 => if ws.isEmpty then [] else ws.take 256 :: cutBodies (ws.drop 256) n

/-- The segments of a record: body, S, E, T (R553, R555). -/
def State.recordSegments (s : State) (x : Slot) (r : List HSlot) : List (List Word × Bool × Bool × Bool) :=
  let c := (s.strand x.strand).hbase * unitWords
  let bodies := r.flatMap fun a => cutBodies ((List.range (a.len - 3)).map fun i => (s.hankWord (c + a.h + 3 + i)).1) a.len
  let bodies := if bodies.isEmpty then [[0]] else bodies
  let t := x.tflag && s.kspe.agreed = 2 && recFlag r [18]
  bodies.zipIdx.map fun b => (b.1, b.2 = 0, b.2 + 1 = bodies.length, t)

/-- The first waiting segment of a slot goes to the framer. -/
def State.frameSegment (s : State) (k : Nat) : State :=
  let x := s.slot k
  match x.segq with
  | [] => s
  | (body, first, last, t) :: rest =>
    let s := s.sendSegment k x.outstrand body first last t
    { s.modReplay k fun x => { x with segq := rest } with rple.framer := some k }

/-- The slot goes on to the next record of its window, to the next pass, or, when nothing of it is in the framer, to DONE (R548, R560). -/
def State.advanceSlot (s : State) (k : Nat) : State :=
  let s := s.modReplay k fun x =>
    if x.next + 1 < x.window.length ∨ !x.loop then { x with next := x.next + 1 } else { x with next := 0, pass := x.pass + 1 }
  let s := s.releasePages k
  let x := s.slot k
  if x.window.length ≤ x.next && !x.sending then s.slotDone k else s

/-- The record that is due leaves: the end marker of a run first, then its segments (R561, R563, R571, R573). -/
def State.depart (s : State) (k : Nat) (r : List HSlot) (due : Int) (late : Bool) : State :=
  let x := s.slot k
  let s := if x.run ≠ 0 && x.gapen && !x.endSent then s.sendMarker k true (recTime r) x.run else s
  let segs := s.recordSegments x r
  let ns := (((s.cohort : Int) - due).toNat) / 4
  let s := s.modReplay k fun x => { x with
    run := 0, runDown := false, endSent := false, late := false, sending := true, segq := segs,
    lateCnt := if late then satInc 20 x.lateCnt else x.lateCnt, lateMax := if late then satN 20 (max x.lateMax ns) else x.lateMax }
  (s.frameSegment k).advanceSlot k

/-- A record is skipped (R570, R571, R573, R574). -/
def State.skipRecord (s : State) (k : Nat) (r : List HSlot) : State :=
  let x := s.slot k
  let down := !s.replayLink
  -- an end marker, or the loss of the link, has ended the run before
  let fresh := x.run = 0 || x.endSent || (down && !x.runDown)
  let s := s.modReplay k fun x =>
    { x with skipUnder := satInc 20 x.skipUnder, run := if fresh then 1 else x.run + 1, endSent := false,
             runDown := if fresh then down else x.runDown }
  let s := if fresh then (if x.gapen && !down then s.sendMarker k false (recTime r) 0 else s).error .rple 0x41 k (2 ^ 3) else s
  s.advanceSlot k

/-- The record that a slot sends next. -/
def State.nextRecord (s : State) (x : Slot) : Option (List HSlot) :=
  if x.window.length ≤ x.next then none else some (recordFrom (s.hankRecords x.strand) (x.window.getD x.next 0))

/-- 16 core cycles in 250 ps units, rounded up (16_thermal.md R690). -/
def State.cycles16 (s : State) : Nat := match s.thrm.clock with | 0 => 22 | 1 => 27 | _ => 36

/-- A core cycle in 250 ps units, rounded up: the tolerance of a departure (R561; 16_thermal.md R690). -/
def State.coreCycle (s : State) : Nat := (s.cycles16 + 15) / 16

/-- RECORD_DUE (R554, R561, R563, R570): the record leaves, waits for the framer or for XON, or is skipped. One that an earlier
record of its slot kept back leaves late. -/
def execRecordDue (slot : Nat) (s : State) : Host.Outcome State Fault Refusal :=
  let x := s.slot slot
  finish <| if !(x.st = .waiting || x.st = .running) || x.startWait || x.late || x.stopping then s
  else match s.nextRecord x with
    | none => s
    | some r =>
      let due := x.due (s.hankRecords x.strand) x.pass r
      if (s.cohort : Int) < due then s
      else
        let s := s.modReplay slot fun x => { x with st := .running }
        if x.skipbad && recFlag r [21, 22, 23, 25] then (s.modReplay slot fun x => { x with skipBad := satInc 20 x.skipBad }).advanceSlot slot
        else if !s.replayLink || !x.buffers x.pass r || s.recordLost x x.pass r then s.skipRecord slot r
        else if s.rple.framer.isSome || x.sending || decide (x.chan ∈ s.kspe.peerXoff) then s.modReplay slot fun x => { x with late := true }
        else s.depart slot r due (decide (due + s.coreCycle < s.cohort))

/-- The slot that waits with the record due first, of those that the sender lets send. -/
def State.lateSlot (s : State) : Option Nat :=
  (s.rple.slots.foldl (fun m e =>
    if e.2.late && !e.2.sending && e.2.chan ∉ s.kspe.peerXoff then
      match s.nextRecord e.2 with
      | none => m
      | some r =>
        let d := e.2.due (s.hankRecords e.2.strand) e.2.pass r
        match m with | some (d', _) => if d < d' then some (d, e.1) else m | none => some (d, e.1)
    else m) (none : Option (Int × Nat))).map (·.2)

/-- A free framer takes the next segment: of a record begun, before a record that waits (R557, R563). -/
def State.framerNext (s : State) (last : Option Nat) : State :=
  if s.rple.framer.isSome || !s.replayLink then s
  else
    let ready (k : Nat) : Bool := let x := s.slot k; !x.segq.isEmpty && x.chan ∉ s.kspe.peerXoff
    match (last.filter ready).or ((s.rple.slots.map (·.1)).find? ready) with
    | some k => s.frameSegment k
    | none =>
      match s.lateSlot with
      | none => s
      | some k =>
        let x := s.slot k
        match s.nextRecord x with
        | none => s
        | some r => s.depart k r (x.due (s.hankRecords x.strand) x.pass r) true

/-- SEGMENT_SENT (R550, R557, R563): the slot's next segment, or another slot's, may leave. -/
def execSegmentSent (slot : Nat) (s : State) : Host.Outcome State Fault Refusal :=
  finish <| if s.rple.framer ≠ some slot then s
  else
    let s := { s with rple.framer := none }
    let x := s.slot slot
    let s := if x.stopping then s.slotDone slot
      else if x.segq.isEmpty || !s.replayLink then
        -- a record cut by the loss of the link is not counted as sent
        let s := s.modReplay slot fun y => { y with sending := false, segq := [], sent := if x.segq.isEmpty then wrapInc 40 y.sent else y.sent }
        if x.window.length ≤ x.next then s.slotDone slot else s
      else s
    s.framerNext (some slot)

/-- GAP_MARKER_END (R571): 16 core cycles before the first record that can be sent after a run. -/
def execGapMarkerEnd (slot : Nat) (s : State) : Host.Outcome State Fault Refusal :=
  let x := s.slot slot
  finish <| if x.run = 0 || x.endSent || !x.gapen || !s.replayLink || x.st ≠ .running then s
  else match s.nextRecord x with
    | none => s
    | some r =>
      let due := x.due (s.hankRecords x.strand) x.pass r
      if (s.cohort : Int) + s.cycles16 < due ∨ (x.skipbad && recFlag r [21, 22, 23, 25]) ∨ !x.buffers x.pass r ∨ s.recordLost x x.pass r then s
      else (s.sendMarker slot true (recTime r) x.run).modReplay slot fun x => { x with endSent := true }

/-- FLOW_CONTROL_WORD (11_ingest_port.md R467): 16 calendar bits from the sender, 1 for XON; a record that waited for its channel may
leave. -/
def execFlowControlWord (first bits : Nat) (s : State) : Host.Outcome State Fault Refusal :=
  finish <| if !s.ilkn.up then s
  else
    let x := (List.range 16).foldl (fun l i =>
      let c := (first + i) % 256
      if bits.testBit i then without l c else withNew l c) s.kspe.peerXoff
    State.framerNext { s with kspe.peerXoff := x } none

end Sys2Proof.Machine
end

