-- ==== Sys2Proof/Machine/Sequencer.lean ====
section
/-!
DEFINITION. The table sequencer, BELAY, and the thresholds of the sense inputs (15_power_supervision.md R638 to R668).
-/
namespace Sys2Proof.Machine

/-- One sense input's state. -/
def Pseq.input (p : Pseq) (i : Nat) : SnsIn := tget SnsIn.reset p.inputs i

/-- The pseq block with one sense input changed. -/
def Pseq.modInput (p : Pseq) (i : Nat) (f : SnsIn → SnsIn) : Pseq := { p with inputs := tmod SnsIn.reset p.inputs i f }

/-- BELAYEN. -/
def Pseq.joined (p : Pseq) : Bool := wbit p.seqcfg 18

/-- A sequence runs (R656): a table, or the hold that follows an abort. -/
def Pseq.sequencing (p : Pseq) : Bool :=
  match p.seq.phase with | .powerUp => true | .shutJoint => true | .shutDetached => true | .faultHold => true | _ => false

/-- The fields of a table entry (R650). -/
structure Entry where
  /-- EN. -/
  en : Nat
  /-- USE. -/
  use : Bool
  /-- WAIT; `none` for no wait. -/
  wait : Option Nat
  /-- STEP. -/
  step : Nat
deriving DecidableEq, Repr

/-- The entry that a word spells (R650). -/
def entryOf (w : Word) : Entry :=
  { en := fld w 0 4, use := wbit w 4, wait := if 28 ≤ fld w 5 5 then none else some (fld w 5 5), step := fld w 30 5 }

/-- An entry of the power-up table (`false`) or the shutdown table. -/
def Pseq.entry (p : Pseq) (down : Bool) (i : Nat) : Entry := entryOf (tget 0 (if down then p.downTable else p.upTable) i)

/-- The table being run is the shutdown table. -/
def Sequencer.down (q : Sequencer) : Bool := q.phase = .shutJoint || q.phase = .shutDetached

/-- The entries that a step has still to run: of the power-up table those of this and earlier steps that have not completed
(R651, R664); of the shutdown table those whose enable is asserted (R653). -/
def Pseq.todo (p : Pseq) : List Nat :=
  let q := p.seq
  let down := q.down
  let cand := (List.range 32).filter fun i => (p.entry down i).use && i ∉ q.done
  if down then cand.filter fun i => (p.entry true i).step = q.step && q.enables.testBit (p.entry true i).en
  else (List.range (q.step + 1)).flatMap fun st => cand.filter fun i => (p.entry false i).step = st

/-- The table is run jointly over BELAY (R658). -/
def Pseq.jointly (p : Pseq) : Bool := p.joined && p.seq.phase ≠ .shutDetached

/-- The next entry of the step begins: at its retry's off time where its attempt failed, else at its DELAY. Where none is left,
a joint step is released once 10 us have passed, and any other goes on to the next step; the table is complete after step 31
(R651, R658, R659). -/
def Pseq.run (p : Pseq) : Nat → Pseq × Bool
  | 0 => (p, true)
  | n + 1 =>
    match p.todo with
    | i :: _ =>
      let failed := decide (i ∈ p.seq.failed)
      ({ p with seq.entry := i, seq.failed := without p.seq.failed i,
                seq.entryState := if failed then .offTime else .delay, seq.holding := p.seq.holding || p.jointly }, false)
    | [] =>
      if p.jointly then
        ({ p with seq.entryState := .stepDone, seq.holding := !p.seq.minHold }, false)
      else if p.seq.step = 31 then ({ p with seq.entryState := .idle }, true)
      else { p with seq.step := p.seq.step + 1 }.run n

/-- The rest of the table from where it stands; `true` when it completes. -/
def Pseq.go (p : Pseq) : Pseq × Bool := p.run 33

/-- A step begins: a joined device pulls BELAY low (R658, R659). -/
def Pseq.startStep (p : Pseq) (st : Nat) : Pseq × Bool :=
  { p with seq.step := st, seq.minHold := false, seq.line := p.seq.line && !p.jointly, seq.holding := p.jointly || p.seq.holding }.go

/-- The power-up table starts (R661). -/
def Pseq.startUp (p : Pseq) : Pseq × Bool :=
  { p with seq.phase := .powerUp, seq.done := [], seq.failed := [], seq.retries := [], seq.vinGood := false,
           seq.restart := .off }.startStep 0

/-- The shutdown table starts, joint or detached; a detached one holds BELAY as its cause says (R661, R665, R667). The VIN
filter then waits for a sample that is not good (R668). -/
def Pseq.startDown (p : Pseq) (detached : Bool) (after : AfterShut) : Pseq × Bool :=
  { p with seq.phase := if detached then .shutDetached else .shutJoint, seq.done := [], seq.failed := [],
           seq.afterShut := after, seq.needBadVin := true, seq.vinGood := false }.startStep 0

/-- An entry completes and the next one begins (R651). -/
def Pseq.entryDone (p : Pseq) : Pseq × Bool := { p with seq.done := withNew p.seq.done p.seq.entry }.go

/-- INTACT falls when an enable named in the power-up table is deasserted (R649). -/
def Pseq.enableOff (p : Pseq) (en : Nat) : Pseq :=
  let named := (List.range 32).any fun i => (p.entry false i).use && (p.entry false i).en = en
  { p with seq.enables := clrBits p.seq.enables (2 ^ en), seq.intact := p.seq.intact && !named }

/-- An entry's DELAY passes: its enable changes, and its wait begins or ends at once (R651 to R653). -/
def Pseq.delayPassed (p : Pseq) : Pseq × Bool :=
  let e := p.entry p.seq.down p.seq.entry
  let p := if p.seq.down then p.enableOff e.en else { p with seq.enables := p.seq.enables ||| 2 ^ e.en }
  let met := match e.wait with
    | none => true
    | some i => if p.seq.down then (p.input i).uvf.set else (p.input i).pg
  if met then p.entryDone else ({ p with seq.entryState := .waiting }, false)

/-- The word of PSEQ.SEQSTAT. -/
def Pseq.seqstat (p : Pseq) : Word :=
  let q := p.seq
  packW [(16, q.enables), (3, q.phase.code), (5, q.step), (5, q.entry), (2, tget 0 q.retries q.entry), (1, b2n q.line),
    (1, b2n q.holding), (1, b2n q.intact)]

/-- PSEQ.FAULT for a cause (its register). -/
def Pseq.faultWord (p : Pseq) (kind input : Nat) : Word :=
  packW [(4, kind), (5, input), (1, b2n p.seq.down), (5, p.seq.entry), (5, p.seq.step)]

/-- FCOUNT and PGCOUNT in force (PSEQ.SNSCFG; 0 is treated as 1). -/
def SnsIn.fcount (x : SnsIn) : Nat := max 1 (fld x.cfg 2 3)
/-- PGCOUNT in force. -/
def SnsIn.pgcount (x : SnsIn) : Nat := max 1 (fld x.cfg 5 4)
/-- SCALE. -/
def SnsIn.scale (x : SnsIn) : Nat := fld x.cfg 9 16

/-- A condition after a sample (R643). -/
def Cond.sample (c : Cond) (meets : Bool) (fcount pgcount : Nat) : Cond :=
  if meets then { set := c.set || decide (fcount ≤ c.meet + 1), meet := min 15 (c.meet + 1), miss := 0 }
  else { set := c.set && decide (c.miss + 1 < pgcount), meet := 0, miss := min 15 (c.miss + 1) }

/-- An input after a sample (R643, R644). `vinAlone` marks VIN without a supervisor record, whose only threshold is that of
R657. -/
def SnsIn.sample (x : SnsIn) (code : Nat) (vinAlone : Bool) : SnsIn :=
  let uvfT := if vinAlone then 2048 else fld x.uvth 0 12
  let ovfT := if vinAlone then 4096 else fld x.ovth 12 12
  let f := x.fcount
  let g := x.pgcount
  let uvf := x.uvf.sample (decide (code ≤ uvfT)) f g
  let ovf := x.ovf.sample (decide (ovfT ≤ code)) f g
  let run := if uvfT < code ∧ code < ovfT then min 15 (x.pgRun + 1) else 0
  let fault := (uvf.set && !x.uvf.set) || (ovf.set && !x.ovf.set)
  { x with code := code, pgRun := run, uvf := uvf, ovf := ovf,
           pg := (x.pg || decide (g ≤ run)) && !fault,
           uvw := x.uvw.sample (!vinAlone && decide (code ≤ fld x.uvth 12 12)) f g,
           ovw := x.ovw.sample (!vinAlone && decide (fld x.ovth 0 12 ≤ code)) f g }

/-- The last sample as the rail's voltage in uV times 4,096 x 256 / 1,000 (R641). -/
def SnsIn.scaled (x : SnsIn) (code : Nat) : Nat := code * 1200 * x.scale

/-- SNSVAL.MV (R641). -/
def SnsIn.mv (x : SnsIn) : Nat := min 0xFFFF (x.scaled x.code / (4096 * 256))

/-- How a supervised input is treated: VIN, critical, monitor, unmonitored, or the hold-up bank (R638). -/
inductive InKind where
  | vin | bank | critical | monitor | unmonitored
deriving DecidableEq, Repr

/-- The kind of an input. Without a supervisor record the board inputs are unmonitored (R657). -/
def Pseq.kind (p : Pseq) (i : Nat) : InKind :=
  if i = 0 then .vin else if i = 1 then .bank else if 24 ≤ i ∧ i ≤ 26 then .critical else if i = 27 then .monitor
  else match fld (p.input i).cfg 0 2 with | 0 => .unmonitored | 1 => .monitor | _ => .critical

/-- The thresholds of an input lie in order (R645). -/
def thresholdsOk (uv ov : Word) : Bool :=
  decide (fld uv 0 12 < fld uv 12 12) && decide (fld uv 12 12 < fld ov 0 12) && decide (fld ov 0 12 < fld ov 12 12)

/-- What the ADC converts in slot j of its frame: VIN, another input, or a calibration source (R640). -/
def adcTarget (j : Nat) : Nat := if j % 3 = 0 then 0 else j - j / 3

/-- The settings of the inputs when no record is found (R657, R845): FCOUNT 1 for VIN and 2 for the others, PGCOUNT 4, SCALE
256; on-die inputs 94, 97, 103 and 106 % of nominal, in codes. -/
def defaultInput (i : Nat) : SnsIn :=
  let cfg := packW [(2, 0), (3, if i = 0 then 1 else 2), (4, 4), (16, 256)]
  let th : Nat × Nat × Nat × Nat :=
    if i = 24 then (2406, 2483, 2637, 2714) else if i = 25 ∨ i = 26 then (2567, 2649, 2813, 2895)
    else if i = 27 then (2888, 2980, 3164, 3256) else (0, 1, 4094, 4095)
  { SnsIn.reset with cfg := cfg, uvth := packW [(12, th.1), (12, th.2.1)], ovth := packW [(12, th.2.2.1), (12, th.2.2.2)] }

/-- The supervisor's settings put in force from its record, or the defaults (R655, R657). -/
def Pseq.load (p : Pseq) (r : Rec) : Pseq :=
  match r with
  | .supervisor ins up down seqcfg pfwcfg capcfg =>
    { p with record := true, upTable := up, downTable := down, seqcfg := heldSeqcfg seqcfg,
             pfwcfg := heldPfwcfg pfwcfg, capcfg := heldCapcfg capcfg,
             inputs := (List.range 28).foldl (fun t i =>
               tput SnsIn.reset t i { tget SnsIn.reset t i with
                 cfg := heldSnscfg (tget 0 ins i), uvth := tget 0 ins (32 + i), ovth := tget 0 ins (64 + i) }) p.inputs }
  | _ =>
    { p with record := false, upTable := [], downTable := [], seqcfg := 0x190051F4, pfwcfg := 0x496, capcfg := 0xC82800100,
             inputs := (List.range 28).foldl (fun t i =>
               let d := defaultInput i
               tput SnsIn.reset t i { tget SnsIn.reset t i with cfg := d.cfg, uvth := d.uvth, ovth := d.ovth }) p.inputs }

/-- HOLDUP_SENSE at a code has reached v_hi plus a margin in mV (R645, R672). -/
def State.bankAt (s : State) (code marginMv : Nat) : Bool :=
  decide ((fld s.pers.holdupcfg 0 13 * 10 + marginMv) * (4096 * 256) ≤ (s.pseq.input 1).scaled code)

end Sys2Proof.Machine
end

