-- ==== Sys2Proof/Machine/Time.lean ====
section
/-!
DEFINITION. The passing of time: one nanosecond at a step on an empty queue (log 2).
-/
namespace Sys2Proof.Machine

/-- The advance of the cohort time in one nanosecond, in 2^-32 of 250 ps, under f in 2^-15 of 250 ps units per second: 1 ns - f / 4e9
per ns, adjusted in steps of 2^-32 ns per ns (20_cohort_and_time.md R783, R794; the rounding is the model's, log 2). -/
def phaseStep (f : Int) : Nat := (4 * 2 ^ 32 - 4 * (f * 2 ^ 17 / (4 * 10 ^ 9))).toNat

/-- `n` nanoseconds pass: the model's clock, the 32.768 kHz clock (a tick each 10^9 / 32768 ns) and the cohort time, both of
which run while VAON is in range (R696, R783, R785). -/
def State.passTicks (s : State) (n : Nat) : State :=
  if s.pseq.vaon then
    let p := s.aon.tickPhase + 64 * n
    { s with aon.uptime := s.aon.uptime + n,
             aon.ticks := s.aon.ticks + p / 1953125,
             aon.tickPhase := p % 1953125,
             coht.phase := (s.coht.phase + n * phaseStep s.coht.rate) % 2 ^ 98 }
  else { s with aon.uptime := s.aon.uptime + n }

/-- One nanosecond passes. -/
def State.tick (s : State) : State := s.passTicks 1

/-- An event with a due time in cohort time happens at that time: where it has not been reached, the nanoseconds until it pass first
(log 2). -/
def State.reachCohort (s : State) (due : Nat) : State :=
  s.passTicks (ceilDiv (due * 2 ^ 32 - s.coht.phase % 2 ^ 98) (max 1 (phaseStep s.coht.rate)))

/-- The same for a due time in ticks of the 32.768 kHz clock. -/
def State.reachTick (s : State) (due : Nat) : State :=
  s.passTicks (ceilDiv ((due - s.aon.ticks) * 1953125 - s.aon.tickPhase) 64)

end Sys2Proof.Machine
end

