-- ==== Sys2Proof/Machine/Starts.lean ====
section
/-!
DEFINITION. Starts begin and end, QUENCH, the shutdown table's end, and the transitions between modes
(02_modes_and_starts.md, 10_persistence.md R425 to R434, 15_power_supervision.md R661 to R671).
-/
namespace Sys2Proof.Machine

/-- The power-up table starts; a table without entries completes at once (R661, R649). -/
def State.powerUp (s : State) : State :=
  let (p, up) := s.pseq.startUp
  { s with pseq := if up then { p with seq.phase := .complete, seq.intact := true, seq.holding := false } else p }

/-- A start begins (R55, R61, R89, R90, R94, R95): warm where the warm record allows it, else cold; a cold start with the board rails up,
or after a failed start, first runs the shutdown table. `cold` says that the start was requested as cold, `failed` that it follows a failed
start. -/
def State.beginStart (s : State) (cold failed : Bool) : State :=
  let w := s.aon.warmrec
  let warm := !cold && !failed && w.valid && s.pseq.vaon && s.pseq.seq.intact && decide (s.aon.failcnt = 0)
  -- the record of the transition shows the state as the start leaves it (log 86)
  let s : State := { s.domainReset warm with sysc.warm := warm }
  let s := s.setMode .starting
  let s : State := { s with
    aon.warmrec.valid := false
    sysc.svcstrap := s.fuse.svcStrap
    pseq.cap.bankReached := false
    pseq.cap.measuredAt := none
    pseq.cap.cmeas := 0
    sysc.start := { Start.reset with
      running := true
      cur := if warm then 3 else 1
      since := s.now
      requestedCold := cold
      failed := failed
      boundService := decide (5 ≤ s.aon.failcnt) || s.fuse.svcStrap } }
  if warm then s
  else if s.pseq.seq.enables ≠ 0 || failed then
    let (p, done) := s.pseq.startDown false .coldStart
    -- with no enable asserted and no BELAY the table has nothing to do and completes at once
    if done then State.powerUp { s with pseq := { p with seq.enables := 0, seq.intact := false } } else { s with pseq := p }
  else s.powerUp

/-- DORMANT is entered: every enable deasserted, BELAY released, the restart timer set after an abort (R654, R660, R665, R668). -/
def State.enterDormant (s : State) : State :=
  let q := s.pseq.seq
  let aborted := s.pseq.seq.afterAbort
  let timer := aborted && decide (q.aborts < fld s.pseq.seqcfg 19 3) && !q.thermalStop
  let s := s.setMode .dormant
  let s := s.settle.domainReset false
  { s with sysc.start := .reset, sysc.step := 0, sysc.warm := false, sysc.resetWait := none,
           aon.warmrec.valid := false, pers.quench := none,
           pseq.seq := { q with phase := .dormReleased, enables := 0, intact := false, entryState := .idle, holding := false,
                                afterAbort := false,
                                restart := if timer then (if s.pseq.joined then .armed else .running) else .off },
           pseq.pfwDriven := false }

/-- The shutdown table completes: every enable still asserted goes off; then the fault hold, DORMANT or a cold start follows
(R88, R94, R654, R665). -/
def State.shutDone (s : State) : State :=
  let s := { s with pseq.seq.enables := 0, pseq.seq.intact := false, pseq.seq.entryState := .idle, pseq.pfwDriven := false }
  if s.pseq.seq.afterAbort && s.pseq.seq.holdUntilTimer then { s with pseq.seq.phase := .faultHold }
  else if s.pseq.seq.afterShut = .coldStart then
    if s.sysc.mode = .starting then
      -- R94: C1 follows in full
      s.powerUp
    else s.beginStart true false
  else
    -- QUENCH that the limit or a failed rail cut short: an unstated number of its reserve pages had been programmed (R430)
    let s := if s.pers.quench.isSome then
        let (k, s) := s.fresh1
        s.reserveSome k
      else s
    s.enterDormant

/-- The sequencer goes on as computed; a completed table has its effect (R649, R654). -/
def State.seqApply (s : State) (r : Pseq × Bool) : State :=
  let s := { s with pseq := r.1 }
  if !r.2 then s
  else if s.pseq.seq.phase = .powerUp then
    { s with pseq.seq.phase := .complete, pseq.seq.intact := true, pseq.seq.holding := false, pseq.seq.entryState := .idle }
  else s.shutDone

/-- The start in progress, if any, ends without counting (R100). -/
def State.startOff (s : State) : State := { s with sysc.start.running := false }

/-- PSEQ.FAULT records a cause, with its event (R646, R665, R870). -/
def State.setFault (s : State) (kind input : Nat) (sev : Nat) (event : Bool) : State :=
  let old := s.pseq.seq.fault
  let new := s.pseq.faultWord kind input
  let s := { s with pseq.seq.fault := new }
  if event then s.changeRecord .pseq 0xA8 old.toNat new.toNat sev else s

/-- A power-up table aborts (R665, R666): KIND 4 a start fault, 5 a BELAY timeout; the shutdown table runs detached. -/
def State.abortUp (s : State) (kind : Nat) (input : Option Nat) : State :=
  let s := (s.setFault kind (input.getD 0) 2 false).cause .pseq 5
  let s := s.startOff
  let hold := s.pseq.joined
  let s := { s with pseq.seq.aborts := s.pseq.seq.aborts + 1, pseq.seq.afterAbort := true,
                    pseq.seq.holdUntilTimer := decide (kind = 4), pseq.seq.thermalStop := false,
                    pseq.seq.holding := hold }
  s.seqApply (s.pseq.startDown true .dormant)

/-- An attempt of a power-up entry fails (R664): its enable goes off and it runs again after RETRYOFF; the third failure aborts
(R665). -/
def State.attemptFailed (s : State) (k : Nat) : State :=
  let p := s.pseq
  if p.seq.phase ≠ .powerUp then s
  else if 2 ≤ tget 0 p.seq.retries k then
    ({ s with pseq.seq.entry := k }).abortUp 4 (p.entry false k).wait
  else
    let p := p.enableOff (p.entry false k).en
    let p := { p with seq.retries := tmod 0 p.seq.retries k (· + 1), seq.done := without p.seq.done k }
    if p.seq.entry = k && p.seq.entryState = .waiting then { s with pseq := { p with seq.entryState := .offTime } }
    else
      let p := { p with seq.failed := withNew p.seq.failed k }
      if p.seq.entryState = .offTime then { s with pseq := p } else s.seqApply p.go

/-- What started QUENCH or a shutdown, as PSEQ.FAULT numbers it (R648). -/
def causeKind : QuenchCause → Nat | .pfw => 1 | .vin => 2 | .thermal => 3

/-- PFW_N is driven low until the shutdown table completes (R646, R647, R879). -/
def State.drivePfw (s : State) (own : Bool) : State :=
  if own && wbit s.pseq.pfwcfg 10 then { s with pseq.pfwDriven := true } else s

/-- The capacitance test's load goes off and the charger on (15_power_supervision.md R672 M5, R674). -/
def State.capLoadOff (s : State) : State :=
  let w := s.pseq.capcfg
  let e := clrBits s.pseq.seq.enables (2 ^ fld w 0 4)
  { s with pseq.seq.enables := if fld w 4 5 < 16 then e ||| 2 ^ fld w 4 5 else e }

/-- The shutdown table of QUENCH or a cold entry starts; the stream link goes down with it (11_ingest_port.md R455). -/
def State.tableDown (s : State) (after : AfterShut) : State :=
  let s := s.linkIsDown
  s.seqApply (s.pseq.startDown false after)

/-- Capture strands and replay slots stop as if stopped by host software, and the crucibles seal; records that wait for the host's answers
are committed (R85, R425 Q4, 12_capture.md R490, R509). -/
def State.stopStreams (s : State) : State := s.stopStrands.stopSlots.sealCrucibles.commitAll

/-- Q1 to Q4 (R41, R58, R77, R406, R425, R426, R674, R873). -/
def State.quenchBegin (s : State) : State :=
  let s := if s.sysc.reqGo || s.sysc.trans = some .toService then s.modeDone 4 else s
  let s := s.setMode .quench
  let s := { s with pers.quench := some s.now, sysc.resetWait := none, rest.entering := none, rest.waking := false,
                    pers.shutRails := [], boot.img := s.boot.voided.getD s.boot.img, boot.confirming := false }
  let s := s.restOver
  let s := if s.pseq.cap.running then
      ({ s with pseq.cap.running := false, pseq.cap.outcome := 3, pseq.cap.requested := false }.capLoadOff).cause .pseq 6
    else s
  let s := { s with cxlp.stopped := true, pers.ckptBusy := none, pers.ckptWaiting := false }
  let s := s.resumeAll.dropQueued.openMarker
  let s := s.completeHost none
  let s := s.stopStreams
  let s := { s with pers.quenchDirty := s.dirtyLines.length }
  if s.pseq.joined then { s with pseq.seq.holding := true, pseq.seq.line := false } else s

/-- Power is failing (R55, R56, R646, R648, R667): before C4 is complete the shutdown table runs at once, after it QUENCH starts.
`rail` is a critical rail that counts as PFW_N. -/
def State.startQuench (s : State) (c : QuenchCause) (rail : Option Nat) : State :=
  let own := c = .vin || rail.isSome
  let s0 := s
  let set (s : State) : State :=
    (State.setFault { s with pseq.seq.thermalStop := decide (c = QuenchCause.thermal) } (causeKind c) (rail.getD 0) 5 own).drivePfw own
  match s.sysc.mode with
  | .dormant => s
  | .quench => s.drivePfw own
  | .starting =>
    if s.sysc.step < 4 then
      if !s.sysc.start.running then s.drivePfw own
      else
        let s := (set s0).startOff
        if s.pseq.seq.down then { s with pseq.seq.afterShut := .dormant }
        else if s.pseq.seq.phase = .powerUp then
          let s := { s with pseq.seq.holding := s.pseq.joined }
          s.seqApply (s.pseq.startDown true .dormant)
        else s.seqApply (s.pseq.startDown false .dormant)
    else (set s0).startOff.quenchBegin
  | _ =>
    let s := (set s0).quenchBegin
    if s.pseq.seq.down then { s with pseq.seq.afterShut := .dormant } else s

/-- Q5 to Q7 (the main ring stops at the end of Q7, 17_event_recorder.md R703, R877): crucibles and dirty lines programmed, open bands sealed, the last records programmed; the final record only while the
shutdown table has not started (R425 to R434). -/
def State.quenchDrain (s : State) (unsealed : List Nat) : State :=
  let s := { s with aon.unsealed := unsealed.foldl withNew s.aon.unsealed }
  let s := (s.drainCrucibles true).reserveDirty.zeroDone
  let s := s.sealBands
  let s := s.settle.flushJournal.flushLog.critFlush 33
  let s := if s.pseq.seq.down then s else s.finalRecord ((s.now - s.pers.quench.getD s.now) / 1000) s.aon.unsealed
  { s with pers.quench := none, evtr.mainRun := false,
           evtr.aonCopied := if s.evtr.mainRun then s.evtr.aonCount else s.evtr.aonCopied }

/-- QUENCH_TRIGGER (R425, R648). -/
def execQuenchTrigger (cause : QuenchCause) (s : State) : Host.Outcome State Fault Refusal := finish (s.startQuench cause none)

/-- Steps 1 and 2 of warm entry (R85): admission stops, every received request completes, strands stop, crucibles drain. -/
def State.entryStops (s : State) : State :=
  (State.completeHost { s with cxlp.stopped := true } none).stopStreams.drainCrucibles false

/-- Steps 3 and 4 of warm entry (R85, R88, R871). -/
def State.entryDrain (s : State) : State :=
  let s := s.destageAll
  -- lines for which no page is left on media go to the quench reserve, as at exhaustion (07_translation.md R337 step 3, log 90)
  let s := if s.tierDirty.isEmpty then s else s.reserveDirty
  let s := s.zeroDone.dropQueued.sealBands
  let s := s.settle.flushJournal.flushLog.critFlush 33
  { s with media.session := if s.media.session = Session.opened then Session.closed else s.media.session }

/-- Cold entry: steps 1 to 4 of warm entry, the shutdown table, and a cold start (R88). -/
def State.coldEntry (s : State) : State :=
  let s := { s.restCancel with sysc.trans := some .coldEntry, sysc.transSince := s.now }
  let s := s.entryStops.entryDrain
  s.tableDown .coldStart

/-- A reset request (R55, R57, R60, R64, R85): in REST it wakes the controller first; during a transition it waits for its end. Of requests
that wait together the last one is kept (DESIGN CHOICE, log 87). -/
def State.resetRequest (s : State) (k : ResetKind) : State :=
  match s.sysc.mode with
  | .rest => { s with sysc.resetWait := some k, rest.waking := true }
  | .dormant | .starting | .quench => s
  | _ =>
    if s.sysc.trans.isSome then { s with sysc.resetWait := some k }
    else match k with
      | .cold => s.coldEntry
      | .warm => { s.restCancel with sysc.trans := some .warmEntry, sysc.transSince := s.now }.entryStops

/-- A reset request that waited for a transition or a wake is performed. -/
def State.resetPending (s : State) : State :=
  match s.sysc.resetWait with
  | some k => { s with sysc.resetWait := none }.resetRequest k
  | none => s

/-- WARM_RESET_REQUEST (R85). -/
def State.regWarmResetRequest (s : State) : State :=
  if s.syscServed then s.resetRequest .warm else s

/-- COLD_RESET_REQUEST (R88). -/
def State.regColdResetRequest (s : State) : State :=
  if s.syscServed then s.resetRequest .cold else s

/-- COLD_RESET_REQUEST: the register operation `State.regColdResetRequest`. -/
def execColdResetRequest (s : State) : Host.Outcome State Fault Refusal :=
  finish s.regColdResetRequest

/-- PERST_N_ASSERT (R64, R60; 04_host_port.md R191). -/
def execPerstNAssert (s : State) : Host.Outcome State Fault Refusal :=
  let s := { s with sysc.perst := true }
  finish <| match s.sysc.mode with
  | .starting =>
    let t : State := { s with cxlp.training := false, cxlp.up := false }
    if s.cxlp.up then t.cause .cxlp 2 else t
  | _ => s.resetRequest .warm

/-- PERST_N_DEASSERT (R64, R81): the PHY trains once C4 is complete. -/
def execPerstNDeassert (s : State) : Host.Outcome State Fault Refusal :=
  let s := { s with sysc.perst := false }
  finish (if s.sysc.mode = .starting && decide (4 ≤ s.sysc.step) then
    { s with cxlp.training := true, sysc.start.since := if s.sysc.start.cur = 9 then s.now else s.sysc.start.since } else s)

/-- The map check value over the maps as they lie in the DRAM tier (R86, R92). -/
def State.mapCheck (s : State) : Nat := Config.mapCheck s.ftlm.fine s.ftlm.coarse

/-- The check value of the patina table as warm entry saves it (R86, 08_media_reliability.md R362). -/
def State.patinaCheck (s : State) : Nat := Config.patinaCheck (s.clus.patina.map fun e => (e.1, e.2.off))

/-- WARM_ENTRY_COMPLETE (R85 steps 3 to 7, R86): the warm record is written and a start begins. -/
def execWarmEntryComplete (s : State) : Host.Outcome State Fault Refusal :=
  finish <| if s.sysc.trans ≠ some .warmEntry then s
  else
    let s := s.entryDrain.flushNodes
    let s := { s with drmc := s.drmc.map fun (e : Nat × Drmc) => (e.1, { e.2 with cstate := if e.2.cstate = DState.active then .selfRefresh else e.2.cstate }) }
    let rec_ : WarmRec :=
      { valid := true, drams := s.drmc, chans := s.clus.onfc, mapGen := s.pers.mapGen, root := s.treeRoot,
        mapCheck := s.mapCheck, patinaCheck := s.patinaCheck, slot := s.boot.runSlot, digest := (s.boot.digest.getD (0, 0)).1 }
    ({ s with aon.warmrec := rec_, pers.mapCheck := s.mapCheck, pers.patinaCheck := s.patinaCheck,
              pers.dramKept := true }).beginStart false false

/-- WARM_ENTRY_TIMEOUT (R87): 500 ms from the request. -/
def execWarmEntryTimeout (s : State) : Host.Outcome State Fault Refusal :=
  finish <| if s.sysc.trans ≠ some .warmEntry || decide (s.now < s.sysc.transSince + 5 * 10 ^ 8) then s
  else
    let s := { s with sysc.trans := some .coldEntry }.entryDrain
    s.tableDown .coldStart

/-- No move and no data program goes on where no media data are written (R48, R875): queued and running ones leave the dies, their data stay
where they were. -/
def State.stopWrites (s : State) : State :=
  let s := s.ftlm.progs.foldl (fun (s : State) e => s.programEnds e.1) { s with ftlm.moves := [] }
  { s with ftlm.progs := [] }

/-- Entry to SAFE: writes that wait are performed, strands stop, crucibles commit, the dirty budget goes to the quench reserve and stays held (R52); no media write but
those of map state follows (R48). -/
def State.safeEntry (s : State) : State :=
  (((s.completeWrites.stopStrands.sealCrucibles.commitAll).drainCrucibles true).reserveDirty).zeroDone.stopWrites

/-- SAFE is entered by exhaustion in operation (R55, R337). A SERVICE request still destaging ends with RESULT 4; a warm or cold entry
goes on (log 29). -/
def State.toSafe (s : State) : State :=
  match s.sysc.mode, s.sysc.trans with
  | .memory, none | .stream, none => s.restCancel.safeEntry.setMode .safe
  | .memory, some .toService => ((s.safeEntry.setMode .safe).modeDone 4).resetPending
  | _, _ => s

/-- Space exhaustion detected in operation: critical, and SAFE is entered (07_translation.md R336, R337). -/
def State.exhaustCheck (s : State) : State :=
  if s.ftlm.exhausted && (s.sysc.mode = .memory || s.sysc.mode = .stream) then (s.cause .ftlm 4 5).toSafe else s

/-- A replay slot is WAITING or RUNNING, which counts as a strand armed or running (13_replay_and_query.md R549). -/
def State.slotsQuiet (s : State) : Bool := s.rple.slots.all fun e => e.2.st ≠ .waiting && e.2.st ≠ .running

/-- No strand is armed or running, for R68. -/
def State.strandsQuiet (s : State) : Bool :=
  (s.strd.strands.all fun e => e.2.st ≠ .armed && e.2.st ≠ .running) && s.slotsQuiet

/-- No strand is scheduled, armed or running, for R55 (12_capture.md R488). -/
def State.noneArmed (s : State) : Bool := s.strandsQuiet && s.strd.strands.all fun e => e.2.st ≠ .scheduled

/-- A mode request is judged in a mode (R55, R57, R62). -/
def State.judgeMode (s : State) (target : Nat) : State :=
  if target ∉ [2, 3, 4, 7] then s.modeDone 2
  else if target = s.sysc.mode.code then s.modeDone 0
  else match s.sysc.mode, target with
  | .memory, 4 => s.modeDoneTo .stream
  | .stream, 3 => if s.noneArmed then s.modeDoneTo .memory else s.modeDone 3
  | .memory, 2 => { s with sysc.trans := some .toService, sysc.transSince := s.now, sysc.reqGo := true }
  | .memory, 7 | .stream, 7 => s.safeEntry.modeDoneTo .safe
  | _, _ => s.modeDone 2

/-- SYSC.MODEREQ with GO (R57, R58): TARGET is stored; one transition at a time. A request in REST waits for the wake, also while that wake is
under way, and replaces one that waits; a request during a transition is busy whatever its TARGET (DESIGN CHOICE, log 88). -/
def State.modeRequest (s : State) (target : Nat) : State :=
  if !s.syscServed then s
  else
    let s := { s with sysc.reqTarget := target }
    match s.sysc.mode with
    | .starting | .quench | .dormant => s.modeDone 2
    | .rest => { s with sysc.reqGo := true, rest.waking := true }
    | _ => if s.sysc.trans.isSome || s.rest.entering.isSome then (s.modeDone 1).restCancel else s.judgeMode target

/-- MODEREQ_SERVICE (R57). -/
def execModereqService (s : State) : Host.Outcome State Fault Refusal := finish (s.modeRequest 2)
/-- MODEREQ_MEMORY (R57). -/
def execModereqMemory (s : State) : Host.Outcome State Fault Refusal := finish (s.modeRequest 3)
/-- MODEREQ_STREAM (R57). -/
def execModereqStream (s : State) : Host.Outcome State Fault Refusal := finish (s.modeRequest 4)
/-- MODEREQ_SAFE (R57, R52). -/
def execModereqSafe (s : State) : Host.Outcome State Fault Refusal := finish (s.modeRequest 7)
/-- MODEREQ_INVALID (R57): an accepted TARGET given here is judged as its own command would be. -/
def execModereqInvalid (target : Nat) (s : State) : Host.Outcome State Fault Refusal := finish (s.modeRequest (target % 8))

/-- SERVICE_ENTRY_COMPLETE (R55, R871): the dirty budget is destaged, open blocks sealed, the session closed. Where the media leave lines
dirty the drain has failed: RESULT 4, and the mode stays. -/
def execServiceEntryComplete (s : State) : Host.Outcome State Fault Refusal :=
  finish <| if s.sysc.trans ≠ some .toService || s.sysc.mode ≠ .memory then s
  else
    let s := (s.completeHost (some State.destageAll)).destageAll.zeroDone
    if !s.dirtyLines.isEmpty || !s.cxlp.dirtyWait.isEmpty then ({ s with sysc.trans := none }.modeDone 4).resetPending
    else
    let s := s.sealBands
    let s := { s with media.session := if s.media.session = Session.opened then Session.closed else s.media.session }
    let s := { s with cxlp.memen := false }
    (s.linkIsDown.modeDoneTo .service).resetPending

/-- The next planish pass takes a slot of the calendar; its time is free (R66, log 89). -/
def State.planNext (s : State) : State :=
  let (v, s) := s.fresh1
  { s with rest.planned := some (s.cohort + v) }

/-- The next anneal window, likewise. -/
def State.annealNext (s : State) : State :=
  let (v, s) := s.fresh1
  { s with rest.annealAt := some (s.cohort + v) }

/-- The pending events of the rest governor's sources: due time in cohort time, and source code (R66, R367, R796). 1 scheduled arms, 2 the next
planish pass, 3 the next anneal window, 4 the next PPS edge less 100 us, 5 the earliest retention deadline, 6 the host timers. The times of
sources 2 and 3 are free values (log 89). -/
def State.pendingEvents (s : State) : List (Nat × Nat) :=
  (s.strd.strands.filterMap fun e => if e.2.st = .scheduled then e.2.armAt.map fun t => (t * 4, 1) else none) ++
  ((s.rest.planned.toList.filter fun d => decide (s.cohort < d)).map fun d => (d, 2)) ++
  ((s.rest.annealAt.toList.filter fun d => decide (s.cohort < d)).map fun d => (d, 3)) ++
  (if wbit s.coht.disc 0 then [(s.cohort + 4 * (s.coht.lastEdge + 10 ^ 9 - 10 ^ 5 - s.now), 4)] else []) ++
  (s.nextDeadline.map fun d => (s.cohort + 4 * (d - s.now), 5)).toList ++
  (s.rest.timers.filterMap fun e => e.2.map fun d => (d, 6))

/-- An event in its place among earlier and later ones; of two due together the one met first stays in front. -/
def insertDue (x : Nat × Nat) : List (Nat × Nat) → List (Nat × Nat)
  | [] => [x]
  | y :: l => if x.1 < y.1 then x :: y :: l else y :: insertDue x l

/-- The event calendar: the 64 earliest pending events of all sources, earliest first (R66, R67). An event that leaves its source leaves the
calendar with it, and the earliest one not held takes its place. -/
def State.calendar (s : State) : List (Nat × Nat) := (s.pendingEvents.foldl (fun l x => insertDue x l) []).take 64

/-- calendar[0] (R67). -/
def State.nextEvent (s : State) : Option Nat := s.calendar.head?.map (·.1)

/-- Wake time and break-even time of a level in ns (R65). -/
def Level.times : Level → Nat × Nat
  | .none => (0, 0) | .doze => (2000, 20000) | .nap => (60000, 1000000) | .slumber => (4000000, 200000000)

/-- No CXL.mem request waits in the near cache, for a victim's write-back or for a re-encryption, and no prefetch is queued or filling. -/
def State.hostQuiet (s : State) : Bool :=
  s.ncch.bypass.isEmpty && s.ncch.hints.isEmpty && s.ncch.nextq.isEmpty &&
  (s.ncch.slices.all fun e => e.2.miss.isEmpty && e.2.inWait.isEmpty && e.2.victims.all fun v => v.waits.isEmpty) &&
  s.mprt.pages.all fun e => e.2.waits.isEmpty

/-- Work of class P3 for the stream side: a query, or a replay slot that is loading or reading ahead (13_replay_and_query.md, 21_priorities.md). -/
def State.streamWork (s : State) : Bool :=
  s.qrye.go || s.rple.slots.any fun e => e.2.preloading || !e.2.reading.isEmpty

/-- The controller is idle (R68, R878). -/
def State.idle (s : State) : Bool :=
  let c := s.cxlp
  c.reads = 0 && c.biHold.isEmpty && c.dirtyWait.isEmpty && c.zeroWait.isEmpty && s.rest.held.isEmpty && s.hostQuiet &&
  decide (c.lastReq + max 1 (fld s.rest.policy 16 8) * 1000 ≤ s.now) && !s.workQueued && !s.streamWork && s.strandsQuiet &&
  s.mbox.exec.isNone && s.mbox.waiting.isEmpty && s.mbox.bg.isNone && s.sysc.trans.isNone

/-- A level is eligible (R69, R70, R72). -/
def State.eligible (s : State) (l : Level) : Bool :=
  let p := s.rest.policy
  let (wake, even) := l.times
  decide (wake ≤ fld p 0 16 * 1000) && decide (l.code ≤ fld p 24 2) &&
  (match s.nextEvent with | none => true | some d => decide (4 * even ≤ d - s.cohort)) &&
  (match l with
   | .nap => s.cxlp.l1ok
   | .slumber => s.cxlp.l12ok && s.dirtyLines.isEmpty
   | _ => true)

/-- REST_ENTRY (R71, R74): the deepest eligible level begins to be entered. -/
def execRestEntry (s : State) : Host.Outcome State Fault Refusal :=
  finish <| if !(s.sysc.mode = .memory || s.sysc.mode = .stream) || s.rest.entering.isSome || !s.idle
      || fld s.rest.policy 0 16 = 0 then s
  else match [Level.slumber, .nap, .doze].find? s.eligible with
    | some l => { s.resumeAll with rest.entering := some l }
    | none => s

/-- REST_COMMIT (R74, R286): the dies are quiet, DRAM is in self-refresh, the rails are off, the clock is gated. -/
def execRestCommit (s : State) : Host.Outcome State Fault Refusal :=
  finish <| match s.rest.entering with
  | none => s
  | some l =>
    if !(s.sysc.mode = .memory || s.sysc.mode = .stream) || s.sysc.trans.isSome then s
    else if s.clus.dies.any (fun e => e.2.array.isSome || e.2.paused.isSome) then s
    else
      let was := s.sysc.mode
      let s := if l = .doze then s else s.selfRefreshAll
      let s := if l = .slumber then { s with clus.onfc := s.clus.onfc.map fun e => (e.1, { e.2 with railOff := true }) } else s
      let s := { s with rest.entering := none }.setMode .rest
      { s with sysc.ret := some was, sysc.level := l }

/-- A wake from REST starts (R73); before the commit point it cancels the entry (R74). -/
def State.wake (s : State) : State :=
  if s.rest.entering.isSome then s.restCancel
  else if s.sysc.mode = .rest then { s with rest.waking := true } else s

/-- A wake trigger that is no host request wakes the controller from REST only (R73). -/
def State.wakeRest (s : State) : State := if s.sysc.mode = .rest then { s with rest.waking := true } else s

/-- A request of the sideband for a register, the mailbox or SPDM: in REST it starts the wake and is served after it (R73, log 38). -/
def State.side (s : State) (c : Instr) (f : State → State) : State :=
  if s.sysc.mode = .rest then { s with rest.io := s.rest.io ++ [c], rest.waking := true } else f s

/-- The same for a request of the host over CXL.io, which also cancels a REST entry before its commit point (R73, R74;
03_registers_and_hallmark.md R111). -/
def State.io (s : State) (c : Instr) (f : State → State) : State :=
  if s.rest.entering.isSome then f s.restCancel else s.side c f

/-- A host request for a register. In the hold of R99 the sideband is the only management path: no host request arrives. -/
def State.reg (s : State) (c : Instr) (f : State → State) : State :=
  if s.boot.recoveryHold then s else s.io c f

/-- The time at which the wake for an event starts: its due time less the level's wake time (R72). -/
def State.wakeAt (s : State) (due : Nat) : Nat := due - 4 * s.sysc.level.times.1

/-- CALENDAR_DUE (R72): the wake starts at the due time of the next event less the level's wake time; none is scheduled while the calendar
holds no entry. -/
def execCalendarDue (s : State) : Host.Outcome State Fault Refusal :=
  finish <| match s.nextEvent with
  | some d => if s.sysc.mode = .rest then (s.reachCohort (s.wakeAt d)).wake else s
  | none => s

/-- WAKE (R73): PFW_N in Nap or Slumber is QUENCH's own wake (R77). -/
def execWake (source : WakeSource) (s : State) : Host.Outcome State Fault Refusal :=
  finish (match source with | .pfw => s.startQuench .pfw none | .host => s.wake | _ => s.wakeRest)

/-- HTIMER_WRITE (R78): DELAY us from the cohort time of the write; 0 cancels. -/
def State.regHtimerWrite (s : State) (n : Nat) (v : Word) : State :=
  let d := fld v 0 32
  if !(s.hdr .rest).ready || decide (7 < n) then s
  else { s with rest.timers := tput none s.rest.timers n (if d = 0 then none else some (s.cohort + 4000 * d)) }

/-- HTIMER_DUE (R78, R79): the armed timer falls due at its time. -/
def execHtimerDue (n : Nat) (s : State) : Host.Outcome State Fault Refusal :=
  finish <| match tget none s.rest.timers n with
  | none => s
  | some d =>
    if 7 < n then s
    else
      let s := s.reachCohort d
      { s with rest.timers := tput none s.rest.timers n none }.cause .rest (1 + n)

/-- WARM_RESET_REQUEST: the register operation `State.regWarmResetRequest`. -/
def execWarmResetRequest (s : State) : Host.Outcome State Fault Refusal :=
  finish s.regWarmResetRequest

end Sys2Proof.Machine
end

