-- ==== Sys2Proof/Machine/StartSteps.lean ====
section
/-!
DEFINITION. The start steps C1 to C9 (02_modes_and_starts.md R80 to R98), and what each of them does in the other blocks.
-/
namespace Sys2Proof.Machine

/-! ### C3 and C4: the image and the records -/

/-- A step is complete, and the next one runs (R80). -/
def State.stepDone (s : State) (k next : Nat) : State :=
  { s with sysc.step := k, sysc.start.cur := next, sysc.start.since := s.now }

/-- A start step fails: the count goes up and a cold start follows (R95, R94). -/
def State.stepFailed (s : State) : State := { s with aon.failcnt := satInc 8 s.aon.failcnt }.beginStart true true

/-- C3: the slot chosen, verified in full or by its digest (R91, R97, R99; 19_firmware_and_identity.md R751, R752). -/
def State.stepC3 (s : State) (r : StepRep) : State :=
  -- the slot named by the warm record; `domainReset` has left the record in place with its flag cleared
  let named := s.aon.warmrec.slot
  let s := s.readRecord 10
  let s := match (s.record 10).winner with | .image i => { s with boot.img := i } | _ => { s with boot.img := .reset }
  -- a confirmation whose write had not completed before the last QUENCH or start does not count (R766)
  let s : State := { s with boot.img := s.boot.voided.getD s.boot.img, boot.voided := none }
  let i := s.boot.img
  let (slot, s) : Nat × State :=
    if 5 ≤ s.aon.failcnt then (2, s)
    else if 3 ≤ s.aon.failcnt then (i.previous, { s with sysc.fallback := true })
    else if i.trial && i.trialrun then
      (i.previous, (State.writeRecord { s with boot.img := { i with selected := i.previous, trial := false, trialrun := false } } 10).cause .boot 5 5)
    else (i.selected, s)
  let byDigest := s.sysc.warm && decide (named = slot)
  let ok := if byDigest then decide (s.aon.warmrec.digest = r.digest ∧ s.boot.digest = some (r.digest, slot))
    else r.imageOk && s.headOk slot && decide (r.digest = s.boot.signedDigest slot)
  if ok then
    let s : State := { s with boot.runSlot := slot, boot.run := s.boot.head slot }
    let s : State := if byDigest then s else { s with boot.digest := some (r.digest, slot) }
    s.stepDone 3 4
  else
  -- a verification under R748 that fails is captured as code 0x42 (R781)
  let s := if byDigest then s else s.error .boot 0x42 (slot + 1)
  if slot = 2 then
    -- the step has failed (R95); SERVICE with the sideband as the only management path (R99)
    State.setMode { s with boot.recoveryHold := true, sysc.start.running := false, aon.failcnt := satInc 8 s.aon.failcnt } .service
  else s.stepFailed

/-- The spare columns and rows that the faulty cells of one macro take of those that are free: a column with two or more faulty cells takes a
spare column, every other cell a spare row (05_near_cache.md R242). -/
def spareTake (cells : List (Nat × Nat)) (freeCols freeRows : Nat) : List Nat × List Nat :=
  let cols := ((distinct (cells.map (·.2))).filter fun c => decide (2 ≤ (cells.filter fun x => x.2 = c).length)).take freeCols
  (cols, (distinct ((cells.filter fun x => x.2 ∉ cols).map (·.1))).take freeRows)

/-- The soft-fuse cells of one macro that no spare covers: of its two spare columns and two spare rows the fuse map takes its own first
(05_near_cache.md R240, R242). -/
def spareMacro (fused cells : List (Nat × Nat)) : List (Nat × Nat) :=
  let covered (t : List Nat × List Nat) (x : Nat × Nat) : Bool := decide (x.2 ∈ t.1) || decide (x.1 ∈ t.2)
  let f := spareTake fused 2 2
  let cells := cells.filter fun x => !covered f x
  let t := spareTake cells (2 - f.1.length) (2 - f.2.length)
  cells.filter fun x => !covered t x

/-- The soft-fuse cells that no spare covers. -/
def spareLeft (fused cells : List (Nat × Nat × Nat)) : List (Nat × Nat × Nat) :=
  let of (l : List (Nat × Nat × Nat)) (m : Nat) : List (Nat × Nat) := (l.filter fun x => x.1 = m).map (·.2)
  (distinct (cells.map (·.1))).flatMap fun m => (spareMacro (of fused m) (of cells m)).map fun x => (m, x)

/-- The fuse map, then the soft-fuse entries applied (05_near_cache.md R240, R242): each cell without a spare raises one event. -/
def State.applySpares (s : State) : State :=
  let left := spareLeft s.fuse.sramMap s.sram.soft
  let s : State := { s with sram.applied := s.sram.soft.length - left.length }
  left.foldl (fun s x => s.changeRecord .sram 0x48 s.sram.fault.toNat (packW [(12, x.1), (12, x.2.1), (10, x.2.2)]).toNat) s

/-- The records read at C4 and put in force (18_parameter_store.md R720, R733). -/
def State.loadRecords (s : State) : State :=
  let s := [2, 3, 4, 5, 7, 8, 9, 11].foldl State.readRecord s
  let s : State := match (s.record 2).winner with
    | .thermal e d t p => { s with thrm.excl := e, thrm.exclNow := e, thrm.diode := heldDiode d, thrm.thresh := heldThresh t, thrm.pcap := heldPcap p }
    | _ => s
  let s : State := match (s.record 3).winner with
    | .hostcfg h d u _ p => { s with ftlm.hdrcfg := h, pers.dirtycfg := d, pers.holdupcfg := u, rple.poolGib := heldPool p }
    | _ => s
  let s : State := match (s.record 7).winner with | .soft es => { s with sram.soft := es } | _ => { s with sram.soft := [] }
  let s : State := match (s.record 8).winner with
    | .protection rs d e => { s with mprt.ranges := rs, mprt.devslot := d, mprt.epoch := e }
    | _ => { s with mprt.ranges := [], mprt.devslot := 0, mprt.epoch := 0 }
  match (s.record 9).winner with
    | .keys ks => { s with mprt.slots := ks.map fun e => (e.1, if e.2.volatile_ && e.2.st = .loaded then { e.2 with st := .absent, key := 0 } else e.2) }
    | _ => { s with mprt.slots := [] }

/-- The certificate store copies against the identity record: each copy that fails is CERTBAD with code 0x40, critical once neither
matches (19_firmware_and_identity.md R769, R770, R782). -/
def State.checkCerts (s : State) (d : BitVec 512 × BitVec 512) : State :=
  let (a, b) := match (s.record 11).winner with | .identity x y => (decide (x = d.1), decide (y = d.2)) | _ => (false, false)
  let s : State := { s with idnt.certA := a, idnt.certB := b, idnt.aliased := true }
  let s := if a then s else s.error .idnt 0x40 0 (2 ^ 1)
  if b then s else s.error .idnt 0x40 1 (2 ^ 1) (if a then 4 else 5)

/-- The always-on ring's records since the main ring last stopped go into the main ring, and critical ones that the store does not hold
become pending (17_event_recorder.md R877, R705). -/
def State.mainRingStarts (s : State) : State :=
  let e := s.evtr
  let new := (e.aonRing.take (e.aonCount - e.aonCopied)).reverse
  let s := new.foldl State.mainPut { s with evtr.mainRun := true, evtr.aonCopied := e.aonCount }
  let crit := e.aonRing.reverse.filter fun r => r.sev = 5 && (e.critHigh.all fun h => newer32 r.seq h)
  crit.foldl State.critPut s

/-- The blocks whose STAT.READY rises at the end of C4 (03_registers_and_hallmark.md R867). -/
def readyC4 : List Block :=
  [.hall, .sysc, .rest, .thrm, .evtr, .boot, .idnt, .coht, .sram, .cxlp, .mbox, .ilkn, .kspe, .strd] ++ (List.range 4).map .ingp

/-- SRAM.REPAIR (05_near_cache.md). -/
def State.sramRepair (s : State) : Word :=
  packW [(12, Config.macros), (8, satN 8 s.sram.applied), (8, satN 8 s.sram.soft.length), (1, b2n (decide (255 ≤ s.sram.soft.length)))]

/-- A record whose winning copy is of an older major version that the image migrates from is migrated: written in its own
(18_parameter_store.md R738). -/
def State.migrate (s : State) (t : Nat) : State :=
  let r := s.record t
  if r.winSeq.isSome && r.major ≠ s.psto.major && !r.writing then s.startRecord t else s

/-- C4: the cores are loaded, the records are in force, the main ring starts, and CXL training begins (R80, R81, R867). -/
def State.stepC4 (s : State) (r : StepRep) : State :=
  let s := State.loadRecords { s with psto.major := r.recMajor, psto.migrates := r.migrates }
  let s := recTypes.foldl State.migrate s
  let clusters := (List.range s.fuse.part.clusters).filter fun c => !(s.cluster c).lost
  let s : State := { s with
    boot.sections := [1, 2, 3, 4].map (fun k => Config.sha512 (s.boot.section_ s.boot.runSlot k)) ++ [s.boot.signedDigest 2]
    boot.mediaCores := bitsOf clusters
    boot.seqCores := 3
    cxlp.training := !s.sysc.perst }
  let s := (s.applySpares.checkCerts r.certDigests).readyBlocks readyC4
  let s : State := { s with boot.fixedMeas := [bitsOf s.fuse.keyRevoked, s.sramRepair.toNat] }
  let s := s.settle.mainRingStarts.clockSync.applyLimit
  let s := s.stepDone 4 5
  if s.sysc.start.boundService then { s with sysc.start.cur := 9 } else s

/-! ### C5: the DRAM tier and the near cache -/

/-- The start becomes bound for SERVICE; the steps of C5 to C8 that remain are abandoned (R61, R47). What is READY stays READY: a start that
becomes bound at C7 keeps DRMC, NCCH, MCLU and ONFC so (DESIGN CHOICE, log 101). -/
def State.becomeService (s : State) : State :=
  { s with sysc.start.boundService := true, sysc.start.cur := 9, sysc.start.since := s.now }

/-- A configuration that the controller supports: form, ranks and capacity (06_dram_tier.md R247, R248); a soldered-down board needs its record
in the Parameter Store (R250). -/
def State.dramKnown (s : State) (r : DramRep) : Bool :=
  decide (16 ≤ r.gib ∧ r.gib ≤ 128) &&
  match r.form with
  | 0 => decide (r.ranks ≤ 2)
  | 1 => decide (r.ranks = 1 ∨ r.ranks = 2)
  | 2 => decide (r.ranks ≤ 1) && (s.record 5).winner ≠ .none
  | _ => false

/-- The highest rate that a form allows: two DIMMs per channel run at DDR5-5600 at most (06_dram_tier.md R247, R251). -/
def formRate (form : Nat) : Nat := if form = 1 then 1 else 2

/-- A channel as trained: its configuration, MAXRATE and the marks learned on the same modules (06_dram_tier.md R251, R257, R281). -/
def State.dramNew (s : State) (r : DramRep) : Drmc :=
  let maxrate := match (s.record 3).winner with | .hostcfg _ _ _ m _ => tget 2 m r.chan | _ => 2
  let marks := match (s.record 4).winner with
    | .marks m => (m.filter fun e => e.1 / 16 = r.chan && e.2.2 = r.serial).map fun e => (e.1 % 16, e.2.1)
    | _ => []
  { Drmc.reset with
    rate := min (min r.rate (formRate r.form)) (min 2 maxrate), form := r.form, x8 := r.x8, ranks := r.ranks, gib := r.gib, drfm := r.drfm, serial := r.serial,
    cstate := .active, sched := heldSched (setFld Drmc.reset.sched 16 2 maxrate), marks := marks }

/-- A channel disabled at C5: code 0x45 with its reason, OUTSVC, and the retirement record (R249, R251). -/
def State.dramOff (s : State) (m reason : Nat) : State :=
  (State.retireBlock { s with drmc := tins m { Drmc.reset with cstate := .retired } s.drmc } (.drmc m)).reportError (.drmc m) 0x45 reason

/-- The channels of a cold start (06_dram_tier.md R247 to R251). -/
def State.dramCold (s : State) (rs : List DramRep) : State :=
  -- a channel in no supported configuration counts as one with nothing fitted (log 98)
  let rep (m : Nat) := rs.find? fun r => r.chan = m && s.dramKnown r
  let ref := (List.range s.fuse.part.dramChannels).findSome? rep
  let same (r : DramRep) : Bool :=
    ref.any fun x => decide (x.form = r.form ∧ x.ranks = r.ranks ∧ x.gib = r.gib) && x.x8 == r.x8
  let s := (List.range s.fuse.part.dramChannels).foldl (fun (s : State) m =>
    match rep m with
    | some r => if same r then (if r.ok then { s with drmc := tins m (s.dramNew r) s.drmc } else s.dramOff m 2) else s.dramOff m 1
    | none => s.dramOff m 1) s
  -- every live channel runs at one rate (R251)
  let low := s.liveDrams.foldl (fun n m => min n (s.dram m).rate) 3
  { s with drmc := s.drmc.map fun e => (e.1, if e.2.cstate = .active then { e.2 with rate := low } else e.2) }

/-- The channels of a warm start: the stored training values, with the registers at their reset values (06_dram_tier.md R282). -/
def State.dramWarm (s : State) : State :=
  s.aon.warmrec.drams.foldl (fun (s : State) e =>
    if e.2.inService then
      let new := s.dramNew { chan := e.1, ok := true, rate := e.2.rate, form := e.2.form, x8 := e.2.x8, ranks := e.2.ranks, gib := e.2.gib,
                             drfm := e.2.drfm, serial := e.2.serial }
      { s with drmc := tins e.1 { new with rate := e.2.rate, margin := e.2.margin, centres := e.2.centres, moved := e.2.moved } s.drmc }
    else State.retireBlock { s with drmc := tins e.1 { Drmc.reset with cstate := .retired } s.drmc } (.drmc e.1)) s

/-- The near-cache slices of a start (05_near_cache.md R195, R205, R243, R244): those retired before stay out; the live ones share the hash values,
seed their replacement registers and lock out at most 64 ways each; one with more is retired at the next start. -/
def State.startSlices (s : State) (locks : List (Nat × Nat)) : State :=
  let all := List.range s.fuse.part.slices
  let live := all.filter fun i => i ∉ s.sram.retire
  let s : State := { s with ncch.slices := live.zipIdx.foldl (fun t e =>
    let mine := (distinct ((locks.filter fun x => x.1 = e.1).map (·.2)))
    let ways := (mine.take 64).foldl (fun w k => tput Way.reset w k { Way.reset with locked := true }) []
    tput Slice.reset t e.1 { Slice.reset with
      live := true, lfsr := lfsrSeed e.1, ways := ways
      serves := bitsOf ((List.range 16).filter fun h => h % live.length = e.2) }) [] }
  let past (i : Nat) : Bool := decide (64 < (distinct ((locks.filter fun x => x.1 = i).map (·.2))).length)
  let s : State := { s with sram.retire := s.sram.retire ++ live.filter past }
  let s := (live.filter fun i => decide (0 < (s.slice i).lockedWays)).foldl (fun s i => s.cause (.ncch i) 4) s
  (all.filter fun i => i ∉ live).foldl (fun s i => s.retireBlock (.ncch i)) s

/-- RPLE.POOL.GIB in force (its register). -/
def Rple.wanted (p : Rple) : Nat := clampN 1 16 (fld p.poolGib 0 5)

/-- The tier divided among its contents; a tier too small for MEMORY, STREAM or SAFE makes the start bound for SERVICE (R47,
06_dram_tier.md R261, R265). -/
def State.divideTier (s : State) : State :=
  let gib := s.liveDrams.foldl (fun n m => n + (s.dram m).gib) 0
  let s : State := { s with tier.liveGib := gib, tier.order := s.liveDrams }
  let least := s.fuse.part.minGib
  if gib < least then (s.namedRecord .sysc gib least 0 5).becomeService
  else match tierPool gib (max (fld s.ftlm.hdrcfg 0 26) s.ftlm.hdrMib) s.rple.wanted with
    | none => (s.namedRecord .sysc gib least 1 5).becomeService
    | some pool =>
      let s : State := { s with tier.poolGib := pool }
      if pool < s.rple.wanted then s.namedRecord .rple pool s.rple.wanted 0 2 else s

/-- C5 (R80, R93, R867). STEP counts the step in which the start becomes bound for SERVICE, 5 here (DESIGN CHOICE, log 101). -/
def State.stepC5 (s : State) (r : StepRep) : State :=
  if s.sysc.warm && r.drams.any (fun d => !d.ok && (tget Drmc.reset s.aon.warmrec.drams d.chan).inService) then s.stepFailed
  else
    let s := if s.sysc.warm then s.dramWarm else s.dramCold r.drams
    let s := (s.startSlices r.lockWays).divideTier
    if s.sysc.start.boundService then { s with sysc.step := 5 }.hallSync
    else ((s.readyBlocks ((List.range s.fuse.part.dramChannels).map .drmc ++ (List.range s.fuse.part.slices).map .ncch)).stepDone 5 6).hallSync

/-! ### C6: the media -/

/-- Blocks of a die that have been retired over its life. -/
def State.retiredOf (s : State) (d : Nat) : Nat := (s.media.blocks.filter fun e => e.1 / 8192 = d && e.2.use = .retired).length

/-- A die that answered (09_media_bus.md R393). -/
def State.dieFound (s : State) (d : Nat) (insvc : Bool) : State :=
  s.modDie d fun x => { x with found := true, insvc := insvc, sparesUsed := s.retiredOf d }

/-- A channel disabled at C6, with the codes of its reason (R84, 09_media_bus.md R390, R395, R413, R414,
07_translation.md R301). -/
def State.chanOff (s : State) (r : ChanRep) (codes : List (Nat × Nat)) : State :=
  let s := r.dies.foldl (fun s k => s.dieFound (16 * r.chan + k % 16) false) s
  let s := s.modChan r.chan fun c => { c with cstate := .disabled }
  let s := s.retireBlock (.onfc r.chan)
  codes.foldl (fun s x => s.reportError (.onfc r.chan) x.1 x.2 (match x.1 with | 0x40 => 2 | 0x41 => 4 | 0x42 => 8 | _ => 0)) s

/-- The profile that a die matches: the first in image order of a known major version, of at most 4,368 pages per block, whose match key is its IDs
and revision (09_media_bus.md R394, R397; 07_translation.md R301). -/
def matchProfile (ps : List Profile) (id : Option (Nat × Nat × Nat)) : Option Profile :=
  match id with
  | some (mfr, dev, rev) => ps.find? fun p => decide (p.major = 1 ∧ p.densePpb ≤ 4368 ∧ p.mfr = mfr ∧ p.dev = dev ∧ p.rev = rev)
  | none => none

/-- What a channel's dies match: their common profile, or the first die that matches none or another than the lowest-positioned die's, with
whether its parameter page could be read (09_media_bus.md R393, R395). -/
def chanMatch (ps : List Profile) (r : ChanRep) : Profile ⊕ (Nat × Bool) :=
  match r.ids.head?.bind fun i => matchProfile ps i with
  | none => .inr (r.dies.headD 0, (r.ids.headD none).isNone)
  | some p =>
    match (r.dies.zip r.ids).find? fun x => matchProfile ps x.2 ≠ some p with
    | some x => .inr (x.1, x.2.isNone)
    | none => .inl p

/-- The channels of a cold start (R84, 09_media_bus.md R390 to R396, 07_translation.md R301). -/
def State.chansCold (s : State) (rs : List ChanRep) (ps : List Profile) : State :=
  let rep (n : Nat) := rs.find? fun r => r.chan = n && !r.dies.isEmpty
  let ref := (List.range s.fuse.part.channels).findSome? fun n => (rep n).bind fun r => (chanMatch ps r).getLeft?
  (List.range s.fuse.part.channels).foldl (fun s n =>
    match rep n with
    | none => s.chanOff { chan := n, dies := [], ids := [], trained := false, temp := 0 } []
    | some r =>
      if (s.cluster (n / 8)).lost then s.chanOff r []
      else match chanMatch ps r with
        | .inr (k, page) => s.chanOff r ((if page then [(0x44, k)] else []) ++ [(0x40, k)])
        | .inl p =>
          if !(ref.any fun x => decide (x.blocks = p.blocks ∧ x.densePpb = p.densePpb ∧ x.slcPpb = p.slcPpb)) then s.chanOff r [(0x41, 0)]
          else if !r.trained then s.chanOff r [(0x42, 0)]
          else
            let s := r.dies.foldl (fun s k => s.dieFound (16 * n + k % 16) true) s
            s.modChan n fun c => { c with cstate := .active, profile := some p, trainTemp := r.temp, trainAt := s.now }) s

/-- The channels of a warm start: saved settings and matches (09_media_bus.md R398). -/
def State.chansWarm (s : State) : State :=
  s.aon.warmrec.chans.foldl (fun s e =>
    if e.2.cstate = .active then
      s.modChan e.1 fun c => { c with cstate := .active, profile := e.2.profile, trainTemp := e.2.trainTemp, trainAt := e.2.trainAt }
    else (s.modChan e.1 fun c => { c with cstate := e.2.cstate, profile := e.2.profile }).retireBlock (.onfc e.1)) s

/-- The patina table of the newest checkpoint (08_media_reliability.md R361, R362); level changes since are lost. -/
def State.patinaSaved (s : State) : State :=
  let saved := match s.media.ckpts with | c :: _ => c.patina | [] => []
  { s with clus.patina := saved.map fun e => (e.1, { Patina.reset with off := e.2 }) }

/-- C6 (R80, R84, R867, 08_media_reliability.md R362, R374). -/
def State.stepC6 (s : State) (r : StepRep) : State :=
  let absent := s.clus.dies.any fun e => e.2.live &&
    (tget Onfc.reset s.aon.warmrec.chans (e.1 / 16)).live &&
    !(r.chans.any fun c => c.chan = e.1 / 16 && decide (e.1 % 16 ∈ c.dies))
  if s.sysc.warm && absent then s.stepFailed
  else
    let s := if s.sysc.warm then s.chansWarm else s.chansCold r.chans r.profiles
    let s := (s.clus.mclu.filter fun e => e.2.lost).foldl (fun s e => s.retireBlock (.mclu e.1)) s
    let s : State := { s with
      ftlm.width := min 16 s.liveChans.length
      ftlm.profile := s.liveChans.head?.bind fun n => (s.chan n).profile }
    let saved := r.patinaCheck.getD s.pers.patinaCheck
    let s := if s.sysc.warm && decide (saved ≠ s.aon.warmrec.patinaCheck) then s.patinaSaved else s
    -- the drain rate of L follows the channels and the profile (10_persistence.md R417, R420)
    (((s.readyBlocks ((List.range s.fuse.part.clusters).flatMap clusterPages)).stepDone 6 7).hallSync).applyLimit

/-! ### C7: map recovery -/

/-- One record that C7 replays: its write sequence, and either a discard or a unit with its place (10_persistence.md R441). -/
structure Replayed where
  /-- Its write sequence. -/
  seq : Nat
  /-- A coarse unit. -/
  coarse : Bool
  /-- The first unit, and how many: one, but for a discard. -/
  unit : Nat
  count : Nat
  /-- The place; `none` for a discard. -/
  place : Option Nat
deriving DecidableEq, Repr

/-- A record placed in ascending sequence. -/
def insertSeq (r : Replayed) : List Replayed → List Replayed
  | [] => [r]
  | x :: l => if r.seq ≤ x.seq then r :: x :: l else x :: insertSeq r l

/-- The slots of a programmed page as records; a slot whose codewords fail, or that an abandonment record names, is dropped. -/
def pageRecords (abandoned : List Nat) (key : Nat) (p : MPage) : List Replayed :=
  p.oob.zipIdx.filterMap fun r =>
    let pua := mkPua (key / 65536) (key % 65536) r.2
    if r.2 ∈ p.bad || pua ∈ abandoned then none
    else if r.1.coarse then some { seq := r.1.seq, coarse := true, unit := r.1.lunit, count := 1,
                                   place := some (mkPua (key / 65536) (key % 65536 - r.1.cpage) 0) }
    else some { seq := r.1.seq, coarse := false, unit := r.1.lunit, count := 1, place := some pua }

/-- Every record above s_ck, in ascending sequence (R441, R442). -/
def Media.replay (m : Media) (sck : Nat) : List Replayed :=
  let abandoned := (m.journal.filter fun j => j.kind = .abandon).map (·.first)
  let slots := m.pages.flatMap fun e => pageRecords abandoned e.1 e.2
  let discards := m.journal.filterMap fun j => match j.kind with
    | .discardFine => some { seq := j.seq, coarse := false, unit := j.first, count := j.count, place := none }
    | .discardCoarse => some { seq := j.seq, coarse := true, unit := j.first, count := j.count, place := none }
    | .abandon => none
  ((slots ++ discards).filter fun (r : Replayed) => decide (sck < r.seq)).foldl (fun (l : List Replayed) (r : Replayed) => insertSeq r l) []

/-- A map entry written, with no other effect. -/
def State.putEntry (s : State) (coarse : Bool) (u : Nat) (e : Word) : State :=
  if coarse then { s with ftlm.coarse := tput 0 s.ftlm.coarse u e } else { s with ftlm.fine := tput 0 s.ftlm.fine u e }

/-- One record replayed (R441, 07_translation.md R330). -/
def State.replayOne (s : State) (r : Replayed) : State :=
  match r.place with
  | none => (List.range r.count).foldl (fun s i => s.putEntry r.coarse (r.unit + i) (discarded r.seq)) s
  | some p =>
    let e := s.mapEntry r.coarse r.unit
    if mapSt e = 2 && decide (r.seq < mapPua e) then s else s.putEntry r.coarse r.unit (mapped p)

/-- The valid counts of every band, from the maps. -/
def State.countValid (s : State) : State :=
  let used (c : Bool) (t : Tbl Word) (b : Nat) : Nat :=
    unitSlots c * (t.filter fun e => mapSt e.2 = 1 && puaBand (mapPua e.2) = b).length
  { s with ftlm.bands := s.ftlm.bands.map fun e => (e.1, { e.2 with valid := used true s.ftlm.coarse e.1 + used false s.ftlm.fine e.1 }) }

/-- Both maps from the newest checkpoints and the records after them (R441 steps 1 and 2). -/
def State.recoverMaps (s : State) : State :=
  let cks := (s.media.ckpts.take 16).reverse
  let sck := match s.media.ckpts with | c :: _ => c.s | [] => 0
  let s : State := { s with
    ftlm.fine := cks.foldl (fun t c => c.fine.foldl (fun t e => tput 0 t e.1 e.2) t) []
    ftlm.coarse := cks.foldl (fun t c => c.coarse.foldl (fun t e => tput 0 t e.1 e.2) t) [] }
  let recs := s.media.replay sck
  let top := recs.foldl (fun n r => max n r.seq) (max sck s.media.seqHigh)
  let s := (recs.foldl State.replayOne s).countValid
  { s with ftlm.seq := max s.ftlm.seq (top + 1), ftlm.changedFine := [], ftlm.changedCoarse := [] }

/-- The lines of the quench reserve pages after the newest open marker, placed in the DRAM tier and held there (R443). -/
def State.loadReserve (s : State) : State :=
  s.reserveNow.reverse.foldl (fun (s : State) p => (p.lines.filter fun l => s.reserveCounts false (l.1 / 64) p).foldl (fun (s : State) l =>
    { s with tier.lines := tins l.1 { TLine.reset with data := l.2.1, poison := l.2.2, held := true } s.tier.lines }) s) s

/-- A coarse unit's pages in the quench reserve, programmed into a new capture band, to which its entry then changes (R444). -/
def State.landHank (s : State) (c : Nat) (pages : List (Nat × MPage)) : State :=
  match s.capturePlace none true with
  | (none, s) => s
  | (some dst, s) =>
    let s := pages.foldl (fun (s : State) x =>
      let (q, s) := s.takeSeqs 4
      let page := { x.2 with oob := x.2.oob.zipIdx.map fun r => { r.1 with seq := q + r.2, qres := false } }
      s.storePage (puaBand dst) (puaPage dst + x.1) page) s
    (s.setEntry true c (mapped dst)).closeIfFull (puaBand dst)

/-- Coarse units with pages in the reserve are copied, with the pages they have in place (R444). -/
def State.landReserve (s : State) : State :=
  s.reserveUnits.foldl (fun s c => s.landHank c ((List.range 64).filterMap fun i => (s.hankPage c i).map fun m => (i, m))) s

/-- Coarse units with pages in the reserve, and those whose band was sealed before they filled, are copied (R444). -/
def State.landStranded (s : State) : State :=
  let units := s.reserveUnits
  let s := s.landReserve
  let part := s.ftlm.coarse.filterMap fun e =>
    let p := mapPua e.2
    let b := s.band (puaBand p)
    if mapSt e.2 = 1 && e.1 ∉ units && b.cls = 0 && b.phase = .closed &&
       (List.range 64).any (fun i => !s.stored (puaBand p) (puaPage p + i)) then some (true, e.1, p) else none
  part.foldl (fun s u =>
    match s.capturePlace none true with
    | (none, s) => s
    | (some dst, s) =>
      let (q, s) := s.takeSeqs 256
      s.completeMove { coarse := true, unit := u.2.1, src := u.2.2, dst := dst, seq := q, kind := .start }) s

/-- How the newest session ended, as byte 9 of R449 (R446). -/
def State.sessionEnd (s : State) : Nat :=
  match s.media.session with
  | .never => 5
  | .closed => 0
  | .quenched => match s.media.reserve.find? fun p => p.marker = 2 with
    | some p => if p.unsealed.isEmpty then 1 else 2
    | none => 1
  | .opened => if s.media.reserve.any fun p => p.marker = 1 then 3 else 4

/-- The session classified and marked (R446, R447, R871); the markers have then done their work. -/
def State.classify (s : State) : State :=
  let o := s.sessionEnd
  let f := s.media.reserve.find? fun p => p.marker = 2
  let s : State := { s with
    pers.prevOutcome := o
    pers.prevDuration := if o = 1 ∨ o = 2 then (f.map (·.duration)).getD 0 else 0
    pers.prevDirty := if o = 1 ∨ o = 2 then (f.map (·.dirtyMib)).getD 0 else 0
    media.session := if s.media.session = .never then .never else .closed
    media.reserve := s.media.reserve.filter fun p => p.marker = 0 }
  if o = 3 ∨ o = 4 then State.cause { s with mbox.dirtyShut := s.mbox.dirtyShut + 1 } .sysc 10 5 else s

/-- The old reserve blocks are freed once every line in them has been destaged (R443). -/
def State.reserveSync (s : State) : State :=
  if s.pers.quench.isSome || s.tier.lines.any (fun e => e.2.held) || s.reserveNeeded then s
  else { s with media.reserve := s.media.reserve.filter fun p => p.marker ≠ 0 }

/-- The units of the open blocks of unsealed dies are moved (R442). -/
def State.moveUnsealed (s : State) : State :=
  let bands := s.ftlm.bands.filter fun e => e.2.members.any fun m => m.1 ∈ s.aon.unsealed
  let us := bands.flatMap fun e => s.bandUnits e.1
  let s := s.startMoves 3 .start false us (4 * us.length + 4)
  { s with aon.unsealed := [] }

/-- Units that C7 could not recover read as poisoned; critical (07_translation.md R298, R446). -/
def State.loseUnits (s : State) (us : List Nat) : State :=
  if us.isEmpty then s
  else (us.foldl (fun s u => (s.putEntry false u poisoned).noteUnit u) s).changeRecord .ftlm 0x98 0 (us.headD 0 / 12) 5

/-- The host data size of the start: a reduction below a unit in use is not applied (07_translation.md R346). -/
def State.sizeHost (s : State) : State :=
  let want := fld s.ftlm.hdrcfg 0 26
  let old := s.ftlm.hdrMib
  let inUse := s.ftlm.fine.any fun e => decide (want * 256 ≤ e.1) && mapSt e.2 ≠ 0 && mapSt e.2 ≠ 2
  if want < old && inUse then s.namedRecord .ftlm want old 0 2 else { s with ftlm.hdrMib := want }

/-- The always-on ring's records that the long log does not hold are copied into it (17_event_recorder.md R704). -/
def State.logCatchUp (s : State) : State :=
  let e := s.evtr
  -- the records that pad a page do not count
  let top := (e.log.filter fun r => r.code ≠ 0).foldl (fun (m : Option Nat) r => match m with
    | some q => if newer32 r.seq q then some r.seq else m
    | none => some r.seq) none
  let l := e.aonRing.reverse.filter fun r => decide (e.logsev ≤ r.sev) && top.all fun q => newer32 r.seq q
  l.foldl State.logPut s

/-- The start epoch of a cold start (14_memory_protection.md R622): `none` when it is exhausted. -/
def State.newEpoch (s : State) : Option State :=
  if s.mprt.epoch = 2 ^ 32 - 1 then none
  else
    let ranges := s.mprt.ranges.map fun e => (e.1, { e.2 with degraded := false })
    let m : Mprt := { s.mprt with
      epoch := s.mprt.epoch + 1, majhw := 0, nodehw := 0, pages := [], rebuilt := [], nodes := [], ranges := ranges }
    some (State.writeRecord { s with mprt := m } 8)

/-- The device slot's key is generated at the first start (14_memory_protection.md R586). -/
def State.firstKey (s : State) : State :=
  if (s.kslot s.mprt.devslot).st = .empty then (s.generateKey s.mprt.devslot).writeRecord 9 else s

/-- C7 run in full (R441). -/
def State.recover (s : State) (r : StepRep) : State :=
  let s : State := { s with strd.idx := [] }
  let s := if s.sysc.warm then s else s.patinaSaved
  let s := (s.recoverMaps.loseUnits r.lostUnits).loadReserve
  let s := s.landStranded.moveUnsealed
  let s : State := { s with pers.mapGen := wrapInc 32 s.pers.mapGen }
  s.countValid

/-- A SAFE condition at C7 (R53, 07_translation.md R310, R344). -/
def State.safeCondition (s : State) (short : Bool) : Bool :=
  short || decide (s.ftlm.exported < s.ftlm.hdrMib + s.hankUse) || s.shortOfSpace

/-- The blocks with a program failure during the last QUENCH: their units move and they are retired (10_persistence.md R429,
08_media_reliability.md R369). -/
def State.retireFailed (s : State) : State :=
  (s.media.blocks.filter fun e => e.2.failed).foldl (fun (s : State) e =>
    let d := e.1 / 8192
    let b := e.1 % 8192
    let s := match e.2.use with | .band n => s.relocate .failure (s.blockUnits n (d, b)) | _ => s
    (s.retireBlk d b).modBlk d b fun k => { k with failed := false }) s

/-- C7 (R80, R92; 10_persistence.md R441 to R447; 07_translation.md R344 to R346). -/
def State.stepC7 (s : State) (r : StepRep) : State :=
  let (gen, check) := r.mapRead.getD (s.pers.mapGen, s.pers.mapCheck)
  let intact := s.sysc.warm && s.pers.dramKept && decide (gen = s.aon.warmrec.mapGen ∧ check = s.aon.warmrec.mapCheck)
  match if s.sysc.warm then some s else s.newEpoch with
  | none => (s.changeRecord .mprt 0x40 s.mprt.epoch s.mprt.epoch 5).becomeService
  | some s =>
    -- nothing of the quench reserve is lost where recovery is skipped (R446; log 60)
    let s := (if intact then s.landReserve else s.firstKey.recover r).retireFailed
    let s : State := { s with sysc.start.mapChecked := intact }
    let s := s.classify.reserveSync.sizeHost
    let s : State := { s with ftlm.exported := s.exportNow }
    let s : State := { s with sysc.start.safeFound := s.safeCondition r.reserveShort }
    let s := recTypes.foldl State.repairRecord s
    ((s.readyBlocks [.ftlm, .plan, .rple, .qrye]).planNext.annealNext.settle.logCatchUp.stepDone 7 8).spaceSync

/-! ### C8 and C9 -/

/-- Ranges whose slot is ABSENT are LOCKED (14_memory_protection.md R593, R636). -/
def State.lockAbsent (s : State) : State :=
  let bad (x : Range) : Bool := x.bound && (s.kslot x.slot).st = .absent
  let any := s.mprt.ranges.any fun e => bad e.2
  let s : State := { s with mprt.ranges := s.mprt.ranges.map fun e => (e.1, { e.2 with locked := bad e.2 }) }
  if any then s.cause .mprt 6 else s

/-- C8 (R80; 14_memory_protection.md R627, R629). -/
def State.stepC8 (s : State) (r : StepRep) : State :=
  if s.sysc.warm && !r.rootOk then s.stepFailed
  else
    let s := if s.sysc.warm then { s with mprt.nodes := s.aon.warmrec.root.foldl (fun t e => tins e.1 e.2 t) s.mprt.nodes } else s
    (s.lockAbsent.readyBlocks [.mprt]).stepDone 8 9

/-- A fallback start has reached MEMORY or SAFE: its image is the selected one now (R98, 17_event_recorder.md R870). -/
def State.fallbackTaken (s : State) (count : Nat) : State :=
  let i := s.boot.img
  if !s.sysc.fallback then s
  else
    let swapped : ImgRec := { i with selected := i.previous, previous := i.selected, trial := false, trialrun := false }
    (State.writeRecord { s with boot.img := swapped } 10).namedRecord .boot i.previous i.selected count 5

/-- A start of an image on trial has reached MEMORY or SAFE: TRIALRUN is written and the trial timer starts, 600 s of the always-on clock
(19_firmware_and_identity.md R767). -/
def State.trialStarts (s : State) : State :=
  if s.boot.img.trial && !s.sysc.fallback && s.boot.runSlot = s.boot.img.selected then
    State.writeRecord { s with boot.img.trialrun := true, boot.trialDue := some (s.aon.ticks + 600 * 32768) } 10
  else s

/-- C9 completes with the link up and PERST_N high: the start leaves STARTING (R55, R61, R64, R81, R96, R871). -/
def State.stepC9 (s : State) : State :=
  if !s.cxlp.up || s.sysc.perst then s
  else
    let s : State := { s with sysc.step := 9, sysc.start.running := false }
    if s.sysc.start.boundService then s.setMode .service
    else
      let count := s.aon.failcnt
      let s := s.setMode (if s.sysc.start.safeFound then .safe else .memory)
      let s : State := { s with cxlp.memen := true, aon.failcnt := 0, media.session := .opened }
      ((s.trialStarts).fallbackTaken count).hallSync

/-- START_STEP_COMPLETE (R80): the step in progress completes with what it found. C1 completes with the power-up table, C2 with its
recall. -/
def execStartStepComplete (r : StepRep) (s : State) : Host.Outcome State Fault Refusal :=
  let st := s.sysc.start
  finish <| if s.sysc.mode ≠ .starting || !st.running || s.pseq.seq.down then s
  else if st.cur = 1 then
    if s.pseq.seq.phase ≠ .complete then s
    else State.stepDone { s with psto.recalling := s.psto.recalling.or (some .startStep) } 1 2
  else if r.fail then s.stepFailed
  else match st.cur with
    | 2 => if s.psto.recalling.isSome then s else s.stepDone 2 3
    | 3 => s.stepC3 r
    | 4 => s.stepC4 r
    | 5 => s.stepC5 r
    | 6 => s.stepC6 r
    | 7 => s.stepC7 r
    | 8 => s.stepC8 r
    | 9 => s.stepC9
    | _ => s

/-- The maximum time of a start step in us, for the part of the table, taken for every part (R80; DESIGN CHOICE, log 27). A warm C7 takes that of the map's check. -/
def stepMax (warm : Bool) : Nat → Nat
  | 2 => 1600
  | 3 => if warm then 42000 else 45000
  | 4 => 3000
  | 5 => if warm then 2000 else 250000
  | 6 => if warm then 1000 else 60000
  | 7 => if warm then 10000 else 2500000
  | 8 => if warm then 2000 else 200000
  | _ => 60000

/-- Twice the maximum time of the step in progress has passed since it began (R80, R83). -/
def State.stepOverdue (s : State) : Bool :=
  decide (s.sysc.start.since + 2 * stepMax s.sysc.warm s.sysc.start.cur * 1000 ≤ s.now)

/-- START_STEP_TIMEOUT (R83): for a step other than C1; time with PERST_N asserted does not count at C9 (R64). -/
def execStartStepTimeout (s : State) : Host.Outcome State Fault Refusal :=
  let st := s.sysc.start
  finish <| if s.sysc.mode ≠ .starting || !st.running || s.pseq.seq.down || st.cur < 2 || (st.cur = 9 && s.sysc.perst) || !s.stepOverdue then s
  else s.stepFailed

end Sys2Proof.Machine
end

