-- ==== Sys2Proof/Machine/MediaCmds.lean ====
section
/-!
DEFINITION. The commands of translation and of map checkpoints (07_translation.md, 10_persistence.md R435 to R437).
-/
namespace Sys2Proof.Machine

/-- A coarse unit may be annealed (R319). -/
def State.coarseEligible (s : State) (c : Nat) : Bool :=
  match s.unitStrand c with
  | some (_, x) => !x.policy || x.st = .idle || x.st = .done || decide (s.landing < fld s.ftlm.slcctl 13 13)
  | none => true

/-- HOST_DESTAGE (R311, R875; 05_near_cache.md R212): a page for the unit is programmed in the open host destage band; without one a
band is opened and the unit stays dirty. -/
def execHostDestage (unit : Nat) (s : State) : Host.Outcome State Fault Refusal :=
  finish <| if !s.working || s.ftlm.exhausted || unit ∉ (s.cleanUnit unit).dirtyUnits then s
  else
    let s := s.cleanUnit unit
    match s.room 1 1 false with
    | (none, s) => s.exhaustCheck
    | (some b, s) =>
      let (page, gens, s) := s.finePage 1 [unit]
      (s.issueProgram b page .tier gens).2

/-- An operation is in the array of some die. -/
def State.inArray (s : State) (kind : OpKind) (ref : Nat) : Bool := s.clus.dies.any fun e => e.2.array.any fun o => o.kind = kind && o.ref = ref

/-- PAGE_PROGRAM_COMPLETE, of a program in its die's array (R313, R315; 08_media_reliability.md R368, R369; 09_media_bus.md R401; 12_capture.md R514
to R516). -/
def execPageProgramComplete (id : Nat) (ok : Bool) (s : State) : Host.Outcome State Fault Refusal :=
  finish <| match s.ftlm.progs.find? fun e => e.1 = id && s.inArray .program id with
  | none => s
  | some (_, p) =>
    let s := State.programEnds { s with ftlm.progs := tdel id s.ftlm.progs } id
    if ok then
      -- a program whose data is being driven again elsewhere stores nothing that counts
      let s := if p.src = .none then s else s.storePage p.band p.dpage p.page
      let s := match p.src with
        | .tier => s.destaged p.band p.dpage p.page p.units
        | .frame _ | .move => (s.hankProgrammed id p.page).rewindSync
        | _ => s
      ((s.closeIfFull p.band).zeroDone.applyLimit).reserveSync.spaceSync.exhaustCheck
    else (s.programFailed id p).exhaustCheck

/-- ERASE_COMPLETE (R306, R307, R334): the band opens when every member is erased; a block that fails, or has reached its
endurance, is retired and another is chosen on the same die. -/
def execEraseComplete (die block : Nat) (ok : Bool) (s : State) : Host.Outcome State Fault Refusal :=
  finish <| if !s.inArray .erase (die * 8192 + block) then s
  else
  let s := s.eraseEnds die block
  match (s.blk die block).use with
  | .band b =>
    let x := s.band b
    match x.members.findIdx? fun m => m = (die, block) with
    | none => s
    | some i =>
      if x.phase ≠ .erasing || i ∉ x.unerased then s
      else
        let s := s.modBlk die block fun k => if x.slc then { k with slc := k.slc + 1 } else { k with qlc := k.qlc + 1 }
        let p := s.ftlm.profile.getD {}
        let worn := decide (0 < p.endurDense ∧ p.endurDense ≤ (s.blk die block).qlc) ||
          decide (0 < p.endurSlc ∧ p.endurSlc ≤ (s.blk die block).slc)
        if ok && !worn then
          let left := without x.unerased i
          (s.modBand b fun x => { x with unerased := left, phase := if left.isEmpty then .opened else .erasing }).driveAll.exhaustCheck
        else
          let s := if ok then s else s.cause (.mclu (die / 128)) 4
          let s := (s.retireBlk die block).blockDeaths die
          match s.leastWorn die x.slc with
          | some (_, nb) =>
            let s := s.modBlk die nb fun k => { k with use := .band b }
            let s := s.modBand b fun x => { x with members := x.members.set i (die, nb) }
            (s.queueErase die nb (workClass x.cls)).spaceSync.landSync
          | none =>
            -- no other block on the die: the band is given up and its class asks again
            ((s.giveUpBand b).openBand x.cls false).exhaustCheck
  | _ => s

/-- The units of a band that anneal may move (R319). -/
def State.annealUnits (s : State) (b : Nat) : List (Bool × Nat × Nat) := (s.bandUnits b).filter fun u => !u.1 || s.coarseEligible u.2.1

/-- The closed pseudo-SLC band with the oldest close sequence that holds an eligible unit (R319). -/
def State.annealBand (s : State) : Option Nat :=
  ((s.ftlm.bands.filter fun e => e.2.slc && e.2.phase = .closed && !(s.annealUnits e.1).isEmpty).foldl (fun m e =>
    match m with | some (q, b) => if e.2.closeSeq < q then some (e.2.closeSeq, e.1) else some (q, b) | none => some (e.2.closeSeq, e.1))
    (none : Option (Nat × Nat))).map (·.2)

/-- ANNEAL (R319, R320). -/
def execAnneal (band : Nat) (s : State) : Host.Outcome State Fault Refusal :=
  finish <| if !s.working || s.annealPaused || s.annealBand ≠ some band then s
  else
    let us := s.annealUnits band
    (s.startMoves 2 .anneal false us (us.length + 1)).annealNext.exhaustCheck

/-- GC_START (R322, R323). -/
def execGcStart (band : Nat) (s : State) : Host.Outcome State Fault Refusal :=
  let low := s.liveDies.any fun d => decide ((s.freeBlocks d).length < s.gcStart)
  finish <| if !s.working || !(low || s.ftlm.gc) || s.gcVictim ≠ some band then s
  else
    let us := s.bandUnits band
    (State.startMoves { s with ftlm.gc := true } 3 .gc false us (us.length + 1)).spaceSync.exhaustCheck

/-- MOVE_COMPLETE (R325, R326), in the modes with moves (02_modes_and_starts.md R48). -/
def execMoveComplete (src dst : Nat) (s : State) : Host.Outcome State Fault Refusal :=
  finish <| match s.ftlm.moves.find? fun m => m.src = src && m.dst = dst && s.working with
  | none => s
  | some m => (s.completeMove m).failedDone (puaBand m.src)

/-- The map line of the captured error (FTLM.MAPERR): only the first captured error writes it. -/
def State.mapError (s : State) (coarse : Bool) (line code bits sev : Nat) : State :=
  let first := !(s.hdr .ftlm).evalid
  let s := if first then { s with ftlm.maperr := packW [(30, line), (1, b2n coarse), (1, 1)] } else s
  s.error .ftlm code (b2n coarse * 2 ^ 27 + line / 8 % 2 ^ 27) bits sev

/-- MAP_LINE_REBUILT (R298, R347, R348): the entries stand as the checkpoint and records give them; units that nothing recovers
become POISONED. -/
def execMapLineRebuilt (coarse : Bool) (line : Nat) (lost : List Nat) (s : State) : Host.Outcome State Fault Refusal :=
  finish <| match s.sysc.mode with
  | .memory | .stream | .safe =>
    let lost := lost.filter fun u => u / 12 = line
    if lost.isEmpty then s.mapError coarse line 0x41 (2 ^ 5) 4
    else
      let s := lost.foldl (fun s u => let s := s.setEntry coarse u poisoned; if coarse then s else s.noteUnit u) s
      s.mapError coarse line 0x42 (2 ^ 5) 5
  | _ => s

/-- HDRCFG_WRITE (R346, R296). -/
def State.regHdrcfgWrite (s : State) (v : Word) : State :=
  let m := fld v 0 26
  if !(s.hdr .ftlm).ready then s
  else if 33554432 < m ∨ 12 * (s.tier.liveGib * 2 ^ 30 / 128) / 256 < m ∨ s.ftlm.exported < m + s.hankUse then s.error .ftlm 0x43 0
  else State.hostRecord { s with ftlm.hdrcfg := BitVec.ofNat 40 m } 3

/-- CHECKPOINT_DUE (R435, R436), at its time. -/
def execCheckpointDue (s : State) : Host.Outcome State Fault Refusal := finish (s.passTicks s.checkpointWait).checkpointDue

/-- CHECKPOINT_COMPLETE (R436, R437, R451, R452): the closing marker is programmed, or the record cannot be written. -/
def execCheckpointComplete (ok : Bool) (s : State) : Host.Outcome State Fault Refusal :=
  finish <| match s.pers.ckptBusy with
  | none => s
  | some c =>
    let s := { s with pers.ckptBusy := none }
    let s := if ok then { s with media.ckpts := (c :: s.media.ckpts).take 16 } else s.error .sysc 0x49 0 (2 ^ 11)
    s.checkpointNext

end Sys2Proof.Machine
end

