-- ==== Sys2Proof/Machine/Windows.lean ====
section
/-!
DEFINITION. BAR2, and what the host port reports in its configuration space (04_host_port.md R137, R139, R140, R152; 02_modes_and_starts.md R82).
spec/ places the structures in BAR2 and names their contents; the registers inside the CXL and PCIe structures are those of the standards,
which it does not restate, so their places are PRESUMED of CXL 3.1 and PCIe 6.x (log 96), and a register of them that holds no state of the
controller reads as a free value.
-/
namespace Sys2Proof.Machine

/-- The windows that a host access numbers: BAR0 below this, BAR2 from here (log 96). -/
def bar2Base : Nat := 2 ^ 26
/-- The structures of the configuration space, after BAR2 (log 96). -/
def configBase : Nat := 2 ^ 26 + 2 ^ 20

/-- The vector of the primary mailbox, and that of every CXL event log, as the standard interrupt message number fields report them (R140). -/
def mailboxVector : Nat := 1
/-- The vector of the CXL event logs (R140). -/
def eventVector : Nat := 2

/-- What BAR2 holds at an offset (R139). -/
inductive Bar2At where
  /-- CXL component registers. -/
  | component
  /-- CXL device registers. -/
  | device
  /-- Half `half` of an MSI-X table entry. -/
  | table (vector half : Nat)
  /-- The MSI-X pending-bit array. -/
  | pending
  /-- Unoccupied. -/
  | empty
deriving DecidableEq, Repr

/-- The contents of BAR2 by offset (R139). -/
def bar2At (o : Nat) : Bar2At :=
  if o < 0x10000 then .component
  else if o < 0x20000 then .device
  else if o < 0x20400 then .table ((o - 0x20000) / 16) (o / 8 % 2)
  else if 0x21000 ≤ o ∧ o < 0x21008 then .pending
  else .empty

/-- The Register Locator's entries: register block identifier and offset in BAR2, of the component and the device registers (R139). -/
def registerLocator : List (Nat × Nat) := [(1, 0), (3, 0x10000)]

/-- An HDM decoder as the standard capability shows it: base, size, control. -/
def decoderSlot (d : Decoder) (k : Nat) : Nat :=
  match k with
  | 0 => d.base
  | 1 => d.size
  | _ => (if d.gran = 0 then 0 else d.gran.log2 - 8) % 16 + 16 * (d.ways.log2 % 16) + 2 ^ 9 * b2n d.committed + 2 ^ 10 * b2n d.committed +
      2 ^ 11 * b2n d.err + 2 ^ 13 * b2n d.db

/-- A slot of the component registers: the capability headers of RAS, link, HDM decoder and BI decoder, and the HDM decoders. -/
def State.componentSlot (s : State) (o : Nat) : Option Nat :=
  let header (id ptr : Nat) : Nat := id + 2 ^ 16 + ptr * 2 ^ 20
  match o with
  | 0x1000 => some (1 + 2 ^ 16 + 2 ^ 20 + 4 * 2 ^ 24 + 2 ^ 32 * header 2 0x100)
  | 0x1008 => some (header 4 0x200 + 2 ^ 32 * header 5 0x300)
  | 0x1010 => some (header 0xC 0x600)
  | 0x1300 => some (4 + 2 ^ 32 * 2)
  | _ => if 0x1310 ≤ o ∧ o < 0x1410 then
      let k := o / 8 % 4
      some (match k with | 2 => decoderSlot (tget Decoder.reset s.cxlp.decoders ((o - 0x1310) / 32)) 0
                         | 3 => decoderSlot (tget Decoder.reset s.cxlp.decoders ((o - 0x1310) / 32)) 1
                         | 0 => decoderSlot (tget Decoder.reset s.cxlp.decoders ((o - 0x1310) / 32)) 2
                         | _ => 0)
    else none

/-- A slot of the device registers: the capabilities array with its three capabilities, the device status, and the primary mailbox's capabilities
with its 8 KiB payload and its interrupt message number (R139, R140). -/
def State.deviceSlot (s : State) (o : Nat) : Option Nat :=
  match o with
  | 0x10000 => some (2 ^ 16 + 3 * 2 ^ 32)
  | 0x10010 => some (1 + 2 ^ 16 + 2 ^ 32 * 0x40)
  | 0x10018 => some 8
  | 0x10020 => some (2 + 2 ^ 16 + 2 ^ 32 * 0x80)
  | 0x10028 => some (0x20 + 8192)
  | 0x10030 => some (0x4000 + 2 ^ 16 + 2 ^ 32 * 0x4000)
  | 0x10038 => some 8
  | 0x10080 => some (13 + 2 ^ 5 + 2 ^ 6 + mailboxVector * 2 ^ 7)
  | 0x10090 => some (b2n s.mbox.bg.isSome)
  | _ => none

/-- What the configuration space reports besides: the Memory Active Timeout in ms (02_modes_and_starts.md R82), the duration in us and the power in
W of GPF phase 2 (R152), and the Register Locator's entries (R139). -/
def configSlot (o : Nat) : Nat :=
  match o / 8 with
  | 0 => 4000
  | 1 => 100
  | 2 => 65
  | k => match registerLocator[k - 3]? with | some (id, off) => id * 2 ^ 32 + off | none => 0

/-- A slot of BAR2 read (R139). -/
def State.bar2Slot (s : State) (o : Nat) : State × Nat :=
  let standard (x : Option Nat) : State × Nat :=
    match x with | some v => (s, v) | none => let (v, s) := s.fresh1; (s, v)
  match bar2At o with
  | .component => standard (s.componentSlot o)
  | .device => standard (s.deviceSlot o)
  | .table v 0 => (s, tget 0 s.cxlp.msixAddr v)
  | .table v _ => (s, tget 0 s.cxlp.msixData v % 2 ^ 32 + 2 ^ 32 * b2n (decide (v ∈ s.cxlp.msixMask)))
  | .pending => (s, bitsOf s.cxlp.msixPend)
  | .empty => (s, 0)

/-- The mask bit of an MSI-X table entry: a message pending is sent as it clears (03_registers_and_hallmark.md R117). -/
def State.msixMaskBit (s : State) (v : Nat) (mask : Bool) : State :=
  if 64 ≤ v then s
  else if mask then { s with cxlp.msixMask := withNew s.cxlp.msixMask v }
  else
    let s := { s with cxlp.msixMask := without s.cxlp.msixMask v }
    if v ∈ s.cxlp.msixPend then { s with cxlp.msixPend := without s.cxlp.msixPend v }.send (.msix v) else s

/-- Bytes of a slot replaced where enabled. -/
def mergeSlot (old new enables : Nat) : Nat :=
  pack ((List.range 8).map fun i => (8, if enables.testBit i then new / 2 ^ (8 * i) % 256 else old / 2 ^ (8 * i) % 256))

/-- A slot of BAR2 written: the MSI-X table takes it; the decoders and the mailbox have commands of their own, and a write to any other offset is
discarded (R139). -/
def State.bar2Write (s : State) (o enables : Nat) (v : BitVec 64) : State :=
  match bar2At o with
  | .table k 0 => { s with cxlp.msixAddr := tput 0 s.cxlp.msixAddr k (mergeSlot (tget 0 s.cxlp.msixAddr k) v.toNat enables) }
  | .table k _ =>
    let w := mergeSlot (tget 0 s.cxlp.msixData k + 2 ^ 32 * b2n (decide (k ∈ s.cxlp.msixMask))) v.toNat enables
    State.msixMaskBit { s with cxlp.msixData := tput 0 s.cxlp.msixData k (w % 2 ^ 32) } k (w.testBit 32)
  | _ => s

/-- A slot of BAR2 or of the configuration space read: the enabled bytes of it. -/
def State.windowRead (s : State) (off enables : Nat) : State × BitVec 64 :=
  if off < configBase then
    let (s, v) := s.bar2Slot ((off - bar2Base) / 8 * 8)
    (s, BitVec.ofNat 64 (mergeSlot 0 v enables))
  else (s, BitVec.ofNat 64 (mergeSlot 0 (configSlot ((off - configBase) / 8 * 8)) enables))

end Sys2Proof.Machine
end

