-- ==== Sys2Proof/Machine/Mailbox.lean ====
section
/-!
DEFINITION. The mailbox and its commands, but for the firmware ones (04_host_port.md R184 to R190, 14_memory_protection.md R621, R632 to
R634, 10_persistence.md R449). Return codes and payload fields that the spec leaves to CXL 3.1 are PRESUMED (log 19).
-/
namespace Sys2Proof.Machine

/-! ### Execution -/

/-- A command completes: its answer, MBOX.COUNT.DONE and the cause (R185, MBOX.ISTAT). -/
def State.mbAnswer (s : State) (iface code : Nat) (payload : List Nat) : State :=
  (State.cause { s with mbox.exec := none, mbox.done := wrapInc 40 s.mbox.done } .mbox 1).send (.mailbox iface code payload)

/-- The mailbox answers on an interface: 1 the primary mailbox, 2 MCTP; in the hold of 02_modes_and_starts.md R99 only the firmware
commands on the sideband (19_firmware_and_identity.md R779). -/
def State.mbReady (s : State) (iface : Nat) (fw : Bool) : Bool := (s.hdr .mbox).ready || (s.boot.recoveryHold && iface = 2 && fw)

/-- The interface whose firmware command waits for the image record (19_firmware_and_identity.md R760, R765). -/
def Boot.holder (b : Boot) : Option Nat := b.activating.or (b.partWait.map (·.iface))

/-- A command submitted (R185): it executes at once, or waits behind a firmware command that waits for the image record; a second one on an
interface, which holds one, is turned away with Busy, and the executing command goes on. -/
def State.submit (s : State) (iface opcode : Nat) (c : Instr) (fw : Bool) (f : State → State) : State :=
  if !s.mbReady iface fw then s
  else match s.boot.holder with
    | some a =>
      if iface = a || !s.mbox.waiting.isEmpty then s.send (.mailbox iface 6 []) else { s with mbox.waiting := [c] }
    | none => f { s with mbox.exec := some (iface, opcode) }

/-- Media may be read by a command. -/
def State.mediaOn (s : State) : Bool :=
  (s.hdr .ftlm).ready && (s.sysc.mode = .memory || s.sysc.mode = .stream || s.sysc.mode = .safe)

/-- A span of bytes lies whole in the backed host data region (R142). -/
def State.backedSpan (s : State) (dpa len : Nat) : Bool := decide (dpa + len ≤ s.ftlm.hdrMib * 2 ^ 20)

/-! ### The standard commands -/

/-- Identify: the payload of the standard is not in the spec. -/
def State.mbIdentify (s : State) (i : Nat) : State := s.mbAnswer i 0 []

/-- Identify Memory Device: capacity in MiB, all persistent, no volatile; label storage area and poison list sizes (R138, R160,
R184). The whole capacity is the configured size of the host data region (DESIGN CHOICE, log 93). -/
def State.mbIdentifyDevice (s : State) (i : Nat) : State := s.mbAnswer i 0 [s.ftlm.hdrMib, 0, s.ftlm.hdrMib, 65536, 4096]

/-- Get Partition Info: volatile and persistent capacity in MiB, now and next (R138). -/
def State.mbPartition (s : State) (i : Nat) : State := s.mbAnswer i 0 [0, s.ftlm.hdrMib, 0, 0]

/-- One event record as Get Event Records lists it. -/
def CxlEvent.fields (e : CxlEvent) : List Nat :=
  [e.handle, e.stamp, b2n e.media, e.dpa] ++ (match e.record with | some r => [ofBytesLE (r.body ++ [r.check])] | none => [0])

/-- Get Event Records (R161): the records of a log, oldest first. -/
def State.mbGetEvents (s : State) (i log : Nat) : State :=
  if 3 < log then s.mbAnswer i 2 []
  else
    let l := tget [] s.mbox.logs log
    s.mbAnswer i 0 (l.length :: l.flatMap CxlEvent.fields)

/-- Clear Event Records (R184): all of a log, or the oldest ones by their handles. -/
def State.mbClearEvents (s : State) (i log : Nat) (handles : List Nat) (all : Bool) : State :=
  if 3 < log then s.mbAnswer i 2 []
  else
    let l := tget [] s.mbox.logs log
    if all then State.mbAnswer { s with mbox.logs := tput [] s.mbox.logs log [] } i 0 []
    else if (l.take handles.length).map (·.handle) = handles then
      State.mbAnswer { s with mbox.logs := tput [] s.mbox.logs log (l.drop handles.length) } i 0 []
    else s.mbAnswer i 0xE []

/-- Get Supported Logs: the Command Effects Log alone (R184). -/
def State.mbSupportedLogs (s : State) (i : Nat) : State := s.mbAnswer i 0 [1]

/-- The opcodes of the Command Effects Log (R184, R187). -/
def effectsLog : List Nat :=
  [0x0001, 0x0100, 0x0101, 0x0102, 0x0103, 0x0200, 0x0201, 0x0202, 0x0300, 0x0301, 0x0400, 0x0401, 0x4000, 0x4100, 0x4102, 0x4103,
   0x4200, 0x4201, 0x4202, 0x4203, 0x4204, 0x4300, 0x4301, 0x4302, 0x4303, 0x4304, 0x4305, 0x4400, 0x4401, 0xC000, 0xC001, 0xC010,
   0xC020, 0xC030, 0xC040, 0xC041, 0xC042]

/-- Get Log: log 0 is the Command Effects Log, 4 bytes an entry. -/
def State.mbGetLog (s : State) (i log offset length : Nat) : State :=
  if log ≠ 0 then s.mbAnswer i 0x17 []
  else if 4 * effectsLog.length < offset + length then s.mbAnswer i 2 []
  else s.mbAnswer i 0 ((effectsLog.drop (offset / 4)).take (length / 4))

/-- Get Health Info: T_g and the Dirty Shutdown Count (10_persistence.md R447) among fields that the spec leaves to the standard, which
are free values. -/
def State.mbHealth (s : State) (i : Nat) : State :=
  let (a, s) := s.fresh1
  let (b, s) := s.fresh1
  s.mbAnswer i 0 [a % 256, b % 256, intN 16 s.thrm.tg, s.mbox.dirtyShut]

/-- Get Poison List (R160): the overflow flag and timestamp, and the poisoned lines of the span. -/
def State.mbPoisonList (s : State) (i dpa len : Nat) : State :=
  if !s.mediaOn then s.mbAnswer i 7 []
  else
    let l := s.cxlp.poisonList.filter fun x => decide (dpa ≤ x * 64) && decide (x * 64 < dpa + len)
    s.mbAnswer i 0 ([b2n s.cxlp.poisonOver.isSome, s.cxlp.poisonOver.getD 0, l.length] ++ l.map (· * 64))

/-- A line of the host data region as it stands: in its slice, or behind it. -/
def State.lineNow (s : State) (line : Nat) : BitVec 512 × Bool :=
  match (s.sliceOf line).bind fun i => (s.slice i).lookup line with
  | some (_, w) => (w.data, w.poison)
  | none => s.lineData line

/-- A line of the host data region replaced where it stands, without the host port (Inject Poison, Clear Poison): after any victim-buffer
write of the line. -/
def State.replaceLine (s : State) (line : Nat) (data : BitVec 512) (poison : Bool) : State :=
  let s := s.settleVictim line
  ((s.invalidate fun l => l = line).storeBack line data poison)

/-- Inject Poison (R157). -/
def State.mbInject (s : State) (i dpa : Nat) : State :=
  if !s.mediaOn || s.sysc.mode = .safe then s.mbAnswer i 7 []
  else if dpa % 64 ≠ 0 || !s.backedSpan dpa 64 then s.mbAnswer i 0xF []
  else
    let line := dpa / 64
    let s := s.settleVictim line
    (s.replaceLine line (s.lineNow line).1 true).mbAnswer i 0 []

/-- Clear Poison (R159, 07_translation.md R343): the line takes the data given, and leaves the refused-line table. -/
def State.mbClear (s : State) (i dpa : Nat) (data : BitVec 512) : State :=
  if !s.mediaOn || s.sysc.mode = .safe then s.mbAnswer i 7 []
  else if dpa % 64 ≠ 0 || !s.backedSpan dpa 64 then s.mbAnswer i 0xF []
  else
    let line := dpa / 64
    ((s.replaceLine line data false).unrefuse line).mbAnswer i 0 []

/-- Get Scan Media Capabilities: the estimated time is a free value. -/
def State.mbScanCaps (s : State) (i dpa len : Nat) : State :=
  if !s.mediaOn then s.mbAnswer i 7 []
  else if !s.backedSpan dpa len then s.mbAnswer i 0xF []
  else
    let (t, s) := s.fresh1
    s.mbAnswer i 0 [t % 2 ^ 32]

/-- The poisoned lines of a span: those of the DRAM tier, of the units that are POISONED, and those that media pages mark. -/
def State.scanLines (s : State) (dpa len : Nat) : List Nat :=
  let inSpan (x : Nat) : Bool := decide (dpa ≤ x * 64) && decide (x * 64 < dpa + len)
  let tier := (s.tier.lines.filter fun e => e.2.poison && inSpan e.1).map (·.1)
  let media := s.ftlm.fine.flatMap fun e => ((List.range 64).map (64 * e.1 + ·)).filter fun x =>
    inSpan x && !s.tierHas x && (mapSt e.2 = 3 || (s.mediaLine x).2)
  tier ++ media

/-- Scan Media (R184, R186): it runs in the background and, as no event of the spec ends it, is complete at once (log 20). -/
def State.mbScan (s : State) (i dpa len : Nat) : State :=
  if !s.mediaOn then s.mbAnswer i 7 []
  else if !s.backedSpan dpa len then s.mbAnswer i 0xF []
  else if s.mbox.bg.isSome then s.mbAnswer i 6 []
  else
    let s := s.mbAnswer i 1 []
    let s : State := { s with mbox.bg := some (.scan (dpa / 64) (len / 64)), mbox.scan := s.scanLines dpa len }
    s.bgDone

/-- Get Scan Media Results. -/
def State.mbScanResults (s : State) (i : Nat) : State :=
  if !s.mediaOn then s.mbAnswer i 7 [] else s.mbAnswer i 0 (s.mbox.scan.map (· * 64))

/-- Every map entry UNMAPPED, with a checkpoint of the empty maps so that no older record maps a unit again; every slot retired, every
range unbound, and a new device-slot key in slot 0 (14_memory_protection.md R621). -/
def State.eraseKeys (s : State) : State :=
  let s := s.ncch.slices.foldl (fun (s : State) e => s.emptyVictims e.1) s
  let s := s.invalidate fun _ => true
  let ranges := s.mprt.ranges.map fun (e : Nat × Range) =>
    (e.1, { e.2 with slot := 0, bound := false, verify := false, viral := false, locked := false, degraded := false, rekeying := false, oldslot := 0 })
  let s : State := { s with
    ftlm.fine := []
    ftlm.coarse := []
    ftlm.moves := []
    tier.lines := []
    tier.hank := []
    strd.idx := []
    cxlp.poisonList := []
    cxlp.poisonOver := none
    mprt.slots := []
    mprt.ranges := ranges
    mprt.devslot := 0
    mprt.rekey := none
    mprt.rekeyQueue := []
    mprt.pages := s.mprt.pages.map fun e => (e.1, { e.2 with slot := none })
    media.ckpts := [{ Ckpt.reset with s := s.ftlm.seq, bands := s.ftlm.bands }] }
  let s := s.generateKey 0
  let s := (s.ftlm.bands.map (·.1)).foldl (fun s b => (s.modBand b fun x => { x with valid := 0 }).freeBand b) s
  ((s.writeRecord 8).writeRecord 9).applyLimit.spaceSync

/-- Every strand is FREE. -/
def State.allFree (s : State) : Bool := s.strd.strands.all fun e => e.2.st = .free

/-- Secure Erase (R621). -/
def State.mbSecureErase (s : State) (i : Nat) : State :=
  if !s.mediaOn then s.mbAnswer i 7 []
  else if !s.allFree then s.mbAnswer i 6 []
  else s.eraseKeys.mbAnswer i 0 []

/-- Every erase block outside the metadata reserve is erased. -/
def State.eraseAll (s : State) : State :=
  { s with
    media.pages := []
    media.reserve := []
    media.summaries := []
    media.blocks := s.media.blocks.map fun e => (e.1, if e.2.use = .retired then e.2 else { e.2 with use := .free, rewrite := false })
    ftlm.bands := []
    ftlm.progs := []
    clus.dies := s.clus.dies.map fun e => (e.1, { e.2 with array := none, paused := none, suspending := false, queue := [] }) }

/-- Sanitize (R621): in the background, complete at once (log 20). -/
def State.mbSanitize (s : State) (i : Nat) : State :=
  if !s.mediaOn then s.mbAnswer i 7 []
  else if !s.allFree || s.mbox.bg.isSome then s.mbAnswer i 6 []
  else
    let s := State.mbAnswer { s with mbox.bg := some .sanitize } i 1 []
    s.eraseKeys.eraseAll.bgDone

/-- Get LSA (R184): 64 KiB held in media. -/
def State.mbGetLsa (s : State) (i offset len : Nat) : State :=
  if !s.mediaOn then s.mbAnswer i 7 []
  else if 65536 < offset + len then s.mbAnswer i 2 []
  else s.mbAnswer i 0 ((tgets 0 s.mbox.lsa offset len).map (·.toNat))

/-- Set LSA (R184). -/
def State.mbSetLsa (s : State) (i offset : Nat) (data : List (BitVec 8)) : State :=
  if !s.mediaOn || s.sysc.mode = .safe then s.mbAnswer i 7 []
  else if 65536 < offset + data.length then s.mbAnswer i 2 []
  else State.mbAnswer { s with mbox.lsa := tputs 0 s.mbox.lsa offset data } i 0 []

/-- Set Timestamp (R161): only the base of the CXL event records. -/
def State.mbSetTime (s : State) (i time : Nat) : State :=
  State.mbAnswer { s with mbox.timestamp := some (time, s.coht.phase / 2 ^ 32) } i 0 []

/-! ### The controller's own commands -/

/-- A payload from its fields in order, each with its length in bytes, least significant byte first (R188). -/
def payload (l : List (Nat × Nat)) : List Nat := l.flatMap fun f => bytesLE f.1 f.2

/-- Get Latency Record (0xC001): three records of 16 bytes. -/
def State.mbLatency (s : State) (i : Nat) (clear : Bool) : State :=
  let l := (List.range 3).flatMap fun c =>
    let r := tget LatRec.reset s.cxlp.latency c
    payload [(8, r.count), (4, r.longest), (4, r.late)]
  State.mbAnswer (if clear then { s with cxlp.latency := [] } else s) i 0 l

/-- Discard Range (R189, R186): its journal record is written when it completes. -/
def State.mbDiscard (s : State) (i dpa len : Nat) : State :=
  if dpa % 4096 ≠ 0 ∨ len = 0 ∨ len % 4096 ≠ 0 ∨ !s.backedSpan dpa len then s.mbAnswer i 2 []
  else if !s.mediaOn then s.mbAnswer i 7 []
  else if s.mbox.bg.isSome then s.mbAnswer i 6 []
  else State.mbAnswer { s with mbox.bg := some (.discard false (dpa / 4096) (len / 4096)), mbox.bgPct := 0 } i 1 []

/-- Get Hank Windows (R190, R168, R169). -/
def State.mbHank (s : State) (i strand : Nat) : State :=
  let x := s.strand strand
  if s.strandCount ≤ strand ∨ x.st = .free then s.mbAnswer i 2 []
  else
    let base := x.hbase * 1048320
    let view := decide (base < 0x3C0000000000)
    let whole := decide ((x.hbase + x.hsize) * 1048320 ≤ 0x3C0000000000)
    s.mbAnswer i 0 (payload [(8, 2 ^ 47 + base), (8, if view then 2 ^ 45 + 8 * (x.hbase * unitWords) else 2 ^ 64 - 1),
      (8, x.hsize * unitWords), (4, b2n whole), (4, 0)])

/-- Get Persistence State (10_persistence.md R449). -/
def State.mbPersistence (s : State) (i : Nat) : State :=
  s.mbAnswer i 0 (payload [(4, s.dirtyMib), (4, s.pers.limit), (1, s.pers.limitSrc), (1, s.pers.prevOutcome), (2, 0), (4, s.cmeas),
    (4, s.pers.prevDuration), (4, satN 32 ((s.now - s.pers.cutAt) / 10 ^ 6)), (8, s.pers.cutCohort)])

/-- Load Key Slot (14_memory_protection.md R632, R590). -/
def State.mbLoadKey (s : State) (i : Nat) (key : BitVec 256) (k flags : Nat) : State :=
  let gen := flags.testBit 0
  let vol := flags.testBit 1
  let reload := flags.testBit 2
  let x := s.kslot k
  if !(s.hdr .mprt).ready then s.mbAnswer i 7 []
  else if 31 < k ∨ k = s.mprt.devslot ∨ (gen && vol) then s.mbAnswer i 2 []
  else if (!reload && x.st ≠ .empty) || (reload && x.st ≠ .absent) then s.mbAnswer i 2 []
  else
    let (key, s) : BitVec 256 × State := if gen then (Config.newKey s.free, { s with free := s.free + 1 }) else (key, s)
    if reload && checkValue key ≠ x.kcv then (s.error .mprt 0x45 k).mbAnswer i 2 []
    else
      let s := s.putKey k key vol gen
      let ranges := s.mprt.ranges.map fun (e : Nat × Range) => (e.1, if e.2.slot = k then { e.2 with locked := false } else e.2)
      (State.writeRecord { s with mprt.ranges := ranges } 9).mbAnswer i 0 []

/-- The span of a range holds a MAPPED unit. -/
def State.spanMapped (s : State) (x : Range) : Bool :=
  (if x.packed then s.ftlm.coarse else s.ftlm.fine).any fun e => mapSt e.2 = 1 && decide (x.first ≤ e.1) && decide (e.1 < x.first + x.count)

/-- Two spans share a unit. -/
def Range.overlaps (x y : Range) : Bool :=
  x.packed = y.packed && decide (x.first < y.first + y.count) && decide (y.first < x.first + x.count)

/-- A span that R633 does not accept. -/
def State.badSpan (s : State) (r : Nat) : Bool :=
  let x := s.range r
  x.count = 0 || decide ((if x.packed then unitCount else 2 ^ 33) < x.first + x.count) ||
  (s.mprt.ranges.any fun e => e.1 ≠ r && e.2.bound && e.2.overlaps x) || s.spanMapped x

/-- Bind Range (R633): a slot of 0xFF unbinds. -/
def State.mbBind (s : State) (i r k flags : Nat) : State :=
  let x := s.range r
  if !(s.hdr .mprt).ready then s.mbAnswer i 7 []
  else if 15 < r ∨ s.badSpan r then s.mbAnswer i 2 []
  else if k = 0xFF then
    if !x.bound then s.mbAnswer i 2 []
    else
      let s := s.modRange r fun x => { x with slot := 0, bound := false, verify := false, viral := false, locked := false }
      (s.writeRecord 8).mbAnswer i 0 []
  else if x.bound ∨ (s.kslot k).st ≠ .loaded ∨ k = s.mprt.devslot then s.mbAnswer i 2 []
  else
    let s := s.modRange r fun x => { x with slot := k, bound := true, verify := flags.testBit 0, viral := flags.testBit 1 }
    (s.writeRecord 8).mbAnswer i 0 []

/-- Rekey Range (R634, R619): a job at K1, or behind those that R617 queued. -/
def State.mbRekey (s : State) (i r k flags : Nat) : State :=
  let x := s.range r
  if !(s.hdr .mprt).ready then s.mbAnswer i 7 []
  else if 15 < r ∨ !x.bound ∨ x.locked ∨ x.rekeying ∨ (s.kslot k).st ≠ .loaded ∨ k = x.slot ∨ k = s.mprt.devslot then s.mbAnswer i 2 []
  else if s.mbox.bg.isSome then s.mbAnswer i 6 []
  else
    let j : RekeyJob := { range := some r, old := x.slot, new := k, retire := flags.testBit 0, step := 1, byHost := true }
    let s : State := { s with mbox.bg := some (.rekey r), mbox.bgPct := 0 }
    let s : State := if s.mprt.rekey.isNone then { s with mprt.rekey := some j } else { s with mprt.rekeyQueue := s.mprt.rekeyQueue ++ [j] }
    s.mbAnswer i 1 []

/-- The victim-buffer writes of discarded units complete before their lines are dropped (05_near_cache.md R225). -/
def State.discardVictims (s : State) (coarse : Bool) (first count : Nat) : State :=
  if coarse then s
  else
    let vs := s.ncch.slices.flatMap fun e => e.2.victims.map (·.line)
    (vs.filter fun l => decide (first ≤ l / 64) && decide (l / 64 < first + count)).foldl State.settleVictim s

/-- DISCARD_RANGE_COMPLETE (R153; 07_translation.md R328; 10_persistence.md R439, R440). -/
def execDiscardRangeComplete (s : State) : Host.Outcome State Fault Refusal :=
  finish <| match s.mbox.bg with
  | some (.discard coarse first count) =>
    let s := s.discardVictims coarse first count
    let (q, s) := s.takeSeqs 1
    let j : Jrnl := { seq := q, kind := if coarse then .discardCoarse else .discardFine, first := first, count := count }
    let s : State := { s with media.journal := j :: s.ftlm.abandoned ++ s.media.journal, ftlm.abandoned := [],
                              media.seqHigh := max q s.media.seqHigh }
    let s := (s.discardUnits coarse first count q).applyLimit
    let s := s.ncch.slices.foldl (fun (s : State) e => s.retryInstalls e.1) s
    s.zeroDone.spaceSync.bgDone
  | _ => s

end Sys2Proof.Machine
end

