-- ==== Sys2Proof/Machine/Firmware.lean ====
section
/-!
DEFINITION. Firmware update, trial and confirmation, and the watchdogs of the cores (19_firmware_and_identity.md R755 to R767, R780, R781;
08_media_reliability.md R374).
-/
namespace Sys2Proof.Machine

/-- A slot's validity in the image record: 0 A, 1 B, 2 recovery. -/
def ImgRec.valid (i : ImgRec) : Nat → Bool
  | 0 => i.validA
  | 1 => i.validB
  | 2 => i.validR
  | _ => false

/-- A slot made valid or invalid. -/
def ImgRec.setValid (i : ImgRec) (slot : Nat) (b : Bool) : ImgRec :=
  match slot with
  | 0 => { i with validA := b }
  | 1 => { i with validB := b }
  | 2 => { i with validR := b }
  | _ => i

/-- The slot of the running image; none in the hold of 02_modes_and_starts.md R99. -/
def State.running (s : State) : Option Nat := if s.boot.recoveryHold then none else some s.boot.runSlot

/-! ### Get FW Info -/

/-- A number up to 255 in ASCII digits. -/
def asciiByte (n : Nat) : List Nat :=
  (if 100 ≤ n then [48 + n / 100 % 10] else []) ++ (if 10 ≤ n then [48 + n / 10 % 10] else []) ++ [48 + n % 10]

/-- An image version as "major.minor.patch", padded with zeros to 16 bytes (R758). -/
def asciiVersion (v : Nat) : List Nat :=
  let t := asciiByte (v / 2 ^ 16 % 256) ++ [46] ++ asciiByte (v / 2 ^ 8 % 256) ++ [46] ++ asciiByte (v % 256)
  t ++ List.replicate (16 - t.length) 0

/-- Get FW Info: three slots, the active and the staged one, no online activation, and the slots' versions (R758), at the places that the CXL
standard gives them (PRESUMED, log 19). -/
def State.mbFwInfo (s : State) (i : Nat) : State :=
  let run := s.running
  let active := (run.map (· + 1)).getD 0
  let staged := if run = some s.boot.img.selected then 0 else s.boot.img.selected + 1
  s.mbAnswer i 0 ([3, active + 8 * staged, 0] ++ List.replicate 13 0 ++ ((List.range 3).flatMap fun k => asciiVersion (s.boot.head k).version) ++
    List.replicate 16 0)

/-! ### Transfer FW -/

/-- The modes that accept Transfer FW (R759). -/
def State.fwMode (s : State) : Bool :=
  s.sysc.mode = .service || s.sysc.mode = .memory || s.sysc.mode = .stream || s.sysc.mode = .safe

/-- What refuses a part that names a slot, 1 to 3 (R759), with the return code. -/
def State.fwRefused (s : State) (iface slot : Nat) : Option Nat :=
  if !s.fwMode then some 6
  else if slot = 0 ∨ 3 < slot ∨ s.running = some (slot - 1) then some 0xB
  else if slot = 3 ∧ s.sysc.mode ≠ .service then some 0xB
  else if s.boot.img.trial then some 6
  else if s.boot.xfer.active && s.boot.xfer.iface ≠ iface then some 8
  else none

/-- The CRC-32C of an image block of a slot is correct (R745). -/
def Boot.blockOk (b : Boot) (slot k : Nat) : Bool :=
  let at_ := slotBase slot + k * blockBytes
  crc32c (tgets 0xFF b.flash at_ (blockBytes - 4)) = ofBytesLE (b.bytes (at_ + (blockBytes - 4)) 4)

/-- A transfer ends (R780 bit 1); what BOOT.XFER shows of it stays, but for ACTIVE. -/
def State.endXfer (s : State) : State := { s with boot.xfer.active := false }

/-- An image fails verification when its transfer or its activation asks for it: code 0x42 with the slot, 1 to 3 (R748, R781). -/
def State.fwFailed (s : State) (i slot bits : Nat) : State := (s.error .boot 0x42 slot bits).mbAnswer i 0xA []

/-- A transfer's slot read back and verified (R763). -/
def State.fwVerify (s : State) (i slot : Nat) (imageOk : Bool) : State :=
  let s := s.endXfer
  if imageOk && s.headOk (slot - 1) then
    ((State.writeRecord { s with boot.img := s.boot.img.setValid (slot - 1) true } 10).cause .boot 1).mbAnswer i 0 []
  else s.fwFailed i slot 2

/-- The bytes of a part are programmed at the expected offset, and every image block that they complete is checked (R761, R762): the
first block that fails, if any. -/
def State.fwBytes (s : State) (data : List (BitVec 8)) : State × Option Nat :=
  let x := s.boot.xfer
  let next := x.next + data.length
  let s : State := { s with
    boot.flash := tputs 0xFF s.boot.flash (slotBase (x.slot - 1) + x.next) data
    boot.xfer := { x with next := next, lastPart := s.now } }
  let new := (List.range (next / blockBytes)).drop x.blocks
  match new.find? fun k => !s.boot.blockOk (x.slot - 1) k with
  | some k => ({ s with boot.xfer.blocks := k }, some k)
  | none => ({ s with boot.xfer.blocks := max x.blocks (next / blockBytes) }, none)

/-- A part's data arrives; then the part answers, and a Full or End part verifies the slot (R761 to R763). -/
def State.fwPart (s : State) (i : Nat) (data : List (BitVec 8)) (last : Option Bool) : State :=
  if 0x1000000 < s.boot.xfer.next + data.length then s.mbAnswer i 2 []
  else match s.fwBytes data with
    | (s, some k) => (s.endXfer.error .boot 0x40 k 2).mbAnswer i 0xA []
    | (s, none) => match last with
      | none => s.mbAnswer i 0 []
      | some ok => s.fwVerify i s.boot.xfer.slot ok

/-- A Full or Initiate part opens a transfer: the slot is invalid from here on, and the part waits until the image record says so (R760). One of
the same interface that is open ends. -/
def State.fwOpen (s : State) (i slot : Nat) (data : List (BitVec 8)) (last : Option Bool) : State :=
  let s := if s.boot.xfer.active then s.endXfer.cause .boot 1 else s
  State.writeRecord { s with
    boot.img := s.boot.img.setValid (slot - 1) false
    boot.xfer := { active := true, slot := slot, blocks := 0, iface := i, next := 0, lastPart := s.now }
    boot.partWait := some { iface := i, data := data, last := last } } 10

/-- The image record's write has completed for a part that waited: its data goes into the flash (R760). -/
def State.partGo (s : State) : State :=
  match s.boot.partWait with
  | none => s
  | some p =>
    if (s.record 10).writing then s
    else
      let s : State := { s with boot.partWait := none }
      if s.boot.xfer.active then s.fwPart p.iface p.data p.last else s.mbAnswer p.iface 9 []

/-- Transfer FW, Full (R759 to R763). -/
def State.mbFwFull (s : State) (i slot : Nat) (data : List (BitVec 8)) (imageOk : Bool) : State :=
  match s.fwRefused i slot with
  | some e => s.mbAnswer i e []
  | none => if 0x1000000 < data.length then s.mbAnswer i 2 [] else s.fwOpen i slot data (some imageOk)

/-- Transfer FW, Initiate (R759 to R762). -/
def State.mbFwInitiate (s : State) (i slot : Nat) (data : List (BitVec 8)) : State :=
  match s.fwRefused i slot with
  | some e => s.mbAnswer i e []
  | none => if 0x1000000 < data.length then s.mbAnswer i 2 [] else s.fwOpen i slot data none

/-- A Continue or End part at its offset (R759, R761). -/
def State.fwNext (s : State) (i slot offset : Nat) (data : List (BitVec 8)) (last : Option Bool) : State :=
  match s.fwRefused i slot with
  | some e => s.mbAnswer i e []
  | none =>
    let x := s.boot.xfer
    if !x.active ∨ offset ≠ x.next then s.mbAnswer i 9 []
    else if slot ≠ x.slot then s.mbAnswer i 0xB []
    else s.fwPart i data last

/-- Transfer FW, Abort: the open transfer of the interface ends and its slot stays invalid (R764). -/
def State.mbFwAbort (s : State) (i : Nat) : State :=
  let x := s.boot.xfer
  if !x.active then s.mbAnswer i 9 []
  else if x.iface ≠ i then s.mbAnswer i 8 []
  else (s.endXfer.cause .boot 1).mbAnswer i 0 []

/-- TRANSFER_FW_TIMEOUT: 300 s without a part (R764). -/
def execTransferFwTimeout (s : State) : Host.Outcome State Fault Refusal :=
  finish (if s.boot.xfer.active && decide (s.boot.xfer.lastPart + 300 * 10 ^ 9 ≤ s.now) then s.endXfer.cause .boot 1 else s)

/-! ### Activate FW and the trial -/

/-- Activate FW (R765): the record write is queued, and the command answers when it completes. In the hold of R99, where no slot runs,
PREVIOUS becomes 2, the recovery slot (DESIGN CHOICE, log 30). -/
def State.mbActivate (s : State) (i : Nat) (online : Bool) (slot : Nat) (imageOk : Bool) : State :=
  if online then s.mbAnswer i 2 []
  else if slot = 0 ∨ 3 ≤ slot ∨ !s.boot.img.valid (slot - 1) then s.mbAnswer i 0xB []
  else if s.boot.xfer.active then s.mbAnswer i 8 []
  else if s.boot.img.trial then s.mbAnswer i 6 []
  else if !imageOk || !s.headOk (slot - 1) then s.fwFailed i slot 0
  else
    let img : ImgRec := { s.boot.img with
      selected := slot - 1, previous := s.running.getD 2, trial := true, trialrun := false }
    State.writeRecord { s with boot.img := img, boot.activating := some i } 10

/-- The image record's write has completed for an Activate FW: its answer, its cause, and the failed-start count cleared in SERVICE
(R765, R780; 02_modes_and_starts.md R96). -/
def State.activated (s : State) : State :=
  match s.boot.activating with
  | none => s
  | some i =>
    if (s.record 10).writing then s
    else
      let s : State := { s with boot.activating := none, aon.failcnt := if s.sysc.mode = .service then 0 else s.aon.failcnt }
      (s.cause .boot 2).mbAnswer i 0 []

/-- HEALTH_CONFIRM (R766, R767): accepted while the trial timer of the running image counts. -/
def State.confirm (s : State) : State :=
  if !((s.hdr .boot).ready || s.boot.recoveryHold) then s
  else if s.boot.trialExpired then s.error .boot 0x41 0
  else if s.boot.img.trial && s.boot.trialDue.isSome && !s.boot.confirming then
    let img : ImgRec := { s.boot.img with trial := false, minsvn := max s.boot.img.minsvn s.boot.run.minsvn }
    State.writeRecord { s with boot.img := img, boot.voided := some s.boot.img, boot.confirming := true } 10
  else s

/-- HEALTH_CONFIRM, the write of 1 to BOOT.TRIAL.CONFIRM. -/
def execHealthConfirm (s : State) : Host.Outcome State Fault Refusal := finish (s.reg .healthConfirm fun s => s.confirm)

/-- The copy of a record of an older major version is rewritten (18_parameter_store.md R739). -/
def State.rewriteOld (s : State) (t : Nat) : State := if (s.record t).old then s.writeRecord t else s

/-- The image record's write has completed for a confirmation (R766). -/
def State.confirmed (s : State) : State :=
  if !s.boot.confirming || (s.record 10).writing then s
  else
    let revoked := (onesOf 4 s.boot.run.revoke).filter fun k => k ≠ s.boot.run.keyset
    let s : State := { s with
      fuse.keyRevoked := revoked.foldl withNew s.fuse.keyRevoked
      boot.confirming := false
      boot.voided := none
      boot.confirmed := true
      boot.trialDue := none }
    (recTypes.foldl State.rewriteOld s).cause .boot 3

/-- TRIAL_TIMER_EXPIRED (R767), at its time on the always-on clock: a critical event and the cause TRIALEXP. -/
def execTrialTimerExpired (s : State) : Host.Outcome State Fault Refusal :=
  finish <| match s.boot.trialDue with
    | none => s
    | some d =>
      if s.boot.confirming || s.boot.trialExpired then s
      else State.cause { s.reachTick d with boot.trialDue := none, boot.trialExpired := true } .boot 4 5

/-! ### Watchdogs -/

/-- MEDIA_CORE_WATCHDOG (R755, 08_media_reliability.md R374): the main core reloads the core; its cluster's commands wait. -/
def execMediaCoreWatchdog (core : Nat) (s : State) : Host.Outcome State Fault Refusal :=
  finish <| if !s.boot.mediaCores.testBit core then s
    else { s with
      boot.mediaCores := clrBits s.boot.mediaCores (2 ^ core)
      boot.reloading := withNew s.boot.reloading core }

/-- A stream sequencer core is lost (R756; 01_architecture.md R45; 03_registers_and_hallmark.md R868, R123): a retirement record, with the
table and GEN first. -/
def State.seqCoreLost (s : State) (k : Nat) : State :=
  let s := State.hallSync { s with
    boot.seqCores := clrBits s.boot.seqCores (2 ^ k)
    boot.reloading := without s.boot.reloading (8 + k)
    boot.seqLost := withNew s.boot.seqLost k }
  s.retirement .boot

/-- SEQ_CORE_WATCHDOG (R755, R756): reloaded, or lost when it expires again within 1 s of a reload. The other core serves all four
pipes meanwhile, so that no command, trigger or record is lost. -/
def execSeqCoreWatchdog (core : Nat) (s : State) : Host.Outcome State Fault Refusal :=
  finish <| if 2 ≤ core ∨ !s.boot.seqCores.testBit core then s
    else
      let last := tget 0 s.boot.reloadAt (8 + core)
      if last ≠ 0 && decide (s.now < last - 1 + 10 ^ 9) then s.seqCoreLost core
      else { s with
        boot.seqCores := clrBits s.boot.seqCores (2 ^ core)
        boot.reloading := withNew s.boot.reloading (8 + core) }

/-- The places of the MAPPED units that lie on a member in a cluster, in bands with two or more members there: no stripe supplies them
(08_media_reliability.md R374; the members elsewhere stay readable, log 91). -/
def State.clusterPlaces (s : State) (c : Nat) : List Nat :=
  (s.ftlm.bands.filter fun e => 2 ≤ (e.2.members.filter fun m => m.1 / 128 = c).length).flatMap fun e =>
    (s.bandUnits e.1).flatMap fun u =>
      ((List.range (if u.1 then 64 else 1)).map fun i => u.2.2 + 4 * i).filter fun p => (e.2.place (puaPage p)).1 / 128 = c

/-- A media cluster is lost (08_media_reliability.md R374): it is out of service, its dies are retired, and the rows with two or more members
in it are lost (R354). -/
def State.clusterLost (s : State) (c : Nat) : State :=
  let ds := (List.range 128).map (128 * c + ·) |>.filter fun d => (s.die d).live
  let s := (s.modClu c fun m => { m with lost := true }).retireBlock (.mclu c)
  let lost := s.clusterPlaces c
  lost.foldl State.codewordLost (ds.foldl State.retireDie s)

/-- CORE_RELOAD_COMPLETE (R756, R780, R781; 08_media_reliability.md R374). -/
def execCoreReloadComplete (core : Nat) (ok : Bool) (s : State) : Host.Outcome State Fault Refusal :=
  finish <| if core ∉ s.boot.reloading then s
    else
      let s : State := { s with boot.reloading := without s.boot.reloading core }
      if ok then
        let s : State := { s with
          boot.reloads := satInc 8 s.boot.reloads
          boot.reloadAt := tput 0 s.boot.reloadAt core (s.now + 1) }
        let s : State :=
          if core < 8 then { s with boot.mediaCores := s.boot.mediaCores ||| 2 ^ core }
          else { s with boot.seqCores := s.boot.seqCores ||| 2 ^ (core - 8) }
        s.cause .boot 6
      else if core < 8 then (s.clusterLost core).error .boot 0x43 core 0 5
      else (s.seqCoreLost (core - 8)).error .boot 0x43 core

/-- MAIN_WATCHDOG (R757): a critical event, steps 1 to 4 of warm entry in hardware, the shutdown table and a cold start; the failed-start
count stays. In DORMANT and QUENCH the main core does not run. -/
def execMainWatchdog (s : State) : Host.Outcome State Fault Refusal :=
  finish <| match s.sysc.mode with
    | .dormant => s
    | .quench => s
    | .starting =>
      let s := s.changeRecord .sysc 0x40 s.modeReg.toNat s.modeReg.toNat 5
      s.settle.beginStart true false
    | _ =>
      let s := s.changeRecord .sysc 0x40 s.modeReg.toNat (setFld s.modeReg 0 3 1).toNat 5
      s.settle.coldEntry

end Sys2Proof.Machine
end

