-- ==== Sys2Proof/Machine/MailboxCmds.lean ====
section
/-!
DEFINITION. The mailbox rows: each submits its command (04_host_port.md R184 to R187), and a command that waited behind an Activate FW runs
when that one ends.
-/
namespace Sys2Proof.Machine

/-! ### The small standard commands (R184; payloads PRESUMED, log 19) -/

/-- Get Event Interrupt Policy. -/
def State.mbGetPolicy (s : State) (i : Nat) : State :=
  s.mbAnswer i 0 ((List.range 4).map fun k => s.mbox.evPolicy / 256 ^ k % 16 + 16 * eventVector)

/-- Set Event Interrupt Policy: one byte for each of the four logs. -/
def State.mbSetPolicy (s : State) (i policy : Nat) : State := State.mbAnswer { s with mbox.evPolicy := policy % 2 ^ 32 } i 0 []

/-- Get Alert Configuration. -/
def State.mbGetAlerts (s : State) (i : Nat) : State := s.mbAnswer i 0 [s.mbox.alerts]

/-- Set Alert Configuration. -/
def State.mbSetAlerts (s : State) (i config : Nat) : State := State.mbAnswer { s with mbox.alerts := config } i 0 []

/-- Get Shutdown State. -/
def State.mbGetShut (s : State) (i : Nat) : State := s.mbAnswer i 0 [s.mbox.shutState]

/-- Set Shutdown State: 0 clean, 1 dirty. -/
def State.mbSetShut (s : State) (i st : Nat) : State :=
  if 1 < st then s.mbAnswer i 2 [] else State.mbAnswer { s with mbox.shutState := st } i 0 []

/-- Get Timestamp (R161). -/
def State.mbGetTime (s : State) (i : Nat) : State := s.mbAnswer i 0 [s.cxlStamp]

/-- Any other opcode: Unsupported (R184, R187). -/
def State.mbUnsupported (s : State) (i _opcode : Nat) : State := s.mbAnswer i 3 []

/-- Get Own Command Set Version: minor 0, major 1, 8 commands (R187, R188). -/
def State.mbOwnVersion (s : State) (i : Nat) : State := s.mbAnswer i 0 (payload [(1, 0), (1, 1), (2, 8), (4, 0)])

/-! ### The rows -/

/-- A command of an interface: 1 is reached over CXL.io, the other over the sideband (R184, R185; 02_modes_and_starts.md R73, R74). -/
def State.mbRow (s : State) (iface opcode : Nat) (c : Instr) (fw : Bool) (f : State → State) : State :=
  if iface = 1 then s.io c fun s => s.submit iface opcode c fw f else s.side c fun s => s.submit iface opcode c fw f

/-- IDENTIFY (R184 to R187). -/
def execIdentify (iface : Nat) (s : State) : Host.Outcome State Fault Refusal :=
  finish (s.mbRow iface 0x0001 (.identify iface) false fun s => s.mbIdentify iface)

/-- IDENTIFY_MEMORY_DEVICE (R184 to R187). -/
def execIdentifyMemoryDevice (iface : Nat) (s : State) : Host.Outcome State Fault Refusal :=
  finish (s.mbRow iface 0x4000 (.identifyMemoryDevice iface) false fun s => s.mbIdentifyDevice iface)

/-- GET_PARTITION_INFO (R184 to R187). -/
def execGetPartitionInfo (iface : Nat) (s : State) : Host.Outcome State Fault Refusal :=
  finish (s.mbRow iface 0x4100 (.getPartitionInfo iface) false fun s => s.mbPartition iface)

/-- GET_EVENT_RECORDS (R184 to R187). -/
def execGetEventRecords (iface : Nat) (log : Nat) (s : State) : Host.Outcome State Fault Refusal :=
  finish (s.mbRow iface 0x0100 (.getEventRecords iface log) false fun s => s.mbGetEvents iface log)

/-- CLEAR_EVENT_RECORDS (R184 to R187). -/
def execClearEventRecords (iface : Nat) (log : Nat) (handles : List Nat) (all : Bool) (s : State) : Host.Outcome State Fault Refusal :=
  finish (s.mbRow iface 0x0101 (.clearEventRecords iface log handles all) false fun s => s.mbClearEvents iface log handles all)

/-- GET_EVENT_INTERRUPT_POLICY (R184 to R187). -/
def execGetEventInterruptPolicy (iface : Nat) (s : State) : Host.Outcome State Fault Refusal :=
  finish (s.mbRow iface 0x0102 (.getEventInterruptPolicy iface) false fun s => s.mbGetPolicy iface)

/-- SET_EVENT_INTERRUPT_POLICY (R184 to R187). -/
def execSetEventInterruptPolicy (iface : Nat) (policy : Nat) (s : State) : Host.Outcome State Fault Refusal :=
  finish (s.mbRow iface 0x0103 (.setEventInterruptPolicy iface policy) false fun s => s.mbSetPolicy iface policy)

/-- GET_FW_INFO (R184 to R187). -/
def execGetFwInfo (iface : Nat) (s : State) : Host.Outcome State Fault Refusal :=
  finish (s.mbRow iface 0x0200 (.getFwInfo iface) true fun s => s.mbFwInfo iface)

/-- TRANSFER_FW_FULL (R184 to R187). -/
def execTransferFwFull (iface : Nat) (slot : Nat) (data : List (BitVec 8)) (imageOk : Bool) (s : State) : Host.Outcome State Fault Refusal :=
  finish (s.mbRow iface 0x0201 (.transferFwFull iface slot data imageOk) true fun s => s.mbFwFull iface slot data imageOk)

/-- TRANSFER_FW_INITIATE (R184 to R187). -/
def execTransferFwInitiate (iface : Nat) (slot : Nat) (data : List (BitVec 8)) (s : State) : Host.Outcome State Fault Refusal :=
  finish (s.mbRow iface 0x0201 (.transferFwInitiate iface slot data) true fun s => s.mbFwInitiate iface slot data)

/-- TRANSFER_FW_CONTINUE (R184 to R187). -/
def execTransferFwContinue (iface : Nat) (slot : Nat) (offset : Nat) (data : List (BitVec 8)) (s : State) : Host.Outcome State Fault Refusal :=
  finish (s.mbRow iface 0x0201 (.transferFwContinue iface slot offset data) true fun s => s.fwNext iface slot offset data none)

/-- TRANSFER_FW_END (R184 to R187). -/
def execTransferFwEnd (iface : Nat) (slot : Nat) (offset : Nat) (data : List (BitVec 8)) (imageOk : Bool) (s : State) : Host.Outcome State Fault Refusal :=
  finish (s.mbRow iface 0x0201 (.transferFwEnd iface slot offset data imageOk) true fun s => s.fwNext iface slot offset data (some imageOk))

/-- TRANSFER_FW_ABORT (R184 to R187). -/
def execTransferFwAbort (iface : Nat) (s : State) : Host.Outcome State Fault Refusal :=
  finish (s.mbRow iface 0x0201 (.transferFwAbort iface) true fun s => s.mbFwAbort iface)

/-- ACTIVATE_FW (R184 to R187). -/
def execActivateFw (iface : Nat) (online : Bool) (slot : Nat) (imageOk : Bool) (s : State) : Host.Outcome State Fault Refusal :=
  finish (s.mbRow iface 0x0202 (.activateFw iface online slot imageOk) true fun s => s.mbActivate iface online slot imageOk)

/-- GET_SUPPORTED_LOGS (R184 to R187). -/
def execGetSupportedLogs (iface : Nat) (s : State) : Host.Outcome State Fault Refusal :=
  finish (s.mbRow iface 0x0400 (.getSupportedLogs iface) false fun s => s.mbSupportedLogs iface)

/-- GET_LOG (R184 to R187). -/
def execGetLog (iface : Nat) (log : Nat) (offset : Nat) (length : Nat) (s : State) : Host.Outcome State Fault Refusal :=
  finish (s.mbRow iface 0x0401 (.getLog iface log offset length) false fun s => s.mbGetLog iface log offset length)

/-- GET_HEALTH_INFO (R184 to R187). -/
def execGetHealthInfo (iface : Nat) (s : State) : Host.Outcome State Fault Refusal :=
  finish (s.mbRow iface 0x4200 (.getHealthInfo iface) false fun s => s.mbHealth iface)

/-- GET_ALERT_CONFIGURATION (R184 to R187). -/
def execGetAlertConfiguration (iface : Nat) (s : State) : Host.Outcome State Fault Refusal :=
  finish (s.mbRow iface 0x4201 (.getAlertConfiguration iface) false fun s => s.mbGetAlerts iface)

/-- SET_ALERT_CONFIGURATION (R184 to R187). -/
def execSetAlertConfiguration (iface : Nat) (config : Nat) (s : State) : Host.Outcome State Fault Refusal :=
  finish (s.mbRow iface 0x4202 (.setAlertConfiguration iface config) false fun s => s.mbSetAlerts iface config)

/-- GET_SHUTDOWN_STATE (R184 to R187). -/
def execGetShutdownState (iface : Nat) (s : State) : Host.Outcome State Fault Refusal :=
  finish (s.mbRow iface 0x4203 (.getShutdownState iface) false fun s => s.mbGetShut iface)

/-- SET_SHUTDOWN_STATE (R184 to R187). -/
def execSetShutdownState (iface : Nat) (state : Nat) (s : State) : Host.Outcome State Fault Refusal :=
  finish (s.mbRow iface 0x4204 (.setShutdownState iface state) false fun s => s.mbSetShut iface state)

/-- GET_POISON_LIST (R184 to R187). -/
def execGetPoisonList (iface : Nat) (dpa : Nat) (length : Nat) (s : State) : Host.Outcome State Fault Refusal :=
  finish (s.mbRow iface 0x4300 (.getPoisonList iface dpa length) false fun s => s.mbPoisonList iface dpa length)

/-- INJECT_POISON (R184 to R187). -/
def execInjectPoison (iface : Nat) (dpa : Nat) (s : State) : Host.Outcome State Fault Refusal :=
  finish (s.mbRow iface 0x4301 (.injectPoison iface dpa) false fun s => s.mbInject iface dpa)

/-- CLEAR_POISON (R184 to R187). -/
def execClearPoison (iface : Nat) (dpa : Nat) (data : BitVec 512) (s : State) : Host.Outcome State Fault Refusal :=
  finish (s.mbRow iface 0x4302 (.clearPoison iface dpa data) false fun s => s.mbClear iface dpa data)

/-- GET_SCAN_MEDIA_CAPABILITIES (R184 to R187). -/
def execGetScanMediaCapabilities (iface : Nat) (dpa : Nat) (length : Nat) (s : State) : Host.Outcome State Fault Refusal :=
  finish (s.mbRow iface 0x4303 (.getScanMediaCapabilities iface dpa length) false fun s => s.mbScanCaps iface dpa length)

/-- SCAN_MEDIA (R184 to R187). -/
def execScanMedia (iface : Nat) (dpa : Nat) (length : Nat) (s : State) : Host.Outcome State Fault Refusal :=
  finish (s.mbRow iface 0x4304 (.scanMedia iface dpa length) false fun s => s.mbScan iface dpa length)

/-- GET_SCAN_MEDIA_RESULTS (R184 to R187). -/
def execGetScanMediaResults (iface : Nat) (s : State) : Host.Outcome State Fault Refusal :=
  finish (s.mbRow iface 0x4305 (.getScanMediaResults iface) false fun s => s.mbScanResults iface)

/-- SANITIZE (R184 to R187). -/
def execSanitize (iface : Nat) (s : State) : Host.Outcome State Fault Refusal :=
  finish (s.mbRow iface 0x4400 (.sanitize iface) false fun s => s.mbSanitize iface)

/-- SECURE_ERASE (R184 to R187). -/
def execSecureErase (iface : Nat) (s : State) : Host.Outcome State Fault Refusal :=
  finish (s.mbRow iface 0x4401 (.secureErase iface) false fun s => s.mbSecureErase iface)

/-- GET_LSA (R184 to R187). -/
def execGetLsa (iface : Nat) (offset : Nat) (length : Nat) (s : State) : Host.Outcome State Fault Refusal :=
  finish (s.mbRow iface 0x4102 (.getLsa iface offset length) false fun s => s.mbGetLsa iface offset length)

/-- SET_LSA (R184 to R187). -/
def execSetLsa (iface : Nat) (offset : Nat) (data : List (BitVec 8)) (s : State) : Host.Outcome State Fault Refusal :=
  finish (s.mbRow iface 0x4103 (.setLsa iface offset data) false fun s => s.mbSetLsa iface offset data)

/-- GET_TIMESTAMP (R184 to R187). -/
def execGetTimestamp (iface : Nat) (s : State) : Host.Outcome State Fault Refusal :=
  finish (s.mbRow iface 0x0300 (.getTimestamp iface) false fun s => s.mbGetTime iface)

/-- SET_TIMESTAMP (R184 to R187). -/
def execSetTimestamp (iface : Nat) (time : Nat) (s : State) : Host.Outcome State Fault Refusal :=
  finish (s.mbRow iface 0x0301 (.setTimestamp iface time) false fun s => s.mbSetTime iface time)

/-- UNSUPPORTED_OPCODE (R184 to R187). -/
def execUnsupportedOpcode (iface : Nat) (opcode : Nat) (s : State) : Host.Outcome State Fault Refusal :=
  finish (s.mbRow iface opcode (.unsupportedOpcode iface opcode) false fun s => s.mbUnsupported iface opcode)

/-- GET_OWN_COMMAND_SET_VERSION (R184 to R187). -/
def execGetOwnCommandSetVersion (iface : Nat) (s : State) : Host.Outcome State Fault Refusal :=
  finish (s.mbRow iface 0xC000 (.getOwnCommandSetVersion iface) false fun s => s.mbOwnVersion iface)

/-- GET_LATENCY_RECORD (R184 to R187). -/
def execGetLatencyRecord (iface : Nat) (clear : Bool) (s : State) : Host.Outcome State Fault Refusal :=
  finish (s.mbRow iface 0xC001 (.getLatencyRecord iface clear) false fun s => s.mbLatency iface clear)

/-- DISCARD_RANGE (R184 to R187). -/
def execDiscardRange (iface : Nat) (dpa : Nat) (length : Nat) (s : State) : Host.Outcome State Fault Refusal :=
  finish (s.mbRow iface 0xC010 (.discardRange iface dpa length) false fun s => s.mbDiscard iface dpa length)

/-- GET_HANK_WINDOWS (R184 to R187). -/
def execGetHankWindows (iface : Nat) (strand : Nat) (s : State) : Host.Outcome State Fault Refusal :=
  finish (s.mbRow iface 0xC020 (.getHankWindows iface strand) false fun s => s.mbHank iface strand)

/-- GET_PERSISTENCE_STATE (R184 to R187). -/
def execGetPersistenceState (iface : Nat) (s : State) : Host.Outcome State Fault Refusal :=
  finish (s.mbRow iface 0xC030 (.getPersistenceState iface) false fun s => s.mbPersistence iface)

/-- LOAD_KEY_SLOT (R184 to R187). -/
def execLoadKeySlot (iface : Nat) (key : BitVec 256) (slot : Nat) (flags : Nat) (s : State) : Host.Outcome State Fault Refusal :=
  finish (s.mbRow iface 0xC040 (.loadKeySlot iface key slot flags) false fun s => s.mbLoadKey iface key slot flags)

/-- BIND_RANGE (R184 to R187). -/
def execBindRange (iface : Nat) (range : Nat) (slot : Nat) (flags : Nat) (s : State) : Host.Outcome State Fault Refusal :=
  finish (s.mbRow iface 0xC041 (.bindRange iface range slot flags) false fun s => s.mbBind iface range slot flags)

/-- REKEY_RANGE (R184 to R187). -/
def execRekeyRange (iface : Nat) (range : Nat) (slot : Nat) (flags : Nat) (s : State) : Host.Outcome State Fault Refusal :=
  finish (s.mbRow iface 0xC042 (.rekeyRange iface range slot flags) false fun s => s.mbRekey iface range slot flags)

/-! ### Behind an Activate FW -/

/-- What a mailbox command does. -/
def State.mbDo (s : State) (c : Instr) : State :=
  match c with
  | .identify iface => s.mbIdentify iface
  | .identifyMemoryDevice iface => s.mbIdentifyDevice iface
  | .getPartitionInfo iface => s.mbPartition iface
  | .getEventRecords iface log => s.mbGetEvents iface log
  | .clearEventRecords iface log handles all => s.mbClearEvents iface log handles all
  | .getEventInterruptPolicy iface => s.mbGetPolicy iface
  | .setEventInterruptPolicy iface policy => s.mbSetPolicy iface policy
  | .getFwInfo iface => s.mbFwInfo iface
  | .transferFwFull iface slot data imageOk => s.mbFwFull iface slot data imageOk
  | .transferFwInitiate iface slot data => s.mbFwInitiate iface slot data
  | .transferFwContinue iface slot offset data => s.fwNext iface slot offset data none
  | .transferFwEnd iface slot offset data imageOk => s.fwNext iface slot offset data (some imageOk)
  | .transferFwAbort iface => s.mbFwAbort iface
  | .activateFw iface online slot imageOk => s.mbActivate iface online slot imageOk
  | .getSupportedLogs iface => s.mbSupportedLogs iface
  | .getLog iface log offset length => s.mbGetLog iface log offset length
  | .getHealthInfo iface => s.mbHealth iface
  | .getAlertConfiguration iface => s.mbGetAlerts iface
  | .setAlertConfiguration iface config => s.mbSetAlerts iface config
  | .getShutdownState iface => s.mbGetShut iface
  | .setShutdownState iface state => s.mbSetShut iface state
  | .getPoisonList iface dpa length => s.mbPoisonList iface dpa length
  | .injectPoison iface dpa => s.mbInject iface dpa
  | .clearPoison iface dpa data => s.mbClear iface dpa data
  | .getScanMediaCapabilities iface dpa length => s.mbScanCaps iface dpa length
  | .scanMedia iface dpa length => s.mbScan iface dpa length
  | .getScanMediaResults iface => s.mbScanResults iface
  | .sanitize iface => s.mbSanitize iface
  | .secureErase iface => s.mbSecureErase iface
  | .getLsa iface offset length => s.mbGetLsa iface offset length
  | .setLsa iface offset data => s.mbSetLsa iface offset data
  | .getTimestamp iface => s.mbGetTime iface
  | .setTimestamp iface time => s.mbSetTime iface time
  | .unsupportedOpcode iface opcode => s.mbUnsupported iface opcode
  | .getOwnCommandSetVersion iface => s.mbOwnVersion iface
  | .getLatencyRecord iface clear => s.mbLatency iface clear
  | .discardRange iface dpa length => s.mbDiscard iface dpa length
  | .getHankWindows iface strand => s.mbHank iface strand
  | .getPersistenceState iface => s.mbPersistence iface
  | .loadKeySlot iface key slot flags => s.mbLoadKey iface key slot flags
  | .bindRange iface range slot flags => s.mbBind iface range slot flags
  | .rekeyRange iface range slot flags => s.mbRekey iface range slot flags
  | _ => s

/-- A mailbox row: its interface and opcode, and whether it is a firmware command (R184, R187, R779). -/
def mbHead : Instr → Option (Nat × Nat × Bool)
  | .identify iface => some (iface, 0x0001, false)
  | .identifyMemoryDevice iface => some (iface, 0x4000, false)
  | .getPartitionInfo iface => some (iface, 0x4100, false)
  | .getEventRecords iface _ => some (iface, 0x0100, false)
  | .clearEventRecords iface _ _ _ => some (iface, 0x0101, false)
  | .getEventInterruptPolicy iface => some (iface, 0x0102, false)
  | .setEventInterruptPolicy iface _ => some (iface, 0x0103, false)
  | .getFwInfo iface => some (iface, 0x0200, true)
  | .transferFwFull iface _ _ _ => some (iface, 0x0201, true)
  | .transferFwInitiate iface _ _ => some (iface, 0x0201, true)
  | .transferFwContinue iface _ _ _ => some (iface, 0x0201, true)
  | .transferFwEnd iface _ _ _ _ => some (iface, 0x0201, true)
  | .transferFwAbort iface => some (iface, 0x0201, true)
  | .activateFw iface _ _ _ => some (iface, 0x0202, true)
  | .getSupportedLogs iface => some (iface, 0x0400, false)
  | .getLog iface _ _ _ => some (iface, 0x0401, false)
  | .getHealthInfo iface => some (iface, 0x4200, false)
  | .getAlertConfiguration iface => some (iface, 0x4201, false)
  | .setAlertConfiguration iface _ => some (iface, 0x4202, false)
  | .getShutdownState iface => some (iface, 0x4203, false)
  | .setShutdownState iface _ => some (iface, 0x4204, false)
  | .getPoisonList iface _ _ => some (iface, 0x4300, false)
  | .injectPoison iface _ => some (iface, 0x4301, false)
  | .clearPoison iface _ _ => some (iface, 0x4302, false)
  | .getScanMediaCapabilities iface _ _ => some (iface, 0x4303, false)
  | .scanMedia iface _ _ => some (iface, 0x4304, false)
  | .getScanMediaResults iface => some (iface, 0x4305, false)
  | .sanitize iface => some (iface, 0x4400, false)
  | .secureErase iface => some (iface, 0x4401, false)
  | .getLsa iface _ _ => some (iface, 0x4102, false)
  | .setLsa iface _ _ => some (iface, 0x4103, false)
  | .getTimestamp iface => some (iface, 0x0300, false)
  | .setTimestamp iface _ => some (iface, 0x0301, false)
  | .unsupportedOpcode iface opcode => some (iface, opcode, false)
  | .getOwnCommandSetVersion iface => some (iface, 0xC000, false)
  | .getLatencyRecord iface _ => some (iface, 0xC001, false)
  | .discardRange iface _ _ => some (iface, 0xC010, false)
  | .getHankWindows iface _ => some (iface, 0xC020, false)
  | .getPersistenceState iface => some (iface, 0xC030, false)
  | .loadKeySlot iface _ _ _ => some (iface, 0xC040, false)
  | .bindRange iface _ _ _ => some (iface, 0xC041, false)
  | .rekeyRange iface _ _ _ => some (iface, 0xC042, false)
  | _ => none

/-- The commands that waited execute in order of submission (R185). -/
def State.runWaiting (s : State) : State :=
  if s.boot.holder.isSome then s
  else s.mbox.waiting.foldl (fun s c => match mbHead c with
    | some (i, o, _) => State.mbDo { s with mbox.exec := some (i, o) } c
    | none => s) { s with mbox.waiting := [] }

/-- STORE_PAGE_WRITE_COMPLETE (18_parameter_store.md R725, R726, R728), with what a completed image record brings about
(19_firmware_and_identity.md R760, R765, R766). -/
def execStorePageWriteComplete (s : State) : Host.Outcome State Fault Refusal :=
  finish <| match s.psto.running with
  | none => s
  | some w => (s.pageDone w).confirmed.activated.partGo.runWaiting

end Sys2Proof.Machine
end

