-- ==== Sys2Proof/Machine/MediaReads.lean ====
section
/-!
DEFINITION. The commands of the dies, the channels and the media reads (08_media_reliability.md, 09_media_bus.md).
-/
namespace Sys2Proof.Machine

/-- DIE_STATUS_POLL (R391): Read Status Enhanced reports an operation complete, or busy. -/
def execDieStatusPoll (die : Nat) (status : DieStatus) (s : State) : Host.Outcome State Fault Refusal :=
  finish <| if (s.die die).array.isNone then s
  else match status with
    | .busy => s
    | _ => s.modDie die fun x => { x with arrayDone := true, timeouts := 0, wasReset := false }

/-- RB_N_RISE (R391): it only brings the first poll forward; the polls are their own commands. -/
def execRbNRise (_chan : Nat) (s : State) : Host.Outcome State Fault Refusal := finish s

/-- DIE_COMMAND_TIMEOUT (R371, R413, R414): the die is reset and its command issued again; the third timeout in a row after a
reset retires the die. -/
def execDieCommandTimeout (die : Nat) (s : State) : Host.Outcome State Fault Refusal :=
  let x := s.die die
  finish <| match x.array with
  | none => s
  | some o =>
    let s := s.error (.onfc (die / 16)) 0x43 (die % 16) (2 ^ 5)
    let n := if x.wasReset then x.timeouts + 1 else 0
    let s := s.modDie die fun x => { x with wasReset := true, timeouts := n, array := none, suspending := false, arrayDone := false,
                                            queue := o :: x.queue }
    (if 3 ≤ n then s.retireDie die else s.dieNext die).exhaustCheck

/-- SUSPEND_EFFECTIVE (R404, R405): not counted when the operation's status already shows it complete. -/
def execSuspendEffective (die : Nat) (s : State) : Host.Outcome State Fault Refusal :=
  let x := s.die die
  finish <| match x.array with
  | none => s
  | some o =>
    if !x.suspending then s
    else if x.arrayDone then s.modDie die fun x => { x with suspending := false }
    else
      let o := { o with suspends := o.suspends + 1 }
      let s := s.modChan (die / 16) fun c => { c with suspCount := satInc 20 c.suspCount,
                                                      suspFull := if o.suspends = 4 then satInc 10 c.suspFull else c.suspFull }
      (s.modDie die fun x => { x with array := none, paused := some o, suspending := false, servedP1 := 0 }).dieNext die

/-- ARRAY_READ_COMPLETE (R376, R404): a P1 read's transfers enter the read-return queue, others that of their die's position. -/
def execArrayReadComplete (die : Nat) (s : State) : Host.Outcome State Fault Refusal :=
  let x := s.die die
  finish <| match x.array with
  | none => s
  | some o =>
    if !o.isRead then s
    else
      let s := s.modDie die fun x => { x with array := none, arrayDone := false, timeouts := 0, wasReset := false }
      let rec_ := o.leg = .recovery
      let t : Xfer1 := { req := if o.cls = 1 then 16 else die % 16, cls := o.cls, die := die, ref := o.ref, recovery := rec_,
                         left := if rec_ || o.kind = .softRead then 1 else 4 }
      let live := o.cls ≠ 1 || s.clus.reads.any fun r => r.id = o.ref && r.outcome = .pending
      let s := if live then s.modChan (die / 16) fun c => c.enqueue t else s
      s.dieNext die

/-- CODEWORD_TRANSFER_COMPLETE (R376): the transfer keeps its place until its codewords are through, and the next is granted. -/
def execCodewordTransferComplete (chan : Nat) (s : State) : Host.Outcome State Fault Refusal :=
  finish <| match (s.chan chan).granted with
  | none => s
  | some t =>
    s.modChan chan fun c =>
      { c with granted := none, xfers := if 1 < t.left then { t with left := t.left - 1 } :: c.xfers else c.xfers }.grant

/-- The hard decode succeeds: it does for every codeword of at most 192 bit errors (R351). -/
def hardDecodes (d : Decoded) : Bool := d.ok || decide (d.errors ≤ 192)

/-- A die holds a page of the row that a read is of (R300, R378). -/
def State.inRow (s : State) (r : MRead) (die : Nat) : Bool := decide (die = r.target) || decide (die ∈ (s.rowDies r.pua).2)

/-- DECODE_COMPLETE (R351, R353, R357, R359, R363, R379, R872): the report of one hard decode of a read, of a codeword of its stripe row, or of a
patina sample. -/
def execDecodeComplete (read die : Nat) (d : Decoded) (s : State) : Host.Outcome State Fault Refusal :=
  finish <| match s.clus.reads.find? fun r => r.id = read && r.outcome = .pending && s.inRow r die with
  | none =>
    -- a page of a patina sample (R359)
    match s.clus.samples.find? fun x => x.1 = read && x.2.1 = die with
    | none => s
    | some x =>
      let s := { s with clus.samples := s.clus.samples.erase x }
      if !hardDecodes d then s
      else
        let s := s.patinaReport die x.2.2 { d with single := false }
        if 135 ≤ d.errors then s.scheduleRewrite die x.2.2 else s
  | some r =>
    let blk := s.memberBlock r.pua die
    let s := if hardDecodes d then s.patinaReport die blk d else s
    if hardDecodes d then
      let s := if 135 ≤ d.errors then s.scheduleRewrite die blk else s
      if die = r.target then s.readEnds r .recovered false
      else s.modRead read fun r => { r with legs := without r.legs die }
    else if die = r.target then
      let others := (s.rowDies r.pua).2
      let rec_ := r.path ≠ .rebuild && wbit (s.cluster (r.target / 128)).rdpol 1 && !others.isEmpty && others.all s.legReady
      let s := s.modRead read fun r => { r with targetFail := true, soft := withNew r.soft die, recovery := r.recovery || rec_,
                                                legs := if rec_ then others else r.legs }
      let s := s.queueSoft die read .direct
      if rec_ then others.foldl (fun s o => s.queueRead o 1 read .read .recovery) s else s
    else
      let first := r.badLegs.isEmpty && r.path = .rebuild && !r.recovery
      let s := s.modRead read fun r => { r with badLegs := withNew r.badLegs die, soft := withNew r.soft die }
      let s := s.queueSoft die read .rebuild
      if first && s.dieUp r.target then s.queueRead r.target 1 read .read .direct
      else if first then s.modRead read fun r => { r with targetFail := true } else s

/-- SOFT_DECODE_COMPLETE (R351, R352, R353, R872): soft decoding corrects every codeword of at most 330 bit errors. -/
def execSoftDecodeComplete (read die : Nat) (d : SoftDecoded) (s : State) : Host.Outcome State Fault Refusal :=
  finish <| match s.clus.reads.find? fun r => r.id = read && r.outcome = .pending && die ∈ r.soft with
  | none => s
  | some r =>
    let c := die / 128
    let s := s.modRead read fun r => { r with soft := without r.soft die }
    if d.ok || decide (d.errors ≤ 330) then
      let s := (s.modClu c fun m => { m with errSoft := satInc 16 m.errSoft }).cause (.mclu c) 1
      let s := s.scheduleRewrite die (s.memberBlock r.pua die)
      if die = r.target then s.readEnds r .recovered false
      else s.modRead read fun r => { r with badLegs := without r.badLegs die, legs := without r.legs die }
    else
      let r' := { r with soft := without r.soft die }
      if r'.allFailed then (s.readEnds r .lost false).exhaustCheck else s

/-- REBUILD_COMPLETE (R378, R379, R872): the members are combined and verified. -/
def execRebuildComplete (read : Nat) (ok : Bool) (s : State) : Host.Outcome State Fault Refusal :=
  finish <| match s.clus.reads.find? fun r => r.id = read && r.outcome = .pending with
  | none => s
  | some r =>
    if !(r.path = .rebuild || r.recovery) || !r.legs.isEmpty || !r.badLegs.isEmpty then s
    else if ok then
      let s := if r.targetFail && s.dieUp r.target then s.scheduleRewrite r.target (s.memberBlock r.pua r.target) else s
      s.readEnds r .recovered true
    else
      -- the stripe does not supply the page; what the target supplies, if anything, decides
      let r' := { r with badLegs := [r.target] }
      let s := s.modRead read fun r => { r with badLegs := [r.target] }
      if r'.soft.isEmpty && (r.targetFail || r.path = .rebuild) then (s.readEnds r .lost false).exhaustCheck else s

/-- PLANISH_READ (R365 to R367, R386): one wordline of a closed block, one past its deadline first; the last one counts the block as read. -/
def execPlanishRead (block : Nat) (d : Decoded) (s : State) : Host.Outcome State Fault Refusal :=
  let die := block / 8192
  let b := block % 8192
  finish <| match (s.blk die b).use with
  | .band n =>
    let x := s.band n
    if x.phase ≠ .closed || x.valid = 0 || wbit s.plan.ctrl 13 || s.planishPaused || !s.working ||
        (!s.plan.late.isEmpty && decide (block ∉ s.plan.late)) then s
    else
      let s := if hardDecodes d then s.patinaReport die b d else s
      let s := if !hardDecodes d || decide (135 ≤ d.errors) then s.scheduleRewrite die b else s
      let (_, dense, slc) := s.geometry
      let all := if x.slc then slc else ceilDiv dense 4
      let got := tget 0 s.plan.wordline block + 1
      if got < all then { s with plan.wordline := tput 0 s.plan.wordline block got }
      else
        let s := s.modBlk die b fun k => { k with readAt := s.now }
        let total := if s.plan.passDone = 0 then
            (s.media.blocks.filter fun e => match e.2.use with
              | .band m => (s.band m).phase = .closed && decide (0 < (s.band m).valid) | _ => false).length
          else s.plan.passAll
        let done := s.plan.passDone + 1
        let s := { s with plan.wordline := tdel block s.plan.wordline, plan.blocks := wrapInc 40 s.plan.blocks,
                          plan.late := without s.plan.late block, plan.passAll := total, plan.passDone := done }
        if total ≤ done then State.planNext (State.cause { s with plan.passDone := 0, plan.passAll := 0 } .plan 3) else s
  | _ => s

/-- PLANISH_DEADLINE_MISSED (R367), at the deadline (log 2). -/
def execPlanishDeadlineMissed (block : Nat) (s : State) : Host.Outcome State Fault Refusal :=
  let k := s.blk (block / 8192) (block % 8192)
  finish <| match k.use with
  | .band n =>
    if (s.band n).phase = .closed && decide (0 < (s.band n).valid) && block ∉ s.plan.late then
      let s := s.passTicks (k.readAt + clampN 1 30 (fld s.plan.ctrl 0 5) * dayNs - s.now)
      State.cause { s with plan.late := s.plan.late ++ [block] } .plan 1
    else s
  | _ => s

/-- RETIREMENT_PHASE_COMPLETE (R373): phase 1 has moved the units of the retired die, phase 2 those of every band that had a
member on it. -/
def execRetirementPhaseComplete (cluster : Nat) (s : State) : Host.Outcome State Fault Refusal :=
  let m := s.cluster cluster
  finish <| if m.retPhase = 0 || !s.working then s
  else
    let d := m.retDie
    let bands := (s.ftlm.bands.filter fun e => e.2.members.any fun k => k.1 = d).map (·.1)
    let us := bands.flatMap fun b =>
      if m.retPhase = 1 then ((s.band b).members.filter fun k => k.1 = d).flatMap fun k => s.blockUnits b k else s.bandUnits b
    let s := s.relocate .retirement us
    if m.retPhase = 1 then s.modClu cluster fun m => { m with retPhase := 2, retPct := 0 }
    else ((s.modClu cluster fun m => { m with retPhase := 0, retPct := 0 }).cause (.mclu cluster) 8).nextRecovery cluster

/-- RETRAIN_DUE (R392): the retraining starts, once the temperature has moved 10 degrees since the last training, else 24 hours after it (log 2). -/
def execRetrainDue (chan : Nat) (temp : Int) (s : State) : Host.Outcome State Fault Refusal :=
  let c := s.chan chan
  finish <| if !c.live || c.retraining then s
  else
    let s := if 10 ≤ (temp - c.trainTemp).natAbs then s else s.passTicks (c.trainAt + dayNs - s.now)
    s.modChan chan fun c => { c with retraining := true, trainTemp := temp }

/-- RETRAIN_STEP_COMPLETE (R392, R372, R413): the last step puts the new settings in force; a failure counts toward retirement. -/
def execRetrainStepComplete (chan : Nat) (ok last : Bool) (s : State) : Host.Outcome State Fault Refusal :=
  let c := s.chan chan
  finish <| if !c.retraining then s
  else if ok then
    if last then s.modChan chan fun c => { c with retraining := false, trainAt := s.now, retrains := satInc 8 c.retrains } else s
  else
    let recent := s.now :: c.failAt.filter fun t => decide (s.now < t + 600 * 10 ^ 9)
    let s := (s.modChan chan fun c => { c with retraining := false, failAt := recent }).cause (.onfc chan) 4
    (if 3 ≤ recent.length then s.retireChan chan else s).exhaustCheck

end Sys2Proof.Machine
end

