-- ==== Sys2Proof/Machine/Power.lean ====
section
/-!
DEFINITION. The commands of the power supervisor (15_power_supervision.md) and the settings of the dirty budget
(10_persistence.md R416, R422, R450).
-/
namespace Sys2Proof.Machine

/-- A measurement ends: its outcome, c_meas, and L (R422, R424, R673). -/
def State.capDone (s : State) (outcome cmeas dt dv : Nat) (critical : Bool) : State :=
  let s := s.capLoadOff
  let c := s.pseq.cap
  let c : CapTest := { c with
    running := false, count := 0, first := [], last := [], dt := satN 20 dt, dv := satN 16 dv, outcome := outcome, requested := false
    cmeas := satN 20 cmeas, measuredAt := some s.now, due := some (s.now + 24 * 3600 * 10 ^ 9) }
  let s : State := { s with pseq.cap := c }
  (s.cause .pseq 6 (if critical then 5 else 2)).applyLimit

/-- A measurement is started, or deferred by 10 s while the bank is not charged to v_hi + TESTDV (R672 M1, M2). Without a load
current nothing is measured and c_meas is 0 (PSEQ.CAPCFG.IMA). -/
def State.capStart (s : State) : State :=
  let w := s.pseq.capcfg
  if s.pseq.cap.running then s
  else if fld w 9 13 = 0 then
    ({ s with pseq.cap.cmeas := 0, pseq.cap.requested := false, pseq.cap.due := none }).applyLimit
  else if !s.bankAt (s.pseq.input 1).code (max 1 (fld w 29 8) * 10) then
    { s with pseq.cap.due := some (s.now + 10 * 10 ^ 9), pseq.cap.outcome := 2 }
  else
    let e := s.pseq.seq.enables ||| 2 ^ fld w 0 4
    let e := if fld w 4 5 < 16 then clrBits e (2 ^ fld w 4 5) else e
    { s with pseq.seq.enables := e, pseq.cap.running := true, pseq.cap.count := 0, pseq.cap.first := [], pseq.cap.last := [],
             pseq.cap.due := none }

/-- One bank sample of a running measurement (R672 M3 to M5, R673). Codes are summed over 16 samples, so that a mean is exact. -/
def State.capSample (s : State) (code : Nat) : State :=
  let c := s.pseq.cap
  let n := c.count + 1
  let first := if 8 ≤ n ∧ n ≤ 23 then code :: c.first else c.first
  let last := (code :: c.last).take 16
  let s := { s with pseq.cap.count := n, pseq.cap.first := first, pseq.cap.last := last }
  let w := s.pseq.capcfg
  let scale := (s.pseq.input 1).scale
  let sum1 := first.foldl (· + ·) 0
  let sum2 := last.foldl (· + ·) 0
  -- a drop of `d` sixteenths of a code is d x 1,200 x SCALE / (4,096 x 256 x 16) mV
  let unit := 1200 * scale
  let den := 4096 * 256 * 16
  let testMv := max 1 (fld w 29 8) * 10
  let long := decide (200000 * 10 ≤ n * 675)
  if n < 24 then s
  else if decide (testMv * den ≤ (sum1 - 16 * code) * unit) || long then
    let drop := sum1 - sum2
    -- the centres of the two sets are samples 15.5 and n - 7.5
    let dtNs := (n - 23) * 67500
    let dv := drop * unit / den
    let bad := decide (drop ≤ 2 * 2 * 16) || (long && decide (drop * unit < testMv * den))
    if bad then s.capDone 2 0 (dtNs / 1000) dv true
    else
      -- IMA mA x dt ns / mV is 10^-3 uF
      let num := fld w 9 13 * (1000 - fld w 22 7) * dtNs * den
      s.capDone 1 (num / max 1 (10 ^ 6 * ((drop + 64) * unit))) (dtNs / 1000) dv false
  else s

/-- The hold-up bank against v_hi: BANKLOW, the first charge of a start with its measurement, and L (R418, R422, R451). -/
def State.bankCheck (s : State) (code : Nat) : State :=
  let low := !s.bankAt code 0
  let c := s.pseq.cap
  let fell := low && !c.bankLow
  let reached := !low && !c.bankReached && s.sysc.mode ≠ .dormant
  let s := { s with pseq.cap.bankLow := low, pseq.cap.bankSampled := true,
                    pseq.cap.bankReached := c.bankReached || reached }
  let s := if fell then s.cause .sysc 9 else s
  let s := if low ≠ c.bankLow || reached then s.applyLimit else s
  if reached then s.capStart else s

/-- A sample of the hold-up bank. -/
def State.bankSample (s : State) (code : Nat) : State :=
  let s := s.bankCheck code
  if s.pseq.cap.running then s.capSample code else s

/-- A calibration slot (R642). -/
def State.calSample (s : State) (k code : Nat) : State :=
  let want := match k with | 0 => 0 | 1 => 2048 | _ => 4095
  let miss := decide (want + 8 < code) || decide (code + 8 < want)
  let p := s.pseq
  if miss then
    let s := { s with pseq.calMiss := min 16 (p.calMiss + 1), pseq.calPass := 0 }
    if s.pseq.calMiss = 16 && !p.adcFault then (({ s with pseq.adcFault := true }).cause .pseq 4 5).applyLimit else s
  else
    let s := { s with pseq.calMiss := 0, pseq.calPass := min 16 (p.calPass + 1) }
    if s.pseq.calPass = 16 && p.adcFault then { s with pseq.adcFault := false }.applyLimit else s

/-- The VIN power-good filter after a VIN sample (R668). -/
def State.vinFilter (s : State) : State :=
  let x := s.pseq.input 0
  let bad := decide (x.pgRun = 0)
  let q := s.pseq.seq
  let need := q.needBadVin && !bad
  let q := { q with needBadVin := need, vinGood := !need && x.pg && decide (x.pgcount ≤ x.pgRun),
                    aborts := if x.pg then q.aborts else 0 }
  { s with pseq.seq := q }

/-- An input named as WAIT in the power-up table stops being power-good: INTACT falls (R649), and during a power-up table a
completed entry that waited on it has failed its attempt (R664). -/
def State.pgLost (s : State) (i : Nat) : State :=
  let p := s.pseq
  let users := (List.range 32).filter fun k => (p.entry false k).use && (p.entry false k).wait = some i
  if users.isEmpty then s
  else
    let s := { s with pseq.seq.intact := false }
    if p.seq.phase = .powerUp then
      (users.filter fun k => k ∈ p.seq.done).foldl (fun s k => s.attemptFailed k) s
    else s

/-- An input becomes power-good: a wait on it ends (R652). -/
def State.pgGained (s : State) (i : Nat) : State :=
  let p := s.pseq
  if p.seq.phase = .powerUp && p.seq.entryState = .waiting && (p.entry false p.seq.entry).wait = some i then s.seqApply p.entryDone
  else s

/-- The shutdown table waits no longer on an input (R653, R670). -/
def State.shutWait (s : State) (i : Nat) : State :=
  if s.pseq.seq.down && s.pseq.seq.entryState = .waiting && (s.pseq.entry true s.pseq.seq.entry).wait = some i then
    s.seqApply s.pseq.entryDone
  else s

/-- A rail that the shutdown has not yet turned off fails: KIND 6, every wait on it ends, dies fed by it are unsealed
(R670). -/
def State.shutRail (s : State) (i : Nat) : State :=
  let p := s.pseq
  let off (down : Bool) := (List.range 32).any fun k => let e := p.entry down k
    e.use && e.wait = some i && !p.seq.enables.testBit e.en
  let s := if off true || off false then s
    else
      let new := p.faultWord 6 i
      let s := { s with pseq.seq.fault := new, pers.shutRails := withNew s.pers.shutRails i }
      let s := s.changeRecord .pseq 0xA8 p.seq.fault.toNat new.toNat
      { s with aon.unsealed := (s.programmingDies.filter fun d => (fld (p.input i).cfg 25 6).testBit (d / 128)).foldl withNew
                 s.aon.unsealed }
  s.shutWait i

/-- What the conditions that a sample set do (R646, R879). -/
def State.conditions (s : State) (i : Nat) (warn fault : Bool) : State :=
  let dormant := decide (s.sysc.mode = .dormant) && !s.pseq.sequencing
  let kind := s.pseq.kind i
  let shutting := decide (s.sysc.mode = .quench) || s.pseq.seq.down
  match kind with
  | .bank => s
  | .unmonitored => s
  | .vin =>
    if dormant then s
    else
      let s := if warn then s.cause .pseq 1 3 else s
      if fault then s.startQuench .vin none else s
  | .critical =>
    if dormant then s
    else
      let s := if warn then s.cause .pseq 2 3 else s
      if fault then (if shutting then s.shutRail i else s.startQuench .pfw (some i)) else s
  | .monitor =>
    let s := if warn then s.cause .pseq 2 3 else s
    if fault then
      let s := s.cause .pseq 3
      if shutting then s.shutRail i else s
    else s

/-- One input sampled (R643 to R646, R668). A shutdown entry's wait on it ends when its UVF condition is set, whatever its role (R653). -/
def State.sampleInput (s : State) (i code : Nat) : State :=
  if i = 1 then ({ s with pseq := s.pseq.modInput 1 fun x => { x with code := code } }).bankSample code
  else
    let old := s.pseq.input i
    let new := old.sample code (decide (i = 0) && !s.pseq.record)
    let s := { s with pseq := s.pseq.modInput i fun _ => new }
    let s := if i = 0 then s.vinFilter else s
    let s := if new.pg && !old.pg then s.pgGained i else s
    let s := if old.pg && !new.pg then s.pgLost i else s
    let warn := (new.uvw.set && !old.uvw.set) || (new.ovw.set && !old.ovw.set)
    let fault := (new.uvf.set && !old.uvf.set) || (new.ovf.set && !old.ovf.set)
    let s := s.conditions i warn fault
    if new.uvf.set && !old.uvf.set then s.shutWait i else s

/-- ADC_SLOT (R639, R640): the slot's source is converted and compared in that cycle. -/
def execAdcSlot (code : Nat) (s : State) : Host.Outcome State Fault Refusal :=
  finish <| if !s.pseq.vaon || s.psto.recalling = some .vaonRise then s
  else
    let code := code % 4096
    let t := adcTarget s.pseq.slot
    let s := { s with pseq.slot := (s.pseq.slot + 1) % 45 }
    if t < 28 then s.sampleInput t code else s.calSample (t - 28) code

/-- VIN_POWER_GOOD (R55, R661, R668; 22_pins_and_package.md R839). -/
def execVinPowerGood (s : State) : Host.Outcome State Fault Refusal :=
  finish (if s.sysc.mode = .dormant && !s.pseq.sequencing && s.pseq.seq.vinGood && !s.aon.testLow then s.beginStart true false else s)

/-- PFW_N_ASSERT (R647). -/
def execPfwNAssert (s : State) : Host.Outcome State Fault Refusal :=
  finish (if !s.pseq.vaon then s else { s with pseq.pfwLow := true }.startQuench .pfw none)

/-- BELAY_RISE (R659, R661, R668): a device that runs no table ignores BELAY, but for the restart timer's edge. -/
def execBelayRise (s : State) : Host.Outcome State Fault Refusal :=
  let p := s.pseq
  finish <| if p.seq.holding || !p.vaon then s
  else
    let s := { s with pseq.seq.line := true }
    if p.joined && (p.seq.phase = .powerUp || p.seq.phase = .shutJoint) then
      if p.seq.step = 31 then s.seqApply ({ s.pseq with seq.entryState := .idle }, true)
      else s.seqApply (s.pseq.startStep (p.seq.step + 1))
    else if p.seq.restart = .armed && s.sysc.mode = .dormant then { s with pseq.seq.restart := .running }
    else s

/-- BELAY_TIMEOUT (R662, R666). -/
def execBelayTimeout (s : State) : Host.Outcome State Fault Refusal :=
  let p := s.pseq
  finish <| if !p.joined then s
  else match p.seq.phase with
    | .powerUp => s.abortUp 5 none
    | .shutJoint =>
      let new := p.faultWord 5 0
      let s := ({ s with pseq.seq.fault := new }).changeRecord .pseq 0xA8 p.seq.fault.toNat new.toNat
      s.seqApply ({ s.pseq with seq.phase := .shutDetached, seq.holding := false }).go
    | _ => s

/-- SEQ_ENTRY_DELAY_EXPIRED (R651 to R653). -/
def execSeqEntryDelayExpired (s : State) : Host.Outcome State Fault Refusal :=
  finish (if s.pseq.sequencing && s.pseq.seq.entryState = .delay then s.seqApply s.pseq.delayPassed else s)

/-- SEQ_WAIT_TIMEOUT (R652, R653, R664). -/
def execSeqWaitTimeout (s : State) : Host.Outcome State Fault Refusal :=
  let p := s.pseq
  finish <| if !p.sequencing || p.seq.entryState ≠ .waiting then s
  else if p.seq.down then
    let old := p.seqstat
    let s := s.seqApply p.entryDone
    s.changeRecord .pseq 0x90 old.toNat s.pseq.seqstat.toNat
  else s.attemptFailed p.seq.entry

/-- RETRY_OFF_EXPIRED (R664): the entry runs again from its DELAY. -/
def execRetryOffExpired (s : State) : Host.Outcome State Fault Refusal :=
  finish (if s.pseq.seq.phase = .powerUp && s.pseq.seq.entryState = .offTime then { s with pseq.seq.entryState := .delay } else s)

/-- FAULT_HOLD_EXPIRED (R665). -/
def execFaultHoldExpired (s : State) : Host.Outcome State Fault Refusal :=
  let t := { s with pseq.seq.holdUntilTimer := false }
  finish (if s.pseq.seq.phase = .faultHold then t.enterDormant else t)

/-- RESTART_TIMER_EXPIRED (R668). -/
def execRestartTimerExpired (s : State) : Host.Outcome State Fault Refusal :=
  finish <| if s.pseq.seq.restart ≠ .running || s.sysc.mode ≠ .dormant then s
  else
    let s := { s with pseq.seq.restart := .off }
    if (s.pseq.input 0).pg && !s.aon.testLow then s.beginStart true false else s

/-- BELAY_MIN_HOLD_EXPIRED (R658). -/
def execBelayMinHoldExpired (s : State) : Host.Outcome State Fault Refusal :=
  let q := s.pseq.seq
  finish <| if !(s.pseq.joined && (q.phase = .powerUp || q.phase = .shutJoint)) then s
  else { s with pseq.seq.minHold := true, pseq.seq.holding := q.holding && q.entryState ≠ .stepDone }

/-- SUPERVISOR_SAVE (R655). -/
def State.regSupervisorSave (s : State) : State :=
  if !(s.hdr .pseq).ready then s
  else ({ s with pseq.save := true }.setRecord 1 (supervisorRec s.pseq)).hostRecord 1

/-- THRESHOLD_WRITE (R645, R656): `upper` writes OVTH, else UVTH, of the input that SNSSEL selects. -/
def State.regThresholdWrite (s : State) (upper : Bool) (v : Word) : State :=
  let i := min 27 (fld s.pseq.sel 0 5)
  let x := s.pseq.input i
  let v := keep v 0xFFFFFF
  if !(s.hdr .pseq).ready then s
  else if s.pseq.sequencing then s.error .pseq 0x40 0
  else if thresholdsOk (if upper then x.uvth else v) (if upper then v else x.ovth) then
    { s with pseq := s.pseq.modInput i fun x => if upper then { x with ovth := v } else { x with uvth := v } }
  else s.error .pseq 0x41 i

/-- TABLE_ENTRY_WRITE (R650, R656). -/
def State.regTableEntryWrite (s : State) (v : Word) : State :=
  let k := fld s.pseq.tsel 1 5
  if !(s.hdr .pseq).ready then s
  else if s.pseq.sequencing then s.error .pseq 0x40 0
  else if wbit s.pseq.tsel 0 then { s with pseq.downTable := tput 0 s.pseq.downTable k v }
  else { s with pseq.upTable := tput 0 s.pseq.upTable k v }

/-- SEQCFG_WRITE (R656). -/
def State.regSeqcfgWrite (s : State) (v : Word) : State :=
  if !(s.hdr .pseq).ready then s
  else if s.pseq.sequencing then s.error .pseq 0x40 0
  else { s with pseq.seqcfg := heldSeqcfg v }

/-- PFWCFG_WRITE (R420). -/
def State.regPfwcfgWrite (s : State) (v : Word) : State :=
  if !(s.hdr .pseq).ready then s else { s with pseq.pfwcfg := heldPfwcfg v }.applyLimit

/-- HOLDUP_MEASURE_REQUEST (R422): MEASURE reads 1 until the measurement completes. -/
def State.regHoldupMeasureRequest (s : State) : State :=
  if !s.syscServed then s else { s with pseq.cap.requested := true }.capStart

/-- HOLDUP_MEASURE_DUE (R422, R672): a measurement is due once the bank has reached v_hi in this start. -/
def execHoldupMeasureDue (s : State) : Host.Outcome State Fault Refusal :=
  finish (if s.pseq.cap.due.isSome && s.sysc.mode ≠ .dormant && s.sysc.mode ≠ .quench then s.capStart else s)

/-- HOLDUPCFG_WRITE (R450): PQ 0 is treated as 1; the record follows (18_parameter_store.md). -/
def State.regHoldupcfgWrite (s : State) (v : Word) : State :=
  let w := keep v 0x7FFFFFFFF
  let w := if fld w 26 9 = 0 then setFld w 26 9 1 else w
  if !s.syscServed then s
  else if fld w 0 13 ≤ fld w 13 13 then s.error .sysc 0x48 0
  else
    let s := { s with pers.holdupcfg := w }
    let s := if s.pseq.cap.bankSampled then s.bankCheck (s.pseq.input 1).code else s
    (s.applyLimit).hostRecord 3

/-- DIRTYCFG_WRITE (R416, SYSC.DIRTYCFG). -/
def State.regDirtycfgWrite (s : State) (v : Word) : State :=
  if !s.syscServed then s
  else ({ s with pers.dirtycfg := BitVec.ofNat 40 (clampN 1 512 (fld v 0 10)) }.applyLimit).hostRecord 3

/-! ### The always-on supply -/

/-- VAON_RISE (R654, R655, R660; 18_parameter_store.md R724; 20_cohort_and_time.md R786; 22_pins_and_package.md R837): the always-on domain
comes up with nothing kept but what lies in the Parameter Store, the media and the boot flash; the recall runs. -/
def execVaonRise (vsel : Nat) (testLow : Bool) (s : State) : Host.Outcome State Fault Refusal :=
  finish <| if s.pseq.vaon then s
  else
    let s : State := { s with
      pseq := { Pseq.reset with vaon := true }
      aon := { Aon.reset with uptime := s.aon.uptime, vsel := vsel % 16, testLow := testLow }
      evtr := { Evtr.reset with log := s.evtr.log, logCount := s.evtr.logCount }
      coht := .reset
      psto.recalling := some .vaonRise }
    { s with sysc.mode := .dormant, hall.hdrs := [] }

/-- The Parameter Store's page as VAON failing during its write leaves it (18_parameter_store.md R730): `chunk` is the chunk being
programmed, none during the erase. -/
def State.cutPage (s : State) (w : PageWrite) (chunk : Option Nat) : State :=
  if reservedPage w.page then s
  else match chunk with
    | none =>
      let (l, s) := s.fresh 256
      { s with psto := s.psto.setPage w.page (l.map (BitVec.ofNat 8)) }
    | some k =>
      let (l, s) := s.fresh 8
      let data := w.bytes.take (8 * (k % 32)) ++ l.map (BitVec.ofNat 8)
      { s with psto := s.psto.setPage w.page ((data ++ List.replicate 256 (0xFF : BitVec 8)).take 256) }

/-- VAON_FALL (R649; 10_persistence.md R430; 18_parameter_store.md R730; 01_architecture.md R21): everything the always-on domain holds is
lost; a QUENCH stops wherever it stands. -/
def execVaonFall (chunk : Option Nat) (s : State) : Host.Outcome State Fault Refusal :=
  finish <| if !s.pseq.vaon then s
  else
    -- QUENCH cut short: an unstated number of its reserve pages had been programmed
    let s : State := if s.pers.quench.isSome then
        let (k, s) := s.fresh1
        s.reserveSome k
      else s
    let s := match s.psto.running with | some w => s.cutPage w chunk | none => s
    let s : State := { s with
      sysc.mode := .dormant
      psto := { Psto.reset with bytes := s.psto.bytes, copies := s.psto.copies }
      pseq := .reset
      aon := { Aon.reset with uptime := s.aon.uptime }
      evtr := { Evtr.reset with log := s.evtr.log, logCount := s.evtr.logCount }
      raised := [] }
    let s := s.domainReset false
    { s with coht := .reset, sysc := .reset, hall.hdrs := [], boot.img := .reset, boot.digest := none, boot.voided := none }

/-- The supervisor's record in force once the recall that follows the rise of VAON ends (R655, R657). -/
def State.loadSupervisor (s : State) : State :=
  let s := s.readRecord 1
  let old := s.stat .pseq
  let s : State := { s with pseq := s.pseq.load (s.record 1).winner }
  let s : State := { s with
    pseq.seq.holding := s.pseq.joined
    pseq.seq.phase := if s.pseq.joined then .dormHolding else .dormReleased }
  let s := s.readyBlocks [.pseq, .psto]
  if s.pseq.record then s else s.changeRecord .pseq 0x20 old.toNat (s.stat .pseq).toNat

/-- The recorder's record and the critical copies once that recall ends: the sequence starts at the stored reservation, which is renewed, and
the rotation resumes after the newest valid copy (17_event_recorder.md R702, R705). -/
def State.loadRecorder (s : State) : State :=
  let s := s.readRecord 6
  let (res, rates, rcmap) := match (s.record 6).winner with | .recorder v a b => (v, a, b) | _ => (0, [], [])
  let v := (res + 2 ^ 20) % 2 ^ 32
  let copies := (List.range 32).flatMap fun i => ((critSlots s.psto (736 + i)).filter EvRec.good).map fun r => (736 + i, r.seq)
  let newest := copies.foldl (fun m c => match m with
    | none => some c
    | some x => if newer32 c.2 x.2 then some c else some x) none
  let s : State := { s with
    evtr.next := res
    evtr.reserve := v
    evtr.rates := rates
    evtr.rcmap := rcmap
    evtr.critHigh := newest.map (·.2)
    evtr.critPage := match newest with | none => 736 | some (p, _) => if p = 767 then 736 else p + 1 }
  (s.setRecord 6 (.recorder v rates rcmap)).writeRecord 6

/-- RECALL_COMPLETE (18_parameter_store.md R724; R655): the recall ends; the first one puts the always-on records in force. -/
def execRecallComplete (s : State) : Host.Outcome State Fault Refusal :=
  finish <| match s.psto.recalling with
  | none => s
  | some .startStep => { s with psto := { s.psto with recalling := none }.pump }
  | some .vaonRise =>
    let s := { s with psto := { s.psto with recalling := none }.pump }
    -- with TEST_N low the recorder does not run (22_pins_and_package.md R839)
    (if s.aon.testLow then s else s.loadRecorder).loadSupervisor

end Sys2Proof.Machine
end

