-- ==== Sys2Proof/Machine/Thermal.lean ====
section
/-!
DEFINITION. Temperature sensing, the levels, the throttle ladder and the power cap (16_thermal.md, 23_electrical.md R848, R849).
-/
namespace Sys2Proof.Machine

/-- The role of remote diode `d`: 0 UNUSED, 1 MONITOR, 2 GOVERN; 3 is treated as 2 (THRM.DIODE). -/
def Thrm.role (t : Thrm) (d : Nat) : Nat := min 2 (fld t.diode (2 * d) 2)

/-- A sensor after a frame: its raw code, none when the converter reports an open or shorted input, and its reading (R680). -/
def Sensor.frame (x : Sensor) (raw : Option Nat) (temp : Int) : Sensor :=
  let same := match raw with | none => 0 | some _ => if x.rawCode = raw then min 64 (x.same + 1) else 1
  let bad := raw.isNone || decide (64 ≤ same) || decide (temp < -55) || decide (150 < temp)
  let pass := if bad then 0 else if x.broken then x.pass + 1 else 0
  let broken := bad || (x.broken && decide (pass < 16))
  { x with temp := if broken then 127 else temp, rawCode := raw, same := same, broken := broken, pass := if broken then pass else 0 }

/-- A sensor. -/
def Thrm.sensor (t : Thrm) (i : Nat) : Sensor := tget Sensor.reset t.sensors i

/-- The sensors that give T_g: on-die ones not excluded, and GOVERN diodes (R681). -/
def Thrm.governing (t : Thrm) : List Nat :=
  ((List.range 20).filter fun i => !wbit t.exclNow i) ++ ((List.range 4).filter fun d => t.role d = 2).map (20 + ·)

/-- The highest reading of some sensors, with the lowest-numbered sensor that has it. -/
def Thrm.highest (t : Thrm) (l : List Nat) : Option (Nat × Int) :=
  l.foldl (fun m i => match m with
    | none => some (i, (t.sensor i).temp)
    | some (j, v) => if v < (t.sensor i).temp then some (i, (t.sensor i).temp) else some (j, v)) none

/-- The thresholds and the hysteresis in force (THRM.THRESH; HYST 0 is treated as 1). -/
def Thrm.warnAt (t : Thrm) : Int := fld t.thresh 0 8
/-- THROT. -/
def Thrm.throtAt (t : Thrm) : Int := fld t.thresh 8 8
/-- SHUT. -/
def Thrm.shutAt (t : Thrm) : Int := fld t.thresh 16 8
/-- HYST. -/
def Thrm.hyst (t : Thrm) : Int := max 1 (fld t.thresh 24 4)

/-- The sensors read in a frame: UNUSED diodes are not read (R679, R681); a sensor that becomes broken sets BROKEN (R694). -/
def State.readSensors (s : State) (raw : List (Option Nat)) (temps : List Int) : State :=
  (List.range 24).foldl (fun (s : State) i =>
    if decide (20 ≤ i) && s.thrm.role (i - 20) = 0 then s
    else
      let old := s.thrm.sensor i
      let new := old.frame (raw.getD i none) (temps.getD i 0)
      let s : State := { s with thrm.sensors := tput Sensor.reset s.thrm.sensors i new }
      if new.broken && !old.broken then s.cause .thrm 4 else s) s

/-- MONITOR diodes against the warning threshold (R681, 17_event_recorder.md R870). -/
def State.monitorDiodes (s : State) : State :=
  (List.range 4).foldl (fun (s : State) d =>
    if s.thrm.role d ≠ 1 then s
    else
      let x := s.thrm.sensor (20 + d)
      let put (b : Bool) : State := { s with thrm.sensors := tput Sensor.reset s.thrm.sensors (20 + d) { x with hot := b } }
      if !x.hot && decide (s.thrm.warnAt ≤ x.temp) then (put true).namedRecord .thrm d (int8 x.temp) (fld s.thrm.thresh 0 8) 3
      else if x.hot && decide (x.temp ≤ s.thrm.warnAt - s.thrm.hyst) then put false
      else s) s

/-- One step up the ladder, to step 3 at 1.8 GHz at most (R688). -/
def Ladder.up : Ladder → Ladder | .s0 => .s1 | .s1 => .s2 | .s2 => .s3fast | .s3fast => .s3slow | x => x

/-- One step down the ladder. -/
def Ladder.down : Ladder → Ladder | .s1 => .s0 | .s2 => .s1 | .s3fast => .s2 | .s3slow => .s3fast | x => x

/-- The ladder moves to a step; each change sets STEP (R694) and the clock follows (R690). -/
def State.setStep (s : State) (l : Ladder) : State :=
  if s.thrm.step = l then s
  else (State.cause { s with thrm.step := l, thrm.stepSince := some s.now } .thrm 5).clockSync

/-- The ladder at the end of a frame (R688, R692); in QUENCH and while the shutdown table runs it holds (R42). -/
def State.ladder (s : State) : State :=
  let t := s.thrm
  let dwell := match t.stepSince with | none => true | some x => decide (x + max 1 (fld t.ladcfg 0 10) * 10 ^ 6 ≤ s.now)
  if s.sysc.mode = .rest || s.sysc.mode = .quench || s.pseq.seq.down || t.step = .s4 || !dwell then s
  else if t.throttle then s.setStep t.step.up
  else if t.tg ≤ t.throtAt - t.hyst then s.setStep t.step.down
  else s

/-- The levels at the end of a frame (R684, R683): those that set raise their causes. `top` is the highest reading that counts toward
shutdown. -/
def State.levels (s : State) (top : Option Int) : State :=
  let t := s.thrm
  let warn := if t.warn then decide (t.warnAt - t.hyst < t.tg) else decide (t.warnAt ≤ t.tg)
  let throttle := if t.throttle then decide (t.throtAt - t.hyst < t.tg) else decide (t.throtAt ≤ t.tg)
  let hot := top.any fun x => decide (t.shutAt ≤ x)
  let run := if hot then min 2 (t.shutRun + 1) else 0
  let shutdown := if t.shutdown then top.any fun x => decide (t.shutAt - t.hyst < x) else run = 2
  let s : State := { s with thrm.warn := warn, thrm.throttle := throttle, thrm.shutdown := shutdown, thrm.shutRun := run }
  let s := if warn && !t.warn then s.cause .thrm 1 3 else s
  let s := if throttle && !t.throttle then s.cause .thrm 2 else s
  if shutdown && !t.shutdown then s.cause .thrm 3 else s

/-- THERMAL_FRAME (R679 to R692): the raw codes and the readings of the 24 sensors. -/
def execThermalFrame (raw : List (Option Nat)) (temps : List Int) (s : State) : Host.Outcome State Fault Refusal :=
  finish <| if !(s.hdr .thrm).ready then s
  else
    let s := (s.readSensors raw temps).monitorDiodes
    let t := s.thrm
    let (src, tg) := (t.highest t.governing).getD (t.source, t.tg)
    let count := if s.sysc.svcstrap then t.governing.filter fun i => !(t.sensor i).broken else t.governing
    let s : State := { s with
      thrm.tg := tg
      thrm.source := src
      thrm.tmax := some (match t.tmax with | none => tg | some m => max m tg) }
    let s := s.levels ((t.highest count).map (·.2))
    let changed := s.thrm.warn ≠ t.warn || s.thrm.throttle ≠ t.throttle || s.thrm.shutdown ≠ t.shutdown
    let s := if s.thrm.shutdown && !t.shutdown then (s.startQuench .thermal none).setStep .s4
      else if changed && s.sysc.mode = .rest then s.wake.ladder
      else s.ladder
    { s with thrm.exclNow := s.thrm.excl }

/-- XOFF_DUTY_PERIOD (R689, R849): the XOFF part of the 100 us period begins (`hold`) or ends. -/
def execXoffDutyPeriod (hold : Bool) (s : State) : Host.Outcome State Fault Refusal :=
  finish { s with thrm.dutyHold := hold && decide (0 < s.thrm.xoff) }

/-- CLOCK_CHANGE_COMPLETE (R690). -/
def execClockChangeComplete (s : State) : Host.Outcome State Fault Refusal :=
  finish <| match s.thrm.clockTarget with
  | some c => { s with thrm.clock := c, thrm.clockTarget := none }
  | none => s

/-- THRM_EXCL_WRITE (R682, 17_event_recorder.md R870). -/
def State.regThrmExclWrite (s : State) (v : Word) : State :=
  let v := keep v 0xFFFFF
  if !(s.hdr .thrm).ready then s
  else if 4 < (onesOf 20 v.toNat).length then s.error .thrm 0x41 0
  else
    let old := s.thrm.excl
    (State.setCause { s with thrm.excl := v } .thrm (2 ^ 6)).changeRecord .thrm 0x78 old.toNat v.toNat

/-- THRM_THRESH_WRITE (R685). -/
def State.regThrmThreshWrite (s : State) (v : Word) : State :=
  if !(s.hdr .thrm).ready then s
  else if fld v 0 8 < fld v 8 8 ∧ fld v 8 8 < fld v 16 8 ∧ fld v 16 8 ≤ 110 then { s with thrm.thresh := heldThresh v }
  else s.error .thrm 0x40 0

/-- PCAP_WRITE (23_electrical.md R848, R849). -/
def State.regPcapWrite (s : State) (v : Word) : State :=
  if !(s.hdr .thrm).ready then s else State.clockSync { s with thrm.pcap := heldPcap v }

/-- THERMAL_SAVE (R682, THRM.CTRL): SAVE reads 1 until the record is written. -/
def State.regThermalSave (s : State) : State :=
  if !(s.hdr .thrm).ready then s
  else (State.setRecord { s with thrm.save := true } 2 (.thermal s.thrm.excl s.thrm.diode s.thrm.thresh s.thrm.pcap)).hostRecord 2

end Sys2Proof.Machine
end

