-- ==== Sys2Proof/Machine/RegReads.lean ====
section
/-!
DEFINITION. What every register of BAR0 reads as (03_registers_and_hallmark.md R103 to R136, and the register tables of the chapters).
Registers whose contents the model holds as words read as those words; status registers are packed from the state.
-/
namespace Sys2Proof.Machine

/-- The number a list of Booleans spells, bit 0 first. -/
def bitsN : List Bool → Nat
  | [] => 0
  | b :: bs => b2n b + 2 * bitsN bs

/-- A block serves its registers above offset 0x03F (R110). In the hold of 02_modes_and_starts.md R99 the boot ROM serves the HALL, SYSC and
BOOT pages over the sideband (19_firmware_and_identity.md R779). -/
def State.serves (s : State) (side : Bool) (b : Block) : Bool :=
  (s.hdr b).ready || (side && s.boot.recoveryHold && (b = .hall || b = .sysc || b = .boot))

/-! ### Management -/

/-- CTRL (R112), the registers that blocks have at 0x018. -/
def State.ctrlReg (s : State) : Block → Word
  | .pseq => packW [(1, b2n s.pseq.save)]
  | .thrm => packW [(1, b2n s.thrm.save)]
  | .evtr => packW [(14, s.evtr.ctrl.toNat), (1, b2n s.evtr.save)]
  | .ncch _ => packW [(1, b2n s.ncch.disable), (1, b2n s.ncch.nextline)]
  | .ingp p => (s.pipe p).ctrl
  | _ => 0

/-- The common header (R112). -/
def State.rdHeader (s : State) (b : Block) (o : Nat) : Word :=
  let h := s.hdr b
  match o with
  | 0x00 => packW [(8, b.typ), (8, b.inst), (4, b.cluster), (12, b.page)]
  | 0x08 => packW [(8, 0), (8, 1)]
  | 0x10 => s.cap b
  | 0x18 => s.ctrlReg b
  | 0x20 => s.stat b
  | 0x28 => packW [(20, h.istat)]
  | 0x30 => packW [(20, h.ien)]
  | 0x38 => packW [(8, h.ecode), (1, b2n h.evalid), (1, b2n h.emulti), (2, 0), (28, h.eaddr)]
  | _ => 0

/-- The table entry of a block (R125). -/
def State.rdEntry (s : State) (b : Block) (slot : Nat) : Word :=
  match slot with
  | 0 => packW [(8, b.typ), (8, b.inst), (4, b.cluster), (8, 1), (8, 0)]
  | 1 => packW [(14, b.page), (2, 0), (6, b.vec), (2, 0), (1, b2n (s.hdr b).outsvc)]
  | 2 => s.cap b
  | _ => 0

/-- HALL: the table header, the entries and the vector map (R120 to R126, R136). -/
def State.rdHall (s : State) (o : Nat) : Word :=
  let bs := s.blocks
  match o with
  | 0x40 => 0x4B524D4C48
  | 0x48 => packW [(16, s.fuse.part.number), (1, b2n (s.fuse.grade = .i)), (3, 0), (4, s.fuse.stepping)]
  | 0x50 => packW [(8, bs.length), (4, 4), (12, 0x100), (12, 0xE00)]
  | 0x58 => s.live0
  | 0x60 => s.live1
  | 0x68 => s.live2
  | 0x70 => s.fuse.part.fuse0
  | 0x78 => s.fuse.part.fuse1
  | 0x80 => s.fuse.part.fuse2
  | _ =>
    if 0x100 ≤ o ∧ o < 0xE00 then
      match bs[(o - 0x100) / 32]? with
      | some b => s.rdEntry b ((o - 0x100) / 8 % 4)
      | none => 0
    else if 0xE00 ≤ o then
      let v := (o - 0xE00) / 8
      packW [(7, (bs.filter fun b => b.vec = v).length), (1, 0), (7, (bs.findIdx? fun b => b.vec = v).getD 0x7F)]
    else 0

/-- Hours between two times in ns. -/
def hoursSince (now at_ : Nat) : Nat := (now - at_) / (3600 * 10 ^ 9)

/-- SYSC (02_modes_and_starts.md, 10_persistence.md). -/
def State.rdSysc (s : State) (o : Nat) : Word :=
  let c := s.pseq.cap
  match o with
  | 0x40 => s.modeReg
  | 0x48 => packW [(3, s.sysc.reqTarget), (1, b2n s.sysc.reqGo), (4, s.sysc.reqResult)]
  | 0x80 => s.pers.dirtycfg
  | 0x88 => s.pers.holdupcfg
  | 0x90 => packW [(20, satN 20 s.cmeas), (16, match c.measuredAt with | some t => satN 16 (hoursSince s.now t) | none => 0),
      (1, b2n c.measuredAt.isSome), (1, b2n c.bankLow), (1, b2n c.requested)]
  | 0x98 => packW [(16, s.dirtyMib), (16, s.pers.limit), (3, s.pers.limitSrc)]
  | 0xA0 => packW [(17, satN 17 ((s.now - s.pers.cutAt) / 10 ^ 6)), (17, satN 17 (s.pers.programmed / 64)), (1, b2n s.pers.ckptBusy.isSome)]
  | 0xA8 => packW [(3, s.pers.prevOutcome), (20, satN 20 s.pers.prevDuration), (17, satN 17 s.pers.prevDirty)]
  | _ => 0

/-- REST (02_modes_and_starts.md). -/
def State.rdRest (s : State) (o : Nat) : Word :=
  if o = 0x40 then s.rest.policy
  else if 0x80 ≤ o ∧ o < 0xC0 then
    match tget none s.rest.timers ((o - 0x80) / 8) with
    | some due => packW [(32, ceilDiv (due - s.cohort) 4000), (1, 1)]
    | none => 0
  else 0

/-- PSEQ (15_power_supervision.md). -/
def State.rdPseq (s : State) (o : Nat) : Word :=
  let p := s.pseq
  let q := p.seq
  let x := p.input (min 27 (fld p.sel 0 5))
  match o with
  | 0x40 => p.sel
  | 0x48 => x.cfg
  | 0x50 => x.uvth
  | 0x58 => x.ovth
  | 0x60 => packW [(12, x.code), (1, b2n x.pg), (1, b2n x.uvf.set), (1, b2n x.uvw.set), (1, b2n x.ovw.set), (1, b2n x.ovf.set), (16, x.mv)]
  | 0x68 => packW [(28, bitsOf ((List.range 28).filter fun i => (p.input i).pg))]
  | 0x70 => p.tsel
  | 0x78 => tget 0 (if wbit p.tsel 0 then p.downTable else p.upTable) (fld p.tsel 1 5)
  | 0x80 => p.seqcfg
  | 0x88 => p.pfwcfg
  | 0x90 => packW [(16, q.enables), (3, q.phase.code), (5, q.step), (5, q.entry), (2, min 3 (tget 0 q.retries q.entry)), (1, b2n q.line),
      (1, b2n q.holding), (1, b2n q.intact)]
  | 0x98 => p.capcfg
  | 0xA0 => packW [(20, satN 20 p.cap.dt), (16, satN 16 p.cap.dv), (2, p.cap.outcome)]
  | 0xA8 => q.fault
  | _ => 0

/-- THRM (16_thermal.md, 23_electrical.md). -/
def State.rdThrm (s : State) (o : Nat) : Word :=
  let t := s.thrm
  let temp (i : Nat) : Nat := int8 (tget Sensor.reset t.sensors i).temp
  match o with
  | 0x68 => packW [(8, int8 t.tg), (5, t.source), (1, b2n t.warn), (1, b2n t.throttle), (1, b2n t.shutdown), (3, t.govStep), (2, t.clock),
      (8, int8 (t.tmax.getD 0))]
  | 0x70 => packW [(24, bitsOf ((t.sensors.filter fun e => e.2.broken).map (·.1)))]
  | 0x78 => t.excl
  | 0x80 => t.thresh
  | 0x88 => t.diode
  | 0x90 => t.ladcfg
  | 0x98 => t.pcap
  | _ =>
    if 0x40 ≤ o ∧ o < 0x68 then
      let k := (o - 0x40) / 8
      packW ((List.range (if k = 4 then 4 else 5)).map fun j => (8, temp (5 * k + j)))
    else 0

/-- A cursor group of EVTR, at an offset from its base (17_event_recorder.md). -/
def State.rdCursor (s : State) (k o : Nat) : Word :=
  let c := s.cursor k
  if o = 0 then packW [(32, c.seq), (2, c.source)]
  else if o = 8 then
    packW [(4, c.win.length), (1, b2n (!c.filling)), (1, b2n c.lost), (8, bitsOf ((List.range 8).filter fun r => c.win[r]?.any fun x => !x.good))]
  else if 0x100 ≤ o ∧ o < 0x300 then
    match c.win[(o - 0x100) / 0x40]? with
    | some r => BitVec.ofNat 40 (ofBytesLE (r.body ++ [r.check]) / 2 ^ (40 * ((o - 0x100) / 8 % 8)))
    | none => 0
  else 0

/-- EVTR (17_event_recorder.md). -/
def State.rdEvtr (s : State) (o : Nat) : Word :=
  let e := s.evtr
  let code := fld e.rcsel 3 12
  match o with
  | 0x40 => packW [(32, e.next)]
  | 0x48 => packW [(12, fld e.inccfg 0 12), (1, b2n e.inc.active), (2, e.inc.level)]
  | 0x50 => e.imod
  | 0x58 => packW [(20, e.shedTrace), (20, e.shedInfo)]
  | 0x60 => packW [(20, e.supp)]
  | 0x68 => e.rcsel
  | 0x70 => e.rateOf (fld e.rcsel 0 3)
  | 0x78 => packW [(3, e.classOf code)]
  | _ => if 0x400 ≤ o then s.rdCursor (o / 0x400 - 1) (o % 0x400) else 0

/-- PSTO (18_parameter_store.md). -/
def State.rdPsto (s : State) (o : Nat) : Word :=
  let p := s.psto
  match o with
  | 0x40 => p.prot
  | 0x48 => packW [(2, p.op), (1, b2n p.go), (4, p.result), (10, p.page)]
  | 0x58 => packW [(40, p.wcount)]
  | _ => if 0x100 ≤ o ∧ o < 0x2A0 then tget 0 p.data ((o - 0x100) / 8) else 0

/-- BOOT (19_firmware_and_identity.md). -/
def State.rdBoot (s : State) (o : Nat) : Word :=
  let b := s.boot
  match o with
  | 0x40 => packW [(24, b.run.version), (2, b.run.keyset), (2, b.runSlot), (2, b.img.selected), (1, b2n b.img.validA), (1, b2n b.img.validB),
      (1, b2n b.img.validR)]
  | 0x48 => packW [(32, b.run.svn)]
  | 0x50 => packW [(32, b.img.minsvn)]
  | 0x58 => packW [(1, 0), (1, b2n b.img.trial), (1, b2n b.img.trialrun), (1, b2n b.confirmed),
      (10, match b.trialDue with | some d => ceilDiv (d - s.aon.ticks) 32768 | none => 0), (1, b2n b.trialExpired)]
  | 0x60 => packW [(1, b2n b.xfer.active), (2, b.xfer.slot), (9, b.xfer.blocks), (2, b.xfer.iface)]
  | 0x68 => packW [(6, b.mediaCores), (2, b.seqCores), (8, b.reloads)]
  | _ => 0

/-- COHT (20_cohort_and_time.md). -/
def State.rdCoht (s : State) (o : Nat) : Word :=
  let c := s.coht
  match o with
  | 0x40 => packW [(40, s.cohortNs)]
  | 0x48 => c.timehi
  | 0x50 => c.setlo
  | 0x58 => packW [(27, c.sethi.toNat), (1, b2n c.setGo), (1, b2n c.setRefused)]
  | 0x60 => c.disc
  | 0x68 => packW [(2, c.dstate.code), (24, intN 24 (max (-8388608) (min 8388607 c.err))), (8, satN 8 c.missed)]
  | 0x70 => packW [(17, c.member.toNat), (16, c.peer), (1, b2n c.peerValid)]
  | 0x78 => c.cohort
  | 0x80 => c.trigcfg
  | 0x88 => packW [(16, c.trigIn), (12, c.merged), (12, c.lateOut)]
  | _ => 0

/-! ### Host and stream -/

/-- CXLP and MBOX (04_host_port.md). -/
def State.rdCxlp (s : State) (o : Nat) : Word :=
  let c := s.cxlp
  match o with
  | 0x40 => packW [(1, b2n c.up), (5, c.width), (2, c.rate), (1, b2n c.flit256), (1, b2n c.lopt), (1, b2n c.memen)]
  | 0x48 => packW [(34, s.ftlm.hdrMib * 256)]
  | 0x50 => c.portctl
  | 0x58 => packW [(17, c.filter.length), (11, c.biOut.length), (12, c.evict)]
  | _ => 0

/-- MBOX (04_host_port.md). -/
def State.rdMbox (s : State) (o : Nat) : Word :=
  let m := s.mbox
  let (i, op) := m.exec.getD (0, 0)
  match o with
  | 0x40 => packW [(8, 0), (8, 1), (12, 8)]
  | 0x48 => packW [(1, b2n m.exec.isSome), (2, i), (16, op), (1, b2n m.bg.isSome), (7, m.bgPct)]
  | 0x50 => packW [(40, m.done)]
  | _ => 0

/-- ILKN (11_ingest_port.md). -/
def State.rdIlkn (s : State) (o : Nat) : Word :=
  let l := s.ilkn
  match o with
  | 0x40 => l.lanecfg
  | 0x48 => packW [(1, b2n l.up), (5, if l.up then l.width else 0), (4, if l.up then l.group else 0), (3, l.step)]
  | 0x50 => packW [(16, l.rxok), (16, l.peerok)]
  | 0x58 => packW [(20, l.crc24), (20, l.crc32)]
  | _ => 0

/-- KSPE (11_ingest_port.md). -/
def State.rdKspe (s : State) (o : Nat) : Word :=
  let k := s.kspe
  let disc (i : Nat) : Word := packW [(20, tget 0 k.disc i), (20, tget 0 k.disc (i + 1))]
  match o with
  | 0x40 => k.ctrl
  | 0x48 => packW [(16, k.version.toNat), (8, k.agreed), (2, k.vstate)]
  | 0x50 => k.fcctl
  | 0x58 => packW [(4, bitsOf k.heldPipes), (1, b2n s.allXoff)]
  | 0x60 => disc 0
  | 0x68 => disc 2
  | 0x70 => disc 4
  | 0x78 => disc 6
  | 0x80 => packW [(40, k.segs)]
  | _ => 0

/-- INGP p (12_capture.md). -/
def State.rdIngp (s : State) (p o : Nat) : Word :=
  let q := s.pipe p
  match o with
  | 0x40 => packW [(9, q.free q.filling), (9, q.free q.other), (10, q.avail)]
  | 0x48 => packW [(40, q.records)]
  | 0x50 => packW [(20, q.overflow), (20, q.filtered)]
  | 0x58 => packW [(20, q.seals), (20, q.splits)]
  | 0x60 => packW [(40, q.padwords)]
  | _ => 0

/-- Context word k of a strand (12_capture.md R491). -/
def Strand.ctx (x : Strand) (k : Nat) : Word :=
  match k with
  | 0 => packW [(4, x.st.code), (16, x.expseq), (1, b2n x.seqany), (1, b2n x.opened), (18, x.rlen)]
  | 1 => packW [(28, x.hbase), (12, x.filtfirst)]
  | 2 => packW [(23, x.hsize), (4, x.filtcnt), (2, x.mode), (1, b2n x.policy), (1, b2n x.rearm), (1, b2n x.discard), (8, x.events)]
  | 3 => packW [(18, x.wpword), (22, x.wpunit)]
  | 4 => packW [(20, x.pre), (20, x.post)]
  | 5 => packW [(5, x.srcen), (18, x.srcstrand), (1, b2n x.bcast), (1, b2n x.trigout), (1, b2n x.sendtrig), (1, b2n x.action)]
  | 6 => packW [(40, x.words)]
  | 7 => packW [(24, x.records), (16, x.drops)]
  | _ => 0

/-- STRD (12_capture.md). -/
def State.rdStrd (s : State) (o : Nat) : Word :=
  let d := s.strd
  let t := d.trigLog.head?
  match o with
  | 0x40 => d.sel
  | 0x48 => packW [(4, d.op), (1, b2n d.go), (4, d.result), (1, b2n d.adopt)]
  | 0x50 => d.timeLo
  | 0x58 => d.timeHi
  | 0xC0 => d.stage1
  | 0xC8 => d.stage2
  | 0xD0 => d.stage4
  | 0xD8 => d.stage5
  | 0xE0 => d.fsel
  | 0xE8 => tget 0 d.filters (16 * fld d.fsel 0 12 + min 8 (fld d.fsel 12 4))
  | 0xF0 => packW [(18, (t.map (·.strand)).getD 0), (3, (t.map (·.src)).getD 0), (1, b2n t.isSome), (7, d.trigLog.length), (1, b2n d.trigLost)]
  | 0xF8 => packW [(40, (t.map (·.ts)).getD 0)]
  | 0x100 => packW [(40, (t.map (·.ts)).getD 0 / 2 ^ 40)]
  | 0x108 => packW [(22, (t.map (·.unit)).getD 0)]
  | 0x110 => packW [(20, d.trigIgn), (13, s.timedUsed)]
  | 0x118 => packW [(1, b2n (!d.rebuild.isEmpty)), (28, d.rebuild.length)]
  | _ => if 0x80 ≤ o ∧ o < 0xC0 then (s.strand (fld d.sel 0 18)).ctx ((o - 0x80) / 8) else 0

/-- The us of due time buffered ahead of the cohort time (RPLE.STAT.AHEAD): up to the last record of those, from the next one on, whose pages
are all buffered. -/
def State.aheadUs (s : State) (x : Slot) : Nat :=
  let recs := s.hankRecords x.strand
  match ((x.ahead recs).takeWhile fun r => x.buffers r.1 r.2).getLast? with
  | some r => satN 16 ((x.due recs r.1 r.2 - s.cohort).toNat / 4000)
  | none => 0

/-- RPLE (13_replay_and_query.md). -/
def State.rdRple (s : State) (o : Nat) : Word :=
  let x := s.slot (fld s.rple.sel 0 6)
  match o with
  | 0x40 => s.rple.sel
  | 0x48 => packW [(4, x.op), (1, b2n x.go), (4, x.result)]
  | 0x50 => x.cfg0
  | 0x58 => x.cfg1
  | 0x60 => x.cfg2
  | 0x68 => x.fromLo
  | 0x70 => x.fromHi
  | 0x78 => x.toLo
  | 0x80 => x.toHi
  | 0x88 => x.startLo
  | 0x90 => x.startHi
  | 0x98 => x.loopgap
  | 0xA0 => packW [(3, x.st.code), (12, ceilDiv x.buffered.length 64), (16, s.aheadUs x)]
  | 0xA8 => packW [(40, x.sent)]
  | 0xB0 => packW [(20, x.lateCnt), (20, x.lateMax)]
  | 0xB8 => packW [(20, x.skipUnder), (20, x.skipBad)]
  | 0xC0 => packW [(5, s.rple.poolGib.toNat), (20, s.poolFree)]
  | _ => 0

/-- QRYE (13_replay_and_query.md). -/
def State.rdQrye (s : State) (o : Nat) : Word :=
  let q := s.qrye
  match o with
  | 0x40 => packW [(2, q.op), (1, b2n q.go), (4, q.result), (18, q.strand), (1, b2n q.found), (1, b2n q.wrapped), (1, b2n q.incomplete)]
  | 0x48 => q.t1lo
  | 0x50 => q.t1hi
  | 0x58 => q.t2lo
  | 0x60 => q.t2hi
  | 0x68 => packW [(40, q.hword)]
  | 0x70 => packW [(40, q.rts)]
  | 0x78 => packW [(40, q.rts / 2 ^ 40)]
  | 0x80 => packW [(40, q.count)]
  | _ => 0

/-! ### Memory and media -/

/-- MPRT (14_memory_protection.md). -/
def State.rdMprt (s : State) (o : Nat) : Word :=
  let m := s.mprt
  let x := s.range (fld m.rsel 0 4)
  let n := fld m.ksel 0 5
  let k := s.kslot n
  match o with
  | 0x40 => packW [(32, m.epoch)]
  | 0x48 => packW [(5, m.devslot)]
  | 0x50 => m.rsel
  | 0x58 => packW [(1, b2n x.packed), (33, x.first)]
  | 0x60 => packW [(34, x.count)]
  | 0x68 => packW [(5, x.slot), (1, b2n x.bound), (1, b2n x.verify), (1, b2n x.viral), (1, b2n x.locked), (1, b2n x.degraded),
      (1, b2n x.rekeying), (5, x.oldslot)]
  | 0x70 => m.ksel
  | 0x78 => packW [(2, k.st.code), (1, b2n k.volatile_), (1, b2n k.generated), (5, (m.ranges.filter fun e => e.2.bound && e.2.slot = n).length)]
  | 0x80 => if k.st = .empty then 0 else k.kcv
  | 0x88 => packW [(40, m.majhw)]
  | 0x90 => packW [(40, m.nodehw)]
  | 0x98 => packW [(20, m.late), (20, m.noderep)]
  | 0xA0 => match m.rekey with
    | some j => packW [(1, 1), (4, j.range.getD 0), (1, b2n j.range.isNone), (3, j.step), (7, m.rekeyPct), (6, m.rekeyQueue.length)]
    | none => packW [(16, 0), (6, m.rekeyQueue.length)]
  | _ => 0

/-- The fewest of a figure over the live dies, and the lowest-numbered die that has it. -/
def State.fewest (s : State) (f : Nat → Nat) : Nat × Nat :=
  (s.liveDies.foldl (fun (m : Option (Nat × Nat)) d =>
    match m with | some (n, _) => if f d < n then some (f d, d) else m | none => some (f d, d)) none).getD (0, 0)

/-- FTLM (07_translation.md). -/
def State.rdFtlm (s : State) (o : Nat) : Word :=
  let f := s.ftlm
  match o with
  | 0x40 => packW [(28, f.exported)]
  | 0x48 => f.hdrcfg
  | 0x50 => packW [(28, s.hankUse)]
  | 0x58 => let (n, d) := s.fewest s.outsideFree
    packW [(13, n), (10, d), (17, s.landing * 15 * s.liveDies.length / 1024)]
  | 0x60 => f.gcctl
  | 0x68 => packW [(13, s.slcLimit), (13, fld f.slcctl 13 13)]
  | 0x70 =>
    let live := s.media.blocks.filter fun e => e.2.use ≠ .retired && (s.die (e.1 / 8192)).live
    packW [(16, satN 16 (live.foldl (fun m e => max m e.2.qlc) 0)), (16, satN 16 (live.foldl (fun m e => max m e.2.slc) 0))]
  | 0x78 => let (n, d) := s.fewest fun d => s.spareCount - (s.die d).sparesUsed
    packW [(8, satN 8 n), (10, d), (20, satN 20 s.media.retiredBlocks)]
  | 0x80 => packW [(21, s.media.refused.length), (19, satN 19 f.refusedCount)]
  | 0x88 => packW [(40, f.seq)]
  | 0x90 => packW [(1, b2n f.annPause), (1, b2n s.annealPaused)]
  | 0x98 => f.maperr
  | _ => 0

/-- PLAN (08_media_reliability.md). -/
def State.rdPlan (s : State) (o : Nat) : Word :=
  let p := s.plan
  match o with
  | 0x40 => p.ctrl
  | 0x48 =>
    let held := s.media.blocks.filter fun e => match e.2.use with | .band b => decide (0 < (s.band b).valid) | _ => false
    let oldest := held.foldl (fun (m : Option Nat) e => some (min e.2.readAt (m.getD e.2.readAt))) none
    packW [(16, match oldest with | some t => satN 16 (hoursSince s.now t) | none => 0),
      (7, if p.passAll = 0 then 0 else min 100 (100 * p.passDone / p.passAll)),
      (17, satN 17 (s.media.blocks.filter fun e => e.2.rewrite).length)]
  | 0x50 => packW [(40, p.blocks)]
  | _ => 0

/-- DRMC m (06_dram_tier.md). -/
def State.rdDrmc (s : State) (m o : Nat) : Word :=
  let d := s.dram m
  match o with
  | 0x40 => d.sched
  | 0x48 => d.share
  | 0x50 => d.actctl
  | 0x58 => packW [(20, d.mitig), (16, d.floorMax)]
  | 0x60 => d.eccctl
  | 0x68 => packW ((List.range 8).flatMap fun i => let n := tget 0 d.marks i; [(4, n - 1), (1, b2n (decide (0 < n)))])
  | 0x70 => packW [(40, d.corr)]
  | 0x78 => packW [(16, satN 16 d.uncorr)]
  | 0x80 => d.trainctl
  | 0x88 => d.margin
  | _ => 0

/-- NCCH s (05_near_cache.md). -/
def State.rdNcch (s : State) (i o : Nat) : Word :=
  let c := s.slice i
  let n := s.ncch
  match o with
  | 0x40 => n.rgnattr
  | 0x48 => packW [(17, bitsOf n.busy)]
  | 0x58 => packW [(7, n.hints.length), (20, n.drop)]
  | 0x60 => packW [(16, c.lfsr)]
  | 0x68 => packW [(16, c.serves)]
  | 0x70 => packW [(40, c.hits)]
  | 0x78 => packW [(40, c.misses)]
  | _ => 0

/-- MCLU c (08_media_reliability.md). -/
def State.rdMclu (s : State) (c o : Nat) : Word :=
  let m := s.cluster c
  match o with
  | 0x100 => m.rdpol
  | 0x108 => m.patctl
  | 0x110 => packW [(40, m.rddirect)]
  | 0x118 => packW [(40, m.rdrebuild)]
  | 0x120 => packW [(16, m.errSoft), (12, m.errLost), (12, m.over96)]
  | 0x128 => m.retctl
  | 0x130 => packW [(2, m.retPhase), (7, m.retPct), (10, m.retDie)]
  | _ => 0

/-- ONFC n (09_media_bus.md). -/
def State.rdOnfc (s : State) (n o : Nat) : Word :=
  let c := s.chan n
  let dies (f : Die → Bool) : Nat := bitsOf ((List.range 16).filter fun i => f (s.die (16 * n + i)))
  match o with
  | 0x40 => packW [(16, dies (·.found)), (16, if c.live then dies Die.live else 0)]
  | 0x48 => packW [(8, c.retrains), (2, min 3 (c.failAt.filter fun t => decide (s.now < t + 600 * 10 ^ 9)).length)]
  | 0x50 => packW [(20, c.suspCount), (10, c.suspFull)]
  | _ => 0

/-! ### The whole window -/

/-- What a register above the header reads as. -/
def State.rdBlock (s : State) (b : Block) (o : Nat) : Word :=
  match b with
  | .hall => s.rdHall o
  | .sysc => s.rdSysc o
  | .rest => s.rdRest o
  | .pseq => s.rdPseq o
  | .thrm => s.rdThrm o
  | .evtr => s.rdEvtr o
  | .psto => s.rdPsto o
  | .boot => s.rdBoot o
  | .idnt => if o = 0x40 then (Config.keyId 0 (s.fuse.idSeed 0)).setWidth 40 else if o = 0x48 then (Config.keyId 1 (s.fuse.idSeed 1)).setWidth 40 else 0
  | .coht => s.rdCoht o
  | .sram => if o = 0x40 then s.sramRepair else if o = 0x48 then s.sram.fault else 0
  | .cxlp => s.rdCxlp o
  | .mbox => s.rdMbox o
  | .ilkn => s.rdIlkn o
  | .kspe => s.rdKspe o
  | .ingp p => s.rdIngp p o
  | .strd => s.rdStrd o
  | .rple => s.rdRple o
  | .qrye => s.rdQrye o
  | .mprt => s.rdMprt o
  | .ftlm => s.rdFtlm o
  | .plan => s.rdPlan o
  | .drmc m => s.rdDrmc m o
  | .ncch i => s.rdNcch i o
  | .mclu c => s.rdMclu c o
  | .onfc n => s.rdOnfc n o

/-- What the register of a block at a slot offset of its page reads as (R108, R110). -/
def State.readReg (s : State) (side : Bool) (b : Block) (o : Nat) : Word :=
  if o < 0x40 then s.rdHeader b o else if s.serves side b then s.rdBlock b o else 0

/-- What a read clears or latches: the RC fields of the register read (R105), and COHT.TIMELO's latch (20_cohort_and_time.md R788). -/
def State.readEffect (s : State) (side : Bool) (b : Block) (o : Nat) : State :=
  if !s.serves side b then s
  else match b, o with
    | .coht, 0x40 => s.latchTime
    | .coht, 0x88 => { s with coht.trigIn := 0, coht.merged := 0, coht.lateOut := 0 }
    | .cxlp, 0x58 => { s with cxlp.evict := 0 }
    | .ncch _, 0x58 => { s with ncch.drop := 0 }
    | .drmc m, 0x58 => s.modDram m fun d => { d with mitig := 0 }
    | .mclu c, 0x120 => s.modClu c fun m => { m with errSoft := 0, errLost := 0, over96 := 0 }
    | .onfc n, 0x50 => s.modChan n fun c => { c with suspCount := 0, suspFull := 0 }
    | .ilkn, 0x58 => { s with ilkn.crc24 := 0, ilkn.crc32 := 0 }
    | .kspe, 0x60 => { s with kspe.disc := tput 0 (tput 0 s.kspe.disc 0 0) 1 0 }
    | .kspe, 0x68 => { s with kspe.disc := tput 0 (tput 0 s.kspe.disc 2 0) 3 0 }
    | .kspe, 0x70 => { s with kspe.disc := tput 0 (tput 0 s.kspe.disc 4 0) 5 0 }
    | .kspe, 0x78 => { s with kspe.disc := tput 0 (tput 0 s.kspe.disc 6 0) 7 0 }
    | .strd, 0xF0 => { s with strd.trigLost := false }
    | .strd, 0x110 => { s with strd.trigIgn := 0 }
    | .ingp p, 0x50 => s.modPipe p fun q => { q with overflow := 0, filtered := 0 }
    | .ingp p, 0x58 => s.modPipe p fun q => { q with seals := 0, splits := 0 }
    | .rple, 0xB0 => s.modReplay (fld s.rple.sel 0 6) fun x => { x with lateCnt := 0, lateMax := 0 }
    | .rple, 0xB8 => s.modReplay (fld s.rple.sel 0 6) fun x => { x with skipUnder := 0, skipBad := 0 }
    | .mprt, 0x98 => { s with mprt.late := 0, mprt.noderep := 0 }
    | .evtr, 0x58 => { s with evtr.shedTrace := 0, evtr.shedInfo := 0 }
    | .evtr, 0x60 => { s with evtr.supp := 0 }
    | .evtr, o => if o % 0x400 = 8 ∧ 0x400 ≤ o then
        let k := o / 0x400 - 1
        { s with evtr.cursors := tput Cursor.reset s.evtr.cursors k { s.cursor k with lost := false } }
      else s
    | _, _ => s

/-- A read of one slot: its bytes enabled as a mask (R103 to R108). The state, and the value of the slot. -/
def State.readSlot (s : State) (side : Bool) (off enables : Nat) : State × BitVec 64 :=
  let e := enables % 256
  let o := off / 8 * 8
  match blockAt s.fuse.part (o / 4096) with
  | none => (s.error .hall 0x03 (o / 8), 0)
  | some b =>
    if e = 0xFF ∨ e = 0x0F then
      let v := (s.readReg side b (o % 4096)).toNat
      (s.readEffect side b (o % 4096), BitVec.ofNat 64 (if e = 0xFF then v else v % 2 ^ 32))
    else (s.error b 0x01 (o / 8), BitVec.allOnes 64)

/-- The slots a request touches: from its first one to the last with a byte enabled, in a mask of 8 bits a slot (R106). -/
def slotCount (bytes : Nat) : Nat := bytes.log2 / 8 + 1

/-- A read request: the slots it touches are read in ascending address order, each in one access (R103, R106). A slot past the first with no
byte enabled is not touched. An offset past BAR0 reads BAR2 or the configuration space (04_host_port.md R139). -/
def State.readSlots (s : State) (off bytes : Nat) : State :=
  (List.range (slotCount bytes)).foldl (fun (s : State) k =>
    let e := bytes / 256 ^ k % 256
    if k ≠ 0 ∧ e = 0 then s
    else
      let (t, v) := if off < bar2Base then s.readSlot false (off + 8 * k) e else s.windowRead (off + 8 * k) e
      t.send (.regRead v)) s

/-- REGISTER_READ_ERROR (R103, R106, R107, R119): a read of slots with their bytes enabled. -/
def execRegisterReadError (off bytes : Nat) (s : State) : Host.Outcome State Fault Refusal :=
  finish (s.reg (.registerReadError off bytes) fun s => s.readSlots off bytes)

/-- RC_READ (R105, R106): a read of slots with their bytes enabled, which returns their RC fields and clears them. -/
def execRcRead (off bytes : Nat) (s : State) : Host.Outcome State Fault Refusal :=
  finish (s.reg (.rcRead off bytes) fun s => s.readSlots off bytes)

end Sys2Proof.Machine
end

