-- ==== Sys2Proof/Machine/RegWrites.lean ====
section
/-!
DEFINITION. What a write to every register of BAR0 does (03_registers_and_hallmark.md R103 to R119, and the register tables of the
chapters). A value that a register table treats as another is stored as that other (log 35). The registers whose write has a command of its own share its operation.
-/
namespace Sys2Proof.Machine

/-- A field that a write of 0 sets to 1. -/
def oneAtLeast (v : Word) (lo len : Nat) : Word := setFld v lo len (max 1 (fld v lo len))

/-! ### The common header -/

/-- ISTAT, W1C (R116, R117): bits whose hardware cause falls in the same cycle stay 1. -/
def State.wrIstat (s : State) (b : Block) (v : Word) (together : Nat) : State :=
  s.signal b true fun h => { h with istat := clrBits h.istat (clrBits (fld v 0 20) together) }

/-- IEN: EN is stored; IFORCE sets cause bits with none of their other actions (R114, R115, R117). -/
def State.wrIen (s : State) (b : Block) (v : Word) : State :=
  s.signal b true fun h => { h with ien := fld v 0 20, istat := h.istat ||| fld v 20 20 }

/-- ERRSTAT: a 1 in VALID clears VALID, MULTI, CODE and ERRADDR (R118), and FTLM.MAPERR with FTLM's (07_translation.md). -/
def State.wrErrstat (s : State) (b : Block) (v : Word) : State :=
  if wbit v 8 then
    let s := s.modHdr b fun h => { h with ecode := 0, evalid := false, emulti := false, eaddr := 0 }
    if b = .ftlm then { s with ftlm.maperr := 0 } else s
  else s

/-- CTRL, of the blocks that define it. -/
def State.wrCtrl (s : State) (b : Block) (v : Word) : State :=
  match b with
  | .pseq => if wbit v 0 then s.regSupervisorSave else s
  | .thrm => if wbit v 0 then s.regThermalSave else s
  | .evtr =>
    let s := { s with evtr.ctrl := heldEvtrCtrl v }
    if wbit v 14 then s.regRecorderSave else s
  | .ncch _ =>
    let s := { s with ncch.nextline := wbit v 1 }
    if wbit v 0 = s.ncch.disable then s else if wbit v 0 then s.regNcchDisable else s.regNcchEnable
  | .ingp p => s.modPipe p fun q => { q with ctrl := setFld (keep v 0xFFFF) 2 14 (max 10 (fld v 2 14)) }
  | _ => s

/-- A write to a register of the header; the other four are read-only (R112). -/
def State.wrHeader (s : State) (b : Block) (o : Nat) (v : Word) : State :=
  match o with
  | 0x18 => s.wrCtrl b v
  | 0x28 => s.wrIstat b v 0
  | 0x30 => s.wrIen b v
  | 0x38 => s.wrErrstat b v
  | _ => s

/-! ### Management -/

/-- SYSC. -/
def State.wrSysc (s : State) (o : Nat) (v : Word) : State :=
  match o with
  | 0x48 => if wbit v 3 then s.modeRequest (fld v 0 3) else { s with sysc.reqTarget := fld v 0 3 }
  | 0x50 => if wbit v 1 then s.regColdResetRequest else if wbit v 0 then s.regWarmResetRequest else s
  | 0x80 => s.regDirtycfgWrite v
  | 0x88 => s.regHoldupcfgWrite v
  | 0x90 => if wbit v 38 then s.regHoldupMeasureRequest else s
  | _ => s

/-- REST. -/
def State.wrRest (s : State) (o : Nat) (v : Word) : State :=
  if o = 0x40 then { s with rest.policy := oneAtLeast (keep v 0x3FFFFFF) 16 8 }
  else if 0x80 ≤ o ∧ o < 0xC0 then s.regHtimerWrite ((o - 0x80) / 8) v
  else s

/-- SNSCFG of the input selected; ROLE is read-only for the inputs whose role is fixed. -/
def State.wrSnscfg (s : State) (v : Word) : State :=
  let i := min 27 (fld s.pseq.sel 0 5)
  let v := heldSnscfg v
  { s with pseq := s.pseq.modInput i fun x =>
      { x with cfg := if 2 ≤ i ∧ i ≤ 23 then v else setFld v 0 2 (fld x.cfg 0 2) } }

/-- PSEQ. -/
def State.wrPseq (s : State) (o : Nat) (v : Word) : State :=
  match o with
  | 0x40 => { s with pseq.sel := heldSnssel v }
  | 0x48 => s.wrSnscfg v
  | 0x50 => s.regThresholdWrite false v
  | 0x58 => s.regThresholdWrite true v
  | 0x70 => { s with pseq.tsel := keep v 0x3F }
  | 0x78 => s.regTableEntryWrite v
  | 0x80 => s.regSeqcfgWrite v
  | 0x88 => s.regPfwcfgWrite v
  | 0x98 => { s with pseq.capcfg := heldCapcfg v }
  | _ => s

/-- THRM. -/
def State.wrThrm (s : State) (o : Nat) (v : Word) : State :=
  match o with
  | 0x78 => s.regThrmExclWrite v
  | 0x80 => s.regThrmThreshWrite v
  | 0x88 => { s with thrm.diode := heldDiode v }
  | 0x90 => { s with thrm.ladcfg := heldLadcfg v }
  | 0x98 => s.regPcapWrite v
  | _ => s

/-- EVTR; `who` as for the cursors (17_event_recorder.md R714). Family 0 keeps class 0. -/
def State.wrEvtr (s : State) (who o : Nat) (v : Word) : State :=
  match o with
  | 0x48 => { s with evtr.inccfg := heldInccfg v }
  | 0x50 => { s with evtr.imod := heldImod v }
  | 0x68 => { s with evtr.rcsel := keep v 0x7FFF }
  | 0x70 => s.regRateClassWrite v
  | 0x78 =>
    let code := fld s.evtr.rcsel 3 12
    if code / 64 = 0 then s else { s with evtr.rcmap := tput (defaultClass code) s.evtr.rcmap code (fld v 0 3) }
  | _ =>
    if o = 0x400 ∨ o = 0x800 ∨ o = 0xC00 then
      if wbit v 34 then s.regCursorAdvance who (o / 0x400 - 1) v else s.regCursorPlace who (o / 0x400 - 1) v
    else s

/-- PSTO: the command's OP and PAGE are kept from a write without GO; a write to CMD while GO reads 1 is discarded whole
(18_parameter_store.md R728). -/
def State.wrPsto (s : State) (o : Nat) (v : Word) : State :=
  match o with
  | 0x40 => s.regProtectionWrite v
  | 0x48 =>
    if s.psto.go then s
    else if wbit v 2 then
      match fld v 0 2 with
      | 1 => s.regPstoRead v
      | 2 => s.regPstoWrite v
      | _ => s.regPstoInvalidOp v
    else { s with psto.op := fld v 0 2, psto.page := fld v 7 10 }
  | _ =>
    if 0x100 ≤ o ∧ o < 0x2A0 then
      let k := (o - 0x100) / 8
      { s with psto.data := tput 0 s.psto.data k (if k = 51 then keep v 0xFF else v) }
    else s

/-- A duplicate member number is found where both are assigned and equal (20_cohort_and_time.md R799). -/
def State.memberCheck (s : State) : State :=
  if s.coht.peerValid && wbit s.coht.member 16 && decide (fld s.coht.member 0 16 = s.coht.peer) then s.error .coht 0x41 0 (2 ^ 4) else s

/-- COHT. -/
def State.wrCoht (s : State) (o : Nat) (v : Word) : State :=
  match o with
  | 0x50 => { s with coht.setlo := v }
  | 0x58 =>
    let s := { s with coht.sethi := keep v 0x7FFFFFF }
    if wbit v 27 then s.regTimeSet else s
  | 0x60 => s.regDiscWrite v
  | 0x70 => { s with coht.member := keep v 0x1FFFF }.memberCheck
  | 0x78 => { s with coht.cohort := keep v 0xFFFFFFFF }
  | 0x80 => { s with coht.trigcfg := heldTrigcfg v }
  | _ => s

/-! ### Host and stream -/

/-- KSPE. A version outside 1 to 2 is taken as the nearest (log 23). -/
def State.wrKspe (s : State) (o : Nat) (v : Word) : State :=
  match o with
  | 0x40 => { s with kspe.ctrl := keep v 7 }
  | 0x48 =>
    let lo := fld v 0 8
    let hi := fld v 8 8
    if hi < lo then s else { s with kspe.version := packW [(8, clampN 1 2 lo), (8, clampN 1 2 hi)] }
  | 0x50 => (List.range 4).foldl State.holdSync { s with kspe.fcctl := heldFcctl v }
  | _ => s

/-- STRD.CMD: OP with GO submits a command; a write without GO keeps OP and ADOPT, where none is in progress. -/
def State.wrStrdCmd (s : State) (v : Word) : State :=
  let op := fld v 0 4
  if wbit v 4 then
    let s : State := if s.strd.go then s else { s with strd.adopt := wbit v 9 }
    match op with
    | 1 => s.regAlloc (wbit v 9)
    | 2 => s.regConfig
    | 3 => s.regStrandArm
    | 4 => s.regStrandStop
    | 5 => s.regTrigger
    | 6 => s.regTimedtrig
    | 7 => s.regDroprem
    | 8 => s.regRewind
    | 9 => s.regRelease
    | _ => s.regStrdUnknownOp op
  else if s.strd.go then s
  else { s with strd.op := op, strd.adopt := wbit v 9 }

/-- STRD. -/
def State.wrStrd (s : State) (o : Nat) (v : Word) : State :=
  match o with
  | 0x40 => { s with strd.sel := keep v 0x3FFFF }
  | 0x48 => s.wrStrdCmd v
  | 0x50 => { s with strd.timeLo := v }
  | 0x58 => { s with strd.timeHi := keep v 0xFFFFFF }
  | 0xC0 => { s with strd.stage1 := v }
  | 0xC8 => { s with strd.stage2 := v }
  | 0xD0 => { s with strd.stage4 := v }
  | 0xD8 => { s with strd.stage5 := keep v 0x7FFFFFF }
  | 0xE0 => { s with strd.fsel := heldFsel v }
  | 0xE8 => s.regFilterWrite v
  | 0x108 => if wbit v 22 then s.regTriggerLogPop else s
  | _ => s

/-- RPLE. -/
def State.wrRple (s : State) (o : Nat) (v : Word) : State :=
  let k := fld s.rple.sel 0 6
  match o with
  | 0x40 => { s with rple.sel := keep v 0x3F }
  | 0x48 =>
    let op := fld v 0 4
    if wbit v 4 then
      match op with
      | 1 => s.regBind
      | 2 => s.regReplayConfig
      | 3 => s.regPreload
      | 4 => s.regStart
      | 5 => s.regReplayStop
      | 6 => s.regUnbind
      | _ => s.regRpleUnknownOp op
    else s.modReplay k fun x => { x with op := op }
  | 0x50 => s.modReplay k fun x => { x with cfg0 := keep v 0x3FFFFFFF }
  | 0x58 => s.modReplay k fun x => { x with cfg1 := keep v 0xFFFFFFFFF }
  | 0x60 => s.modReplay k fun x => { x with cfg2 := packW [(12, max 4 (fld v 0 12)), (16, max 100 (fld v 12 16))] }
  | 0x68 => s.modReplay k fun x => { x with fromLo := v }
  | 0x70 => s.modReplay k fun x => { x with fromHi := v }
  | 0x78 => s.modReplay k fun x => { x with toLo := v }
  | 0x80 => s.modReplay k fun x => { x with toHi := v }
  | 0x88 => s.modReplay k fun x => { x with startLo := v }
  | 0x90 => s.modReplay k fun x => { x with startHi := keep v 0x3FFFFFF }
  | 0x98 => s.modReplay k fun x => { x with loopgap := v }
  | 0xC0 => State.hostRecord { s with rple.poolGib := heldPool v } 3
  | _ => s

/-- QRYE. -/
def State.wrQrye (s : State) (o : Nat) (v : Word) : State :=
  match o with
  | 0x40 =>
    let op := fld v 0 2
    let s : State := if s.qrye.go then s else { s with qrye.strand := fld v 7 18, qrye.op := op }
    if wbit v 2 then
      match op with
      | 1 => s.query 1
      | 2 => s.query 2
      | _ => s.regQryeUnknownOp op
    else s
  | 0x48 => { s with qrye.t1lo := v }
  | 0x50 => { s with qrye.t1hi := v }
  | 0x58 => { s with qrye.t2lo := v }
  | 0x60 => { s with qrye.t2hi := v }
  | _ => s

/-! ### Memory and media -/

/-- MPRT. -/
def State.wrMprt (s : State) (o : Nat) (v : Word) : State :=
  match o with
  | 0x50 => { s with mprt.rsel := keep v 0xF }
  | 0x58 => s.regRangeDefWrite false v
  | 0x60 => s.regRangeDefWrite true v
  | 0x68 => (s.modRange (fld s.mprt.rsel 0 4) fun x => { x with verify := wbit v 6, viral := wbit v 7 }).hostRecord 8
  | 0x70 => { s with mprt.ksel := keep v 0x1F }
  | _ => s

/-- FTLM. -/
def State.wrFtlm (s : State) (o : Nat) (v : Word) : State :=
  match o with
  | 0x48 => s.regHdrcfgWrite v
  | 0x60 =>
    let floor := clampN 16 256 (fld v 13 13)
    State.spaceSync { s with ftlm.gcctl := packW [(13, max (floor + 32) (fld v 0 13)), (13, floor)] }
  | 0x68 =>
    let cap := match s.ftlm.profile with | some _ => 8 * s.geometry.1 / 10 | none => 8191
    State.landSync { s with ftlm.slcctl := packW [(13, min cap (fld v 0 13)), (13, fld v 13 13)] }
  | 0x90 => { s with ftlm.annPause := wbit v 0 }
  | _ => s

/-- DRMC m. MAXRATE is held in the Parameter Store. -/
def State.wrDrmc (s : State) (m o : Nat) (v : Word) : State :=
  match o with
  | 0x40 => (s.modDram m fun d => { d with sched := heldSched v }).hostRecord 3
  | 0x48 => s.regDrmcShareWrite m v
  | 0x50 => s.modDram m fun d => { d with actctl := packW [(16, max 256 (fld v 0 16))] }
  | 0x60 => s.modDram m fun d => { d with eccctl := oneAtLeast (oneAtLeast (keep v 0xFFFFFFF) 0 16) 16 12 }
  | 0x80 => s.modDram m fun d => { d with trainctl := packW [(1, fld v 0 1), (4, max 1 (fld v 1 4)), (5, max 2 (fld v 5 5))] }
  | _ => s

/-- MCLU c. -/
def State.wrMclu (s : State) (c o : Nat) (v : Word) : State :=
  match o with
  | 0x100 => s.modClu c fun m => { m with rdpol := keep v 3 }
  | 0x108 => s.modClu c fun m => { m with patctl := oneAtLeast (oneAtLeast (oneAtLeast (keep v 0xFFFFFF) 0 7) 7 4) 20 4 }
  | 0x128 => s.modClu c fun m => { m with retctl := oneAtLeast (oneAtLeast (keep v 0x1FFF) 0 5) 5 8 }
  | _ => s

/-! ### The whole window -/

/-- A write to a register above the header of a block that serves it. -/
def State.wrBlock (s : State) (who : Nat) (b : Block) (o : Nat) (v : Word) : State :=
  match b with
  | .sysc => s.wrSysc o v
  | .rest => s.wrRest o v
  | .pseq => s.wrPseq o v
  | .thrm => s.wrThrm o v
  | .evtr => s.wrEvtr who o v
  | .psto => s.wrPsto o v
  | .boot => if o = 0x58 ∧ wbit v 0 then s.confirm else s
  | .coht => s.wrCoht o v
  | .cxlp => if o = 0x50 then { s with cxlp.portctl := oneAtLeast (keep v 0x1FFFF) 0 16 } else s
  | .ilkn => if o = 0x40 then { s with ilkn.lanecfg := heldLanecfg v } else s
  | .kspe => s.wrKspe o v
  | .strd => s.wrStrd o v
  | .rple => s.wrRple o v
  | .qrye => s.wrQrye o v
  | .mprt => s.wrMprt o v
  | .ftlm => s.wrFtlm o v
  | .plan => if o = 0x40 then { s with plan.ctrl := packW [(5, clampN 1 30 (fld v 0 5)), (8, max 1 (fld v 5 8)), (1, fld v 13 1)] } else s
  | .drmc m => s.wrDrmc m o v
  | .ncch i => match o with
    | 0x40 => s.regRgnattrWrite v
    | 0x50 => s.regPrefetchHint v
    | 0x60 => s.regLfsrWrite i v
    | _ => s
  | .mclu c => s.wrMclu c o v
  | _ => s

/-- A 64-bit write to the register at a slot offset of a block's page (R108, R110); `who` is 0 for the host, 1 for the sideband, 2 for
a management core. -/
def State.writeReg (s : State) (who : Nat) (b : Block) (o : Nat) (v : Word) : State :=
  if o < 0x40 then s.wrHeader b o v else if s.serves (who = 1) b then s.wrBlock who b o v else s

/-- A write to one slot with its bytes enabled as a mask (R103, R107): only all 8 are taken. A host write with none enabled is no access
(`State.writeSlots`; DESIGN CHOICE, log 36). -/
def State.writeSlot (s : State) (who off enables : Nat) (v : BitVec 64) : State :=
  let o := off / 8 * 8
  match blockAt s.fuse.part (o / 4096) with
  | none => s.error .hall 0x03 (o / 8)
  | some b => if enables % 256 = 0xFF then s.writeReg who b (o % 4096) (v.setWidth 40) else s.error b 0x02 (o / 8)

/-- A management core's write to a register, with its trace record where the value changes (17_event_recorder.md R700; log 24). -/
def State.coreWrite (s : State) (off : Nat) (v : Word) : State :=
  match blockAt s.fuse.part (off / 4096) with
  | none => s
  | some b =>
    let o := off / 8 * 8 % 4096
    let old := s.readReg false b o
    let s := s.writeReg 2 b o v
    s.raise (b.family * 64 + 0x1F) 0 b.page (off / 8) old.toNat (s.readReg false b o).toNat

/-- The region of a device address (04_host_port.md R141). -/
def dpaRegion (a : Nat) : Nat := if a < 2 ^ 45 then 0 else if a < 2 ^ 47 then 1 else if a < 2 ^ 48 then 2 else 3

/-- An interleave that the port supports: 1, 2, 4 or 8 ways at 256 bytes to 16 KiB (04_host_port.md R137). -/
def interleaveOk (ways gran : Nat) : Bool :=
  decide (ways ∈ [1, 2, 4, 8]) && decide (gran ∈ [256, 512, 1024, 2048, 4096, 8192, 16384])

/-- The commit of an HDM decoder (04_host_port.md R137, R144, R145): its range within one region, HDM-DB only over a hank view, its interleave a
supported one. -/
def State.commitDecoder (s : State) (i base size : Nat) (db : Bool) (ways gran : Nat) : State :=
  let lo := dpaRegion base
  let hi := dpaRegion (base + size - 1)
  let ok := decide (lo = hi ∧ lo < 3 ∧ 0 < size) && !(db && decide (lo = 0)) && interleaveOk ways gran
  let d : Decoder := { base := base, size := size, db := db, ways := ways, gran := gran, committed := ok, err := !ok }
  if i < 8 then { s with cxlp.decoders := tput Decoder.reset s.cxlp.decoders i d } else s

/-- Slots written in ascending address order, each in one access; a slot with no byte enabled is not touched (R103, R106;
DESIGN CHOICE, log 36). -/
def State.writeSlots (s : State) (off : Nat) : List (Nat × BitVec 64) → State
  | [] => s
  | (e, v) :: l => State.writeSlots (if e % 256 = 0 then s else s.writeSlot 0 off e v) (off + 8) l

/-- The writes of one cycle in ascending address order (05_near_cache.md R233). -/
def inOrder (l : List (Nat × BitVec 64)) : List (Nat × BitVec 64) :=
  l.foldl (fun acc x => acc.takeWhile (fun y => decide (y.1 ≤ x.1)) ++ x :: acc.dropWhile fun y => decide (y.1 ≤ x.1)) []

/-- Two writes of one cycle reach one global field through two slice pages, the second of them live: CTRL, RGNATTR, PFDB or PFSTAT
(05_near_cache.md R233). -/
def State.sameGlobal (s : State) (x y : Nat × BitVec 64) : Bool :=
  let o := x.1 / 8 * 8 % 4096
  match blockAt s.fuse.part (x.1 / 4096), blockAt s.fuse.part (y.1 / 4096) with
  | some (.ncch i), some (.ncch j) => i ≠ j && decide (j ∈ s.liveSlices) && y.1 / 8 * 8 % 4096 = o && decide (o ∈ [0x18, 0x40, 0x50, 0x58])
  | _, _ => false

/-- Of writes in ascending page order, those that remain: through a lower page a global field is not written where one through a higher page is
(05_near_cache.md R233). -/
def State.remaining (s : State) : List (Nat × BitVec 64) → List (Nat × BitVec 64)
  | [] => []
  | x :: l => if l.any (s.sameGlobal x) then s.remaining l else x :: s.remaining l

/-- REGISTER_WRITE (R103, R106, R108, R110, R111, R117; 04_host_port.md R144, R145; 02_modes_and_starts.md R69). In a cycle in which a
management core writes the same register, the host's write is applied first (R111). -/
def State.registerWrite (s : State) (t : RegTarget) : State :=
  match t with
  | .bar0 off enables v core =>
    let s := s.writeSlots off [(enables, v)]
    match core with | some w => s.coreWrite off w | none => s
  | .slots off l => s.writeSlots off l
  | .cycle l => (s.remaining (inOrder l)).foldl (fun (s : State) x => s.writeSlot 0 x.1 0xFF x.2) s
  | .decoder i base size db ways gran => s.commitDecoder i base size db ways gran
  | .undecoder i => if i < 8 then { s with cxlp.decoders := tmod Decoder.reset s.cxlp.decoders i fun d => { d with committed := false, err := false } } else s
  | .msixMask v mask => s.msixMaskBit v mask
  | .bar2 off enables v => s.bar2Write (off / 8 * 8) enables v
  | .linkStates l1 l12 => { s with cxlp.l1ok := l1, cxlp.l12ok := l12 }

/-- REGISTER_WRITE: the operation `State.registerWrite`; a slot with no byte enabled is no access (DESIGN CHOICE, log 36). -/
def execRegisterWrite (t : RegTarget) (s : State) : Host.Outcome State Fault Refusal :=
  finish (s.reg (.registerWrite t) fun s => s.registerWrite t)

/-- A write to a header register of the block of a page; of no block it is an access error (R107). -/
def State.headerWrite (s : State) (page slot : Nat) (f : State → Block → State) : State :=
  match blockAt s.fuse.part page with
  | some b => f s b
  | none => s.error .hall 0x03 (page * 512 + slot)

/-- ISTAT_W1C (R116, R117): `together` holds the bits whose hardware cause falls in the same cycle; a retired block has none (R123). -/
def State.istatW1c (s : State) (page : Nat) (v : Word) (together : Nat) : State :=
  s.headerWrite page 5 fun s b =>
    let together := if (s.hdr b).outsvc then 0 else together
    (s.setCause b (together % 2 ^ 20)).wrIstat b v together

/-- IEN_WRITE and INTERRUPT_FORCE (R114, R115, R117). -/
def State.ienWrite (s : State) (page : Nat) (v : Word) : State := s.headerWrite page 6 fun s b => s.wrIen b v

/-- ERRSTAT_CLEAR (R118). -/
def State.errstatClear (s : State) (page : Nat) (v : Word) : State := s.headerWrite page 7 fun s b => s.wrErrstat b v

/-- ISTAT_W1C (R116, R117). -/
def execIstatW1c (page : Nat) (v : Word) (together : Nat) (s : State) : Host.Outcome State Fault Refusal :=
  finish (s.reg (.istatW1c page v together) fun s => s.istatW1c page v together)

/-- IEN_WRITE (R114, R115, R117). -/
def execIenWrite (page : Nat) (v : Word) (s : State) : Host.Outcome State Fault Refusal :=
  finish (s.reg (.ienWrite page v) fun s => s.ienWrite page v)

/-- INTERRUPT_FORCE (R115, R117). -/
def execInterruptForce (page : Nat) (v : Word) (s : State) : Host.Outcome State Fault Refusal :=
  finish (s.reg (.interruptForce page v) fun s => s.ienWrite page v)

/-- ERRSTAT_CLEAR (R118). -/
def execErrstatClear (page : Nat) (v : Word) (s : State) : Host.Outcome State Fault Refusal :=
  finish (s.reg (.errstatClear page v) fun s => s.errstatClear page v)

/-! ### The sideband (19_firmware_and_identity.md R777 to R779) -/

/-- A request of so many slots from an offset is well-formed (R777). -/
def sidebandOk (off count : Nat) : Bool := decide (1 ≤ count ∧ count ≤ 8 ∧ off % 8 = 0)

/-- In the hold of 02_modes_and_starts.md R99 the boot ROM serves only the HALL, SYSC and BOOT pages (R779). -/
def State.sidebandServes (s : State) (off : Nat) : Bool :=
  !s.boot.recoveryHold || off / 4096 = 0 || off / 4096 = 1 || off / 4096 = 7

/-- Slots read in ascending order, up to the first one refused: the state, the values, and whether none was refused. -/
def State.sidebandRead (s : State) (off : Nat) : Nat → State × List (BitVec 64) × Bool
  | 0 => (s, [], true)
  | n + 1 =>
    if s.sidebandServes off then
      let (s, v) := s.readSlot true off 0xFF
      let (t, vs, ok) := s.sidebandRead (off + 8) n
      (t, v :: vs, ok)
    else (s, [], false)

/-- Slots written in ascending order, up to the first one refused: the state, the slots performed, and whether none was refused. -/
def State.sidebandWrite (s : State) (off : Nat) : List (BitVec 64) → State × Nat × Bool
  | [] => (s, 0, true)
  | v :: vs =>
    if s.sidebandServes off then
      let (t, n, ok) := (s.writeSlot 1 off 0xFF v).sidebandWrite (off + 8) vs
      (t, n + 1, ok)
    else (s, 0, false)

/-- A read over the sideband, with its answer. -/
def State.sidebandReads (s : State) (off count : Nat) : State :=
  if !sidebandOk off count then s.send (.sideband 2 [])
  else
    let (t, vs, ok) := s.sidebandRead off count
    t.send (.sideband (if ok then 0 else 1) vs)

/-- A write over the sideband: the answer gives the count of slots performed. -/
def State.sidebandWrites (s : State) (off : Nat) (vals : List (BitVec 64)) : State :=
  if !sidebandOk off vals.length then s.send (.sideband 2 [])
  else
    let (t, n, ok) := s.sidebandWrite off vals
    t.send (.sideband (if ok then 0 else 1) [BitVec.ofNat 64 n])

/-- SIDEBAND_READ (R777 to R779). -/
def execSidebandRead (off : Nat) (count : Nat) (s : State) : Host.Outcome State Fault Refusal :=
  finish (s.side (.sidebandRead off count) fun s => s.sidebandReads off count)

/-- SIDEBAND_WRITE (R777 to R779). -/
def execSidebandWrite (off : Nat) (vals : List (BitVec 64)) (s : State) : Host.Outcome State Fault Refusal :=
  finish (s.side (.sidebandWrite off vals) fun s => s.sidebandWrites off vals)

end Sys2Proof.Machine
end

