-- ==== Sys2Proof/Machine/RegRows.lean ====
section
/-!
DEFINITION. The rows of the registers whose access has a command of its own: each is its register operation, which the whole-window write
shares, held while the controller is in REST (02_modes_and_starts.md R73; 03_registers_and_hallmark.md R111; log 38).
-/
namespace Sys2Proof.Machine

/-- TIME_SET: the register operation `State.regTimeSet`. -/
def execTimeSet (s : State) : Host.Outcome State Fault Refusal :=
  finish (s.reg .timeSet fun s => s.regTimeSet)

/-- TIMELO_READ: the register operation `State.regTimeloRead`. -/
def execTimeloRead (s : State) : Host.Outcome State Fault Refusal :=
  finish (s.reg .timeloRead fun s => s.regTimeloRead)

/-- DISC_WRITE: the register operation `State.regDiscWrite`. -/
def execDiscWrite (v : Word) (s : State) : Host.Outcome State Fault Refusal :=
  finish (s.reg (.discWrite v) fun s => s.regDiscWrite v)

/-- DRMC_SHARE_WRITE: the register operation `State.regDrmcShareWrite`. -/
def execDrmcShareWrite (chan : Nat) (v : Word) (s : State) : Host.Outcome State Fault Refusal :=
  finish (s.reg (.drmcShareWrite chan v) fun s => s.regDrmcShareWrite chan v)

/-- CURSOR_PLACE: the register operation `State.regCursorPlace`. -/
def execCursorPlace (who group : Nat) (v : Word) (s : State) : Host.Outcome State Fault Refusal :=
  finish (s.reg (.cursorPlace who group v) fun s => s.regCursorPlace who group v)

/-- CURSOR_ADVANCE: the register operation `State.regCursorAdvance`. -/
def execCursorAdvance (who group : Nat) (v : Word) (s : State) : Host.Outcome State Fault Refusal :=
  finish (s.reg (.cursorAdvance who group v) fun s => s.regCursorAdvance who group v)

/-- RECORDER_SAVE: the register operation `State.regRecorderSave`. -/
def execRecorderSave (s : State) : Host.Outcome State Fault Refusal :=
  finish (s.reg .recorderSave fun s => s.regRecorderSave)

/-- RATE_CLASS_WRITE: the register operation `State.regRateClassWrite`. -/
def execRateClassWrite (v : Word) (s : State) : Host.Outcome State Fault Refusal :=
  finish (s.reg (.rateClassWrite v) fun s => s.regRateClassWrite v)

/-- RGNATTR_WRITE: the register operation `State.regRgnattrWrite`. -/
def execRgnattrWrite (v : Word) (s : State) : Host.Outcome State Fault Refusal :=
  finish (s.reg (.rgnattrWrite v) fun s => s.regRgnattrWrite v)

/-- PREFETCH_HINT: the register operation `State.regPrefetchHint`. -/
def execPrefetchHint (v : Word) (s : State) : Host.Outcome State Fault Refusal :=
  finish (s.reg (.prefetchHint v) fun s => s.regPrefetchHint v)

/-- LFSR_WRITE: the register operation `State.regLfsrWrite`. -/
def execLfsrWrite (slice : Nat) (v : Word) (s : State) : Host.Outcome State Fault Refusal :=
  finish (s.reg (.lfsrWrite slice v) fun s => s.regLfsrWrite slice v)

/-- NCCH_DISABLE: the register operation `State.regNcchDisable`. -/
def execNcchDisable (s : State) : Host.Outcome State Fault Refusal :=
  finish (s.reg .ncchDisable fun s => s.regNcchDisable)

/-- NCCH_ENABLE: the register operation `State.regNcchEnable`. -/
def execNcchEnable (s : State) : Host.Outcome State Fault Refusal :=
  finish (s.reg .ncchEnable fun s => s.regNcchEnable)

/-- HDRCFG_WRITE: the register operation `State.regHdrcfgWrite`. -/
def execHdrcfgWrite (v : Word) (s : State) : Host.Outcome State Fault Refusal :=
  finish (s.reg (.hdrcfgWrite v) fun s => s.regHdrcfgWrite v)

/-- SUPERVISOR_SAVE: the register operation `State.regSupervisorSave`. -/
def execSupervisorSave (s : State) : Host.Outcome State Fault Refusal :=
  finish (s.reg .supervisorSave fun s => s.regSupervisorSave)

/-- THRESHOLD_WRITE: the register operation `State.regThresholdWrite`. -/
def execThresholdWrite (upper : Bool) (v : Word) (s : State) : Host.Outcome State Fault Refusal :=
  finish (s.reg (.thresholdWrite upper v) fun s => s.regThresholdWrite upper v)

/-- TABLE_ENTRY_WRITE: the register operation `State.regTableEntryWrite`. -/
def execTableEntryWrite (v : Word) (s : State) : Host.Outcome State Fault Refusal :=
  finish (s.reg (.tableEntryWrite v) fun s => s.regTableEntryWrite v)

/-- SEQCFG_WRITE: the register operation `State.regSeqcfgWrite`. -/
def execSeqcfgWrite (v : Word) (s : State) : Host.Outcome State Fault Refusal :=
  finish (s.reg (.seqcfgWrite v) fun s => s.regSeqcfgWrite v)

/-- PFWCFG_WRITE: the register operation `State.regPfwcfgWrite`. -/
def execPfwcfgWrite (v : Word) (s : State) : Host.Outcome State Fault Refusal :=
  finish (s.reg (.pfwcfgWrite v) fun s => s.regPfwcfgWrite v)

/-- HOLDUP_MEASURE_REQUEST: the register operation `State.regHoldupMeasureRequest`. -/
def execHoldupMeasureRequest (s : State) : Host.Outcome State Fault Refusal :=
  finish (s.reg .holdupMeasureRequest fun s => s.regHoldupMeasureRequest)

/-- HOLDUPCFG_WRITE: the register operation `State.regHoldupcfgWrite`. -/
def execHoldupcfgWrite (v : Word) (s : State) : Host.Outcome State Fault Refusal :=
  finish (s.reg (.holdupcfgWrite v) fun s => s.regHoldupcfgWrite v)

/-- DIRTYCFG_WRITE: the register operation `State.regDirtycfgWrite`. -/
def execDirtycfgWrite (v : Word) (s : State) : Host.Outcome State Fault Refusal :=
  finish (s.reg (.dirtycfgWrite v) fun s => s.regDirtycfgWrite v)

/-- RANGE_DEF_WRITE: the register operation `State.regRangeDefWrite`. -/
def execRangeDefWrite (size : Bool) (v : Word) (s : State) : Host.Outcome State Fault Refusal :=
  finish (s.reg (.rangeDefWrite size v) fun s => s.regRangeDefWrite size v)

/-- TIME_SEEK (R575). -/
def execTimeSeek (s : State) : Host.Outcome State Fault Refusal :=
  finish (s.reg .timeSeek fun s => s.query 1)

/-- RECORD_COUNT (R576). -/
def execRecordCount (s : State) : Host.Outcome State Fault Refusal :=
  finish (s.reg .recordCount fun s => s.query 2)

/-- QRYE_UNKNOWN_OP: the register operation `State.regQryeUnknownOp`. -/
def execQryeUnknownOp (op : Nat) (s : State) : Host.Outcome State Fault Refusal :=
  finish (s.reg (.qryeUnknownOp op) fun s => s.regQryeUnknownOp op)

/-- BIND: the register operation `State.regBind`. -/
def execBind (s : State) : Host.Outcome State Fault Refusal :=
  finish (s.reg .bind fun s => s.regBind)

/-- REPLAY_CONFIG: the register operation `State.regReplayConfig`. -/
def execReplayConfig (s : State) : Host.Outcome State Fault Refusal :=
  finish (s.reg .replayConfig fun s => s.regReplayConfig)

/-- PRELOAD: the register operation `State.regPreload`. -/
def execPreload (s : State) : Host.Outcome State Fault Refusal :=
  finish (s.reg .preload fun s => s.regPreload)

/-- START: the register operation `State.regStart`. -/
def execStart (s : State) : Host.Outcome State Fault Refusal :=
  finish (s.reg .start fun s => s.regStart)

/-- REPLAY_STOP: the register operation `State.regReplayStop`. -/
def execReplayStop (s : State) : Host.Outcome State Fault Refusal :=
  finish (s.reg .replayStop fun s => s.regReplayStop)

/-- UNBIND: the register operation `State.regUnbind`. -/
def execUnbind (s : State) : Host.Outcome State Fault Refusal :=
  finish (s.reg .unbind fun s => s.regUnbind)

/-- RPLE_UNKNOWN_OP: the register operation `State.regRpleUnknownOp`. -/
def execRpleUnknownOp (op : Nat) (s : State) : Host.Outcome State Fault Refusal :=
  finish (s.reg (.rpleUnknownOp op) fun s => s.regRpleUnknownOp op)

/-- HTIMER_WRITE: the register operation `State.regHtimerWrite`. -/
def execHtimerWrite (n : Nat) (v : Word) (s : State) : Host.Outcome State Fault Refusal :=
  finish (s.reg (.htimerWrite n v) fun s => s.regHtimerWrite n v)

/-- PSTO_READ: the register operation `State.regPstoRead`. -/
def execPstoRead (v : Word) (s : State) : Host.Outcome State Fault Refusal :=
  finish (s.reg (.pstoRead v) fun s => s.regPstoRead v)

/-- PSTO_WRITE: the register operation `State.regPstoWrite`. -/
def execPstoWrite (v : Word) (s : State) : Host.Outcome State Fault Refusal :=
  finish (s.reg (.pstoWrite v) fun s => s.regPstoWrite v)

/-- PSTO_INVALID_OP: the register operation `State.regPstoInvalidOp`. -/
def execPstoInvalidOp (v : Word) (s : State) : Host.Outcome State Fault Refusal :=
  finish (s.reg (.pstoInvalidOp v) fun s => s.regPstoInvalidOp v)

/-- PROTECTION_WRITE: the register operation `State.regProtectionWrite`. -/
def execProtectionWrite (v : Word) (s : State) : Host.Outcome State Fault Refusal :=
  finish (s.reg (.protectionWrite v) fun s => s.regProtectionWrite v)

/-- ALLOC: the register operation `State.regAlloc`. -/
def execAlloc (adopt : Bool) (s : State) : Host.Outcome State Fault Refusal :=
  finish (s.reg (.alloc adopt) fun s => s.regAlloc adopt)

/-- CONFIG: the register operation `State.regConfig`. -/
def execConfig (s : State) : Host.Outcome State Fault Refusal :=
  finish (s.reg .config fun s => s.regConfig)

/-- STRAND_ARM: the register operation `State.regStrandArm`. -/
def execStrandArm (s : State) : Host.Outcome State Fault Refusal :=
  finish (s.reg .strandArm fun s => s.regStrandArm)

/-- STRAND_STOP: the register operation `State.regStrandStop`. -/
def execStrandStop (s : State) : Host.Outcome State Fault Refusal :=
  finish (s.reg .strandStop fun s => s.regStrandStop)

/-- TRIGGER: the register operation `State.regTrigger`. -/
def execTrigger (s : State) : Host.Outcome State Fault Refusal :=
  finish (s.reg .trigger fun s => s.regTrigger)

/-- TIMEDTRIG: the register operation `State.regTimedtrig`. -/
def execTimedtrig (s : State) : Host.Outcome State Fault Refusal :=
  finish (s.reg .timedtrig fun s => s.regTimedtrig)

/-- DROPREM: the register operation `State.regDroprem`. -/
def execDroprem (s : State) : Host.Outcome State Fault Refusal :=
  finish (s.reg .droprem fun s => s.regDroprem)

/-- TRIGGER_LOG_POP: the register operation `State.regTriggerLogPop`. -/
def execTriggerLogPop (s : State) : Host.Outcome State Fault Refusal :=
  finish (s.reg .triggerLogPop fun s => s.regTriggerLogPop)

/-- FILTER_WRITE: the register operation `State.regFilterWrite`. -/
def execFilterWrite (v : Word) (s : State) : Host.Outcome State Fault Refusal :=
  finish (s.reg (.filterWrite v) fun s => s.regFilterWrite v)

/-- REWIND: the register operation `State.regRewind`. -/
def execRewind (s : State) : Host.Outcome State Fault Refusal :=
  finish (s.reg .rewind fun s => s.regRewind)

/-- RELEASE: the register operation `State.regRelease`. -/
def execRelease (s : State) : Host.Outcome State Fault Refusal :=
  finish (s.reg .release fun s => s.regRelease)

/-- STRD_UNKNOWN_OP: the register operation `State.regStrdUnknownOp`. -/
def execStrdUnknownOp (op : Nat) (s : State) : Host.Outcome State Fault Refusal :=
  finish (s.reg (.strdUnknownOp op) fun s => s.regStrdUnknownOp op)

/-- THRM_EXCL_WRITE: the register operation `State.regThrmExclWrite`. -/
def execThrmExclWrite (v : Word) (s : State) : Host.Outcome State Fault Refusal :=
  finish (s.reg (.thrmExclWrite v) fun s => s.regThrmExclWrite v)

/-- THRM_THRESH_WRITE: the register operation `State.regThrmThreshWrite`. -/
def execThrmThreshWrite (v : Word) (s : State) : Host.Outcome State Fault Refusal :=
  finish (s.reg (.thrmThreshWrite v) fun s => s.regThrmThreshWrite v)

/-- PCAP_WRITE: the register operation `State.regPcapWrite`. -/
def execPcapWrite (v : Word) (s : State) : Host.Outcome State Fault Refusal :=
  finish (s.reg (.pcapWrite v) fun s => s.regPcapWrite v)

/-- THERMAL_SAVE: the register operation `State.regThermalSave`. -/
def execThermalSave (s : State) : Host.Outcome State Fault Refusal :=
  finish (s.reg .thermalSave fun s => s.regThermalSave)

/-! ### Frames and register requests of one cycle (11_ingest_port.md R483) -/

/-- A register request of the cycle of an ARM or STOP frame is applied before it (R483). -/
def State.withRequest (s : State) (same : Option (Nat × BitVec 64)) (f : State → State) : State :=
  match same with
  | some (off, v) => f (s.writeSlot 0 off 0xFF v)
  | none => f s

/-- ARM (R480, R481, R483; 12_capture.md R525, R541). -/
def execArm (frame : StrandFrame) (s : State) : Host.Outcome State Fault Refusal :=
  finish (s.withRequest frame.same fun s => s.armFrame frame.seg)

/-- STOP (R480, R481, R483; 12_capture.md R490). -/
def execStop (frame : StrandFrame) (s : State) : Host.Outcome State Fault Refusal :=
  finish (s.withRequest frame.same fun s => s.stopFrame frame.seg)

end Sys2Proof.Machine
end

