-- ==== Sys2Proof/Machine/Spdm.lean ====
section
/-!
DEFINITION. SPDM attestation (19_firmware_and_identity.md R771 to R776, R782). spec/ names SPDM 1.3 and does not restate its message
layouts, codes and transcript rules; they are the DMTF's (PRESUMED, log 25).
-/
namespace Sys2Proof.Machine

/-- A byte. -/
def b8 (n : Nat) : BitVec 8 := BitVec.ofNat 8 n

/-- A number of so many bytes, least significant first. -/
def le (k n : Nat) : List (BitVec 8) := (bytesLE k n).map b8

/-- The number of `k` bytes at byte `i` of a message; bytes past its end read 0. -/
def leAt (m : List (BitVec 8)) (i k : Nat) : Nat := ofBytesLE (((m.drop i).take k).map (·.toNat))

/-- `n` free bytes: a nonce. -/
def State.freshBytes (s : State) : Nat → State × List (BitVec 8)
  | 0 => (s, [])
  | n + 1 =>
    let (v, s) := s.fresh1
    let (t, bs) := s.freshBytes n
    (t, b8 v :: bs)

/-- One SPDM connection: 0 on I3C, 1 on PCIe vendor-defined messages. -/
def State.spdm (s : State) (conn : Nat) : Spdm := tget Spdm.reset s.idnt.spdm conn

/-- The state with a connection changed. -/
def State.modSpdm (s : State) (conn : Nat) (f : Spdm → Spdm) : State := { s with idnt.spdm := tmod Spdm.reset s.idnt.spdm conn f }

/-- An ERROR answer: code 0x41 is captured with the request code (R782). -/
def State.spdmError (s : State) (req code data : Nat) (ext : List (BitVec 8)) : State × List (BitVec 8) :=
  (s.error .idnt 0x41 req, [b8 (if req = 0x84 then 0x10 else 0x13), 0x7F, b8 code, b8 data] ++ ext)

/-! ### Certificate chains and measurements -/

/-- The digest of the certificate store copy that is served: the first that matches (R770). -/
def State.certDigest (s : State) : Option (BitVec 512) :=
  match (s.record 11).winner with
  | .identity a b => if s.idnt.certA then some a else if s.idnt.certB then some b else none
  | _ => none

/-- A measurement's value type and value (R771): digests by SHA-512, the others raw. Measurements 1 to 5, 7 and 9 are those of the start,
6 and 8 those of now (R772). The layout of the raw ones is the model's (log 26). -/
def State.measurement (s : State) (i : Nat) : Nat × List (BitVec 8) :=
  let b := s.boot
  let dig (k : Nat) : List (BitVec 8) := le 64 (b.sections.getD k 0).toNat
  match i with
  | 1 => (0x00, le 64 Config.bootRom.toNat)
  | 2 => (0x82, le 2 s.fuse.part.number ++ le 1 (b2n (s.fuse.grade = .i)) ++ le 1 s.fuse.stepping ++ le 1 (b.fixedMeas.getD 0 0))
  | 3 => (0x01, le 64 ((s.boot.digest.map Prod.fst).getD 0).toNat)
  | 4 => (0x01, le 64 (Config.sha512 (dig 0 ++ dig 1 ++ dig 2)).toNat)
  | 5 => (0x03, dig 3)
  | 6 => (0x83, le 1 b.runSlot ++ le 1 (b2n b.img.trial) ++ le 4 b.run.svn ++ le 4 b.img.minsvn)
  | 7 => (0x82, le 1 1 ++ le 5 (b.fixedMeas.getD 1 0))
  | 8 => (0x83, ((List.range 16).flatMap fun r =>
      let x := s.range r
      le 1 (pack [(5, x.slot), (1, b2n x.bound), (1, b2n x.verify), (1, b2n x.viral)])) ++
      le 1 (fld s.psto.prot 0 2) ++ le 1 Config.debugPort)
  | _ => (0x01, dig 4)

/-- A measurement block in the DMTF form. -/
def State.measBlock (s : State) (i : Nat) : List (BitVec 8) :=
  let (t, v) := s.measurement i
  le 1 i ++ le 1 1 ++ le 2 (v.length + 3) ++ le 1 t ++ le 2 v.length ++ v

/-- The verified digest D of this start; 0 before C3 (R752). -/
def State.imageDigest (s : State) : BitVec 512 := (s.boot.digest.map Prod.fst).getD 0

/-- The certificate chain of an algorithm, 0 Ed25519 and 1 ML-DSA-65: root, identity certificate, and the alias certificate, which carries
measurements 3 and 4 (R769); none where the slot is empty (R770). -/
def State.chain (s : State) (alg : Nat) : Option (List (BitVec 8)) :=
  s.certDigest.map fun d =>
    let leaf := Config.aliasCert alg (s.fuse.idSeed alg) (s.fuse.aliasSeed alg s.imageDigest) ((s.measurement 3).2 ++ (s.measurement 4).2)
    let certs := Config.storeChain alg d ++ leaf
    le 4 (68 + certs.length) ++ le 64 (Config.rootHash alg).toNat ++ certs

/-- The measurement summary hash that a CHALLENGE asks for: all, or those of the trusted computing base, which spec/ does not name (free). -/
def State.measSummary (s : State) (kind : Nat) : State × List (BitVec 8) :=
  if kind = 0xFF then (s, le 64 (Config.sha512 ((List.range 9).flatMap fun i => s.measBlock (i + 1))).toNat)
  else if kind = 1 then s.freshBytes 64
  else (s, [])

/-! ### Transcripts (R774) -/

/-- The messages of the three opening exchanges: their request and response codes. -/
def vcaCode (c : Nat) : Bool := c ∈ [0x84, 0x04, 0xE1, 0x61, 0xE3, 0x63]

/-- The bytes of the messages of a transcript, oldest first. -/
def transcriptBytes (l : List (List (BitVec 8))) : List (BitVec 8) := l.reverse.flatten

/-- A message's code. -/
def codeOf (m : List (BitVec 8)) : Nat := leAt m 1 1

/-- The state with messages added to a connection's transcript, newest first, after those whose code `drop` names have left it. -/
def State.note (s : State) (conn : Nat) (drop : Nat → Bool) (ms : List (List (BitVec 8))) : State :=
  s.modSpdm conn fun c => { c with transcript := ms ++ c.transcript.filter fun m => !drop (codeOf m) }

/-- The codes of GET_MEASUREMENTS and MEASUREMENTS. -/
def measCode (c : Nat) : Bool := c ∈ [0xE0, 0x60]

/-- The codes of digests, certificates and challenges. -/
def certCode (c : Nat) : Bool := c ∈ [0x81, 0x01, 0x82, 0x02, 0x83, 0x03]

/-- A response signed: T is the hash of the transcript with it; cause ATTEST (R774, R782). The messages signed leave the transcript. -/
def State.sign (s : State) (conn : Nat) (req resp : List (BitVec 8)) (other : Nat → Bool) : State × List (BitVec 8) :=
  let s := s.note conn other [resp, req]
  let t := Config.sha512 (transcriptBytes (s.spdm conn).transcript)
  let s := (s.note conn (fun c => !vcaCode c) []).modSpdm conn fun c => { c with lastT := some t, signedLast := true }
  (s.cause .idnt 2, resp ++ le 64 (Config.ed25519 (s.fuse.aliasSeed 0 s.imageDigest) (le 64 t.toNat)).toNat)

/-! ### The requests -/

/-- GET_VERSION: version 1.3 alone; the connection begins again. -/
def State.spdmVersion (s : State) (conn : Nat) (m : List (BitVec 8)) : State × List (BitVec 8) :=
  if leAt m 0 1 ≠ 0x10 then s.spdmError 0x84 0x41 0 []
  else
    let r := [0x10, 0x04, 0, 0, 0, 1, 0x00, 0x13]
    (s.modSpdm conn fun c => { Spdm.reset with version := true, lastT := c.lastT, transcript := [r, m] }, r)

/-- GET_CAPABILITIES: CERT, CHAL, MEAS with signature, CHUNK; CTExponent 16; the sizes of R773. -/
def State.spdmCapabilities (s : State) (conn : Nat) (m : List (BitVec 8)) : State × List (BitVec 8) :=
  if m.length < 20 then s.spdmError 0xE1 1 0 []
  else
    let r := [0x13, 0x61, 0, 0, 0, 16, 0, 0] ++ le 4 0x20016 ++ le 4 1024 ++ le 4 8192
    (State.modSpdm (s.note conn (fun c => c ∈ [0xE1, 0x61, 0xE3, 0x63]) [r, m]) conn fun c => { c with caps := true, algs := false }, r)

/-- NEGOTIATE_ALGORITHMS: Ed25519 and SHA-512 where the requester offers them (R773). -/
def State.spdmAlgorithms (s : State) (conn : Nat) (m : List (BitVec 8)) : State × List (BitVec 8) :=
  if m.length < 32 ∨ leAt m 4 2 ≠ m.length ∨ ¬ (BitVec.ofNat 32 (leAt m 8 4)).getLsbD 10 ∨ ¬ (BitVec.ofNat 32 (leAt m 12 4)).getLsbD 2 then
    s.spdmError 0xE3 1 0 []
  else
    let r := [0x13, 0x63, 0, 0] ++ le 2 36 ++ [b8 (leAt m 6 1 % 2), 0] ++ le 4 8 ++ le 4 0x400 ++ le 4 4 ++ le 16 0
    (State.modSpdm (s.note conn (fun c => c ∈ [0xE3, 0x63]) [r, m]) conn fun c => { c with algs := true }, r)

/-- GET_DIGESTS: slot 0, or none where it is empty (R770). -/
def State.spdmDigests (s : State) (conn : Nat) (m : List (BitVec 8)) : State × List (BitVec 8) :=
  let r := match s.chain 0 with
    | some c => [0x13, 0x01, 1, 1] ++ le 64 (Config.sha512 c).toNat
    | none => [0x13, 0x01, 1, 0]
  (s.note conn measCode [r, m], r)

/-- GET_CERTIFICATE: a portion of the Ed25519 chain, as long as a response can carry (R769, R773). -/
def State.spdmCertificate (s : State) (conn : Nat) (m : List (BitVec 8)) : State × List (BitVec 8) :=
  match s.chain 0 with
  | none => s.spdmError 0x82 1 0 []
  | some c =>
    let off := leAt m 4 2
    if m.length < 8 ∨ leAt m 2 1 % 16 ≠ 0 ∨ c.length ≤ off then s.spdmError 0x82 1 0 []
    else
      let n := min (min 1016 (leAt m 6 2)) (c.length - off)
      let r := [0x13, 0x02, 0, 1] ++ le 2 n ++ le 2 (c.length - off - n) ++ (c.drop off).take n
      (s.note conn measCode [r, m], r)

/-- CHALLENGE: slot 0, signed with Ed25519 (R773, R774). -/
def State.spdmChallenge (s : State) (conn : Nat) (m : List (BitVec 8)) : State × List (BitVec 8) :=
  match s.chain 0 with
  | none => s.spdmError 0x83 1 0 []
  | some c =>
    let kind := leAt m 3 1
    if m.length < 44 ∨ leAt m 2 1 ≠ 0 ∨ kind ∉ [0, 1, 0xFF] then s.spdmError 0x83 1 0 []
    else
      let (s, nonce) := s.freshBytes 32
      let (s, summary) := s.measSummary kind
      let r := [0x13, 0x03, 0, 1] ++ le 64 (Config.sha512 c).toNat ++ nonce ++ summary ++ le 2 0 ++ (m.drop 36).take 8
      s.sign conn m r measCode

/-- GET_MEASUREMENTS: a count, one block or all, with or without a signature (R771, R773). -/
def State.spdmMeasurements (s : State) (conn : Nat) (m : List (BitVec 8)) : State × List (BitVec 8) :=
  let signed := (BitVec.ofNat 8 (leAt m 2 1)).getLsbD 0
  let op := leAt m 3 1
  let len := if signed then 45 else 12
  if m.length < len ∨ (9 < op ∧ op < 0xFF) ∨ (signed ∧ (leAt m 36 1 % 16 ≠ 0 ∨ s.certDigest.isNone)) then s.spdmError 0xE0 1 0 []
  else
    let is := if op = 0 then [] else if op = 0xFF then (List.range 9).map (· + 1) else [op]
    let recs := is.flatMap s.measBlock
    let (s, nonce) := s.freshBytes 32
    let r := [0x13, 0x60, if op = 0 then 9 else 0, 0] ++ le 1 is.length ++ le 3 recs.length ++ recs ++ nonce ++ le 2 0 ++ (m.drop (len - 8)).take 8
    if signed then s.sign conn m r certCode else (s.note conn certCode [r, m], r)

/-- A vendor-defined answer around a payload. -/
def vendorResponse (p : List (BitVec 8)) : List (BitVec 8) :=
  [0x13, 0x7E, 0, 0] ++ le 2 3 ++ [2] ++ le 2 Config.vendorId.toNat ++ le 2 p.length ++ p

/-- The payload of a vendor-defined request that carries the PCI-SIG standard ID and Sakewen's vendor ID (R774). -/
def vendorPayload (m : List (BitVec 8)) : Option (List (BitVec 8)) :=
  if leAt m 4 2 = 3 ∧ leAt m 6 1 = 2 ∧ leAt m 7 2 = Config.vendorId.toNat ∧ 11 + leAt m 9 2 ≤ m.length then some ((m.drop 11).take (leAt m 9 2)) else none

/-- GET_PQ_CERT (R774). -/
def State.spdmPqCert (s : State) (p : List (BitVec 8)) : State × List (BitVec 8) :=
  match s.chain 1 with
  | none => s.spdmError 0xFE 1 0 []
  | some c =>
    let off := leAt p 1 4
    let len := leAt p 5 2
    if p.length < 7 ∨ 4096 < len ∨ c.length < off then s.spdmError 0xFE 1 0 []
    else
      let n := min len (c.length - off)
      (s, vendorResponse ((c.drop off).take n ++ le 2 (c.length - off - n)))

/-- GET_PQ_SIG (R774, R775). -/
def State.spdmPqSig (s : State) (signedBefore : Bool) (conn : Nat) : State × List (BitVec 8) :=
  match (s.spdm conn).lastT with
  | some t => if signedBefore then (s, vendorResponse (le 3309 (Config.mldsa (s.fuse.aliasSeed 1 s.imageDigest) t).toNat)) else s.spdmError 0xFE 4 0 []
  | none => s.spdmError 0xFE 4 0 []

/-- A vendor-defined request (R774): an opcode of no request is invalid. -/
def State.spdmVendor (s : State) (signedBefore : Bool) (conn : Nat) (m : List (BitVec 8)) : State × List (BitVec 8) :=
  let s := s.note conn (fun c => !vcaCode c) []
  match vendorPayload m with
  | none => s.spdmError 0xFE 1 0 []
  | some p =>
    if p.isEmpty then s.spdmError 0xFE 1 0 []
    else match leAt p 0 1 with
      | 1 => s.spdmPqCert p
      | 2 => s.spdmPqSig signedBefore conn
      | _ => s.spdmError 0xFE 1 0 []

/-- The requests answered in one message: the version of the header, the order of the opening exchanges, and each request. -/
def State.spdmAnswer (s : State) (conn : Nat) (m : List (BitVec 8)) : State × List (BitVec 8) :=
  let c := s.spdm conn
  let req := codeOf m
  let was := c.signedLast
  let s := s.modSpdm conn fun c => { c with signedLast := false }
  if req = 0x84 then s.spdmVersion conn m
  else if req ∉ [0xE1, 0xE3, 0x81, 0x82, 0x83, 0xE0, 0xFE, 0xFF] then s.spdmError req 7 req []
  else if !c.version then s.spdmError req 4 0 []
  else if leAt m 0 1 ≠ 0x13 then s.spdmError req 0x41 0 []
  else if req = 0xE1 then s.spdmCapabilities conn m
  else if !c.caps then s.spdmError req 4 0 []
  else if req = 0xE3 then s.spdmAlgorithms conn m
  else if !c.algs then s.spdmError req 4 0 []
  else match req with
    | 0x81 => s.spdmDigests conn m
    | 0x82 => s.spdmCertificate conn m
    | 0x83 => s.spdmChallenge conn m
    | 0xE0 => s.spdmMeasurements conn m
    | 0xFE => s.spdmVendor was conn m
    | _ => s.spdmError req 4 0 []

/-- An answer longer than DataTransferSize, in a message of `room` bytes, is announced by ERROR LargeResponse and fetched with CHUNK_GET. -/
def State.spdmFit (s : State) (conn req room : Nat) (r : List (BitVec 8)) : State × List (BitVec 8) :=
  if r.length ≤ room then (s, r)
  else
    let h := ((s.spdm conn).handle + 1) % 256
    (s.modSpdm conn fun c => { c with outChunks := r, inChunks := [], chunkSeq := 0, handle := h }).spdmError req 0x0F 0 [b8 h]

/-- A request on a connection of its row's code: the controller answers once IDNT is ready. -/
def State.spdmServe (s : State) (conn : Nat) (mine : Bool) (f : State → State × List (BitVec 8)) : State :=
  if mine && decide (conn < 2) && (s.hdr .idnt).ready then
    let (t, r) := f s
    t.send (.spdm conn r)
  else s

/-- A request answered under the size limit. -/
def State.spdmRequest (s : State) (conn : Nat) (m : List (BitVec 8)) : State × List (BitVec 8) :=
  let (t, r) := s.spdmAnswer conn m
  t.spdmFit conn (codeOf m) 1024 r

/-- CHUNK_GET: the next chunk of the large response; the sequence stays good for GET_PQ_SIG (R775). -/
def State.spdmChunkGet (s : State) (conn : Nat) (m : List (BitVec 8)) : State × List (BitVec 8) :=
  let c := s.spdm conn
  if leAt m 0 1 ≠ 0x13 then s.spdmError 0x86 0x41 0 []
  else if c.outChunks.isEmpty ∨ !c.algs then (s.modSpdm conn fun c => { c with signedLast := false }).spdmError 0x86 4 0 []
  else if m.length < 6 ∨ leAt m 3 1 ≠ c.handle ∨ leAt m 4 2 ≠ c.chunkSeq then
    (s.modSpdm conn fun c => { c with signedLast := false, outChunks := [] }).spdmError 0x86 1 0 []
  else
    let n := min (if c.chunkSeq = 0 then 1008 else 1012) c.outChunks.length
    let rest := c.outChunks.drop n
    let r := [0x13, 0x06, b8 (b2n rest.isEmpty), b8 c.handle] ++ le 2 c.chunkSeq ++ le 2 0 ++ le 4 n ++
      (if c.chunkSeq = 0 then le 4 c.outChunks.length else []) ++ c.outChunks.take n
    (s.modSpdm conn fun c => { c with outChunks := rest, chunkSeq := wrapInc 16 c.chunkSeq }, r)

/-- CHUNK_SEND: one chunk of a large request; the last one carries its answer back in the acknowledgement. -/
def State.spdmChunkSend (s : State) (conn : Nat) (m : List (BitVec 8)) : State × List (BitVec 8) :=
  let c := s.spdm conn
  let seq := leAt m 4 2
  let n := leAt m 8 4
  let head := if seq = 0 then 16 else 12
  if leAt m 0 1 ≠ 0x13 then s.spdmError 0x85 0x41 0 []
  else if !c.algs then (s.modSpdm conn fun c => { c with signedLast := false }).spdmError 0x85 4 0 []
  else if m.length ≠ head + n ∨ seq ≠ (if c.inChunks.isEmpty then 0 else c.chunkSeq) ∨ 8192 < c.inChunks.length + n ∨ n = 0 ∨
      (seq ≠ 0 ∧ leAt m 3 1 ≠ c.handle) then
    (s.modSpdm conn fun c => { c with signedLast := false, inChunks := [], chunkSeq := 0 }).spdmError 0x85 1 0 []
  else
    let h := leAt m 3 1
    let all := c.inChunks ++ m.drop head
    let ack := [0x13, 0x05, 0, b8 h] ++ le 2 seq
    if leAt m 2 1 % 2 = 0 then
      (s.modSpdm conn fun c => { c with signedLast := false, inChunks := all, chunkSeq := wrapInc 16 seq, handle := h, outChunks := [] }, ack)
    else
      let s := s.modSpdm conn fun c => { c with inChunks := [], chunkSeq := 0, handle := h }
      let (t, r) := s.spdmAnswer conn all
      let (t, r) := t.spdmFit conn (codeOf all) 1018 r
      (t, ack ++ r)

/-- A request of a connection: 1 comes over CXL.io, the other over the sideband; in REST it waits for the wake (02_modes_and_starts.md R73,
R74). -/
def State.spdmRow (s : State) (conn : Nat) (c : Instr) (f : State → State) : State := if conn = 1 then s.io c f else s.side c f

/-- GET_VERSION (R773). -/
def execGetVersion (conn : Nat) (msg : List (BitVec 8)) (s : State) : Host.Outcome State Fault Refusal :=
  finish (s.spdmRow conn (.getVersion conn msg) fun s => s.spdmServe conn (codeOf msg = 0x84) fun s => s.spdmRequest conn msg)
/-- GET_CAPABILITIES (R773). -/
def execGetCapabilities (conn : Nat) (msg : List (BitVec 8)) (s : State) : Host.Outcome State Fault Refusal :=
  finish (s.spdmRow conn (.getCapabilities conn msg) fun s => s.spdmServe conn (codeOf msg = 0xE1) fun s => s.spdmRequest conn msg)
/-- NEGOTIATE_ALGORITHMS (R773). -/
def execNegotiateAlgorithms (conn : Nat) (msg : List (BitVec 8)) (s : State) : Host.Outcome State Fault Refusal :=
  finish (s.spdmRow conn (.negotiateAlgorithms conn msg) fun s => s.spdmServe conn (codeOf msg = 0xE3) fun s => s.spdmRequest conn msg)
/-- GET_DIGESTS (R770, R773). -/
def execGetDigests (conn : Nat) (msg : List (BitVec 8)) (s : State) : Host.Outcome State Fault Refusal :=
  finish (s.spdmRow conn (.getDigests conn msg) fun s => s.spdmServe conn (codeOf msg = 0x81) fun s => s.spdmRequest conn msg)
/-- GET_CERTIFICATE (R769, R770, R773). -/
def execGetCertificate (conn : Nat) (msg : List (BitVec 8)) (s : State) : Host.Outcome State Fault Refusal :=
  finish (s.spdmRow conn (.getCertificate conn msg) fun s => s.spdmServe conn (codeOf msg = 0x82) fun s => s.spdmRequest conn msg)
/-- CHALLENGE (R773, R774, R782). -/
def execChallenge (conn : Nat) (msg : List (BitVec 8)) (s : State) : Host.Outcome State Fault Refusal :=
  finish (s.spdmRow conn (.challenge conn msg) fun s => s.spdmServe conn (codeOf msg = 0x83) fun s => s.spdmRequest conn msg)
/-- GET_MEASUREMENTS (R771, R772, R774, R782). -/
def execGetMeasurements (conn : Nat) (msg : List (BitVec 8)) (s : State) : Host.Outcome State Fault Refusal :=
  finish (s.spdmRow conn (.getMeasurements conn msg) fun s => s.spdmServe conn (codeOf msg = 0xE0) fun s => s.spdmRequest conn msg)
/-- GET_PQ_CERT (R774), and a vendor-defined request of no known opcode. -/
def execGetPqCert (conn : Nat) (msg : List (BitVec 8)) (s : State) : Host.Outcome State Fault Refusal :=
  finish (s.spdmRow conn (.getPqCert conn msg) fun s => s.spdmServe conn (codeOf msg = 0xFE) fun s => s.spdmRequest conn msg)
/-- GET_PQ_SIG (R774, R775). -/
def execGetPqSig (conn : Nat) (msg : List (BitVec 8)) (s : State) : Host.Outcome State Fault Refusal :=
  finish (s.spdmRow conn (.getPqSig conn msg) fun s => s.spdmServe conn (codeOf msg = 0xFE) fun s => s.spdmRequest conn msg)
/-- CHUNK_SEND (R773). -/
def execChunkSend (conn : Nat) (msg : List (BitVec 8)) (s : State) : Host.Outcome State Fault Refusal :=
  finish (s.spdmRow conn (.chunkSend conn msg) fun s => s.spdmServe conn (codeOf msg = 0x85) fun s => s.spdmChunkSend conn msg)
/-- CHUNK_GET (R773, R775). -/
def execChunkGet (conn : Nat) (msg : List (BitVec 8)) (s : State) : Host.Outcome State Fault Refusal :=
  finish (s.spdmRow conn (.chunkGet conn msg) fun s => s.spdmServe conn (codeOf msg = 0x86) fun s => s.spdmChunkGet conn msg)
/-- RESPOND_IF_READY (R773): no request is ever answered ResponseNotReady here, so nothing waits (log 25). -/
def execRespondIfReady (conn : Nat) (msg : List (BitVec 8)) (s : State) : Host.Outcome State Fault Refusal :=
  finish (s.spdmRow conn (.respondIfReady conn msg) fun s => s.spdmServe conn (codeOf msg = 0xFF) fun s => s.spdmRequest conn msg)

end Sys2Proof.Machine
end

