-- ==== Sys2Proof/Machine/Wake.lean ====
section
/-!
DEFINITION. The requests that waited for a wake from REST, and what ends the rest: the wake, or QUENCH (02_modes_and_starts.md R65, R73 to R77;
10_persistence.md R425, R430).
-/
namespace Sys2Proof.Machine

/-- A request of CXL.io or the sideband performed: the operation of its row. -/
def State.performIo (s : State) (c : Instr) : State :=
  match c with
  | .registerWrite t => s.registerWrite t
  | .registerReadError off bytes => s.readSlots off bytes
  | .rcRead off bytes => s.readSlots off bytes
  | .istatW1c page v together => s.istatW1c page v together
  | .ienWrite page v => s.ienWrite page v
  | .interruptForce page v => s.ienWrite page v
  | .errstatClear page v => s.errstatClear page v
  | .sidebandRead off count => s.sidebandReads off count
  | .sidebandWrite off vals => s.sidebandWrites off vals
  | .healthConfirm => s.confirm
  | .timeSet => s.regTimeSet
  | .timeloRead => s.regTimeloRead
  | .discWrite v => s.regDiscWrite v
  | .drmcShareWrite chan v => s.regDrmcShareWrite chan v
  | .cursorPlace who group v => s.regCursorPlace who group v
  | .cursorAdvance who group v => s.regCursorAdvance who group v
  | .recorderSave => s.regRecorderSave
  | .rateClassWrite v => s.regRateClassWrite v
  | .rgnattrWrite v => s.regRgnattrWrite v
  | .prefetchHint v => s.regPrefetchHint v
  | .lfsrWrite slice v => s.regLfsrWrite slice v
  | .ncchDisable => s.regNcchDisable
  | .ncchEnable => s.regNcchEnable
  | .hdrcfgWrite v => s.regHdrcfgWrite v
  | .supervisorSave => s.regSupervisorSave
  | .thresholdWrite upper v => s.regThresholdWrite upper v
  | .tableEntryWrite v => s.regTableEntryWrite v
  | .seqcfgWrite v => s.regSeqcfgWrite v
  | .pfwcfgWrite v => s.regPfwcfgWrite v
  | .holdupMeasureRequest => s.regHoldupMeasureRequest
  | .holdupcfgWrite v => s.regHoldupcfgWrite v
  | .dirtycfgWrite v => s.regDirtycfgWrite v
  | .rangeDefWrite size v => s.regRangeDefWrite size v
  | .timeSeek => s.query 1
  | .recordCount => s.query 2
  | .qryeUnknownOp op => s.regQryeUnknownOp op
  | .bind => s.regBind
  | .replayConfig => s.regReplayConfig
  | .preload => s.regPreload
  | .start => s.regStart
  | .replayStop => s.regReplayStop
  | .unbind => s.regUnbind
  | .rpleUnknownOp op => s.regRpleUnknownOp op
  | .htimerWrite n v => s.regHtimerWrite n v
  | .pstoRead v => s.regPstoRead v
  | .pstoWrite v => s.regPstoWrite v
  | .pstoInvalidOp v => s.regPstoInvalidOp v
  | .protectionWrite v => s.regProtectionWrite v
  | .alloc adopt => s.regAlloc adopt
  | .config => s.regConfig
  | .strandArm => s.regStrandArm
  | .strandStop => s.regStrandStop
  | .trigger => s.regTrigger
  | .timedtrig => s.regTimedtrig
  | .droprem => s.regDroprem
  | .triggerLogPop => s.regTriggerLogPop
  | .filterWrite v => s.regFilterWrite v
  | .rewind => s.regRewind
  | .release => s.regRelease
  | .strdUnknownOp op => s.regStrdUnknownOp op
  | .thrmExclWrite v => s.regThrmExclWrite v
  | .thrmThreshWrite v => s.regThrmThreshWrite v
  | .pcapWrite v => s.regPcapWrite v
  | .thermalSave => s.regThermalSave
  | .getVersion conn msg => s.spdmServe conn (codeOf msg = 0x84) fun s => s.spdmRequest conn msg
  | .getCapabilities conn msg => s.spdmServe conn (codeOf msg = 0xE1) fun s => s.spdmRequest conn msg
  | .negotiateAlgorithms conn msg => s.spdmServe conn (codeOf msg = 0xE3) fun s => s.spdmRequest conn msg
  | .getDigests conn msg => s.spdmServe conn (codeOf msg = 0x81) fun s => s.spdmRequest conn msg
  | .getCertificate conn msg => s.spdmServe conn (codeOf msg = 0x82) fun s => s.spdmRequest conn msg
  | .challenge conn msg => s.spdmServe conn (codeOf msg = 0x83) fun s => s.spdmRequest conn msg
  | .getMeasurements conn msg => s.spdmServe conn (codeOf msg = 0xE0) fun s => s.spdmRequest conn msg
  | .getPqCert conn msg => s.spdmServe conn (codeOf msg = 0xFE) fun s => s.spdmRequest conn msg
  | .getPqSig conn msg => s.spdmServe conn (codeOf msg = 0xFE) fun s => s.spdmRequest conn msg
  | .chunkSend conn msg => s.spdmServe conn (codeOf msg = 0x85) fun s => s.spdmChunkSend conn msg
  | .chunkGet conn msg => s.spdmServe conn (codeOf msg = 0x86) fun s => s.spdmChunkGet conn msg
  | .respondIfReady conn msg => s.spdmServe conn (codeOf msg = 0xFF) fun s => s.spdmRequest conn msg
  | c =>
    match mbHead c with
    | some (iface, opcode, fw) => s.submit iface opcode c fw fun s => s.mbDo c
    | none => s

/-- The requests that waited, in order of arrival. -/
def State.serveIo (s : State) : State := s.rest.io.foldl State.performIo { s with rest.io := [] }

/-- QUENCH_COMPLETE (R425): requests that were waiting for a wake from REST are served, which QUENCH's own wake has ended (R77, log 38), Q7 completes and the shutdown table begins, unless the limit began it (R430, R669). -/
def execQuenchComplete (unsealed : List Nat) (s : State) : Host.Outcome State Fault Refusal :=
  finish <| if s.sysc.mode ≠ .quench || s.pers.quench.isNone then s
  else
    let s := s.serveIo.quenchDrain unsealed
    if s.pseq.seq.down then s else s.tableDown .dormant

/-- QUENCH_LIMIT_EXPIRED (R430, R669): the shutdown table starts; QUENCH goes on without its final record. -/
def execQuenchLimitExpired (unsealed : List Nat) (s : State) : Host.Outcome State Fault Refusal :=
  finish <| if s.sysc.mode ≠ .quench || s.pers.quench.isNone || s.pseq.seq.down then s
  else
    let s := { s with aon.unsealed := unsealed.foldl withNew s.aon.unsealed }
    s.tableDown .dormant

/-- The long-log flush that fell due in REST is taken (R878). -/
def State.flushWaited (s : State) : State :=
  if s.evtr.flushWait then State.flushLog { s with evtr.flushWait := false } else s

/-- WAKE_COMPLETE (R65, R57, R60, R74, R79, R878; 09_media_bus.md R407): the mode it came from; the dies take their queued operations,
requests that arrived are served, those of CXL.mem first (log 38), periodic work that waited is taken, a waiting mode request is judged, a reset
request is performed. -/
def execWakeComplete (s : State) : Host.Outcome State Fault Refusal :=
  finish <| if s.sysc.mode ≠ .rest || !s.rest.waking then s
  else
    let back := s.sysc.ret.getD .memory
    let s := State.restOver { s with rest.waking := false }
    let s := (s.setMode back).cause .rest 9
    let s := (s.clus.dies.foldl (fun (s : State) e => s.dieNext e.1) s).serveHeld.serveIo
    let s := s.checkpointNext.flushWaited
    let s := if s.sysc.reqGo then s.judgeMode s.sysc.reqTarget else s
    s.resetPending

end Sys2Proof.Machine
end

