-- ==== Sys2Proof/Machine/Dispatch.lean ====
section
/-!
DEFINITION. One arm per command: a direct call of its meaning.
-/
namespace Sys2Proof.Machine

open Sys2Proof

/-- The effect of a command on everything but the queue. -/
def exec (i : Instr) (s : State) : Host.Outcome State Fault Refusal :=
  match i with
  | .vaonRise vsel testLow => Sys2Proof.Machine.execVaonRise vsel testLow s
  | .vaonFall chunk => Sys2Proof.Machine.execVaonFall chunk s
  | .adcSlot code => Sys2Proof.Machine.execAdcSlot code s
  | .vinPowerGood => Sys2Proof.Machine.execVinPowerGood s
  | .pfwNAssert => Sys2Proof.Machine.execPfwNAssert s
  | .belayRise => Sys2Proof.Machine.execBelayRise s
  | .belayTimeout => Sys2Proof.Machine.execBelayTimeout s
  | .seqEntryDelayExpired => Sys2Proof.Machine.execSeqEntryDelayExpired s
  | .seqWaitTimeout => Sys2Proof.Machine.execSeqWaitTimeout s
  | .retryOffExpired => Sys2Proof.Machine.execRetryOffExpired s
  | .faultHoldExpired => Sys2Proof.Machine.execFaultHoldExpired s
  | .restartTimerExpired => Sys2Proof.Machine.execRestartTimerExpired s
  | .supervisorSave => Sys2Proof.Machine.execSupervisorSave s
  | .thresholdWrite upper v => Sys2Proof.Machine.execThresholdWrite upper v s
  | .tableEntryWrite v => Sys2Proof.Machine.execTableEntryWrite v s
  | .seqcfgWrite v => Sys2Proof.Machine.execSeqcfgWrite v s
  | .pfwcfgWrite v => Sys2Proof.Machine.execPfwcfgWrite v s
  | .holdupMeasureRequest => Sys2Proof.Machine.execHoldupMeasureRequest s
  | .holdupMeasureDue => Sys2Proof.Machine.execHoldupMeasureDue s
  | .holdupcfgWrite v => Sys2Proof.Machine.execHoldupcfgWrite v s
  | .dirtycfgWrite v => Sys2Proof.Machine.execDirtycfgWrite v s
  | .startStepComplete r => Sys2Proof.Machine.execStartStepComplete r s
  | .startStepTimeout => Sys2Proof.Machine.execStartStepTimeout s
  | .perstNAssert => Sys2Proof.Machine.execPerstNAssert s
  | .perstNDeassert => Sys2Proof.Machine.execPerstNDeassert s
  | .warmResetRequest => Sys2Proof.Machine.execWarmResetRequest s
  | .coldResetRequest => Sys2Proof.Machine.execColdResetRequest s
  | .warmEntryComplete => Sys2Proof.Machine.execWarmEntryComplete s
  | .warmEntryTimeout => Sys2Proof.Machine.execWarmEntryTimeout s
  | .modereqService => Sys2Proof.Machine.execModereqService s
  | .modereqMemory => Sys2Proof.Machine.execModereqMemory s
  | .modereqStream => Sys2Proof.Machine.execModereqStream s
  | .modereqSafe => Sys2Proof.Machine.execModereqSafe s
  | .modereqInvalid target => Sys2Proof.Machine.execModereqInvalid target s
  | .serviceEntryComplete => Sys2Proof.Machine.execServiceEntryComplete s
  | .quenchTrigger cause => Sys2Proof.Machine.execQuenchTrigger cause s
  | .quenchLimitExpired unsealed => Sys2Proof.Machine.execQuenchLimitExpired unsealed s
  | .quenchComplete unsealed => Sys2Proof.Machine.execQuenchComplete unsealed s
  | .restEntry => Sys2Proof.Machine.execRestEntry s
  | .restCommit => Sys2Proof.Machine.execRestCommit s
  | .calendarDue => Sys2Proof.Machine.execCalendarDue s
  | .wake source => Sys2Proof.Machine.execWake source s
  | .wakeComplete => Sys2Proof.Machine.execWakeComplete s
  | .htimerWrite n v => Sys2Proof.Machine.execHtimerWrite n v s
  | .htimerDue n => Sys2Proof.Machine.execHtimerDue n s
  | .registerWrite t => Sys2Proof.Machine.execRegisterWrite t s
  | .registerReadError off bytes => Sys2Proof.Machine.execRegisterReadError off bytes s
  | .rcRead off bytes => Sys2Proof.Machine.execRcRead off bytes s
  | .istatW1c page v together => Sys2Proof.Machine.execIstatW1c page v together s
  | .ienWrite page v => Sys2Proof.Machine.execIenWrite page v s
  | .interruptForce page v => Sys2Proof.Machine.execInterruptForce page v s
  | .errstatClear page v => Sys2Proof.Machine.execErrstatClear page v s
  | .cxlMemRead dpa tag cacheable found => Sys2Proof.Machine.execCxlMemRead dpa tag cacheable found s
  | .cxlMemWrite dpa tag data poison found => Sys2Proof.Machine.execCxlMemWrite dpa tag data poison found s
  | .memwrptl dpa tag data enables poison found => Sys2Proof.Machine.execMemwrptl dpa tag data enables poison found s
  | .dirtyWaitRelease => Sys2Proof.Machine.execDirtyWaitRelease s
  | .gpfPhase1 => Sys2Proof.Machine.execGpfPhase1 s
  | .gpfPhase2 => Sys2Proof.Machine.execGpfPhase2 s
  | .cxlLinkUp width rate flit256 lopt => Sys2Proof.Machine.execCxlLinkUp width rate flit256 lopt s
  | .cxlLinkDown => Sys2Proof.Machine.execCxlLinkDown s
  | .birsp line => Sys2Proof.Machine.execBirsp line s
  | .biTimeout line => Sys2Proof.Machine.execBiTimeout line s
  | .identify iface => Sys2Proof.Machine.execIdentify iface s
  | .identifyMemoryDevice iface => Sys2Proof.Machine.execIdentifyMemoryDevice iface s
  | .getPartitionInfo iface => Sys2Proof.Machine.execGetPartitionInfo iface s
  | .getEventRecords iface log => Sys2Proof.Machine.execGetEventRecords iface log s
  | .clearEventRecords iface log handles all => Sys2Proof.Machine.execClearEventRecords iface log handles all s
  | .getEventInterruptPolicy iface => Sys2Proof.Machine.execGetEventInterruptPolicy iface s
  | .setEventInterruptPolicy iface policy => Sys2Proof.Machine.execSetEventInterruptPolicy iface policy s
  | .getFwInfo iface => Sys2Proof.Machine.execGetFwInfo iface s
  | .transferFwFull iface slot data imageOk => Sys2Proof.Machine.execTransferFwFull iface slot data imageOk s
  | .transferFwInitiate iface slot data => Sys2Proof.Machine.execTransferFwInitiate iface slot data s
  | .transferFwContinue iface slot offset data => Sys2Proof.Machine.execTransferFwContinue iface slot offset data s
  | .transferFwEnd iface slot offset data imageOk => Sys2Proof.Machine.execTransferFwEnd iface slot offset data imageOk s
  | .transferFwAbort iface => Sys2Proof.Machine.execTransferFwAbort iface s
  | .transferFwTimeout => Sys2Proof.Machine.execTransferFwTimeout s
  | .activateFw iface online slot imageOk => Sys2Proof.Machine.execActivateFw iface online slot imageOk s
  | .getSupportedLogs iface => Sys2Proof.Machine.execGetSupportedLogs iface s
  | .getLog iface log offset length => Sys2Proof.Machine.execGetLog iface log offset length s
  | .getHealthInfo iface => Sys2Proof.Machine.execGetHealthInfo iface s
  | .getAlertConfiguration iface => Sys2Proof.Machine.execGetAlertConfiguration iface s
  | .setAlertConfiguration iface config => Sys2Proof.Machine.execSetAlertConfiguration iface config s
  | .getShutdownState iface => Sys2Proof.Machine.execGetShutdownState iface s
  | .setShutdownState iface state => Sys2Proof.Machine.execSetShutdownState iface state s
  | .getPoisonList iface dpa length => Sys2Proof.Machine.execGetPoisonList iface dpa length s
  | .injectPoison iface dpa => Sys2Proof.Machine.execInjectPoison iface dpa s
  | .clearPoison iface dpa data => Sys2Proof.Machine.execClearPoison iface dpa data s
  | .getScanMediaCapabilities iface dpa length => Sys2Proof.Machine.execGetScanMediaCapabilities iface dpa length s
  | .scanMedia iface dpa length => Sys2Proof.Machine.execScanMedia iface dpa length s
  | .getScanMediaResults iface => Sys2Proof.Machine.execGetScanMediaResults iface s
  | .sanitize iface => Sys2Proof.Machine.execSanitize iface s
  | .secureErase iface => Sys2Proof.Machine.execSecureErase iface s
  | .getLsa iface offset length => Sys2Proof.Machine.execGetLsa iface offset length s
  | .setLsa iface offset data => Sys2Proof.Machine.execSetLsa iface offset data s
  | .getTimestamp iface => Sys2Proof.Machine.execGetTimestamp iface s
  | .setTimestamp iface time => Sys2Proof.Machine.execSetTimestamp iface time s
  | .unsupportedOpcode iface opcode => Sys2Proof.Machine.execUnsupportedOpcode iface opcode s
  | .getOwnCommandSetVersion iface => Sys2Proof.Machine.execGetOwnCommandSetVersion iface s
  | .getLatencyRecord iface clear => Sys2Proof.Machine.execGetLatencyRecord iface clear s
  | .discardRange iface dpa length => Sys2Proof.Machine.execDiscardRange iface dpa length s
  | .discardRangeComplete => Sys2Proof.Machine.execDiscardRangeComplete s
  | .getHankWindows iface strand => Sys2Proof.Machine.execGetHankWindows iface strand s
  | .getPersistenceState iface => Sys2Proof.Machine.execGetPersistenceState iface s
  | .loadKeySlot iface key slot flags => Sys2Proof.Machine.execLoadKeySlot iface key slot flags s
  | .bindRange iface range slot flags => Sys2Proof.Machine.execBindRange iface range slot flags s
  | .rekeyRange iface range slot flags => Sys2Proof.Machine.execRekeyRange iface range slot flags s
  | .rekeyStepComplete => Sys2Proof.Machine.execRekeyStepComplete s
  | .lineFillComplete slice line found => Sys2Proof.Machine.execLineFillComplete slice line found s
  | .missEntryFreed slice => Sys2Proof.Machine.execMissEntryFreed slice s
  | .victimWriteComplete slice line => Sys2Proof.Machine.execVictimWriteComplete slice line s
  | .tagCheckComplete line ok => Sys2Proof.Machine.execTagCheckComplete line ok s
  | .rgnattrWrite v => Sys2Proof.Machine.execRgnattrWrite v s
  | .rgnattrChangeComplete region => Sys2Proof.Machine.execRgnattrChangeComplete region s
  | .prefetchHint v => Sys2Proof.Machine.execPrefetchHint v s
  | .lfsrWrite slice v => Sys2Proof.Machine.execLfsrWrite slice v s
  | .ncchDisable => Sys2Proof.Machine.execNcchDisable s
  | .ncchEnable => Sys2Proof.Machine.execNcchEnable s
  | .sliceDrained slice => Sys2Proof.Machine.execSliceDrained slice s
  | .dramRefreshDue chan bank hot => Sys2Proof.Machine.execDramRefreshDue chan bank hot s
  | .actWindowReset chan => Sys2Proof.Machine.execActWindowReset chan s
  | .burstWindowEnd chan sub => Sys2Proof.Machine.execBurstWindowEnd chan sub s
  | .drmcShareWrite chan v => Sys2Proof.Machine.execDrmcShareWrite chan v s
  | .hostDestage unit => Sys2Proof.Machine.execHostDestage unit s
  | .pageProgramComplete id ok => Sys2Proof.Machine.execPageProgramComplete id ok s
  | .eraseComplete die block ok => Sys2Proof.Machine.execEraseComplete die block ok s
  | .anneal band => Sys2Proof.Machine.execAnneal band s
  | .gcStart band => Sys2Proof.Machine.execGcStart band s
  | .moveComplete src dst => Sys2Proof.Machine.execMoveComplete src dst s
  | .mapLineRebuilt coarse line lost => Sys2Proof.Machine.execMapLineRebuilt coarse line lost s
  | .hdrcfgWrite v => Sys2Proof.Machine.execHdrcfgWrite v s
  | .checkpointDue => Sys2Proof.Machine.execCheckpointDue s
  | .checkpointComplete ok => Sys2Proof.Machine.execCheckpointComplete ok s
  | .dieStatusPoll die status => Sys2Proof.Machine.execDieStatusPoll die status s
  | .rbNRise chan => Sys2Proof.Machine.execRbNRise chan s
  | .dieCommandTimeout die => Sys2Proof.Machine.execDieCommandTimeout die s
  | .suspendEffective die => Sys2Proof.Machine.execSuspendEffective die s
  | .arrayReadComplete die => Sys2Proof.Machine.execArrayReadComplete die s
  | .codewordTransferComplete chan => Sys2Proof.Machine.execCodewordTransferComplete chan s
  | .decodeComplete read die d => Sys2Proof.Machine.execDecodeComplete read die d s
  | .softDecodeComplete read die d => Sys2Proof.Machine.execSoftDecodeComplete read die d s
  | .rebuildComplete read ok => Sys2Proof.Machine.execRebuildComplete read ok s
  | .planishRead block d => Sys2Proof.Machine.execPlanishRead block d s
  | .planishDeadlineMissed block => Sys2Proof.Machine.execPlanishDeadlineMissed block s
  | .retirementPhaseComplete cluster => Sys2Proof.Machine.execRetirementPhaseComplete cluster s
  | .retrainDue chan temp => Sys2Proof.Machine.execRetrainDue chan temp s
  | .retrainStepComplete chan ok last => Sys2Proof.Machine.execRetrainStepComplete chan ok last s
  | .mediaCoreWatchdog core => Sys2Proof.Machine.execMediaCoreWatchdog core s
  | .seqCoreWatchdog core => Sys2Proof.Machine.execSeqCoreWatchdog core s
  | .mainWatchdog => Sys2Proof.Machine.execMainWatchdog s
  | .ilknLinkupStep rx peer => Sys2Proof.Machine.execIlknLinkupStep rx peer s
  | .ilknLinkupTimeout => Sys2Proof.Machine.execIlknLinkupTimeout s
  | .ilknRestartDelay => Sys2Proof.Machine.execIlknRestartDelay s
  | .ilknAlignmentLoss lane => Sys2Proof.Machine.execIlknAlignmentLoss lane s
  | .flowControlWord first bits => Sys2Proof.Machine.execFlowControlWord first bits s
  | .dataSegment seg => Sys2Proof.Machine.execDataSegment seg s
  | .version seg => Sys2Proof.Machine.execVersion seg s
  | .versionFrameTimer => Sys2Proof.Machine.execVersionFrameTimer s
  | .tod seg => Sys2Proof.Machine.execTod seg s
  | .arm frame => Sys2Proof.Machine.execArm frame s
  | .stop frame => Sys2Proof.Machine.execStop frame s
  | .trig seg => Sys2Proof.Machine.execTrig seg s
  | .unknownControlFrame seg => Sys2Proof.Machine.execUnknownControlFrame seg s
  | .alloc adopt => Sys2Proof.Machine.execAlloc adopt s
  | .allocAdoptComplete => Sys2Proof.Machine.execAllocAdoptComplete s
  | .config => Sys2Proof.Machine.execConfig s
  | .strandArm => Sys2Proof.Machine.execStrandArm s
  | .strandStop => Sys2Proof.Machine.execStrandStop s
  | .trigger => Sys2Proof.Machine.execTrigger s
  | .timedtrig => Sys2Proof.Machine.execTimedtrig s
  | .droprem => Sys2Proof.Machine.execDroprem s
  | .rewind => Sys2Proof.Machine.execRewind s
  | .release => Sys2Proof.Machine.execRelease s
  | .releaseComplete => Sys2Proof.Machine.execReleaseComplete s
  | .strdUnknownOp op => Sys2Proof.Machine.execStrdUnknownOp op s
  | .armTimeReached strand => Sys2Proof.Machine.execArmTimeReached strand s
  | .timedTriggerDue => Sys2Proof.Machine.execTimedTriggerDue s
  | .filterWrite v => Sys2Proof.Machine.execFilterWrite v s
  | .triggerLogPop => Sys2Proof.Machine.execTriggerLogPop s
  | .sealIntervalExpired pipe => Sys2Proof.Machine.execSealIntervalExpired pipe s
  | .indexRebuildComplete unit => Sys2Proof.Machine.execIndexRebuildComplete unit s
  | .trigInEdge frac => Sys2Proof.Machine.execTrigInEdge frac s
  | .trigOutRise => Sys2Proof.Machine.execTrigOutRise s
  | .trigOutPulseEnd => Sys2Proof.Machine.execTrigOutPulseEnd s
  | .bind => Sys2Proof.Machine.execBind s
  | .replayConfig => Sys2Proof.Machine.execReplayConfig s
  | .preload => Sys2Proof.Machine.execPreload s
  | .start => Sys2Proof.Machine.execStart s
  | .replayStop => Sys2Proof.Machine.execReplayStop s
  | .unbind => Sys2Proof.Machine.execUnbind s
  | .rpleUnknownOp op => Sys2Proof.Machine.execRpleUnknownOp op s
  | .replayPageRead slot page => Sys2Proof.Machine.execReplayPageRead slot page s
  | .replayPageBuffered slot page ok => Sys2Proof.Machine.execReplayPageBuffered slot page ok s
  | .recordDue slot => Sys2Proof.Machine.execRecordDue slot s
  | .gapMarkerEnd slot => Sys2Proof.Machine.execGapMarkerEnd slot s
  | .segmentSent slot => Sys2Proof.Machine.execSegmentSent slot s
  | .timeSeek => Sys2Proof.Machine.execTimeSeek s
  | .recordCount => Sys2Proof.Machine.execRecordCount s
  | .qryeUnknownOp op => Sys2Proof.Machine.execQryeUnknownOp op s
  | .queryComplete skipped => Sys2Proof.Machine.execQueryComplete skipped s
  | .pageReencryptComplete page => Sys2Proof.Machine.execPageReencryptComplete page s
  | .rangeDefWrite size v => Sys2Proof.Machine.execRangeDefWrite size v s
  | .thermalFrame raw temps => Sys2Proof.Machine.execThermalFrame raw temps s
  | .xoffDutyPeriod hold => Sys2Proof.Machine.execXoffDutyPeriod hold s
  | .clockChangeComplete => Sys2Proof.Machine.execClockChangeComplete s
  | .thrmExclWrite v => Sys2Proof.Machine.execThrmExclWrite v s
  | .thrmThreshWrite v => Sys2Proof.Machine.execThrmThreshWrite v s
  | .pcapWrite v => Sys2Proof.Machine.execPcapWrite v s
  | .thermalSave => Sys2Proof.Machine.execThermalSave s
  | .recorderTick => Sys2Proof.Machine.execRecorderTick s
  | .recorder10msTick => Sys2Proof.Machine.execRecorder10msTick s
  | .longLogFlushDue => Sys2Proof.Machine.execLongLogFlushDue s
  | .criticalCopyTimer => Sys2Proof.Machine.execCriticalCopyTimer s
  | .cursorPlace who group v => Sys2Proof.Machine.execCursorPlace who group v s
  | .cursorAdvance who group v => Sys2Proof.Machine.execCursorAdvance who group v s
  | .windowFillComplete group => Sys2Proof.Machine.execWindowFillComplete group s
  | .newrecTimeout => Sys2Proof.Machine.execNewrecTimeout s
  | .recorderSave => Sys2Proof.Machine.execRecorderSave s
  | .rateClassWrite v => Sys2Proof.Machine.execRateClassWrite v s
  | .pstoRead v => Sys2Proof.Machine.execPstoRead v s
  | .pstoWrite v => Sys2Proof.Machine.execPstoWrite v s
  | .pstoInvalidOp v => Sys2Proof.Machine.execPstoInvalidOp v s
  | .protectionWrite v => Sys2Proof.Machine.execProtectionWrite v s
  | .recordDeferExpired typ => Sys2Proof.Machine.execRecordDeferExpired typ s
  | .getVersion conn msg => Sys2Proof.Machine.execGetVersion conn msg s
  | .getCapabilities conn msg => Sys2Proof.Machine.execGetCapabilities conn msg s
  | .negotiateAlgorithms conn msg => Sys2Proof.Machine.execNegotiateAlgorithms conn msg s
  | .getDigests conn msg => Sys2Proof.Machine.execGetDigests conn msg s
  | .getCertificate conn msg => Sys2Proof.Machine.execGetCertificate conn msg s
  | .challenge conn msg => Sys2Proof.Machine.execChallenge conn msg s
  | .getMeasurements conn msg => Sys2Proof.Machine.execGetMeasurements conn msg s
  | .getPqCert conn msg => Sys2Proof.Machine.execGetPqCert conn msg s
  | .getPqSig conn msg => Sys2Proof.Machine.execGetPqSig conn msg s
  | .chunkSend conn msg => Sys2Proof.Machine.execChunkSend conn msg s
  | .chunkGet conn msg => Sys2Proof.Machine.execChunkGet conn msg s
  | .respondIfReady conn msg => Sys2Proof.Machine.execRespondIfReady conn msg s
  | .sidebandRead off count => Sys2Proof.Machine.execSidebandRead off count s
  | .sidebandWrite off vals => Sys2Proof.Machine.execSidebandWrite off vals s
  | .ppsEdge frac => Sys2Proof.Machine.execPpsEdge frac s
  | .discWrite v => Sys2Proof.Machine.execDiscWrite v s
  | .coreReloadComplete core ok => Sys2Proof.Machine.execCoreReloadComplete core ok s
  | .storePageWriteComplete => Sys2Proof.Machine.execStorePageWriteComplete s
  | .recallComplete => Sys2Proof.Machine.execRecallComplete s
  | .healthConfirm => Sys2Proof.Machine.execHealthConfirm s
  | .trialTimerExpired => Sys2Proof.Machine.execTrialTimerExpired s
  | .timeSet => Sys2Proof.Machine.execTimeSet s
  | .timeloRead => Sys2Proof.Machine.execTimeloRead s
  | .ppsMissedSecond => Sys2Proof.Machine.execPpsMissedSecond s
  | .atppsSetTimeout => Sys2Proof.Machine.execAtppsSetTimeout s
  | .belayMinHoldExpired => Sys2Proof.Machine.execBelayMinHoldExpired s

end Sys2Proof.Machine
end

