-- ==== Sys2Proof/Machine/Pins.lean ====
section
/-!
DEFINITION. The levels that the controller drives on its balls (22_pins_and_package.md R827 to R833), as functions of the state. Nothing is
driven while VAON is out of range.
-/
namespace Sys2Proof.Machine

/-- ENn is driven high: its rail is enabled (R832). -/
def State.enHigh (s : State) (n : Nat) : Bool := s.pseq.vaon && s.pseq.seq.enables.testBit n

/-- The controller pulls BELAY low (15_power_supervision.md R658). -/
def State.belayPulled (s : State) : Bool := s.pseq.vaon && s.pseq.seq.holding

/-- The controller pulls PFW_N low (15_power_supervision.md R646, R647). -/
def State.pfwPulled (s : State) : Bool := s.pseq.vaon && s.pseq.pfwDriven

/-- ALERT_N is low while cursor group 1 has a record of severity WARNING or above after its window (R833). -/
def State.alertLow (s : State) : Bool :=
  let c := s.cursor 1
  let (l, base) := s.source c.source
  s.pseq.vaon && (l.drop (c.pos + c.win.length - base)).any fun r => decide (3 ≤ r.sev)

/-- TRIG_OUT is high (20_cohort_and_time.md R801). -/
def State.trigOutHigh (s : State) : Bool := s.pseq.vaon && s.coht.outHigh

/-! ### The stream link's transmit lanes (11_ingest_port.md R455, R458) -/

/-- The transmitters send: the link may be up or training, and the shutdown table has not begun (R455). -/
def State.ilknSends (s : State) : Bool :=
  s.pseq.vaon && !s.pseq.seq.down &&
  (s.sysc.mode = .memory || s.sysc.mode = .stream || s.sysc.mode = .rest || s.sysc.mode = .safe || (s.sysc.mode = .quench && s.ilkn.up))

/-- The lane-status bit in the diagnostic words of a transmit lane: the health of the receive lane of its number, in the bundle's group or not;
`none` where the lane sends nothing (R457, R458). -/
def State.laneStatus (s : State) (lane : Nat) : Option Bool :=
  if s.ilknSends && decide (lane < s.fuse.part.lanes) then some (s.ilkn.rxok.testBit lane) else none

/-! ### The balls of a DRAM channel (R826 to R828) -/

/-- The DQS pair that strobes a nibble of 06_dram_tier.md R252: its own with x4 devices, that of the even nibble with x8 (R826, R827). -/
def Drmc.strobe (d : Drmc) (nibble : Nat) : Nat := if d.x8 then nibble / 2 * 2 else nibble

/-- A DQS pair is unused and held at the DDR5 idle level: the odd ones with x8 devices (R827). -/
def Drmc.strobeIdle (d : Drmc) (pair : Nat) : Bool := d.x8 && decide (pair % 2 = 1)

/-- What a CA ball carries (R828). -/
inductive CaUse where
  /-- DCA of this number, to the registering clock driver. -/
  | dca (i : Nat)
  /-- DPAR. -/
  | dpar
  /-- Driven low. -/
  | low
  /-- CA of this number, to the devices. -/
  | ca (i : Nat)
deriving DecidableEq, Repr

/-- What CA0 to CA13 carry: on RDIMM forms DCA0 to DCA6, DPAR, and CA8 to CA13 low; soldered-down, CA (R828). -/
def Drmc.caUse (d : Drmc) (i : Nat) : CaUse := if d.form = 2 then .ca i else if i < 7 then .dca i else if i = 7 then .dpar else .low

/-- The clock and the chip selects of DIMM 0 or 1 of a channel (R828). -/
def dimmPins (dimm : Nat) : Nat × List Nat := if dimm = 0 then (0, [0, 1]) else (1, [2, 3])

/-- The clock and the chip selects that reach a rank: soldered-down, CK0 and CS_N of its number; on RDIMM forms, those of its DIMM, the ranks of
a channel being divided evenly between its DIMMs in order (R828). -/
def Drmc.rankPins (d : Drmc) (rank : Nat) : Nat × List Nat :=
  if d.form = 2 then (0, [rank])
  else if d.form = 1 then dimmPins (rank / max 1 (2 ^ d.ranks / 2))
  else dimmPins 0

end Sys2Proof.Machine
end

