-- ==== Sys2Proof/WellFormed.lean ====
section
/-!
DEFINITION. Which commands are well formed: every number an operand gives a unit, an interface or an address lies in the range
that spec/ gives it on the largest part.
-/
namespace Sys2Proof

/-- The target of a register write is well formed: its offsets lie in BAR0 or BAR2, and it names one of the 8 decoders or 64 vectors. -/
def RegTarget.wf : RegTarget → Bool
  | .bar0 off _ _ _ => decide (off < 67108864)
  | .slots off _ => decide (off < 67108864)
  | .cycle l => l.all fun x => decide (x.1 < 67108864)
  | .decoder i _ _ _ _ _ => decide (i < 8)
  | .undecoder i => decide (i < 8)
  | .msixMask vector _ => decide (vector < 64)
  | .bar2 off _ _ => decide (off < 1048576)
  | .linkStates _ _ => true

/-- A command is well formed. -/
def Instr.wf : Instr → Bool
  | .vaonRise _ _ => true
  | .vaonFall _ => true
  | .adcSlot code => decide (code < 4096)
  | .vinPowerGood => true
  | .pfwNAssert => true
  | .belayRise => true
  | .belayTimeout => true
  | .seqEntryDelayExpired => true
  | .seqWaitTimeout => true
  | .retryOffExpired => true
  | .faultHoldExpired => true
  | .restartTimerExpired => true
  | .supervisorSave => true
  | .thresholdWrite _ _ => true
  | .tableEntryWrite _ => true
  | .seqcfgWrite _ => true
  | .pfwcfgWrite _ => true
  | .holdupMeasureRequest => true
  | .holdupMeasureDue => true
  | .holdupcfgWrite _ => true
  | .dirtycfgWrite _ => true
  | .startStepComplete _ => true
  | .startStepTimeout => true
  | .perstNAssert => true
  | .perstNDeassert => true
  | .warmResetRequest => true
  | .coldResetRequest => true
  | .warmEntryComplete => true
  | .warmEntryTimeout => true
  | .modereqService => true
  | .modereqMemory => true
  | .modereqStream => true
  | .modereqSafe => true
  | .modereqInvalid _ => true
  | .serviceEntryComplete => true
  | .quenchTrigger _ => true
  | .quenchLimitExpired _ => true
  | .quenchComplete _ => true
  | .restEntry => true
  | .restCommit => true
  | .calendarDue => true
  | .wake _ => true
  | .wakeComplete => true
  | .htimerWrite n _ => decide (n < 8)
  | .htimerDue n => decide (n < 8)
  | .registerWrite r => r.wf
  | .registerReadError off _ => decide (off < 68161536)
  | .rcRead off _ => decide (off < 67108864)
  | .istatW1c page _ _ => decide (page < 4096)
  | .ienWrite page _ => decide (page < 4096)
  | .interruptForce page _ => decide (page < 4096)
  | .errstatClear page _ => decide (page < 4096)
  | .cxlMemRead dpa _ _ _ => decide (dpa < 281474976710656)
  | .cxlMemWrite dpa _ _ _ _ => decide (dpa < 281474976710656)
  | .memwrptl dpa _ _ _ _ _ => decide (dpa < 281474976710656)
  | .dirtyWaitRelease => true
  | .gpfPhase1 => true
  | .gpfPhase2 => true
  | .cxlLinkUp _ _ _ _ => true
  | .cxlLinkDown => true
  | .birsp line => decide (line < 4398046511104)
  | .biTimeout line => decide (line < 4398046511104)
  | .identify iface => decide ((1 ≤ iface ∧ iface ≤ 2))
  | .identifyMemoryDevice iface => decide ((1 ≤ iface ∧ iface ≤ 2))
  | .getPartitionInfo iface => decide ((1 ≤ iface ∧ iface ≤ 2))
  | .getEventRecords iface _ => decide ((1 ≤ iface ∧ iface ≤ 2))
  | .clearEventRecords iface _ _ _ => decide ((1 ≤ iface ∧ iface ≤ 2))
  | .getEventInterruptPolicy iface => decide ((1 ≤ iface ∧ iface ≤ 2))
  | .setEventInterruptPolicy iface _ => decide ((1 ≤ iface ∧ iface ≤ 2))
  | .getFwInfo iface => decide ((1 ≤ iface ∧ iface ≤ 2))
  | .transferFwFull iface slot _ _ => decide ((1 ≤ iface ∧ iface ≤ 2) ∧ slot ≤ 3)
  | .transferFwInitiate iface slot _ => decide ((1 ≤ iface ∧ iface ≤ 2) ∧ slot ≤ 3)
  | .transferFwContinue iface _ _ _ => decide ((1 ≤ iface ∧ iface ≤ 2))
  | .transferFwEnd iface _ _ _ _ => decide ((1 ≤ iface ∧ iface ≤ 2))
  | .transferFwAbort iface => decide ((1 ≤ iface ∧ iface ≤ 2))
  | .transferFwTimeout => true
  | .activateFw iface _ _ _ => decide ((1 ≤ iface ∧ iface ≤ 2))
  | .getSupportedLogs iface => decide ((1 ≤ iface ∧ iface ≤ 2))
  | .getLog iface _ _ _ => decide ((1 ≤ iface ∧ iface ≤ 2))
  | .getHealthInfo iface => decide ((1 ≤ iface ∧ iface ≤ 2))
  | .getAlertConfiguration iface => decide ((1 ≤ iface ∧ iface ≤ 2))
  | .setAlertConfiguration iface _ => decide ((1 ≤ iface ∧ iface ≤ 2))
  | .getShutdownState iface => decide ((1 ≤ iface ∧ iface ≤ 2))
  | .setShutdownState iface _ => decide ((1 ≤ iface ∧ iface ≤ 2))
  | .getPoisonList iface dpa _ => decide ((1 ≤ iface ∧ iface ≤ 2) ∧ dpa < 281474976710656)
  | .injectPoison iface dpa => decide ((1 ≤ iface ∧ iface ≤ 2) ∧ dpa < 281474976710656)
  | .clearPoison iface dpa _ => decide ((1 ≤ iface ∧ iface ≤ 2) ∧ dpa < 281474976710656)
  | .getScanMediaCapabilities iface dpa _ => decide ((1 ≤ iface ∧ iface ≤ 2) ∧ dpa < 281474976710656)
  | .scanMedia iface dpa _ => decide ((1 ≤ iface ∧ iface ≤ 2) ∧ dpa < 281474976710656)
  | .getScanMediaResults iface => decide ((1 ≤ iface ∧ iface ≤ 2))
  | .sanitize iface => decide ((1 ≤ iface ∧ iface ≤ 2))
  | .secureErase iface => decide ((1 ≤ iface ∧ iface ≤ 2))
  | .getLsa iface _ _ => decide ((1 ≤ iface ∧ iface ≤ 2))
  | .setLsa iface _ _ => decide ((1 ≤ iface ∧ iface ≤ 2))
  | .getTimestamp iface => decide ((1 ≤ iface ∧ iface ≤ 2))
  | .setTimestamp iface _ => decide ((1 ≤ iface ∧ iface ≤ 2))
  | .unsupportedOpcode iface _ => decide ((1 ≤ iface ∧ iface ≤ 2))
  | .getOwnCommandSetVersion iface => decide ((1 ≤ iface ∧ iface ≤ 2))
  | .getLatencyRecord iface _ => decide ((1 ≤ iface ∧ iface ≤ 2))
  | .discardRange iface dpa _ => decide ((1 ≤ iface ∧ iface ≤ 2) ∧ dpa < 281474976710656)
  | .discardRangeComplete => true
  | .getHankWindows iface strand => decide ((1 ≤ iface ∧ iface ≤ 2) ∧ strand < 262144)
  | .getPersistenceState iface => decide ((1 ≤ iface ∧ iface ≤ 2))
  | .loadKeySlot iface _ _ _ => decide ((1 ≤ iface ∧ iface ≤ 2))
  | .bindRange iface _ _ _ => decide ((1 ≤ iface ∧ iface ≤ 2))
  | .rekeyRange iface _ _ _ => decide ((1 ≤ iface ∧ iface ≤ 2))
  | .rekeyStepComplete => true
  | .lineFillComplete slice line _ => decide (slice < 16 ∧ line < 4398046511104)
  | .missEntryFreed slice => decide (slice < 16)
  | .victimWriteComplete slice line => decide (slice < 16 ∧ line < 4398046511104)
  | .tagCheckComplete line _ => decide (line < 4398046511104)
  | .rgnattrWrite _ => true
  | .rgnattrChangeComplete _ => true
  | .prefetchHint _ => true
  | .lfsrWrite slice _ => decide (slice < 16)
  | .ncchDisable => true
  | .ncchEnable => true
  | .sliceDrained slice => decide (slice < 16)
  | .dramRefreshDue chan _ _ => decide (chan < 48)
  | .actWindowReset chan => decide (chan < 48)
  | .burstWindowEnd chan _ => decide (chan < 48)
  | .drmcShareWrite chan _ => decide (chan < 48)
  | .hostDestage _ => true
  | .pageProgramComplete _ _ => true
  | .eraseComplete die _ _ => decide (die < 768)
  | .anneal _ => true
  | .gcStart _ => true
  | .moveComplete _ _ => true
  | .mapLineRebuilt _ _ _ => true
  | .hdrcfgWrite _ => true
  | .checkpointDue => true
  | .checkpointComplete _ => true
  | .dieStatusPoll die _ => decide (die < 768)
  | .rbNRise chan => decide (chan < 48)
  | .dieCommandTimeout die => decide (die < 768)
  | .suspendEffective die => decide (die < 768)
  | .arrayReadComplete die => decide (die < 768)
  | .codewordTransferComplete chan => decide (chan < 48)
  | .decodeComplete _ die _ => decide (die < 768)
  | .softDecodeComplete _ die _ => decide (die < 768)
  | .rebuildComplete _ _ => true
  | .planishRead _ _ => true
  | .planishDeadlineMissed _ => true
  | .retirementPhaseComplete cluster => decide (cluster < 6)
  | .retrainDue chan _ => decide (chan < 48)
  | .retrainStepComplete chan _ _ => decide (chan < 48)
  | .mediaCoreWatchdog core => decide (core < 10)
  | .seqCoreWatchdog core => decide (core < 10)
  | .mainWatchdog => true
  | .ilknLinkupStep _ _ => true
  | .ilknLinkupTimeout => true
  | .ilknRestartDelay => true
  | .ilknAlignmentLoss lane => decide (lane < 16)
  | .flowControlWord _ _ => true
  | .dataSegment _ => true
  | .version _ => true
  | .versionFrameTimer => true
  | .tod _ => true
  | .arm _ => true
  | .stop _ => true
  | .trig _ => true
  | .unknownControlFrame _ => true
  | .alloc _ => true
  | .allocAdoptComplete => true
  | .config => true
  | .strandArm => true
  | .strandStop => true
  | .trigger => true
  | .timedtrig => true
  | .droprem => true
  | .rewind => true
  | .release => true
  | .releaseComplete => true
  | .strdUnknownOp _ => true
  | .armTimeReached strand => decide (strand < 262144)
  | .timedTriggerDue => true
  | .filterWrite _ => true
  | .triggerLogPop => true
  | .sealIntervalExpired pipe => decide (pipe < 4)
  | .indexRebuildComplete _ => true
  | .trigInEdge _ => true
  | .trigOutRise => true
  | .trigOutPulseEnd => true
  | .bind => true
  | .replayConfig => true
  | .preload => true
  | .start => true
  | .replayStop => true
  | .unbind => true
  | .rpleUnknownOp _ => true
  | .replayPageRead slot _ => decide (slot < 64)
  | .replayPageBuffered slot _ _ => decide (slot < 64)
  | .recordDue slot => decide (slot < 64)
  | .gapMarkerEnd slot => decide (slot < 64)
  | .segmentSent slot => decide (slot < 64)
  | .timeSeek => true
  | .recordCount => true
  | .qryeUnknownOp _ => true
  | .queryComplete _ => true
  | .pageReencryptComplete _ => true
  | .rangeDefWrite _ _ => true
  | .thermalFrame _ _ => true
  | .xoffDutyPeriod _ => true
  | .clockChangeComplete => true
  | .thrmExclWrite _ => true
  | .thrmThreshWrite _ => true
  | .pcapWrite _ => true
  | .thermalSave => true
  | .recorderTick => true
  | .recorder10msTick => true
  | .longLogFlushDue => true
  | .criticalCopyTimer => true
  | .cursorPlace who group _ => decide (who < 3 ∧ group < 3)
  | .cursorAdvance who group _ => decide (who < 3 ∧ group < 3)
  | .windowFillComplete group => decide (group < 3)
  | .newrecTimeout => true
  | .recorderSave => true
  | .rateClassWrite _ => true
  | .pstoRead _ => true
  | .pstoWrite _ => true
  | .pstoInvalidOp _ => true
  | .protectionWrite _ => true
  | .recordDeferExpired typ => decide ((1 ≤ typ ∧ typ ≤ 11))
  | .getVersion conn _ => decide (conn < 2)
  | .getCapabilities conn _ => decide (conn < 2)
  | .negotiateAlgorithms conn _ => decide (conn < 2)
  | .getDigests conn _ => decide (conn < 2)
  | .getCertificate conn _ => decide (conn < 2)
  | .challenge conn _ => decide (conn < 2)
  | .getMeasurements conn _ => decide (conn < 2)
  | .getPqCert conn _ => decide (conn < 2)
  | .getPqSig conn _ => decide (conn < 2)
  | .chunkSend conn _ => decide (conn < 2)
  | .chunkGet conn _ => decide (conn < 2)
  | .respondIfReady conn _ => decide (conn < 2)
  | .sidebandRead off _ => decide (off < 67108864)
  | .sidebandWrite off _ => decide (off < 67108864)
  | .ppsEdge _ => true
  | .discWrite _ => true
  | .coreReloadComplete core _ => decide (core < 10)
  | .storePageWriteComplete => true
  | .recallComplete => true
  | .healthConfirm => true
  | .trialTimerExpired => true
  | .timeSet => true
  | .timeloRead => true
  | .ppsMissedSecond => true
  | .atppsSetTimeout => true
  | .belayMinHoldExpired => true

end Sys2Proof
end

