-- ==== Sys2Proof/Safety.lean ====
section
/-!
DEFINITION. The terms that the statements use: what a command answers, what it leaves alone, and what counts as a safe state.
-/
namespace Sys2Proof.Machine

/-- The command answers a next state, and `p` holds of it. -/
def answers (c : Instr) (s : State) (p : State → Prop) : Prop := ∃ t, exec c s = .next t ∧ p t

/-- The state `s` with what reporting changes taken from `t`: the block headers and HALL's generation, the recorder's stores and counts (not
its settings), the Parameter Store's queue and record management (not its contents or its raw command), pending MSI-X messages, and the
trace of what was sent. `t = s.reported t` says that nothing else differs. -/
def State.reported (s t : State) : State :=
  { s with
    hall := t.hall
    cxlp := { s.cxlp with msixPend := t.cxlp.msixPend }
    evtr := { t.evtr with
      ctrl := s.evtr.ctrl, save := s.evtr.save, inccfg := s.evtr.inccfg, imod := s.evtr.imod, rcsel := s.evtr.rcsel
      rates := s.evtr.rates, rcmap := s.evtr.rcmap }
    psto := { s.psto with recs := t.psto.recs, running := t.psto.running, queue := t.psto.queue, waiting := t.psto.waiting }
    raised := t.raised
    out := t.out }

/-- Between commands no event record is left without its sequence: the records of a command are numbered, and stored or counted, before
it ends (17_event_recorder.md R701, R715). -/
abbrev State.settled (s : State) : Prop := s.raised = []

/-- A block serves its registers: STAT.READY is 1 (03_registers_and_hallmark.md R867). -/
abbrev State.on (s : State) (b : Block) : Prop := (s.hdr b).ready = true

/-- Requests of the host are performed as they arrive: the controller neither rests nor enters REST, and is not in the hold in which the
sideband is the only management path (02_modes_and_starts.md R73, R74, R99). -/
abbrev State.awake (s : State) : Prop := s.sysc.mode ≠ .rest ∧ s.rest.entering = none ∧ s.boot.recoveryHold = false

/-- A request of the host for a block's registers is performed as it arrives. -/
abbrev State.up (s : State) (b : Block) : Prop := s.on b ∧ s.awake

/-- A request of the host for a register of SYSC is performed as it arrives. -/
abbrev State.syscUp (s : State) : Prop := s.syscServed = true ∧ s.awake

/-- The commands that are a request of the host or the sideband for a register, the mailbox or an attestation message: in REST they wait for
the wake that they start (02_modes_and_starts.md R73; log 38). -/
def wakes : Instr → Bool
  | .registerWrite _ | .registerReadError _ _ | .rcRead _ _ | .istatW1c _ _ _ | .ienWrite _ _ | .interruptForce _ _ | .errstatClear _ _
  | .sidebandRead _ _ | .sidebandWrite _ _ | .healthConfirm | .timeSet | .timeloRead | .discWrite _ | .drmcShareWrite _ _
  | .cursorPlace _ _ _ | .cursorAdvance _ _ _ | .recorderSave | .rateClassWrite _ | .rgnattrWrite _ | .prefetchHint _ | .lfsrWrite _ _
  | .ncchDisable | .ncchEnable | .hdrcfgWrite _ | .supervisorSave | .thresholdWrite _ _ | .tableEntryWrite _ | .seqcfgWrite _
  | .pfwcfgWrite _ | .holdupMeasureRequest | .holdupcfgWrite _ | .dirtycfgWrite _ | .rangeDefWrite _ _ | .timeSeek | .recordCount
  | .qryeUnknownOp _ | .bind | .replayConfig | .preload | .start | .replayStop | .unbind | .rpleUnknownOp _ | .htimerWrite _ _
  | .pstoRead _ | .pstoWrite _ | .pstoInvalidOp _ | .protectionWrite _ | .alloc _ | .config | .strandArm | .strandStop | .trigger
  | .timedtrig | .droprem | .triggerLogPop | .filterWrite _ | .rewind | .release | .strdUnknownOp _ | .thrmExclWrite _
  | .thrmThreshWrite _ | .pcapWrite _ | .thermalSave | .getVersion _ _ | .getCapabilities _ _ | .negotiateAlgorithms _ _ | .getDigests _ _
  | .getCertificate _ _ | .challenge _ _ | .getMeasurements _ _ | .getPqCert _ _ | .getPqSig _ _ | .chunkSend _ _ | .chunkGet _ _
  | .respondIfReady _ _ => true
  | c => (mbHead c).isSome

/-- A unit is in service, so that its causes are set and its errors set ISTAT.ERR (03_registers_and_hallmark.md R114). -/
abbrev State.inService (s : State) (b : Block) : Prop := (s.hdr b).outsvc = false

/-- A read of CXL.mem. -/
abbrev readReq (dpa tag : Nat) (cacheable : Bool) : MemReq := { MemReq.reset with dpa := dpa % 2 ^ 48, tag := tag, cacheable := cacheable }

/-- A write of CXL.mem with its byte enables. -/
abbrev writeReq (dpa tag : Nat) (data : BitVec 512) (en : BitVec 64) (poison : Bool) : MemReq :=
  { MemReq.reset with dpa := dpa % 2 ^ 48, tag := tag, write := some (data, en), poison := poison }

/-- A request as it is received: with the time, and its place in the order of arrival. -/
abbrev State.received (s : State) (r : MemReq) : MemReq := { r with since := s.now, ord := s.cxlp.arrivals }

/-- A register or prefetch request of the host reaches the near cache's slices as it arrives. -/
abbrev State.ncchUp (s : State) : Prop := s.ncchReady = true ∧ s.awake

/-- The machine goes on: the step answers a next state. -/
def goesOn (s : State) : Prop := ∃ t, step s = .next t

/-- The code captured in ERRSTAT of a block that held none: VALID, the code and the locator, with ISTAT.ERR
(03_registers_and_hallmark.md R118). -/
def captured (t : State) (b : Block) (code addr : Nat) : Prop :=
  (t.hdr b).evalid = true ∧ (t.hdr b).ecode = code ∧ (t.hdr b).eaddr = addr ∧ (t.hdr b).istat.testBit 0 = true

/-- A cause bit of a block is set (03_registers_and_hallmark.md R114). -/
def hasCause (t : State) (b : Block) (bit : Nat) : Prop := (t.hdr b).istat.testBit bit = true

/-- The mailbox takes a command on an interface as it arrives: it is served there, no firmware command waits for the image record, and no
rest stands in the way: over CXL.io not an entry to REST either, which such a request cancels (04_host_port.md R185; 02_modes_and_starts.md
R73, R74). -/
abbrev State.mbFree (s : State) (iface : Nat) (fw : Bool) : Prop :=
  s.mbReady iface fw = true ∧ s.boot.holder = none ∧ s.sysc.mode ≠ .rest ∧ (iface = 1 → s.rest.entering = none)

/-- The command of an interface has been answered: the answer is sent, none is in progress, it is counted, and the cause is set
(04_host_port.md R185). -/
def mbAnswered (s t : State) (iface code : Nat) (payload : List Nat) : Prop :=
  Out.mailbox iface code payload ∈ t.out ∧ t.mbox.exec = none ∧ t.mbox.done = wrapInc 40 s.mbox.done ∧ hasCause t .mbox 1

/-- A control frame with this COP passes every check of the port, and no framing error came with it (11_ingest_port.md R473, R481). -/
abbrev State.hears (s : State) (g : Segment) (cop : Nat) : Prop :=
  s.ilkn.up = true ∧ 2 ≤ g.words.length ∧ g.typ = 1 ∧ g.cop = cop ∧ g.crc24 = 0 ∧ g.crc32 = 0 ∧ s.failedCheck g = none

/-- A data segment passes the checks that do not concern its strand, and no framing error came with it (11_ingest_port.md R473). -/
abbrev State.takesData (s : State) (g : Segment) : Prop :=
  s.ilkn.up = true ∧ 2 ≤ g.words.length ∧ g.typ = 0 ∧ g.crc24 = 0 ∧ g.crc32 = 0 ∧ s.failedCheck g = none

/-- A strand command is taken: STRD is served, no command is in progress, the mode is one of these and SEL names a strand
(12_capture.md R541). -/
abbrev State.strdTakes (s : State) (modes : List Mode) (n : Nat) : Prop :=
  s.up .strd ∧ s.strd.go = false ∧ s.sysc.mode ∈ modes ∧ n = fld s.strd.sel 0 18 ∧ n < s.strandCount

/-- A strand command has completed: RESULT 0, GO 0, CMDDONE (12_capture.md R542). -/
abbrev strdOk (t : State) (op : Nat) : Prop := t.strd.result = 0 ∧ t.strd.go = false ∧ t.strd.op = op ∧ hasCause t .strd 1

/-- A strand may be armed for a time, 0 for at once (12_capture.md R525, R534). -/
abbrev State.canArm (s : State) (n time : Nat) : Prop :=
  ((s.strand n).st = .idle ∨ (s.strand n).st = .done) ∧ s.replayBound n = false ∧ s.strd.adopting ≠ some n ∧ (s.strand n).releasing = none ∧
  ((s.strand n).mode = 1 → (s.strand n).wpunit < (s.strand n).hsize) ∧
  ((s.strand n).mode = 2 → (s.strand n).pre + 1 + (s.strand n).post ≤ s.unkept (s.strand n)) ∧
  s.hankLocked (s.strand n).hbase (s.strand n).hsize = false ∧ (time ≠ 0 → s.coht.running = true ∧ s.timedUsed < 4096)

/-- The strand after an arm for a time: ARMED, or SCHEDULED, with nothing open and any SEQ expected (12_capture.md R487, R525). -/
abbrev Strand.armedFor (x : Strand) (time : Nat) : Prop :=
  x.st = (if time = 0 then .armed else .scheduled) ∧ x.armAt = (if time = 0 then none else some time) ∧ x.seqany = true ∧
  x.opened = false ∧ x.discard = false ∧ x.trigWait = false ∧ x.postLeft = 0

/-- A replay command is taken on a slot: RPLE is served, the mode is one of these and SEL names the slot (13_replay_and_query.md R550). -/
abbrev State.rpleTakes (s : State) (modes : List Mode) (k : Nat) : Prop :=
  s.up .rple ∧ s.sysc.mode ∈ modes ∧ k = fld s.rple.sel 0 6

/-- A replay command has completed on a slot (13_replay_and_query.md R583). -/
abbrev rpleOk (t : State) (k op : Nat) : Prop :=
  (t.slot k).result = 0 ∧ (t.slot k).go = false ∧ (t.slot k).op = op ∧ hasCause t .rple 1

end Sys2Proof.Machine
end

