-- ==== Sys2Proof/Certificates/Slice0/Obligations.lean ====
section
/-!
DEFINITION. The statements about the controller: what each command does when it does its own work, what reset leaves, and what every step
keeps. Each command has a clause that says in which states it answers a next state with its effect.
-/
section
open Sys2Proof Sys2Proof.Machine

/-- On an empty queue the block advances one nanosecond (01_architecture.md).
The model's choice (log 2): with no command waiting, a step is one tick of the model's clock of one nanosecond, and it never stops. -/
def Obligations.IdleStep : Prop :=
  ∀ (s : State), s.pending = [] → step s = .next s.tick ∧ s.tick.aon.uptime = s.aon.uptime + 1 ∧ s.tick.pending = []

/-- A step runs the command at the front of the queue (00_scope.md).
The model's choice of interface: the command at the front leaves the queue and its meaning acts on the state with the queue's rest. -/
def Obligations.StepRunsFront : Prop :=
  ∀ (s : State) (c : Instr), step { s with pending := c :: s.pending } = exec c s

/-- No command stops the machine (00_scope.md).
Every command, whatever its operands and in every state, answers a next state (log 10 says which commands then change nothing), and so
does every step. -/
def Obligations.CommandsGoOn : Prop :=
  (∀ (c : Instr) (s : State), answers c s fun _ => True) ∧ (∀ (s : State), goesOn s)

/-- No event record is left without its sequence (17_event_recorder.md R701, 17_event_recorder.md R715).
From every state, a command leaves no raised record behind: each has been given its sequence, and stored, shed or suppressed, before the
command ends; a step on an empty queue keeps this. -/
def Obligations.RecordsNumbered : Prop :=
  (∀ (c : Instr) (s t : State), exec c s = .next t → t.settled) ∧ (∀ (s t : State), s.settled → step s = .next t → t.settled)

/-- No command changes the part, its grade and stepping, the straps, or the commands that wait (00_scope.md R1, 00_scope.md R4).
The fused identity and the queue belong to no command: a step takes its command off the front and changes nothing else of either. -/
def Obligations.FusesAndQueueKept : Prop :=
  (∀ (c : Instr) (s t : State), exec c s = .next t → t.pending = s.pending ∧ t.fuse.part = s.fuse.part ∧ t.fuse.grade = s.fuse.grade ∧
    t.fuse.stepping = s.fuse.stepping ∧ t.fuse.svcStrap = s.fuse.svcStrap) ∧
  (∀ (s t : State), step s = .next t → t.pending = s.pending.tail ∧ t.fuse.part = s.fuse.part)

/-- The machine before its supply rises (02_modes_and_starts.md, 03_registers_and_hallmark.md R867, 17_event_recorder.md R701).
The model's reset (log 3): no supply, DORMANT, no block ready, nothing raised or sent, an empty queue and empty tables; the values that
spec/ gives no reset for are those of log 5. -/
def Obligations.ResetState : Prop :=
  State.reset.sysc.mode = .dormant ∧ State.reset.pseq.vaon = false ∧ State.reset.pending = [] ∧ State.reset.out = [] ∧ State.reset.settled ∧
    (∀ b : Block, (State.reset.hdr b).ready = false ∧ (State.reset.hdr b).istat = 0 ∧ (State.reset.hdr b).evalid = false) ∧
    State.reset.pers.limit = 0 ∧ State.reset.cxlp.up = false ∧ State.reset.ilkn.up = false ∧ State.reset.boot.xfer.active = false

/-- The always-on supply rises and falls (15_power_supervision.md R655, 18_parameter_store.md R724, 20_cohort_and_time.md R786).
At the rise the always-on domain starts anew and the recall runs (the long log, the media and the boot flash stay); when the recall ends
the supervisor waits in DORMANT; at the fall nothing is kept but the non-volatile contents. -/
def Obligations.SupplyRiseAndFall : Prop :=
  (∀ (s : State) (vsel : Nat) (low : Bool), s.settled → s.pseq.vaon = false →
    answers (.vaonRise vsel low) s fun t => t.pseq = { Pseq.reset with vaon := true } ∧ t.psto.recalling = some .vaonRise ∧
      t.sysc.mode = .dormant ∧ t.coht = .reset ∧ t.hall.hdrs = [] ∧ t.aon.vsel = vsel % 16 ∧ t.aon.uptime = s.aon.uptime ∧
      t.evtr.log = s.evtr.log ∧ t.media = s.media ∧ t.boot.flash = s.boot.flash) ∧
  (∀ (s : State) (k : Option Nat), s.pseq.vaon = true →
    answers (.vaonFall k) s fun t => t.pseq = .reset ∧ t.sysc = .reset ∧ t.coht = .reset ∧ t.cxlp.up = false ∧ t.strd = .reset ∧
      t.aon.failcnt = 0 ∧ t.aon.warmrec.valid = false ∧ t.boot.img = .reset) ∧
  (∀ (s : State), s.psto.recalling = some .vaonRise →
    answers .recallComplete s fun t => t.psto.recalling = none ∧ (t.pseq.seq.phase = .dormHolding ∨ t.pseq.seq.phase = .dormReleased)) ∧
  (∀ (s : State), s.psto.recalling = some .startStep → s.settled →
    answers .recallComplete s fun t => t = { s with psto := { s.psto with recalling := none }.pump })

/-- The power supervisor's settings are stored, or refused with their code (15_power_supervision.md R645, 15_power_supervision.md R650,
15_power_supervision.md R655, 15_power_supervision.md R656, 10_persistence.md R420).
Thresholds out of order are code 0x41, any setting while a sequence runs is code 0x40; each write otherwise changes its own register. The
value held where a table treats one value as another is the model's reading (log 35). -/
def Obligations.SupervisorSettings : Prop :=
  (∀ (s : State) (upper : Bool) (v : Word) (i : Nat) (x : SnsIn), s.settled → s.up .pseq → s.pseq.sequencing = false → i = min 27 (fld s.pseq.sel 0 5) →
    x = s.pseq.input i → thresholdsOk (if upper then x.uvth else keep v 0xFFFFFF) (if upper then keep v 0xFFFFFF else x.ovth) = true →
    answers (.thresholdWrite upper v) s fun t => t = { s with pseq := s.pseq.modInput i fun x =>
      if upper then { x with ovth := keep v 0xFFFFFF } else { x with uvth := keep v 0xFFFFFF } }) ∧
  (∀ (s : State) (upper : Bool) (v : Word) (i : Nat) (x : SnsIn), s.up .pseq → s.pseq.sequencing = false → i = min 27 (fld s.pseq.sel 0 5) →
    x = s.pseq.input i → thresholdsOk (if upper then x.uvth else keep v 0xFFFFFF) (if upper then keep v 0xFFFFFF else x.ovth) = false →
    (s.hdr .pseq).evalid = false →
    answers (.thresholdWrite upper v) s fun t => captured t .pseq 0x41 i ∧ t.pseq = s.pseq) ∧
  (∀ (s : State) (v : Word), s.settled → s.up .pseq → s.pseq.sequencing = false →
    (answers (.tableEntryWrite v) s fun t => t = if wbit s.pseq.tsel 0
      then { s with pseq := { s.pseq with downTable := tput 0 s.pseq.downTable (fld s.pseq.tsel 1 5) v } }
      else { s with pseq := { s.pseq with upTable := tput 0 s.pseq.upTable (fld s.pseq.tsel 1 5) v } }) ∧
    answers (.seqcfgWrite v) s fun t => t = { s with pseq := { s.pseq with seqcfg := heldSeqcfg v } }) ∧
  (∀ (s : State) (upper : Bool) (v : Word) (c : Instr), s.up .pseq → s.pseq.sequencing = true → (s.hdr .pseq).evalid = false →
    c = .thresholdWrite upper v ∨ c = .tableEntryWrite v ∨ c = .seqcfgWrite v →
    answers c s fun t => captured t .pseq 0x40 0 ∧ t.pseq = s.pseq) ∧
  (∀ (s : State) (v : Word), s.up .pseq → answers (.pfwcfgWrite v) s fun t => t.pseq = { s.pseq with pfwcfg := heldPfwcfg v }) ∧
  (∀ (s : State), s.up .pseq → answers .supervisorSave s fun t => t.pseq = { s.pseq with save := true })

/-- The hold-up bank's settings and its measurement (10_persistence.md R416, 10_persistence.md R422, 10_persistence.md R450,
15_power_supervision.md R672).
A target voltage not above the floor is refused with code 0x48; a measurement begins on a charged bank and is deferred by 10 s on another. -/
def Obligations.HoldupSettings : Prop :=
  (∀ (s : State) (v : Word), s.syscUp → fld v 0 13 ≤ fld v 13 13 → (s.hdr .sysc).evalid = false →
    answers (.holdupcfgWrite v) s fun t => captured t .sysc 0x48 0 ∧ t.pers = s.pers) ∧
  (∀ (s : State) (v : Word), s.syscUp → fld v 13 13 < fld v 0 13 → fld v 26 9 ≠ 0 →
    answers (.holdupcfgWrite v) s fun t => t.pers.holdupcfg = keep v 0x7FFFFFFFF) ∧
  (∀ (s : State) (v : Word), s.syscUp →
    answers (.dirtycfgWrite v) s fun t => t.pers.dirtycfg = BitVec.ofNat 40 (clampN 1 512 (fld v 0 10))) ∧
  (∀ (s : State), s.syscUp → s.pseq.cap.running = false → fld s.pseq.capcfg 9 13 ≠ 0 →
    s.bankAt (s.pseq.input 1).code (max 1 (fld s.pseq.capcfg 29 8) * 10) = true →
    answers .holdupMeasureRequest s fun t => t.pseq.cap.running = true ∧ t.pseq.cap.requested = true ∧ t.pseq.cap.count = 0 ∧
      t.pseq.seq.enables.testBit (fld s.pseq.capcfg 0 4) = (fld s.pseq.capcfg 4 5 ≠ fld s.pseq.capcfg 0 4 : Bool)) ∧
  (∀ (s : State), s.pseq.cap.due.isSome = true → s.sysc.mode ≠ .dormant → s.sysc.mode ≠ .quench → s.pseq.cap.running = false →
    fld s.pseq.capcfg 9 13 ≠ 0 →
    answers .holdupMeasureDue s fun t =>
      if s.bankAt (s.pseq.input 1).code (max 1 (fld s.pseq.capcfg 29 8) * 10) then t.pseq.cap.running = true ∧ t.pseq.cap.due = none
      else t.pseq.cap.outcome = 2 ∧ t.pseq.cap.due = some (s.now + 10 * 10 ^ 9))

/-- The ADC's slots (15_power_supervision.md R639, 15_power_supervision.md R640, 15_power_supervision.md R642, 15_power_supervision.md R643).
The converter goes round its 45 slots; a calibration code within 8 of its value clears the count of misses; a rail that is sampled with no
sequence running in DORMANT takes its code and its conditions and starts nothing. -/
def Obligations.Sampling : Prop :=
  (∀ (s : State) (code : Nat), s.pseq.vaon = true → s.psto.recalling ≠ some .vaonRise → s.pseq.slot < 45 → adcTarget s.pseq.slot = 28 → code ≤ 8 →
    answers (.adcSlot code) s fun t => t.pseq.slot = (s.pseq.slot + 1) % 45 ∧ t.pseq.calMiss = 0 ∧ t.pseq.inputs = s.pseq.inputs) ∧
  (∀ (s : State) (code i : Nat), s.pseq.vaon = true → s.psto.recalling ≠ some .vaonRise → code < 4096 → i = adcTarget s.pseq.slot →
    2 ≤ i → i < 28 → s.pseq.kind i ≠ .monitor → s.sysc.mode = .dormant → s.pseq.sequencing = false →
    answers (.adcSlot code) s fun t => t.pseq.slot = (s.pseq.slot + 1) % 45 ∧ t.pseq.input i = (s.pseq.input i).sample code false ∧
      t.sysc = s.sysc)

/-- The table sequencer and BELAY go on (15_power_supervision.md R652, 15_power_supervision.md R658, 15_power_supervision.md R659,
15_power_supervision.md R661, 15_power_supervision.md R664, 15_power_supervision.md R665, 15_power_supervision.md R668).
BELAY rising releases the next step of a joint table; an entry's delay sets its enable and waits; a failed attempt turns its enable off
for the retry's off time; the hold after an abort ends in DORMANT. -/
def Obligations.SequencerSteps : Prop :=
  (∀ (s : State), s.settled → s.pseq.vaon = true → s.pseq.joined = true → s.pseq.seq.holding = false →
    s.pseq.seq.phase = .powerUp ∨ s.pseq.seq.phase = .shutJoint → s.pseq.seq.step < 31 →
    answers .belayRise s fun t => t.pseq.seq.step = s.pseq.seq.step + 1 ∧ t.pseq.seq.line = false ∧ t.pseq.seq.holding = true ∧
      t.pseq.seq.phase = s.pseq.seq.phase ∧ t.sysc = s.sysc) ∧
  (∀ (s : State), s.settled → s.pseq.vaon = true → s.pseq.seq.holding = false → s.pseq.sequencing = false → s.pseq.seq.restart = .armed →
    s.sysc.mode = .dormant →
    answers .belayRise s fun t => t = { s with pseq := { s.pseq with seq := { s.pseq.seq with line := true, restart := .running } } }) ∧
  (∀ (s : State), s.pseq.joined = true → s.pseq.seq.phase = .powerUp →
    answers .belayTimeout s fun t => t.pseq.seq.fault = s.pseq.faultWord 5 0 ∧ t.pseq.seq.phase ≠ .powerUp) ∧
  (∀ (s : State) (i : Nat), s.settled → s.pseq.seq.phase = .powerUp → s.pseq.seq.entryState = .delay →
    (s.pseq.entry false s.pseq.seq.entry).wait = some i → (s.pseq.input i).pg = false →
    answers .seqEntryDelayExpired s fun t => t = { s with pseq := { s.pseq with seq := { s.pseq.seq with
      enables := s.pseq.seq.enables ||| 2 ^ (s.pseq.entry false s.pseq.seq.entry).en, entryState := .waiting } } }) ∧
  (∀ (s : State) (k : Nat), s.settled → s.pseq.seq.phase = .powerUp → s.pseq.seq.entryState = .waiting → k = s.pseq.seq.entry →
    tget 0 s.pseq.seq.retries k < 2 →
    answers .seqWaitTimeout s fun t => t.pseq.seq.entryState = .offTime ∧ tget 0 t.pseq.seq.retries k = tget 0 s.pseq.seq.retries k + 1 ∧
      t.pseq.seq.enables = clrBits s.pseq.seq.enables (2 ^ (s.pseq.entry false k).en) ∧ t.sysc = s.sysc) ∧
  (∀ (s : State), s.settled → s.pseq.seq.phase = .powerUp → s.pseq.seq.entryState = .offTime →
    answers .retryOffExpired s fun t => t = { s with pseq := { s.pseq with seq := { s.pseq.seq with entryState := .delay } } }) ∧
  (∀ (s : State), s.pseq.seq.phase = .faultHold →
    answers .faultHoldExpired s fun t => t.sysc.mode = .dormant ∧ t.pseq.seq.phase = .dormReleased ∧ t.pseq.seq.enables = 0 ∧
      t.pseq.seq.intact = false) ∧
  (∀ (s : State), s.settled → s.pseq.joined = true → s.pseq.seq.phase = .powerUp ∨ s.pseq.seq.phase = .shutJoint →
    answers .belayMinHoldExpired s fun t => t = { s with pseq := { s.pseq with seq := { s.pseq.seq with
      minHold := true, holding := s.pseq.seq.holding && s.pseq.seq.entryState ≠ .stepDone } } })

/-- What begins a start (02_modes_and_starts.md R55, 15_power_supervision.md R661, 15_power_supervision.md R668).
VIN power-good, or the restart timer with VIN still good, begins a cold start out of DORMANT at C1, unless the test strap is low. -/
def Obligations.StartsBegin : Prop :=
  ∀ (s : State) (c : Instr), s.sysc.mode = .dormant → s.aon.testLow = false →
    (c = .vinPowerGood ∧ s.pseq.sequencing = false ∧ s.pseq.seq.vinGood = true) ∨
      (c = .restartTimerExpired ∧ s.pseq.seq.restart = .running ∧ (s.pseq.input 0).pg = true) →
    answers c s fun t => t.sysc.mode = .starting ∧ t.sysc.start.running = true ∧ t.sysc.start.cur = 1 ∧ t.sysc.warm = false ∧
      t.sysc.start.since = s.now ∧ t.sysc.start.boundService = (decide (5 ≤ s.aon.failcnt) || s.fuse.svcStrap)

/-- The steps of a start end, fail or time out (02_modes_and_starts.md R80, 02_modes_and_starts.md R83, 02_modes_and_starts.md R94,
02_modes_and_starts.md R95, 02_modes_and_starts.md R81).
A step that completes is followed by the next; one that fails or takes too long counts a failure and begins a cold start anew; C9 ends in
MEMORY with memory served and the count cleared. -/
def Obligations.StartStepsEnd : Prop :=
  (∀ (s : State) (r : StepRep), s.settled → s.sysc.mode = .starting → s.sysc.start.running = true → s.pseq.seq.phase = .complete → s.sysc.start.cur = 1 →
    answers (.startStepComplete r) s fun t => t.sysc.step = 1 ∧ t.sysc.start.cur = 2 ∧ t.psto.recalling.isSome = true ∧ t.sysc.mode = .starting) ∧
  (∀ (s : State) (r : StepRep), s.settled → s.sysc.mode = .starting → s.sysc.start.running = true → s.pseq.seq.down = false → s.sysc.start.cur = 2 →
    r.fail = false → s.psto.recalling = none →
    answers (.startStepComplete r) s fun t => t = { s with sysc := { s.sysc with step := 2, start := { s.sysc.start with cur := 3, since := s.now } } }) ∧
  (∀ (s : State) (r : StepRep), s.sysc.mode = .starting → s.sysc.start.running = true → s.pseq.seq.down = false → s.sysc.start.cur = 8 →
    r.fail = false → s.sysc.warm = false →
    answers (.startStepComplete r) s fun t => t.sysc.step = 8 ∧ t.sysc.start.cur = 9) ∧
  (∀ (s : State) (r : StepRep), s.sysc.mode = .starting → s.sysc.start.running = true → s.pseq.seq.down = false → s.sysc.start.cur = 9 →
    r.fail = false → s.cxlp.up = true → s.sysc.perst = false → s.sysc.start.boundService = false → s.sysc.start.safeFound = false →
    answers (.startStepComplete r) s fun t => t.sysc.mode = .memory ∧ t.sysc.step = 9 ∧ t.sysc.start.running = false ∧ t.cxlp.memen = true ∧
      t.aon.failcnt = 0 ∧ t.media.session = .opened) ∧
  (∀ (s : State) (r : StepRep) (c : Instr), s.sysc.mode = .starting → s.sysc.start.running = true → s.pseq.seq.down = false →
    2 ≤ s.sysc.start.cur → (c = .startStepComplete r ∧ r.fail = true) ∨ (c = .startStepTimeout ∧ ¬(s.sysc.start.cur = 9 ∧ s.sysc.perst = true) ∧ s.stepOverdue = true) →
    answers c s fun t => t.aon.failcnt = satInc 8 s.aon.failcnt ∧ t.sysc.mode = .starting ∧ t.sysc.start.running = true ∧
      t.sysc.start.cur = 1 ∧ t.sysc.start.failed = true ∧ t.sysc.warm = false)

/-- Reset requests and PERST_N (02_modes_and_starts.md R57, 02_modes_and_starts.md R60, 02_modes_and_starts.md R64, 02_modes_and_starts.md
R85, 02_modes_and_starts.md R86, 02_modes_and_starts.md R87, 02_modes_and_starts.md R88).
A warm request begins warm entry with admission stopped; a cold one, or a warm entry that takes too long, begins the shutdown table; in
REST either waits for the wake; warm entry ends in a start. -/
def Obligations.ResetRequests : Prop :=
  (∀ (s : State) (c : Instr), s.sysc.mode = .service ∨ s.sysc.mode = .memory ∨ s.sysc.mode = .stream ∨ s.sysc.mode = .safe → s.sysc.trans = none →
    (c = .warmResetRequest ∧ s.syscServed = true) ∨ c = .perstNAssert →
    answers c s fun t => t.sysc.trans = some .warmEntry ∧ t.sysc.transSince = s.now ∧ t.sysc.mode = s.sysc.mode ∧ t.rest.entering = none ∧
      t.cxlp.stopped = true) ∧
  (∀ (s : State), s.sysc.mode = .service ∨ s.sysc.mode = .memory ∨ s.sysc.mode = .stream ∨ s.sysc.mode = .safe → s.sysc.trans = none →
    s.syscServed = true → (s.pseq.startDown false .coldStart).2 = false →
    answers .coldResetRequest s fun t => t.sysc.trans = some .coldEntry ∧ t.pseq = (s.pseq.startDown false .coldStart).1 ∧ t.ilkn.up = false) ∧
  (∀ (s : State), s.settled → s.sysc.mode = .rest → s.syscServed = true →
    (answers .warmResetRequest s fun t => t = { s with sysc := { s.sysc with resetWait := some .warm }, rest := { s.rest with waking := true } }) ∧
    answers .coldResetRequest s fun t => t = { s with sysc := { s.sysc with resetWait := some .cold }, rest := { s.rest with waking := true } }) ∧
  (∀ (s : State), answers .perstNAssert s fun t => t.sysc.perst = true) ∧
  (∀ (s : State), s.settled → s.sysc.mode = .starting → 4 ≤ s.sysc.step →
    answers .perstNDeassert s fun t => t.sysc.perst = false ∧ t.cxlp.training = true ∧ t.sysc.mode = .starting) ∧
  (∀ (s : State), s.sysc.trans = some .warmEntry →
    (answers .warmEntryComplete s fun t => t.sysc.mode = .starting ∧ t.sysc.start.running = true ∧ t.sysc.trans = none) ∧
    ((s.pseq.startDown false .coldStart).2 = false → s.sysc.transSince + 5 * 10 ^ 8 ≤ s.now →
      answers .warmEntryTimeout s fun t => t.sysc.trans = some .coldEntry ∧ t.pseq = (s.pseq.startDown false .coldStart).1))

/-- Mode requests are performed, refused or found busy (02_modes_and_starts.md R55, 02_modes_and_starts.md R57, 02_modes_and_starts.md R62).
STREAM and MEMORY change into each other, the latter only with no strand armed; SAFE is entered from both; SERVICE begins its entry, whose
end closes memory, or fails while the drain leaves lines dirty; any other target is invalid; a request during a transition is busy. -/
def Obligations.ModeRequests : Prop :=
  (∀ (s : State), s.syscServed = true → s.sysc.mode = .memory → s.sysc.trans = none → s.rest.entering = none →
    (answers .modereqStream s fun t => t.sysc.mode = .stream ∧ t.sysc.prev = .memory ∧ t.sysc.reqResult = 0 ∧ t.sysc.reqGo = false ∧
      hasCause t .sysc 1) ∧
    (s.settled → answers .modereqService s fun t => t = { s with sysc := { s.sysc with
      reqTarget := 2, reqGo := true, trans := some .toService, transSince := s.now } })) ∧
  (∀ (s : State), s.syscServed = true → s.sysc.mode = .stream → s.sysc.trans = none → s.rest.entering = none →
    answers .modereqMemory s fun t => if s.noneArmed then t.sysc.mode = .memory ∧ t.sysc.reqResult = 0
      else t.sysc.mode = .stream ∧ t.sysc.reqResult = 3) ∧
  (∀ (s : State), s.syscServed = true → s.sysc.mode = .memory ∨ s.sysc.mode = .stream → s.sysc.trans = none → s.rest.entering = none →
    answers .modereqSafe s fun t => t.sysc.mode = .safe ∧ t.sysc.reqResult = 0 ∧ hasCause t .sysc 1) ∧
  (∀ (s : State) (n : Nat), s.syscServed = true → s.sysc.mode = .memory ∨ s.sysc.mode = .stream → n % 8 ∉ [2, 3, 4, 7] → s.sysc.trans = none →
    s.rest.entering = none → answers (.modereqInvalid n) s fun t => t.sysc.mode = s.sysc.mode ∧ t.sysc.reqResult = 2 ∧ t.sysc.reqTarget = n % 8) ∧
  (∀ (s : State) (c : Instr), c = .modereqService ∨ c = .modereqMemory ∨ c = .modereqStream ∨ c = .modereqSafe → s.syscServed = true →
    s.sysc.mode = .memory ∨ s.sysc.mode = .stream → s.sysc.trans.isSome = true →
    answers c s fun t => t.sysc.mode = s.sysc.mode ∧ t.sysc.reqResult = 1 ∧ t.sysc.trans = s.sysc.trans) ∧
  (∀ (s u : State), s.sysc.trans = some .toService → s.sysc.mode = .memory → s.sysc.resetWait = none →
    u = (s.completeHost (some State.destageAll)).destageAll.zeroDone →
    answers .serviceEntryComplete s fun t => if u.dirtyLines = [] ∧ u.cxlp.dirtyWait = []
      then t.sysc.mode = .service ∧ t.sysc.reqResult = 0 ∧ t.cxlp.memen = false ∧ t.ilkn.up = false
      else t.sysc.mode = .memory ∧ t.sysc.reqResult = 4 ∧ t.sysc.trans = none)

/-- QUENCH begins and ends (02_modes_and_starts.md, 15_power_supervision.md, 10_persistence.md).
A failing supply enters QUENCH from every working mode, and from a start whose C4 is complete: admission stops, strands and replay slots
stop, the open marker is written. Before C4 is complete the start ends and the shutdown table runs; in DORMANT and in QUENCH nothing
begins. The drain's end leaves no dirty line outside the quench reserve and closes the main ring, and writes the final record and runs the
shutdown table unless that table runs already; the limit runs the table at once. -/
def Obligations.QuenchBeginsAndEnds : Prop :=
  (∀ (s : State) (c : Instr) (k : QuenchCause), c = .quenchTrigger k ∨ (c = .pfwNAssert ∧ k = .pfw ∧ s.pseq.vaon = true) →
    s.sysc.mode = .service ∨ s.sysc.mode = .memory ∨ s.sysc.mode = .stream ∨ s.sysc.mode = .safe ∨ s.sysc.mode = .rest ∨
      (s.sysc.mode = .starting ∧ 4 ≤ s.sysc.step) →
    answers c s fun t => t.sysc.mode = .quench ∧ t.sysc.prev = s.sysc.mode ∧ t.pers.quench = some s.now ∧ t.sysc.resetWait = none ∧
      t.sysc.start.running = (if s.sysc.mode = .starting then false else s.sysc.start.running) ∧ t.rest.entering = none ∧ t.rest.waking = false ∧
      t.cxlp.stopped = true ∧ (∀ n, (t.strand n).live = false) ∧ (∀ k, (t.slot k).st ≠ .waiting ∧ (t.slot k).st ≠ .running) ∧ (t.media.reserve.any fun p => p.marker = 1) = true ∧
      t.pseq.seq.thermalStop = decide (k = .thermal) ∧ t.pseq.pfwLow = (s.pseq.pfwLow || decide (c = .pfwNAssert))) ∧
  (∀ (s : State) (k : QuenchCause), s.sysc.mode = .starting → s.sysc.step < 4 → s.sysc.start.running = true →
    (s.pseq.seq.down = true → answers (.quenchTrigger k) s fun t => t.sysc.mode = .starting ∧ t.sysc.start.running = false ∧
      t.pseq.seq.afterShut = .dormant) ∧
    (s.pseq.seq.down = false → (s.pseq.startDown (decide (s.pseq.seq.phase = .powerUp)) .dormant).2 = false →
      answers (.quenchTrigger k) s fun t => t.sysc.mode = .starting ∧ t.sysc.start.running = false ∧
        t.pseq.seq.phase = (if s.pseq.seq.phase = .powerUp then .shutDetached else .shutJoint) ∧ t.pseq.seq.afterShut = .dormant)) ∧
  (∀ (s : State), s.settled → s.pseq.vaon = true → s.sysc.mode = .dormant →
    answers .pfwNAssert s fun t => t = { s with pseq := { s.pseq with pfwLow := true } }) ∧
  (∀ (s : State) (k : QuenchCause), s.settled → s.sysc.mode = .dormant ∨ (s.sysc.mode = .quench ∧ k ≠ .vin) →
    answers (.quenchTrigger k) s fun t => t = s) ∧
  (∀ (s : State) (l : List Nat), s.sysc.mode = .quench → s.pers.quench.isSome = true → s.rest.io = [] →
    (s.pseq.seq.down = true →
      answers (.quenchComplete l) s fun t => t.pers.quench = none ∧ t.sysc.mode = .quench ∧ t.evtr.mainRun = false ∧
        (t.tier.lines.all fun e => !e.2.dirty) = true ∧ t.aon.unsealed = l.foldl withNew s.aon.unsealed ∧ t.media.session = s.media.session) ∧
    (s.pseq.seq.down = false → (s.pseq.startDown false .dormant).2 = false →
      (answers (.quenchComplete l) s fun t => t.pers.quench = none ∧ t.pseq = (s.pseq.startDown false .dormant).1 ∧ t.evtr.mainRun = false ∧
        (t.tier.lines.all fun e => !e.2.dirty) = true ∧ t.media.session = .quenched ∧
        (t.media.reserve.any fun p => p.marker = 2 && p.unsealed = l.foldl withNew s.aon.unsealed) = true) ∧
      answers (.quenchLimitExpired l) s fun t => t.pseq = (s.pseq.startDown false .dormant).1 ∧ t.pers.quench = s.pers.quench ∧
        t.aon.unsealed = l.foldl withNew s.aon.unsealed))

/-- REST is entered and left (02_modes_and_starts.md R67, 02_modes_and_starts.md R68, 02_modes_and_starts.md R73, 02_modes_and_starts.md R74,
02_modes_and_starts.md R78).
The idle controller enters its deepest eligible level at the commit point, wakes on a request, a reset, the calendar or power, and returns
to the mode it left; the host timers are armed, cancelled and raise their causes. -/
def Obligations.RestGovernor : Prop :=
  (∀ (s : State) (l : Level), s.settled → s.sysc.mode = .memory ∨ s.sysc.mode = .stream → s.rest.entering = none → s.idle = true →
    fld s.rest.policy 0 16 ≠ 0 → [Level.slumber, .nap, .doze].find? s.eligible = some l →
    answers .restEntry s fun t => t.rest.entering = some l ∧ t.sysc = s.sysc) ∧
  (∀ (s : State) (l : Level), s.sysc.mode = .memory ∨ s.sysc.mode = .stream → s.sysc.trans = none → s.rest.entering = some l →
    (s.clus.dies.any fun e => e.2.array.isSome || e.2.paused.isSome) = false →
    answers .restCommit s fun t => t.sysc.mode = .rest ∧ t.sysc.level = l ∧ t.sysc.ret = some s.sysc.mode ∧ t.rest.entering = none ∧
      hasCause t .sysc 1) ∧
  (∀ (s : State), s.settled → s.sysc.mode = .rest → s.rest.entering = none →
    (∀ d, s.nextEvent = some d → answers .calendarDue s fun t => t =
      { s.reachCohort (s.wakeAt d) with rest := { (s.reachCohort (s.wakeAt d)).rest with waking := true } }) ∧
    ∀ w : WakeSource, w ≠ .pfw → answers (.wake w) s fun t => t = { s with rest := { s.rest with waking := true } }) ∧
  (∀ (s : State) (m : Mode), s.sysc.mode = .rest → s.rest.waking = true → s.sysc.ret = some m → m = .memory ∨ m = .stream → s.sysc.reqGo = false →
    s.sysc.resetWait = none → s.rest.io = [] →
    answers .wakeComplete s fun t => t.sysc.mode = m ∧ t.sysc.prev = .rest ∧ t.rest.waking = false ∧ hasCause t .rest 9) ∧
  (∀ (s : State) (n : Nat) (v : Word), s.settled → s.up .rest → n < 8 →
    answers (.htimerWrite n v) s fun t => t = { s with rest := { s.rest with
      timers := tput none s.rest.timers n (if fld v 0 32 = 0 then none else some (s.cohort + 4000 * fld v 0 32)) } }) ∧
  (∀ (s : State) (n : Nat), n < 8 → (tget none s.rest.timers n).isSome = true →
    answers (.htimerDue n) s fun t => t.rest.timers = tput none s.rest.timers n none ∧ hasCause t .rest (1 + n))

/-- ISTAT, IEN, interrupt forcing and ERRSTAT of a block (03_registers_and_hallmark.md R114, 03_registers_and_hallmark.md R115,
03_registers_and_hallmark.md R116, 03_registers_and_hallmark.md R117, 03_registers_and_hallmark.md R118).
A 1 written to ISTAT clears its bit unless the cause falls in the same cycle, which no cause of a retired block does; IEN stores its
enables and forces bits; a write that leaves an enabled bit set sends the vector's message; ERRSTAT clears on a 1 in VALID; a page that
holds no block captures code 0x03 in HALL. EVTR's own header may change again as records are stored, so it is left out. -/
def Obligations.HeaderWrites : Prop :=
  (∀ (s : State) (page together : Nat) (v : Word) (b : Block), blockAt s.fuse.part page = some b → b.page ≠ 5 → s.awake →
    (answers (.istatW1c page v together) s fun t =>
      (t.hdr b).istat = (if (s.hdr b).outsvc then clrBits (s.hdr b).istat (fld v 0 20)
        else clrBits ((s.hdr b).istat ||| together % 2 ^ 20) (clrBits (fld v 0 20) together)) ∧ (t.hdr b).ien = (s.hdr b).ien ∧
      (t.hdr b).ecode = (s.hdr b).ecode ∧ (t.hdr b).evalid = (s.hdr b).evalid) ∧
    (answers (.ienWrite page v) s fun t => (t.hdr b).ien = fld v 0 20 ∧ (t.hdr b).istat = (s.hdr b).istat ||| fld v 20 20 ∧
      (t.hdr b).evalid = (s.hdr b).evalid) ∧
    (answers (.interruptForce page v) s fun t => (t.hdr b).ien = fld v 0 20 ∧ (t.hdr b).istat = (s.hdr b).istat ||| fld v 20 20) ∧
    answers (.errstatClear page v) s fun t => (t.hdr b).istat = (s.hdr b).istat ∧
      if wbit v 8 then (t.hdr b).evalid = false ∧ (t.hdr b).emulti = false ∧ (t.hdr b).ecode = 0 ∧ (t.hdr b).eaddr = 0
      else t.hdr b = s.hdr b) ∧
  (∀ (s : State) (page : Nat) (v : Word) (b : Block), blockAt s.fuse.part page = some b → b ∈ s.blocks → b.vec ∉ s.cxlp.msixMask → s.awake →
    ((s.hdr b).istat ||| fld v 20 20) &&& fld v 0 20 ≠ 0 →
    answers (.interruptForce page v) s fun t => .msix b.vec ∈ t.out) ∧
  (∀ (s : State) (page : Nat) (v : Word) (c : Instr), blockAt s.fuse.part page = none → page < 1024 → (s.hdr .hall).evalid = false → s.awake →
    (c = .istatW1c page v 0 → answers c s fun t => captured t .hall 0x03 (page * 512 + 5)) ∧
    (c = .ienWrite page v ∨ c = .interruptForce page v → answers c s fun t => captured t .hall 0x03 (page * 512 + 6)) ∧
    (c = .errstatClear page v → answers c s fun t => captured t .hall 0x03 (page * 512 + 7)))

/-- Register reads and writes of the host (03_registers_and_hallmark.md R103, 03_registers_and_hallmark.md R104, 03_registers_and_hallmark.md
R105, 03_registers_and_hallmark.md R106, 03_registers_and_hallmark.md R107, 03_registers_and_hallmark.md R111, 04_host_port.md R144,
04_host_port.md R145, 05_near_cache.md R233, 02_modes_and_starts.md R73).
A whole-slot read answers the register's value and clears its read-to-clear counts; a read of a set of a slot's bytes but all or the low
four is refused with all ones and code 0x01; a whole-slot write writes the register, one of fewer bytes is refused with code 0x02; slots
of one request are written in ascending order; of a host's and a management core's write to one register in one cycle the core's remains,
of two writes to a global field of the near cache that of the higher page; a decoder commits where its range lies in one region and its
interleave is supported, HDM-DB only over the hank views, and else has an error; masking a vector keeps its message pending. While the
controller rests each of these, a sideband, mailbox or attestation request waits and wakes it. -/
def Obligations.RegisterAccesses : Prop :=
  (∀ (s : State) (off : Nat) (b : Block), s.awake → blockAt s.fuse.part (off / 8 * 8 / 4096) = some b →
    (answers (.rcRead off 0xFF) s fun t => .regRead (BitVec.ofNat 64 (s.readReg false b (off / 8 * 8 % 4096)).toNat) ∈ t.out)) ∧
  (∀ (s : State), s.up .cxlp → answers (.rcRead 0x10058 0xFF) s fun t => t.cxlp.evict = 0) ∧
  (∀ (s : State), s.up .coht → answers (.rcRead 0x9088 0xFF) s fun t => t.coht.trigIn = 0 ∧ t.coht.merged = 0 ∧ t.coht.lateOut = 0) ∧
  (∀ (s : State), s.up .kspe → answers (.rcRead 0x21060 0xFF) s fun t => tget 0 t.kspe.disc 0 = 0 ∧ tget 0 t.kspe.disc 1 = 0) ∧
  (∀ (s : State) (off bytes : Nat) (b : Block), s.awake → off < 2 ^ 22 → blockAt s.fuse.part (off / 8 * 8 / 4096) = some b → b.page ≠ 5 →
    bytes < 255 → bytes ≠ 0x0F → s.inService b → (s.hdr b).evalid = false →
    answers (.registerReadError off bytes) s fun t => captured t b 0x01 (off / 8) ∧ .regRead (BitVec.allOnes 64) ∈ t.out) ∧
  (∀ (s : State) (off bytes : Nat), s.awake → off < 2 ^ 22 → bytes < 256 → blockAt s.fuse.part (off / 8 * 8 / 4096) = none → (s.hdr .hall).evalid = false →
    answers (.registerReadError off bytes) s fun t => captured t .hall 0x03 (off / 8) ∧ .regRead 0 ∈ t.out) ∧
  (∀ (s : State) (off enables : Nat) (v : BitVec 64) (b : Block), s.awake → off < 2 ^ 22 → blockAt s.fuse.part (off / 8 * 8 / 4096) = some b → b.page ≠ 5 →
    enables % 256 ≠ 0 → enables % 256 ≠ 0xFF → s.inService b → (s.hdr b).evalid = false →
    answers (.registerWrite (.bar0 off enables v none)) s fun t => captured t b 0x02 (off / 8)) ∧
  (∀ (s : State) (off : Nat) (v w : BitVec 64) (b c : Block), s.awake → blockAt s.fuse.part (off / 8 * 8 / 4096) = some b →
    (answers (.registerWrite (.bar0 off 0xFF v none)) s fun t => t = (s.writeReg 0 b (off / 8 * 8 % 4096) (v.setWidth 40)).settle) ∧
    (blockAt s.fuse.part ((off + 8) / 8 * 8 / 4096) = some c → answers (.registerWrite (.slots off [(0xFF, v), (0xFF, w)])) s fun t =>
      t = ((s.writeReg 0 b (off / 8 * 8 % 4096) (v.setWidth 40)).writeReg 0 c ((off + 8) / 8 * 8 % 4096) (w.setWidth 40)).settle)) ∧
  (∀ (s : State) (v : BitVec 64) (w x : Word), s.settled → s.up .rest →
    (x = keep (v.setWidth 40) 0x3FFFFFF → answers (.registerWrite (.bar0 0x2040 0xFF v none)) s fun t =>
      t = { s with rest := { s.rest with policy := if fld x 16 8 = 0 then setFld x 16 8 1 else x } }) ∧
    (x = keep w 0x3FFFFFF → answers (.registerWrite (.bar0 0x2040 0xFF v (some w))) s fun t =>
      t.rest = { s.rest with policy := if fld x 16 8 = 0 then setFld x 16 8 1 else x })) ∧
  (∀ (s : State) (v : BitVec 64), s.settled → s.up .cxlp → answers (.registerWrite (.bar0 0x10050 0xFF v none)) s fun t =>
    t = { s with cxlp := { s.cxlp with portctl := oneAtLeast (keep (v.setWidth 40) 0x1FFFF) 0 16 } }) ∧
  (∀ (s : State) (i j : Nat) (v w : BitVec 64), s.settled → s.ncchUp → s.fuse.part = .p4860 → s.ncch.busy = [] → i < j → j ∈ s.liveSlices → j < 16 →
    s.on (.ncch j) →
    answers (.registerWrite (.cycle [((Block.ncch j).page * 4096 + 0x40, v), ((Block.ncch i).page * 4096 + 0x40, w)])) s fun t =>
      t.ncch.rgnattr = keep (v.setWidth 40) 0x3FFFFFFFF) ∧
  (∀ (s : State) (i base size ways gran : Nat) (db : Bool) (d : Decoder), s.settled → s.awake → i < 8 →
    d = { base := base, size := size, db := db, ways := ways, gran := gran, committed := true, err := false } →
    (0 < size → dpaRegion base = dpaRegion (base + size - 1) → dpaRegion base < 3 → (db = true → dpaRegion base ≠ 0) → ways ∈ [1, 2, 4, 8] →
      gran ∈ [256, 512, 1024, 2048, 4096, 8192, 16384] →
      answers (.registerWrite (.decoder i base size db ways gran)) s fun t => t = { s with cxlp := { s.cxlp with decoders := tput Decoder.reset s.cxlp.decoders i d } }) ∧
    (size = 0 ∨ dpaRegion base ≠ dpaRegion (base + size - 1) ∨ (db = true ∧ dpaRegion base = 0) ∨ ways ∉ [1, 2, 4, 8] →
      answers (.registerWrite (.decoder i base size db ways gran)) s fun t => tget Decoder.reset t.cxlp.decoders i = { d with committed := false, err := true }) ∧
    (answers (.registerWrite (.undecoder i)) s fun t => (tget Decoder.reset t.cxlp.decoders i).committed = false ∧
      ∀ k, k ≠ i → tget Decoder.reset t.cxlp.decoders k = tget Decoder.reset s.cxlp.decoders k)) ∧
  (∀ (s : State) (n : Nat), s.awake → n < 64 → s.settled →
    (answers (.registerWrite (.msixMask n true)) s fun t => n ∈ t.cxlp.msixMask ∧ t.out = s.out) ∧
    (n ∈ s.cxlp.msixPend → answers (.registerWrite (.msixMask n false)) s fun t => n ∉ t.cxlp.msixMask ∧ .msix n ∈ t.out) ∧
    ∀ v : BitVec 64, answers (.registerWrite (.bar2 (0x20000 + 16 * n) 0xFF v)) s fun t => tget 0 t.cxlp.msixAddr n = v.toNat ∧ t.cxlp.msixMask = s.cxlp.msixMask) ∧
  (∀ (s : State) (l1 l12 : Bool), s.settled → s.awake → answers (.registerWrite (.linkStates l1 l12)) s fun t =>
    t = { s with cxlp := { s.cxlp with l1ok := l1, l12ok := l12 } }) ∧
  (∀ (s : State) (c : Instr), wakes c = true → s.settled → s.sysc.mode = .rest → s.rest.entering = none → s.boot.recoveryHold = false →
    answers c s fun t => t = { s with rest := { s.rest with io := s.rest.io ++ [c], waking := true } })

/-- Reads and writes over the sideband (19_firmware_and_identity.md R777, 19_firmware_and_identity.md R778, 19_firmware_and_identity.md R779).
A request that is malformed is answered with code 2; one slot read is answered with its value, one written with the count 1; in the hold
that follows a failed recovery image a page other than HALL, SYSC and BOOT is refused. -/
def Obligations.Sideband : Prop :=
  (∀ (s : State) (off count : Nat), s.sysc.mode ≠ .rest → sidebandOk off count = false → answers (.sidebandRead off count) s fun t => .sideband 2 [] ∈ t.out) ∧
  (∀ (s : State) (off : Nat) (vals : List (BitVec 64)), s.sysc.mode ≠ .rest → sidebandOk off vals.length = false →
    answers (.sidebandWrite off vals) s fun t => .sideband 2 [] ∈ t.out) ∧
  (∀ (s : State) (off : Nat) (b : Block), off % 8 = 0 → s.boot.recoveryHold = false → blockAt s.fuse.part (off / 4096) = some b →
    s.sysc.mode ≠ .rest →
    answers (.sidebandRead off 1) s fun t => .sideband 0 [BitVec.ofNat 64 (s.readReg true b (off % 4096)).toNat] ∈ t.out) ∧
  (∀ (s : State) (v : BitVec 64), s.up .rest → s.boot.recoveryHold = false →
    answers (.sidebandWrite 0x2040 [v]) s fun t => .sideband 0 [1] ∈ t.out ∧
      t.rest.policy = let w := keep (v.setWidth 40) 0x3FFFFFF; if fld w 16 8 = 0 then setFld w 16 8 1 else w) ∧
  (∀ (s : State) (off : Nat) (v : BitVec 64) (b : Block), off % 8 = 0 → s.boot.recoveryHold = false → s.sysc.mode ≠ .rest → blockAt s.fuse.part (off / 4096) = some b →
    answers (.sidebandWrite off [v]) s fun t => t = ((s.writeReg 1 b (off % 4096) (v.setWidth 40)).send (.sideband 0 [1])).settle) ∧
  (∀ (s : State) (off : Nat) (v : BitVec 64), s.sysc.mode ≠ .rest → off % 8 = 0 → s.boot.recoveryHold = true → off / 4096 ∉ [0, 1, 7] →
    (answers (.sidebandRead off 1) s fun t => .sideband 1 [] ∈ t.out) ∧ answers (.sidebandWrite off [v]) s fun t => .sideband 1 [0] ∈ t.out)

/-- CXL.mem reads (04_host_port.md R143, 04_host_port.md R146, 04_host_port.md R171, 04_host_port.md R874, 02_modes_and_starts.md R73,
02_modes_and_starts.md R74, 02_modes_and_starts.md R49, 05_near_cache.md R199).
A hit in the near cache returns the line's data without poison; an address that nothing backs returns poison with code 0x41; in STARTING
and SERVICE every read returns poison with code 0x44; in REST it waits and wakes the controller; a request of CXL.mem that meets an entry
to REST cancels it and goes on as without it; after admission has stopped none arrives, and the model changes nothing (log 10). -/
def Obligations.HostReads : Prop :=
  (∀ (s : State) (dpa tag line i key : Nat) (w : Way), s.sysc.mode = .memory ∨ s.sysc.mode = .stream ∨ s.sysc.mode = .safe →
    s.cxlp.stopped = false → s.rest.entering = none → line = dpa % 2 ^ 48 / 64 →
    s.backed line = true → s.lockedLine line = false → s.snooped line = false → line ∉ s.media.refused →
    (s.ncch.bypass.any fun m => m.line = line) = false → s.sliceOf line = some i → (s.slice i).passed = false →
    ((s.slice i).inWait.any fun x => x.line = line) = false → (s.slice i).lookup line = some (key, w) → w.poison = false →
    s.waitingWrites (s.received (readReq dpa tag false)) = [] → s.ncch.nextq = [] → s.ncch.hints = [] →
    answers (.cxlMemRead dpa tag false []) s fun t => .readDone tag w.data false ∈ t.out ∧ t.cxlp.reads = s.cxlp.reads ∧ t.cxlp.lastReq = s.now ∧
      t.media = s.media ∧ t.tier = s.tier) ∧
  (∀ (s : State) (dpa tag : Nat) (c : Bool) (l : List Finding), s.sysc.mode = .memory ∨ s.sysc.mode = .stream ∨ s.sysc.mode = .safe →
    s.cxlp.stopped = false →
    s.backed (dpa % 2 ^ 48 / 64) = false → (s.hdr .cxlp).evalid = false →
    answers (.cxlMemRead dpa tag c l) s fun t => .readDone tag 0 true ∈ t.out ∧ captured t .cxlp 0x41 (dpa % 2 ^ 48 / 2 ^ 20) ∧ hasCause t .cxlp 4) ∧
  (∀ (s : State) (dpa tag : Nat) (c : Bool) (l : List Finding), s.sysc.mode = .starting ∨ s.sysc.mode = .service → (s.hdr .cxlp).evalid = false →
    answers (.cxlMemRead dpa tag c l) s fun t => .readDone tag 0 true ∈ t.out ∧ captured t .cxlp 0x44 (dpa % 2 ^ 48 / 2 ^ 20)) ∧
  (∀ (s : State) (dpa tag : Nat) (c : Bool) (l : List Finding), s.settled → s.sysc.mode = .rest → s.rest.entering = none →
    answers (.cxlMemRead dpa tag c l) s fun t => t.rest.waking = true ∧ t.rest.held = s.rest.held ++ [s.received (readReq dpa tag c)] ∧
      t.cxlp.reads = s.cxlp.reads + 1 ∧ t.out = s.out) ∧
  (∀ (s : State) (dpa tag : Nat) (data : BitVec 512) (en : BitVec 64) (cp : Bool) (l : List Finding) (c : Instr),
    c = .cxlMemRead dpa tag cp l ∨ c = .cxlMemWrite dpa tag data cp l ∨ c = .memwrptl dpa tag data en cp l →
    s.sysc.mode = .memory ∨ s.sysc.mode = .stream → s.cxlp.stopped = false → s.cxlp.writes < 512 → s.rest.entering.isSome = true →
    s.restCancel.rest.entering = none ∧ exec c s = exec c s.restCancel) ∧
  (∀ (s : State) (dpa tag : Nat) (c : Bool) (l : List Finding), s.settled → s.sysc.mode = .memory ∨ s.sysc.mode = .stream ∨ s.sysc.mode = .safe →
    s.cxlp.stopped = true → answers (.cxlMemRead dpa tag c l) s fun t => t = s)

/-- CXL.mem writes, whole and with byte enables (04_host_port.md R143, 04_host_port.md R155, 04_host_port.md R171, 02_modes_and_starts.md R49,
02_modes_and_starts.md R73, 05_near_cache.md R210).
A write that hits a modified line of an enabled slice merges its enabled bytes there and completes; one to a hank view is refused with
code 0x40, one to an address that nothing backs with 0x41, and in STARTING and SERVICE with 0x44: each of these completes and stores
nothing; in REST a write waits and wakes the controller. None arrives while 512 are outstanding. -/
def Obligations.HostWrites : Prop :=
  (∀ (s : State) (dpa tag line i key : Nat) (data : BitVec 512) (en : BitVec 64) (w : Way) (c : Instr),
    c = .cxlMemWrite dpa tag data false [] ∧ en = BitVec.allOnes 64 ∨ c = .memwrptl dpa tag data en false [] →
    s.sysc.mode = .memory ∨ s.sysc.mode = .stream → s.cxlp.stopped = false → s.cxlp.writes < 512 → s.rest.entering = none →
    line = dpa % 2 ^ 48 / 64 → hankSide line = false → s.backed line = true → s.lockedLine line = false → s.ftlm.exhausted = false →
    line ∉ s.media.refused → s.cxlp.dirtyWait = [] → (s.cline (tierPageOf line)).waits = [] →
    (s.ncch.bypass.any fun m => m.line = line) = false → s.sliceOf line = some i →
    (s.slice i).cstate = .enabled → ((s.slice i).inWait.any fun x => x.line = line) = false → (s.slice i).lookup line = some (key, w) →
    ((s.slice i).miss.find? fun m => m.line = line) = none → s.attr line = 0 → w.st = .modified → w.poison = false → s.pers.limit ≠ 0 →
    answers c s fun t => .writeDone tag ∈ t.out ∧ t.cxlp.lastReq = s.now ∧ t.cxlp.writes = s.cxlp.writes ∧ t.tier = s.tier ∧
      tget Way.reset (t.slice i).ways key = { w with data := if en = BitVec.allOnes 64 then data else mergeLine w.data data en, poison := false }) ∧
  (∀ (s : State) (dpa tag code : Nat) (data : BitVec 512) (en : BitVec 64) (p : Bool) (l : List Finding) (c : Instr),
    c = .cxlMemWrite dpa tag data p l ∨ c = .memwrptl dpa tag data en p l → (s.hdr .cxlp).evalid = false → s.cxlp.writes < 512 →
    s.rest.entering = none →
    ((s.sysc.mode = .service ∨ s.sysc.mode = .starting) ∧ code = 0x44) ∨ (s.cxlp.stopped = false ∧ (s.sysc.mode = .memory ∨ s.sysc.mode = .stream ∨ s.sysc.mode = .safe) ∧
      ((hankSide (dpa % 2 ^ 48 / 64) = true ∧ code = 0x40) ∨
       (hankSide (dpa % 2 ^ 48 / 64) = false ∧ s.backed (dpa % 2 ^ 48 / 64) = false ∧ code = 0x41))) →
    answers c s fun t => .writeDone tag ∈ t.out ∧ captured t .cxlp code (dpa % 2 ^ 48 / 2 ^ 20) ∧ hasCause t .cxlp 5 ∧
      t.ncch = s.ncch ∧ t.tier = s.tier ∧ t.media = s.media) ∧
  (∀ (s : State) (dpa tag : Nat) (data : BitVec 512) (en : BitVec 64) (p : Bool) (l : List Finding) (c : Instr),
    c = .cxlMemWrite dpa tag data p l ∧ en = BitVec.allOnes 64 ∨ c = .memwrptl dpa tag data en p l → s.settled → s.sysc.mode = .rest →
    s.rest.entering = none →
    (s.cxlp.writes < 512 → answers c s fun t => t.rest.waking = true ∧ t.rest.held = s.rest.held ++ [s.received (writeReq dpa tag data en p)] ∧
      t.cxlp.writes = s.cxlp.writes + 1 ∧ t.out = s.out) ∧
    (512 ≤ s.cxlp.writes → answers c s fun t => t = s))

/-- The CXL link, Global Persistent Flush and back-invalidations (04_host_port.md R137, 04_host_port.md R152, 04_host_port.md R176,
04_host_port.md R179, 04_host_port.md R180, 04_host_port.md R191).
The link comes up at the widest supported width that the trained lanes give, capped by the part, and at the rate that trained, with
256-byte flits at 64 GT/s; a change while it is up raises its cause; it goes down with its cause, and trains again unless PERST_N is low;
the first flush phase stops admission and is answered; the second is answered once no write is outstanding but those held under L = 0, and
waits for the others; a back-invalidation that is answered, or expires, is outstanding no longer, and the expiry captures code 0x42. -/
def Obligations.HostPortEvents : Prop :=
  (∀ (s : State) (width rate : Nat) (flit lopt : Bool), s.sysc.perst = false → s.on .cxlp → linkWidth (min width s.fuse.part.cxlWidth) ≠ 0 →
    answers (.cxlLinkUp width rate flit lopt) s fun t => t.cxlp.up = true ∧ t.cxlp.width = linkWidth (min width s.fuse.part.cxlWidth) ∧
      t.cxlp.rate = rate % 4 ∧ t.cxlp.training = false ∧ t.cxlp.flit256 = (flit || decide (rate % 4 = 3)) ∧ t.cxlp.lopt = (t.cxlp.flit256 && lopt) ∧
      (s.cxlp.up = true → s.cxlp.rate ≠ rate % 4 ∨ s.cxlp.width ≠ t.cxlp.width → hasCause t .cxlp 1)) ∧
  (∀ (s : State), s.cxlp.up = true →
    (answers .cxlLinkDown s fun t => t.cxlp.up = false ∧ t.cxlp.width = 0 ∧ t.cxlp.training = !s.sysc.perst ∧ hasCause t .cxlp 2) ∧
    (answers .gpfPhase1 s fun t => t.cxlp.stopped = true ∧ t.cxlp.gpf = 1 ∧ .gpfDone 1 ∈ t.out) ∧
    (s.cxlp.writes ≤ s.cxlp.zeroWait.length → answers .gpfPhase2 s fun t => t.cxlp.gpf = 2 ∧ t.cxlp.gpfWait = false ∧ .gpfDone 2 ∈ t.out) ∧
    (s.settled → s.cxlp.zeroWait.length < s.cxlp.writes →
      answers .gpfPhase2 s fun t => t = { s with cxlp := { s.cxlp with gpfWait := true } })) ∧
  (∀ (s : State) (line : Nat) (b : BiOut), s.cxlp.biOut.find? (fun x => x.line = line) = some b → b.commits = [] → b.evict = none → s.cxlp.biHold = [] →
    (answers (.birsp line) s fun t => t.cxlp.biOut = s.cxlp.biOut.filter (fun x => x.line ≠ line) ∧ t.strd = s.strd) ∧
    (b.since + max 1 (fld s.cxlp.portctl 0 16) * 10 ^ 6 ≤ s.now → (s.hdr .cxlp).evalid = false → line < 2 ^ 42 →
      answers (.biTimeout line) s fun t => t.cxlp.biOut = s.cxlp.biOut.filter (fun x => x.line ≠ line) ∧ captured t .cxlp 0x42 (line / 2 ^ 14) ∧
        hasCause t .cxlp 3 ∧ (wbit s.cxlp.portctl 16 = true → t.cxlp.viral = true)))

/-- The near cache's settings (05_near_cache.md R205, 05_near_cache.md R208, 05_near_cache.md R213, 05_near_cache.md R219, 05_near_cache.md
R220, 05_near_cache.md R229, 05_near_cache.md R232).
Attributes are stored with the regions that change busy, and refused with code 0x44 while any is; a change that completes leaves no line
of its region modified unless it is write-back, none at all where it is uncached, and raises each live slice's cause; the 65th hint is
dropped; a seed of 0 is the slice's own; disabling drains the enabled slices and enabling takes the disabled ones into service empty. -/
def Obligations.NearCacheSettings : Prop :=
  (∀ (s : State) (v : Word), s.settled → s.ncchUp → s.fuse.part = .p4860 → s.ncch.busy = [] →
    answers (.rgnattrWrite v) s fun t => t = { s with ncch := { s.ncch with
      rgnattr := keep v 0x3FFFFFFFF, busy := changedRegions s.ncch.rgnattr (keep v 0x3FFFFFFFF) } }) ∧
  (∀ (s : State) (v : Word), s.ncchUp → s.fuse.part = .p4860 → s.ncch.busy ≠ [] → (s.hdr (.ncch s.firstSlice)).evalid = false →
    s.inService (.ncch s.firstSlice) → s.firstSlice < 16 →
    answers (.rgnattrWrite v) s fun t => captured t (.ncch s.firstSlice) 0x44 0 ∧ t.ncch = s.ncch) ∧
  (∀ (s : State) (r : Nat), r ∈ s.ncch.busy → (∀ i ∈ s.liveSlices, i < 16 ∧ s.inService (.ncch i)) → answers (.rgnattrChangeComplete r) s fun t => t.ncch.busy = without s.ncch.busy r ∧
    ∀ i ∈ s.liveSlices, hasCause t (.ncch i) 6 ∧ ∀ e ∈ (t.slice i).ways, e.2.st ≠ .invalid → s.regionOf e.2.line = r →
      e.2.region = r ∧ s.attr e.2.line ≠ 3 ∧ (e.2.st = .modified → s.attr e.2.line = 0)) ∧
  (∀ (s : State) (v : Word), s.ncchUp → 64 ≤ s.ncch.hints.length → s.inService (.ncch s.firstSlice) → s.firstSlice < 16 →
    answers (.prefetchHint v) s fun t => t.ncch = { s.ncch with drop := satInc 20 s.ncch.drop } ∧ hasCause t (.ncch s.firstSlice) 5) ∧
  (∀ (s : State) (v : Word) (h : Hint), s.settled → s.ncchUp → s.ncch.hints = [] → s.ncch.nextq = [] →
    h = { line := 64 * fld v 0 36, left := 64 * (fld v 36 4 + 1) } → State.prefetch { s with ncch := { s.ncch with hints := [h] } } h.line = none →
    answers (.prefetchHint v) s fun t => t = { s with ncch := { s.ncch with hints := [h] } }) ∧
  (∀ (s : State) (i : Nat) (v : Word), s.settled → i ∈ s.liveSlices → s.up (.ncch i) →
    answers (.lfsrWrite i v) s fun t => t = s.modSlice i fun c => { c with lfsr := if fld v 0 16 = 0 then lfsrSeed i else fld v 0 16 }) ∧
  (∀ (s : State), s.settled → s.ncchUp →
    (answers .ncchDisable s fun t => t.ncch.disable = true ∧ t.ncch.slices = s.ncch.slices.map fun (e : Nat × Slice) =>
      (e.1, if e.2.live && e.2.cstate = .enabled then { e.2 with cstate := .draining } else e.2)) ∧
    ((s.ncch.slices.any fun e => e.2.cstate = .draining) = false →
      answers .ncchEnable s fun t => t.ncch.disable = false ∧ t.ncch.slices = s.ncch.slices.map fun (e : Nat × Slice) =>
        (e.1, if e.2.cstate = .disabled then { (e.2.dropWays fun _ => true) with cstate := .enabled } else e.2)))

/-- The near cache's own events (05_near_cache.md R202, 05_near_cache.md R203, 05_near_cache.md R215, 05_near_cache.md R229,
14_memory_protection.md R613, 14_memory_protection.md R616, 04_host_port.md R151).
A fill that finds its data sends it to a waiting read before its check ends; a line whose check ends is installed clean, or freed where it
is not to be installed; an empty slice's drain ends in DISABLED; a victim's write-back puts its data, dirty, into the tier and frees its
entry; a write that waited for room and for its page's re-encryption completes. -/
def Obligations.NearCacheEvents : Prop :=
  (∀ (s : State) (i line : Nat) (m : Miss) (r : MemReq), (s.slice i).miss = [m] → m.line = line → m.filled = none → m.joined = [r] → m.noInstall = false →
    r.write = none → r.cacheable = false → r.dpa / 64 = line → s.snooped line = false → s.fillReady line = true → s.tierHas line = true →
    s.verifyFirst line = false → (s.lineData line).2 = false → s.waitingWrites r = [] → s.ncch.nextq = [] → s.ncch.hints = [] →
    answers (.lineFillComplete i line []) s fun t => .readDone r.tag (s.lineData line).1 false ∈ t.out ∧
      (t.slice i).miss = [{ m with joined := [], filled := some ((s.lineData line).1, false), checking := true, rewritten := false }]) ∧
  (∀ (s : State) (i line : Nat) (m : Miss) (c : Slice), s.ncch.slices = [(i, c)] → c.miss = [m] → m.line = line → m.checking = true →
    m.filled.isSome = true → m.media = false → m.joined = [] → m.after = [] →
    (m.noInstall = true → answers (.tagCheckComplete line true) s fun t => (t.slice i).miss = [] ∧ (t.slice i).ways = c.ways ∧ t.tier = s.tier) ∧
    (∀ x, m.noInstall = false → m.filled = some x → c.cstate = .enabled → s.attr line ≠ 3 → c.ways = [] →
      answers (.tagCheckComplete line true) s fun t => (t.slice i).miss = [] ∧ (t.slice i).ways = [(16 * lineSet line, s.wayFor line x)] ∧
        t.tier = s.tier)) ∧
  (∀ (s : State) (i line : Nat) (v : Vict), (s.slice i).victims = [v] → v.line = line → v.waits = [] → s.pageFree line = true → (s.slice i).miss = [] →
    s.minorFull line = false → s.tier.order = [] →
    answers (.victimWriteComplete i line) s fun t => (t.slice i).victims = [] ∧ (tget TLine.reset t.tier.lines line).data = v.data ∧
      (tget TLine.reset t.tier.lines line).dirty = true ∧ (tget TLine.reset t.tier.lines line).poison = v.poison) ∧
  (∀ (s : State) (i line key : Nat) (r : MemReq) (w : Way), (s.slice i).inWait = [r] → (s.slice i).miss = [] → r.write = none → r.cacheable = false → r.dpa / 64 = line → s.snooped line = false →
    line ∉ s.media.refused → (s.ncch.bypass.any fun m => m.line = line) = false → s.sliceOf line = some i → (s.slice i).passed = false →
    (s.slice i).lookup line = some (key, w) → w.poison = false → s.waitingWrites r = [] → s.ncch.nextq = [] → s.ncch.hints = [] →
    answers (.missEntryFreed i) s fun t => .readDone r.tag w.data false ∈ t.out ∧ (t.slice i).inWait = []) ∧
  (∀ (s : State) (i : Nat), (s.slice i).cstate = .draining → (s.slice i).miss = [] → (s.slice i).inWait = [] → (s.slice i).victims = [] →
    (s.slice i).viralDrain = false → i < 16 → s.inService (.ncch i) →
    answers (.sliceDrained i) s fun t => (t.slice i).cstate = .disabled ∧ hasCause t (.ncch i) 1) ∧
  (∀ (s : State) (r : MemReq) (d : BitVec 512), s.cxlp.dirtyWait = [r] → r.write = some (d, BitVec.allOnes 64) → r.poison = false → s.pers.limit ≠ 0 →
    s.roomFor r.line = true → (s.cline (tierPageOf r.line)).waits = [] → s.pageFree r.line = true → s.minorFull r.line = false →
    s.sliceOf r.line = none → s.ncch.bypass = [] → s.tier.order = [] →
    answers .dirtyWaitRelease s fun t => .writeDone r.tag ∈ t.out ∧ t.cxlp.dirtyWait = [] ∧ (tget TLine.reset t.tier.lines r.line).data = d ∧
      (tget TLine.reset t.tier.lines r.line).dirty = true) ∧
  (∀ (s : State) (page : Nat) (r : MemReq) (d : BitVec 512), (s.cline page).reenc = true → (s.cline page).waits = [r] →
    r.write = some (d, BitVec.allOnes 64) → r.poison = false → s.pers.limit ≠ 0 → s.tier.order = [] → r.line ∈ s.dirtyLines → s.ncch.slices = [] →
    answers (.pageReencryptComplete page) s fun t => .writeDone r.tag ∈ t.out ∧ (tget TLine.reset t.tier.lines r.line).data = d ∧
      (t.cline page).reenc = false ∧ (t.cline page).waits = [])

/-- Mailbox commands that report (04_host_port.md R138, 04_host_port.md R160, 04_host_port.md R161, 04_host_port.md R184, 04_host_port.md
R185, 04_host_port.md R187, 04_host_port.md R190, 10_persistence.md R447, 10_persistence.md R449).
Each is answered with success and with what it reports, and counted; the payloads of the standard's own commands are lists of their fields
and, with the return codes, the model's (log 19); the payloads of the controller's own commands are their bytes; the health and scan-time
fields that spec/ leaves open are free values (log 8). -/
def Obligations.MailboxQueries : Prop :=
  ∀ (s : State) (i : Nat), s.mbFree i false →
    (answers (.identify i) s fun t => mbAnswered s t i 0 []) ∧
    (answers (.identifyMemoryDevice i) s fun t => mbAnswered s t i 0 [s.ftlm.hdrMib, 0, s.ftlm.hdrMib, 65536, 4096]) ∧
    (answers (.getPartitionInfo i) s fun t => mbAnswered s t i 0 [0, s.ftlm.hdrMib, 0, 0]) ∧
    (∀ log, log ≤ 3 → answers (.getEventRecords i log) s fun t =>
      mbAnswered s t i 0 ((tget [] s.mbox.logs log).length :: (tget [] s.mbox.logs log).flatMap CxlEvent.fields)) ∧
    (answers (.getEventInterruptPolicy i) s fun t =>
      mbAnswered s t i 0 ((List.range 4).map fun k => s.mbox.evPolicy / 256 ^ k % 16 + 16 * 2)) ∧
    (answers (.getSupportedLogs i) s fun t => mbAnswered s t i 0 [1]) ∧
    (∀ off len, off + len ≤ 4 * effectsLog.length →
      answers (.getLog i 0 off len) s fun t => mbAnswered s t i 0 ((effectsLog.drop (off / 4)).take (len / 4))) ∧
    (answers (.getHealthInfo i) s fun t =>
      mbAnswered s t i 0 [Config.free s.free % 256, Config.free (s.free + 1) % 256, intN 16 s.thrm.tg, s.mbox.dirtyShut] ∧ t.free = s.free + 2) ∧
    (answers (.getAlertConfiguration i) s fun t => mbAnswered s t i 0 [s.mbox.alerts]) ∧
    (answers (.getShutdownState i) s fun t => mbAnswered s t i 0 [s.mbox.shutState]) ∧
    (answers (.getTimestamp i) s fun t => mbAnswered s t i 0 [s.cxlStamp]) ∧
    (answers (.getOwnCommandSetVersion i) s fun t => mbAnswered s t i 0 [0, 1, 8, 0, 0, 0, 0, 0]) ∧
    (∀ op, answers (.unsupportedOpcode i op) s fun t => mbAnswered s t i 3 []) ∧
    (∀ clear : Bool, answers (.getLatencyRecord i clear) s fun t => t.cxlp.latency = (if clear then [] else s.cxlp.latency) ∧
      mbAnswered s t i 0 ((List.range 3).flatMap fun c => let r := tget LatRec.reset s.cxlp.latency c;
        bytesLE 8 r.count ++ bytesLE 4 r.longest ++ bytesLE 4 r.late)) ∧
    (∀ n, n < s.strandCount → (s.strand n).st ≠ .free → (s.strand n).hbase * 1048320 < 0x3C0000000000 →
      answers (.getHankWindows i n) s fun t => mbAnswered s t i 0 (bytesLE 8 (2 ^ 47 + (s.strand n).hbase * 1048320) ++
        bytesLE 8 (2 ^ 45 + 8 * ((s.strand n).hbase * unitWords)) ++ bytesLE 8 ((s.strand n).hsize * unitWords) ++
        bytesLE 4 (b2n (decide (((s.strand n).hbase + (s.strand n).hsize) * 1048320 ≤ 0x3C0000000000))) ++ [0, 0, 0, 0])) ∧
    (answers (.getPersistenceState i) s fun t => mbAnswered s t i 0 (bytesLE 4 s.dirtyMib ++ bytesLE 4 s.pers.limit ++ bytesLE 1 s.pers.limitSrc ++
      bytesLE 1 s.pers.prevOutcome ++ [0, 0] ++ bytesLE 4 s.cmeas ++ bytesLE 4 s.pers.prevDuration ++
      bytesLE 4 (min ((s.now - s.pers.cutAt) / 10 ^ 6) (2 ^ 32 - 1)) ++ bytesLE 8 s.pers.cutCohort)) ∧
    (s.mediaOn = true → ∀ dpa len,
      (answers (.getPoisonList i dpa len) s fun t =>
        let l := s.cxlp.poisonList.filter fun x => decide (dpa ≤ x * 64) && decide (x * 64 < dpa + len);
        mbAnswered s t i 0 ([b2n s.cxlp.poisonOver.isSome, s.cxlp.poisonOver.getD 0, l.length] ++ l.map (· * 64))) ∧
      (s.backedSpan dpa len = true → answers (.getScanMediaCapabilities i dpa len) s fun t => mbAnswered s t i 0 [Config.free s.free % 2 ^ 32] ∧ t.free = s.free + 1) ∧
      (answers (.getScanMediaResults i) s fun t => mbAnswered s t i 0 (s.mbox.scan.map (· * 64))) ∧
      (dpa + len ≤ 65536 → answers (.getLsa i dpa len) s fun t => mbAnswered s t i 0 ((tgets 0 s.mbox.lsa dpa len).map (·.toNat))))

/-- When the mailbox answers Busy, refuses or does not answer (04_host_port.md R185, 04_host_port.md R186, 02_modes_and_starts.md R48,
04_host_port.md R189).
While a firmware command waits for its record a second command of its interface is answered Busy, with no effect on the one that executes,
and one command of the other interface waits; media commands are refused while media is off; a background command is refused while one
runs (return codes: log 19). -/
def Obligations.MailboxServing : Prop :=
  (∀ (s : State) (i a : Nat), s.settled → s.mbReady i false = true → s.sysc.mode ≠ .rest → s.rest.entering = none → s.boot.holder = some a →
    (i = a ∨ s.mbox.waiting ≠ [] → answers (.identify i) s fun t => t = s.send (.mailbox i 6 [])) ∧
    (i ≠ a → s.mbox.waiting = [] → answers (.identify i) s fun t => t = { s with mbox := { s.mbox with waiting := [.identify i] } })) ∧
  (∀ (s : State) (i dpa len : Nat) (d : BitVec 512), s.mbFree i false → s.mediaOn = false →
    (answers (.getPoisonList i dpa len) s fun t => mbAnswered s t i 7 []) ∧ (answers (.injectPoison i dpa) s fun t => mbAnswered s t i 7 [] ∧ t.tier = s.tier) ∧
    (answers (.clearPoison i dpa d) s fun t => mbAnswered s t i 7 [] ∧ t.tier = s.tier) ∧ (answers (.sanitize i) s fun t => mbAnswered s t i 7 [] ∧ t.media = s.media) ∧
    answers (.secureErase i) s fun t => mbAnswered s t i 7 [] ∧ t.media = s.media) ∧
  (∀ (s : State) (i dpa len : Nat), s.mbFree i false → s.mediaOn = true → s.backedSpan dpa len = true → s.mbox.bg.isSome = true →
    (answers (.scanMedia i dpa len) s fun t => mbAnswered s t i 6 [] ∧ t.mbox.bg = s.mbox.bg) ∧
    (dpa % 4096 = 0 → len % 4096 = 0 → len ≠ 0 → answers (.discardRange i dpa len) s fun t => mbAnswered s t i 6 [] ∧ t.mbox.bg = s.mbox.bg))

/-- Mailbox commands that change their own settings (04_host_port.md R157, 04_host_port.md R159, 04_host_port.md R161, 04_host_port.md R184).
Logs are cleared, policies and timestamps set, label storage written and single lines poisoned or cleared, each with success. -/
def Obligations.MailboxSettings : Prop :=
  (∀ (s : State) (i log : Nat) (h : List Nat), s.mbFree i false → log ≤ 3 →
    answers (.clearEventRecords i log h true) s fun t => mbAnswered s t i 0 [] ∧ tget [] t.mbox.logs log = []) ∧
  (∀ (s : State) (i v : Nat), s.mbFree i false →
    (answers (.setEventInterruptPolicy i v) s fun t => mbAnswered s t i 0 [] ∧ t.mbox.evPolicy = v % 2 ^ 32) ∧
    (answers (.setAlertConfiguration i v) s fun t => mbAnswered s t i 0 [] ∧ t.mbox.alerts = v) ∧
    (v ≤ 1 → answers (.setShutdownState i v) s fun t => mbAnswered s t i 0 [] ∧ t.mbox.shutState = v) ∧
    (answers (.setTimestamp i v) s fun t => mbAnswered s t i 0 [] ∧ t.mbox.timestamp = some (v, s.coht.phase / 2 ^ 32))) ∧
  (∀ (s : State) (i off : Nat) (l : List (BitVec 8)), s.mbFree i false → s.mediaOn = true → s.sysc.mode ≠ .safe → off + l.length ≤ 65536 →
    answers (.setLsa i off l) s fun t => mbAnswered s t i 0 [] ∧ t.mbox.lsa = tputs 0 s.mbox.lsa off l) ∧
  (∀ (s : State) (i dpa : Nat) (d : BitVec 512), s.mbFree i false → s.mediaOn = true → s.sysc.mode ≠ .safe → dpa % 64 = 0 → s.backedSpan dpa 64 = true →
    (s.cxlp.poisonList.length < 4096 → answers (.injectPoison i dpa) s fun t => mbAnswered s t i 0 [] ∧ dpa / 64 ∈ t.cxlp.poisonList ∧
      (tget TLine.reset t.tier.lines (dpa / 64)).poison = true) ∧
    (answers (.clearPoison i dpa d) s fun t => mbAnswered s t i 0 [] ∧ dpa / 64 ∉ t.cxlp.poisonList ∧
      (tget TLine.reset t.tier.lines (dpa / 64)).data = d ∧ (tget TLine.reset t.tier.lines (dpa / 64)).poison = false))

/-- Mailbox commands that work on media in the background (04_host_port.md R184, 04_host_port.md R186, 04_host_port.md R189,
14_memory_protection.md R621).
A scan, an erasure or a discard is accepted with the code for a background command and ends with its cause; the erasures leave no map
entry, no poison and a new device-slot key. That a scan and a sanitize are complete at once is the model's choice (log 20). -/
def Obligations.MailboxBackground : Prop :=
  (∀ (s : State) (i dpa len : Nat), s.mbFree i false → s.mediaOn = true → s.backedSpan dpa len = true → s.mbox.bg = none →
    (answers (.scanMedia i dpa len) s fun t => .mailbox i 1 [] ∈ t.out ∧ t.mbox.bg = none ∧ t.mbox.bgPct = 100 ∧ hasCause t .mbox 2 ∧
      t.mbox.scan = s.scanLines dpa len) ∧
    (dpa % 4096 = 0 → len % 4096 = 0 → len ≠ 0 → answers (.discardRange i dpa len) s fun t => mbAnswered s t i 1 [] ∧
      t.mbox.bg = some (.discard false (dpa / 4096) (len / 4096)) ∧ t.mbox.bgPct = 0)) ∧
  (∀ (s : State) (coarse : Bool) (first count : Nat), s.mbox.bg = some (.discard coarse first count) →
    answers .discardRangeComplete s fun t => t.mbox.bg = none ∧ t.mbox.bgPct = 100 ∧ hasCause t .mbox 2) ∧
  (∀ (s : State) (i : Nat), s.mbFree i false → s.mediaOn = true → s.allFree = true →
    (answers (.secureErase i) s fun t => .mailbox i 0 [] ∈ t.out ∧ t.mprt.devslot = 0 ∧ (t.kslot 0).st = .loaded ∧ t.cxlp.poisonList = [] ∧ t.strd.idx = []) ∧
    (s.mbox.bg = none → answers (.sanitize i) s fun t => .mailbox i 1 [] ∈ t.out ∧ t.mbox.bg = none ∧ hasCause t .mbox 2 ∧ t.media.pages = [] ∧
      t.media.reserve = [] ∧ t.ftlm.bands = [] ∧ t.ftlm.progs = []))

/-- Keys are loaded, ranges defined, bound and rekeyed (14_memory_protection.md R589, 14_memory_protection.md R590, 14_memory_protection.md
R619, 14_memory_protection.md R632, 14_memory_protection.md R633, 14_memory_protection.md R634, 14_memory_protection.md R635).
A key goes into an empty slot with its check value; a range is defined while it is unbound and refused with code 0x46 while bound; binding
names its slot; a rekey begins at its first step, marks its range, and goes on. -/
def Obligations.KeysAndRanges : Prop :=
  (∀ (s : State) (i k : Nat) (key : BitVec 256), s.mbFree i false → s.up .mprt → k ≤ 31 → k ≠ s.mprt.devslot → (s.kslot k).st = .empty →
    answers (.loadKeySlot i key k 0) s fun t => mbAnswered s t i 0 [] ∧
      t.kslot k = KSlot.ofKey key false false) ∧
  (∀ (s : State) (i k : Nat) (key : BitVec 256), s.mbFree i false → s.up .mprt → k ≤ 31 → (s.kslot k).st = .loaded →
    answers (.loadKeySlot i key k 0) s fun t => mbAnswered s t i 2 [] ∧ t.mprt = s.mprt) ∧
  (∀ (s : State) (i r k flags : Nat), s.mbFree i false → s.up .mprt → r ≤ 15 → s.badSpan r = false → k ≠ 0xFF → (s.range r).bound = false →
    (s.kslot k).st = .loaded → k ≠ s.mprt.devslot →
    answers (.bindRange i r k flags) s fun t => mbAnswered s t i 0 [] ∧
      t.range r = { s.range r with slot := k, bound := true, verify := flags.testBit 0, viral := flags.testBit 1 }) ∧
  (∀ (s : State) (i r k flags : Nat), s.mbFree i false → s.up .mprt → r ≤ 15 → (s.range r).bound = true → (s.range r).locked = false →
    (s.range r).rekeying = false → (s.kslot k).st = .loaded → k ≠ (s.range r).slot → k ≠ s.mprt.devslot → s.mbox.bg = none → s.mprt.rekey = none →
    answers (.rekeyRange i r k flags) s fun t => mbAnswered s t i 1 [] ∧ t.mbox.bg = some (.rekey r) ∧ t.mprt.rekey = some
      { range := some r, old := (s.range r).slot, new := k, retire := flags.testBit 0, step := 1, byHost := true }) ∧
  (∀ (s : State) (j : RekeyJob) (r : Nat), s.mprt.rekey = some j → j.range = some r → r < 16 →
    (j.step = 1 → answers .rekeyStepComplete s fun t => t.mprt.rekey = some { j with step := 2 } ∧ (t.range r).rekeying = true ∧
      (t.range r).slot = j.new ∧ (t.range r).oldslot = j.old) ∧
    (j.step = 2 → answers .rekeyStepComplete s fun t => t.mprt.rekey = some { j with step := 3 } ∧ t.ftlm = s.ftlm)) ∧
  (∀ (s : State) (v : Word) (r : Nat), s.up .mprt → r = fld s.mprt.rsel 0 4 → (s.range r).bound = false →
    (answers (.rangeDefWrite false v) s fun t => t.range r = { s.range r with packed := wbit v 0, first := fld v 1 33 }) ∧
    answers (.rangeDefWrite true v) s fun t => t.range r = { s.range r with count := fld v 0 34 }) ∧
  (∀ (s : State) (v : Word) (size : Bool) (r : Nat), s.up .mprt → r = fld s.mprt.rsel 0 4 → (s.range r).bound = true → (s.hdr .mprt).evalid = false →
    answers (.rangeDefWrite size v) s fun t => captured t .mprt 0x46 r ∧ t.mprt = s.mprt)

/-- Images are transferred, verified and activated (19_firmware_and_identity.md).
A transfer opens by making its slot invalid and waits for the image record's write, after which its data lies in the flash; it goes on at
the next expected offset; its end verifies the slot, which becomes valid or captures code 0x42; an abort or a timeout ends it; an
activation selects the slot for a trial and waits for the image record. The layout of Get FW Info and the return codes are the model's
(log 19). -/
def Obligations.FirmwareTransfer : Prop :=
  (∀ (s : State) (i r : Nat), s.mbFree i true → s.running = some r →
    answers (.getFwInfo i) s fun t => mbAnswered s t i 0 ([3, r + 1 + 8 * (if s.boot.img.selected = r then 0 else s.boot.img.selected + 1), 0] ++
      List.replicate 13 0 ++ ((List.range 3).flatMap fun k => asciiVersion (s.boot.head k).version) ++ List.replicate 16 0)) ∧
  (∀ (s : State) (i slot : Nat) (data : List (BitVec 8)) (ok : Bool) (c : Instr) (last : Option Bool),
    (c = .transferFwInitiate i slot data ∧ last = none) ∨ (c = .transferFwFull i slot data ok ∧ last = some ok) →
    s.mbFree i true → s.fwRefused i slot = none → data.length ≤ 0x1000000 → s.boot.confirming = false →
    answers c s fun t => t.boot.xfer = { active := true, slot := slot, blocks := 0, iface := i, next := 0, lastPart := s.now } ∧
      t.boot.img = s.boot.img.setValid (slot - 1) false ∧ t.boot.partWait = some { iface := i, data := data, last := last } ∧
      t.boot.flash = s.boot.flash ∧ t.mbox.exec = some (i, 0x0201) ∧ (t.record 10).writing = true) ∧
  (∀ (s : State) (w : PageWrite) (p : FwPart) (x : Xfer) (first : Nat) (c : RecCopy) (u : Tbl (BitVec 8)), s.psto.running = some w →
    w.copy = some (first, c, true) → c.typ = 10 → (s.record 10).writing = true → (s.record 10).again = false → s.boot.partWait = some p →
    s.boot.activating = none → s.boot.confirming = false → s.mbox.waiting = [] → x = s.boot.xfer → x.active = true → x.next = 0 → x.blocks = 0 →
    p.data.length < blockBytes → u = tputs 0xFF s.boot.flash (slotBase (x.slot - 1)) p.data →
    (p.last = none → answers .storePageWriteComplete s fun t => t.boot.partWait = none ∧ t.boot.flash = u ∧
      t.boot.xfer = { x with next := p.data.length, lastPart := s.now } ∧ .mailbox p.iface 0 [] ∈ t.out ∧ t.mbox.exec = none) ∧
    (p.last = some true → 1 ≤ x.slot → x.slot ≤ 3 → State.headOk { s with boot := { s.boot with flash := u } } (x.slot - 1) = true →
      answers .storePageWriteComplete s fun t => t.boot.partWait = none ∧ t.boot.flash = u ∧ t.boot.xfer.active = false ∧
        t.boot.img.valid (x.slot - 1) = true ∧ .mailbox p.iface 0 [] ∈ t.out)) ∧
  (∀ (s : State) (i slot off : Nat) (data : List (BitVec 8)), s.mbFree i true → s.fwRefused i slot = none → s.boot.xfer.active = true →
    off = s.boot.xfer.next → slot = s.boot.xfer.slot → off + data.length ≤ 0x1000000 → (off + data.length) / blockBytes ≤ s.boot.xfer.blocks →
    (answers (.transferFwContinue i slot off data) s fun t => mbAnswered s t i 0 [] ∧ t.boot.xfer.next = off + data.length ∧ t.boot.xfer.active = true ∧
      t.boot.flash = tputs 0xFF s.boot.flash (slotBase (slot - 1) + off) data) ∧
    ((s.hdr .boot).evalid = false → answers (.transferFwEnd i slot off data false) s fun t => mbAnswered s t i 0xA [] ∧ t.boot.xfer.active = false ∧
      captured t .boot 0x42 slot ∧ t.boot.flash = tputs 0xFF s.boot.flash (slotBase (slot - 1) + off) data) ∧
    (State.headOk { s with boot := { s.boot with flash := tputs 0xFF s.boot.flash (slotBase (slot - 1) + off) data } } (slot - 1) = true →
      answers (.transferFwEnd i slot off data true) s fun t => mbAnswered s t i 0 [] ∧ t.boot.xfer.active = false ∧ t.boot.img.valid (slot - 1) = true)) ∧
  (∀ (s : State) (i slot off : Nat) (data : List (BitVec 8)), s.mbFree i true → s.fwRefused i slot = none → s.boot.xfer.active = true →
    off ≠ s.boot.xfer.next → answers (.transferFwContinue i slot off data) s fun t => mbAnswered s t i 9 [] ∧ t.boot = s.boot) ∧
  (∀ (s : State) (i : Nat), s.mbFree i true → s.boot.xfer.active = true → s.boot.xfer.iface = i →
    answers (.transferFwAbort i) s fun t => mbAnswered s t i 0 [] ∧ t.boot.xfer = { s.boot.xfer with active := false } ∧ hasCause t .boot 1) ∧
  (∀ (s : State), s.boot.xfer.active = true → s.boot.xfer.lastPart + 300 * 10 ^ 9 ≤ s.now →
    answers .transferFwTimeout s fun t => t.boot.xfer = { s.boot.xfer with active := false } ∧ hasCause t .boot 1) ∧
  (∀ (s : State) (i slot : Nat), s.mbFree i true → 1 ≤ slot → slot ≤ 2 → s.boot.img.valid (slot - 1) = true → s.boot.xfer.active = false →
    s.boot.img.trial = false → s.headOk (slot - 1) = true →
    answers (.activateFw i false slot true) s fun t => t.boot.activating = some i ∧ t.boot.img = { s.boot.img with
      selected := slot - 1, previous := s.running.getD 2, trial := true, trialrun := false } ∧ t.mbox.exec = some (i, 0x0202))

/-- Confirmation of a trial image, and the watchdogs (19_firmware_and_identity.md R755, 19_firmware_and_identity.md R756,
19_firmware_and_identity.md R757, 19_firmware_and_identity.md R766, 19_firmware_and_identity.md R767, 19_firmware_and_identity.md R780,
19_firmware_and_identity.md R781).
A confirmation within the trial clears it, raises the least security version and queues the image record; after its timer it is refused
with code 0x41; a core that stops leaves service until it is reloaded; the main watchdog begins a start anew. -/
def Obligations.FirmwareRunning : Prop :=
  (∀ (s : State), s.up .boot → s.boot.trialExpired = false → s.boot.img.trial = true → s.boot.trialDue.isSome = true → s.boot.confirming = false →
    answers .healthConfirm s fun t => t.boot.confirming = true ∧ t.boot.voided = some s.boot.img ∧
      t.boot.img = { s.boot.img with trial := false, minsvn := max s.boot.img.minsvn s.boot.run.minsvn } ∧ (t.record 10).writing = true) ∧
  (∀ (s : State), s.up .boot → s.boot.trialExpired = true → (s.hdr .boot).evalid = false →
    answers .healthConfirm s fun t => captured t .boot 0x41 0 ∧ t.boot = s.boot) ∧
  (∀ (s : State), s.boot.trialDue.isSome = true → s.boot.confirming = false → s.boot.trialExpired = false →
    answers .trialTimerExpired s fun t => t.boot.trialExpired = true ∧ t.boot.trialDue = none ∧ hasCause t .boot 4) ∧
  (∀ (s : State) (k : Nat), s.settled → s.boot.mediaCores.testBit k = true →
    answers (.mediaCoreWatchdog k) s fun t => t = { s with boot := { s.boot with
      mediaCores := clrBits s.boot.mediaCores (2 ^ k), reloading := withNew s.boot.reloading k } }) ∧
  (∀ (s : State) (k : Nat), s.settled → k < 2 → s.boot.seqCores.testBit k = true → tget 0 s.boot.reloadAt (8 + k) = 0 →
    answers (.seqCoreWatchdog k) s fun t => t = { s with boot := { s.boot with
      seqCores := clrBits s.boot.seqCores (2 ^ k), reloading := withNew s.boot.reloading (8 + k) } }) ∧
  (∀ (s : State) (k : Nat), k ∈ s.boot.reloading → k < 10 →
    answers (.coreReloadComplete k true) s fun t => k ∉ t.boot.reloading ∧ t.boot.reloads = satInc 8 s.boot.reloads ∧ hasCause t .boot 6 ∧
      if k < 8 then t.boot.mediaCores.testBit k = true else t.boot.seqCores.testBit (k - 8) = true) ∧
  (∀ (s : State), s.sysc.mode = .starting →
    answers .mainWatchdog s fun t => t.sysc.mode = .starting ∧ t.sysc.start.running = true ∧ t.sysc.start.cur = 1 ∧ t.sysc.warm = false) ∧
  (∀ (s : State), s.sysc.mode = .service ∨ s.sysc.mode = .memory ∨ s.sysc.mode = .stream ∨ s.sysc.mode = .safe → (s.pseq.startDown false .coldStart).2 = false →
    answers .mainWatchdog s fun t => t.sysc.trans = some .coldEntry ∧ t.pseq = (s.pseq.startDown false .coldStart).1)

/-- The Parameter Store's raw commands, its protection and its page writes (18_parameter_store.md R721, 18_parameter_store.md R723,
18_parameter_store.md R724, 18_parameter_store.md R725, 18_parameter_store.md R727, 18_parameter_store.md R728, 18_parameter_store.md
R735, 18_parameter_store.md R741).
A read fills the data registers at once; a write of a protected page is refused with result 3 and code 0x40, any other is queued; an OP of
0 or 3 ends with result 4; protection is lowered only in SERVICE, else code 0x43; a page write that completes leaves its bytes and frees
the array; a deferred record write starts. -/
def Obligations.StoreCommands : Prop :=
  (∀ (s : State) (v : Word), s.up .psto → s.psto.go = false → s.psto.recalling = none → (s.psto.running.any fun w => w.page = fld v 7 10) = false →
    answers (.pstoRead v) s fun t => t.psto.data = dataWords (s.psto.pageBytes (fld v 7 10)) ∧ t.psto.result = 0 ∧ t.psto.op = 1 ∧ t.psto.go = false ∧
      hasCause t .psto 1 ∧ t.psto.bytes = s.psto.bytes) ∧
  (∀ (s : State) (v : Word), s.settled → s.up .psto → s.psto.go = false → s.psto.recalling = none → protectedPage (fld s.psto.prot 0 2) (fld v 7 10) = false →
    answers (.pstoWrite v) s fun t => t.psto.go = true ∧ t.psto.op = 2 ∧ t.psto.page = fld v 7 10 ∧ t.psto.bytes = s.psto.bytes ∧
      (t.psto.running.toList ++ t.psto.queue).any fun w => w.page = fld v 7 10 && w.data = s.psto.dataBytes && w.raw) ∧
  (∀ (s : State) (v : Word), s.up .psto → s.psto.go = false → s.psto.recalling = none → protectedPage (fld s.psto.prot 0 2) (fld v 7 10) = true →
    (s.hdr .psto).evalid = false →
    answers (.pstoWrite v) s fun t => t.psto.result = 3 ∧ t.psto.bytes = s.psto.bytes ∧ captured t .psto 0x40 (fld v 7 10) ∧ hasCause t .psto 1) ∧
  (∀ (s : State) (v : Word), s.up .psto → s.psto.go = false → s.psto.recalling = none →
    answers (.pstoInvalidOp v) s fun t => t.psto.result = 4 ∧ t.psto.op = fld v 0 2 ∧ t.psto.bytes = s.psto.bytes ∧ hasCause t .psto 1) ∧
  (∀ (s : State) (v : Word), s.up .psto →
    (fld s.psto.prot 0 2 ≤ max 1 (fld v 0 2) ∨ s.sysc.mode = .service →
      answers (.protectionWrite v) s fun t => t.psto.prot = BitVec.ofNat 40 (max 1 (fld v 0 2))) ∧
    (max 1 (fld v 0 2) < fld s.psto.prot 0 2 → s.sysc.mode ≠ .service → (s.hdr .psto).evalid = false →
      answers (.protectionWrite v) s fun t => captured t .psto 0x43 0 ∧ t.psto.prot = s.psto.prot)) ∧
  (∀ (s : State) (w : PageWrite), s.psto.running = some w → w.copy = none → w.raw = true → reservedPage w.page = false → s.boot.confirming = false →
    s.boot.holder = none → s.mbox.waiting = [] →
    answers .storePageWriteComplete s fun t => t.psto.bytes = (s.psto.setPage w.page w.data).bytes ∧ t.psto.go = false ∧ t.psto.result = 0 ∧
      t.psto.wcount = wrapInc 40 s.psto.wcount ∧ hasCause t .psto 1) ∧
  (∀ (s : State) (typ : Nat), s.settled → (s.record typ).deferred.isSome = true → (s.record typ).writing = true →
    answers (.recordDeferExpired typ) s fun t => (t.record typ).deferred = none ∧ (t.record typ).again = true ∧ (t.record typ).hostAt = some s.now)

/-- The DRAM channels' events and shares (06_dram_tier.md R275, 06_dram_tier.md R279, 06_dram_tier.md R282).
A refresh counts and serves a directed one of its bank; the activation window clears every row count; a bandwidth window restores its
subchannel's shares and credits; shares that do not add up to 64 are refused with code 0x44. -/
def Obligations.DramEvents : Prop :=
  (∀ (s : State) (m bank : Nat) (hot : Bool), (s.dram m).cstate = .active →
    answers (.dramRefreshDue m bank hot) s fun t => (t.dram m).refreshes = (s.dram m).refreshes + 1 ∧ (t.dram m).hot = hot ∧
      (tget Bank.reset (t.dram m).banks bank).directed = (tget Bank.reset (s.dram m).banks bank).directed.drop 1 ∧ t.tier = s.tier ∧
      ∀ k, k ≠ m → t.dram k = s.dram k) ∧
  (∀ (s : State) (m : Nat), (s.dram m).cstate = .active →
    answers (.actWindowReset m) s fun t => (t.dram m).floorMax = 0 ∧ ((t.dram m).banks.all fun e => e.2.rows.isEmpty && e.2.floor = 0) = true ∧
      ∀ k, k ≠ m → t.dram k = s.dram k) ∧
  (∀ (s : State) (m sub : Nat), (s.dram m).cstate = .active →
    answers (.burstWindowEnd m sub) s fun t => tget Drmc.reset.share (t.dram m).shareNow sub = (s.dram m).share ∧
      ((t.dram m).credits.any fun e => e.1 / 4 = sub) = false ∧ (t.dram m).refreshes = (s.dram m).refreshes) ∧
  (∀ (s : State) (m : Nat) (v : Word), s.up (.drmc m) → m < s.fuse.part.dramChannels →
    (fld v 0 7 + fld v 7 7 + fld v 14 7 + fld v 21 7 = 64 → answers (.drmcShareWrite m v) s fun t => (t.dram m).share = keep v 0xFFFFFFF) ∧
    (fld v 0 7 + fld v 7 7 + fld v 14 7 + fld v 21 7 ≠ 64 → s.inService (.drmc m) → (s.hdr (.drmc m)).evalid = false →
      answers (.drmcShareWrite m v) s fun t => captured t (.drmc m) 0x44 0 ∧ t.drmc = s.drmc))

/-- Destage, programs and erases (07_translation.md, 08_media_reliability.md).
A dirty unit's destage, its Dirty near-cache copies written back, takes the next page of an open band of its class; a completed destage
program leaves its page in media, maps its unit there and makes the lines it holds, where unchanged since, clean; a failed one captures
code 0x41 and, in QUENCH, marks its block; a completed erase counts the block's cycle and leaves the members still to be erased, and a
failed one retires the block for another of its die, with its cause. -/
def Obligations.MediaWrites : Prop :=
  (∀ (s u : State) (unit b : Nat), s.working = true → s.ftlm.exhausted = false → unit ∈ (s.cleanUnit unit).dirtyUnits →
    (s.cleanUnit unit).room 1 1 false = (some b, u) →
    answers (.hostDestage unit) s fun t => t.ftlm.nextId = u.ftlm.nextId + 1 ∧ (t.band b).next = (u.band b).next + 1 ∧
      (t.ftlm.progs.any fun e => e.1 = u.ftlm.nextId && e.2.band = b && e.2.dpage = (u.band b).next && e.2.src = .tier) = true ∧ t.tier = (s.cleanUnit unit).tier) ∧
  (∀ (s : State) (id : Nat) (p : Prog), s.ftlm.progs = [(id, p)] → s.inArray .program id = true → s.ftlm.exhausted = false → p.src = .tier →
    (s.band p.band).cls ≠ 0 → (s.band p.band).next ≠ (s.band p.band).size → (s.band p.band).phase = .opened →
    answers (.pageProgramComplete id true) s fun t => tget MPage.reset t.media.pages (pageKey p.band p.dpage) = p.page ∧ t.ftlm.progs = [] ∧
      s.inArray .program id = true ∧ t.inArray .program id = false ∧
      t.tier.lines = (s.tier.lines.map fun e =>
        if p.units.any fun g => g.1 = e.1 && g.2 = e.2.gen then (e.1, { e.2 with dirty := false, held := false }) else e) ∧
      (∀ r, p.page.oob = [r] → r.coarse = false → mapSt (s.mapEntry false r.lunit) = 0 →
        t.mapEntry false r.lunit = mapped (mkPua p.band p.dpage 0))) ∧
  (∀ (s : State) (id : Nat) (p : Prog) (c : Nat), (s.ftlm.progs.find? fun e => e.1 = id) = some (id, p) → s.inArray .program id = true →
    c = ((s.band p.band).place p.dpage).1 / 128 → c < 8 → s.inService (.mclu c) → (s.hdr (.mclu c)).evalid = false →
    answers (.pageProgramComplete id false) s fun t => hasCause t (.mclu c) 3 ∧ (t.hdr (.mclu c)).evalid = true ∧ (t.hdr (.mclu c)).ecode = 0x41 ∧
      (s.sysc.mode = .quench → (t.blk ((s.band p.band).place p.dpage).1 ((s.band p.band).place p.dpage).2.1).failed = true)) ∧
  (∀ (s : State) (die block b i : Nat) (k : Blk), s.inArray .erase (die * 8192 + block) = true → (s.blk die block).use = .band b →
    ((s.band b).members.findIdx? fun m => m = (die, block)) = some i → (s.band b).phase = .erasing → i ∈ (s.band b).unerased →
    k = (if (s.band b).slc then { s.blk die block with slc := (s.blk die block).slc + 1 } else { s.blk die block with qlc := (s.blk die block).qlc + 1 }) →
    ((s.ftlm.profile.getD {}).endurSlc = 0 ∨ k.slc < (s.ftlm.profile.getD {}).endurSlc) →
    ((s.ftlm.profile.getD {}).endurDense = 0 ∨ k.qlc < (s.ftlm.profile.getD {}).endurDense) → s.ftlm.exhausted = false → s.ingp = [] → block < 8192 →
    (answers (.eraseComplete die block true) s fun t => t.blk die block = k ∧ (t.band b).unerased = without (s.band b).unerased i ∧
      (t.band b).phase = if (without (s.band b).unerased i).isEmpty then .opened else .erasing) ∧
    (∀ nb, die < 1024 → s.inService (.mclu (die / 128)) → (s.die die).badBlocksAt = [] →
      (((s.modBlk die block fun _ => k).retireBlk die block).leastWorn die (s.band b).slc).map (·.2) = some nb →
      answers (.eraseComplete die block false) s fun t => (t.blk die block).use = .retired ∧ hasCause t (.mclu (die / 128)) 4 ∧
        (t.blk die nb).use = .band b ∧ (t.band b).members = (s.band b).members.set i (die, nb)))

/-- Anneal, garbage collection and the moves of units (07_translation.md, 02_modes_and_starts.md).
The band that anneal or garbage collection takes has its units moved, in a working mode, into the open band of their class: up to four
fine units into its next page, a coarse unit into its next 64; a completed move maps its unit to the copy and is done. -/
def Obligations.MediaMoves : Prop :=
  (∀ (s : State) (c : Instr) (band cls d : Nat) (kind : MoveKind) (us : List (Bool × Nat × Nat)), s.working = true → s.ftlm.exhausted = false →
    (c = .anneal band ∧ cls = 2 ∧ kind = .anneal ∧ s.annealPaused = false ∧ s.annealBand = some band ∧ us = s.annealUnits band) ∨
      (c = .gcStart band ∧ cls = 3 ∧ kind = .gc ∧ s.ftlm.gc = true ∧ s.gcVictim = some band ∧ us = s.bandUnits band) →
    (us ≠ [] → us.length ≤ 4 → (∀ u ∈ us, u.1 = false) → s.openWith cls 1 = some d →
      answers c s fun t => t.ftlm.moves = s.ftlm.moves ++ (us.zipIdx.map fun x =>
        { coarse := false, unit := x.1.2.1, src := x.1.2.2, dst := mkPua d (s.band d).next x.2, seq := s.ftlm.seq + x.2, kind := kind }) ∧
        (t.band d).next = (s.band d).next + 1 ∧ t.ftlm.seq = s.ftlm.seq + 4 ∧ t.sysc.mode = s.sysc.mode) ∧
    (∀ u src, us = [(true, u, src)] → s.openWith cls 64 = some d →
      answers c s fun t => t.ftlm.moves = s.ftlm.moves ++ [{ coarse := true, unit := u, src := src, dst := mkPua d (s.band d).next 0, seq := s.ftlm.seq, kind := kind }] ∧
        (t.band d).next = (s.band d).next + 64 ∧ t.ftlm.seq = s.ftlm.seq + 256 ∧ t.sysc.mode = s.sysc.mode)) ∧
  (∀ (s : State) (src dst : Nat) (m : Move), s.working = true → (s.ftlm.moves.find? fun m => m.src = src && m.dst = dst) = some m → m.coarse = false →
    s.mapEntry false m.unit = mapped m.src → (s.band (puaBand m.dst)).cls ≠ 0 → (s.band (puaBand m.dst)).next ≠ (s.band (puaBand m.dst)).size →
    puaBand m.src ≠ puaBand m.dst → (s.band (puaBand m.src)).failedRow = none →
    answers (.moveComplete src dst) s fun t => t.mapEntry false m.unit = mapped m.dst ∧ t.ftlm.moves = s.ftlm.moves.filter (· ≠ m))

/-- Map lines, the host data size and checkpoints (07_translation.md R333, 07_translation.md R346, 10_persistence.md R435, 10_persistence.md
R436).
A map line rebuilt in full captures code 0x41, one that lost units code 0x42 and poisons them; a host data size that does not fit is
refused with code 0x43; a checkpoint takes its cut at its time, waits behind another, and stands once it is programmed, or captures code
0x49. -/
def Obligations.MapAndCheckpoints : Prop :=
  (∀ (s : State) (coarse : Bool) (line : Nat), s.sysc.mode = .memory ∨ s.sysc.mode = .stream ∨ s.sysc.mode = .safe → (s.hdr .ftlm).evalid = false →
    line < 2 ^ 28 →
    (answers (.mapLineRebuilt coarse line []) s fun t => captured t .ftlm 0x41 (b2n coarse * 2 ^ 27 + line / 8 % 2 ^ 27) ∧ hasCause t .ftlm 5 ∧
      t.ftlm.fine = s.ftlm.fine ∧ t.ftlm.coarse = s.ftlm.coarse) ∧
    ∀ u, u / 12 = line → answers (.mapLineRebuilt coarse line [u]) s fun t =>
      captured t .ftlm 0x42 (b2n coarse * 2 ^ 27 + line / 8 % 2 ^ 27) ∧ t.mapEntry coarse u = poisoned) ∧
  (∀ (s : State) (v : Word), s.up .ftlm →
    (fld v 0 26 ≤ 33554432 → fld v 0 26 ≤ 12 * (s.tier.liveGib * 2 ^ 30 / 128) / 256 → fld v 0 26 + s.hankUse ≤ s.ftlm.exported →
      answers (.hdrcfgWrite v) s fun t => t.ftlm.hdrcfg = BitVec.ofNat 40 (fld v 0 26)) ∧
    (s.ftlm.exported < fld v 0 26 + s.hankUse → (s.hdr .ftlm).evalid = false →
      answers (.hdrcfgWrite v) s fun t => captured t .ftlm 0x43 0 ∧ t.ftlm = s.ftlm)) ∧
  (∀ (s u : State), s.settled → s.sysc.mode = .memory ∨ s.sysc.mode = .stream ∨ s.sysc.mode = .safe → u = s.passTicks s.checkpointWait →
    (s.pers.ckptBusy = none → answers .checkpointDue s fun t => t = u.checkpointCut ∧ t.pers.ckptBusy.isSome = true ∧ t.pers.cutAt = u.now ∧
      t.pers.rotation = (s.pers.rotation + 1) % 16) ∧
    (s.pers.ckptBusy.isSome = true → answers .checkpointDue s fun t => t = { u with pers := { u.pers with ckptWaiting := true } })) ∧
  (∀ (s : State) (c : Ckpt), s.pers.ckptBusy = some c → s.pers.ckptWaiting = false →
    (answers (.checkpointComplete true) s fun t => t.pers.ckptBusy = none ∧ t.media.ckpts = (c :: s.media.ckpts).take 16) ∧
    ((s.hdr .sysc).evalid = false → answers (.checkpointComplete false) s fun t => t.pers.ckptBusy = none ∧ t.media.ckpts = s.media.ckpts ∧
      captured t .sysc 0x49 0 ∧ hasCause t .sysc 11))

/-- Operations on dies and channels (09_media_bus.md, 08_media_reliability.md).
A status that is not busy ends the array time; a die that times out is reset, captures code 0x43 and has its command issued again; a
suspend lets a priority read in; array data asks for the channel, which grants one codeword at a time; a channel is retrained at its time,
and a failure sets its cause. -/
def Obligations.DieOperations : Prop :=
  (∀ (s : State) (d : Nat) (st : DieStatus), (s.die d).array.isSome = true → st ≠ .busy →
    answers (.dieStatusPoll d st) s fun t => (t.die d).arrayDone = true ∧ (t.die d).timeouts = 0 ∧ (t.die d).wasReset = false ∧
      (t.die d).array = (s.die d).array) ∧
  (∀ (s : State) (n : Nat), s.settled → answers (.rbNRise n) s fun t => t = s) ∧
  (∀ (s : State) (d : Nat) (o : DieOp), (s.die d).array = some o → (s.die d).wasReset = false → (s.die d).paused = none → (s.die d).queue = [] → d < 1024 →
    o.cls < 8 → s.resting = false → s.ftlm.exhausted = false → s.inService (.onfc (d / 16)) → (s.hdr (.onfc (d / 16))).evalid = false →
    answers (.dieCommandTimeout d) s fun t => captured t (.onfc (d / 16)) 0x43 (d % 16) ∧ hasCause t (.onfc (d / 16)) 5 ∧
      (t.die d).wasReset = true ∧ (t.die d).array = some (s.issued d o) ∧ (t.die d).retired = (s.die d).retired) ∧
  (∀ (s : State) (d : Nat) (o r : DieOp), s.settled → s.resting = false → (s.die d).array = some o → (s.die d).suspending = true → (s.die d).arrayDone = false →
    ((placed (s.die d).queue).find? fun r => r.cls = 1 && r.isRead) = some r →
    answers (.suspendEffective d) s fun t => (t.die d).paused = some { o with suspends := o.suspends + 1 } ∧ (t.die d).array = some (s.issued d r) ∧
      (t.die d).servedP1 = 1 ∧ (t.chan (d / 16)).suspCount = satInc 20 (s.chan (d / 16)).suspCount) ∧
  (∀ (s : State) (d : Nat) (o : DieOp), s.settled → (s.die d).array = some o → o.kind = .read → o.cls ≠ 1 → o.leg ≠ .recovery → (s.die d).queue = [] →
    (s.die d).paused = none → (s.chan (d / 16)).xfers = [] → (s.chan (d / 16)).granted = none →
    answers (.arrayReadComplete d) s fun t => (t.die d).array = none ∧
      (t.chan (d / 16)).granted = some { req := d % 16, cls := o.cls, die := d, ref := o.ref, recovery := false, left := 4 }) ∧
  (∀ (s : State) (n : Nat) (x : Xfer1), s.settled → (s.chan n).granted = some x → (s.chan n).xfers = [] → x.req < 17 →
    answers (.codewordTransferComplete n) s fun t => (t.chan n).granted = (if 1 < x.left then some { x with left := x.left - 1 } else none) ∧
      (t.chan n).xfers = []) ∧
  (∀ (s u : State) (n : Nat) (temp : Int), s.settled → (s.chan n).live = true → (s.chan n).retraining = false →
    u = (if 10 ≤ (temp - (s.chan n).trainTemp).natAbs then s else s.passTicks ((s.chan n).trainAt + dayNs - s.now)) →
    answers (.retrainDue n temp) s fun t => t = u.modChan n fun c => { c with retraining := true, trainTemp := temp }) ∧
  (∀ (s : State) (n : Nat), s.settled → (s.chan n).retraining = true →
    answers (.retrainStepComplete n true true) s fun t => (t.chan n).retraining = false ∧ (t.chan n).trainAt = s.now ∧
      (t.chan n).retrains = satInc 8 (s.chan n).retrains) ∧
  (∀ (s : State) (n : Nat) (last : Bool), n < 64 → (s.chan n).retraining = true → (s.chan n).failAt = [] → s.ftlm.exhausted = false →
    s.inService (.onfc n) →
    answers (.retrainStepComplete n false last) s fun t => (t.chan n).retraining = false ∧ (t.chan n).failAt = [s.now] ∧ hasCause t (.onfc n) 4)

/-- How a media read is recovered (08_media_reliability.md).
The first path to produce the data recovers the read and counts it: the target's own decode, which corrects at most 192 bit errors, a soft
decode, which corrects at most 330, or the stripe's rebuild. -/
def Obligations.MediaReads : Prop :=
  (∀ (s : State) (r : MRead) (d : Decoded), (s.clus.reads.find? fun x => x.id = r.id && x.outcome = .pending && s.inRow x r.target) = some r →
    d.errors < 135 → d.single = false →
    answers (.decodeComplete r.id r.target d) s fun t => t.clus.reads.length = s.clus.reads.length ∧ (∀ x ∈ t.clus.reads, x.id = r.id → x.outcome = .recovered) ∧
      (t.cluster (r.target / 128)).rddirect = wrapInc 40 (s.cluster (r.target / 128)).rddirect) ∧
  (∀ (s : State) (r : MRead) (errors : Nat) (ok : Bool), (s.clus.reads.find? fun x => x.id = r.id && x.outcome = .pending && decide (r.target ∈ x.soft)) = some r →
    r.target < 1024 → ok = true ∨ errors ≤ 330 → s.inService (.mclu (r.target / 128)) → (s.blk r.target (s.memberBlock r.pua r.target)).rewrite = true →
    answers (.softDecodeComplete r.id r.target { errors := errors, ok := ok }) s fun t => t.clus.reads.length = s.clus.reads.length ∧
      (∀ x ∈ t.clus.reads, x.id = r.id → x.outcome = .recovered) ∧
      (t.cluster (r.target / 128)).errSoft = satInc 16 (s.cluster (r.target / 128)).errSoft ∧ hasCause t (.mclu (r.target / 128)) 1) ∧
  (∀ (s : State) (r : MRead), (s.clus.reads.find? fun x => x.id = r.id && x.outcome = .pending) = some r → r.path = .rebuild ∨ r.recovery = true →
    r.legs = [] → r.badLegs = [] → r.targetFail = false →
    answers (.rebuildComplete r.id true) s fun t => t.clus.reads.length = s.clus.reads.length ∧ (∀ x ∈ t.clus.reads, x.id = r.id → x.outcome = .recovered) ∧
      (t.cluster (r.target / 128)).rdrebuild = wrapInc 40 (s.cluster (r.target / 128)).rdrebuild)

/-- Planish reads, deadlines and the phases of a retirement (08_media_reliability.md).
A planish read counts its wordline, and the block once every wordline is read; a deadline missed is listed with its cause; the first phase
of a retirement is followed by the second, which ends with its cause. -/
def Obligations.PlanishAndRetirement : Prop :=
  (∀ (s : State) (key n all : Nat) (d : Decoded), (s.blk (key / 8192) (key % 8192)).use = .band n → (s.band n).phase = .closed → (s.band n).valid ≠ 0 →
    wbit s.plan.ctrl 13 = false → s.planishPaused = false → s.working = true → s.plan.late = [] ∨ key ∈ s.plan.late → d.errors < 135 → d.single = false →
    all = (if (s.band n).slc then s.geometry.2.2 else ceilDiv s.geometry.2.1 4) →
    (tget 0 s.plan.wordline key + 1 < all →
      answers (.planishRead key d) s fun t => t.plan.wordline = tput 0 s.plan.wordline key (tget 0 s.plan.wordline key + 1) ∧ t.plan.blocks = s.plan.blocks) ∧
    (all ≤ tget 0 s.plan.wordline key + 1 →
      answers (.planishRead key d) s fun t => t.plan.wordline = tdel key s.plan.wordline ∧ t.plan.blocks = wrapInc 40 s.plan.blocks ∧
        t.plan.late = without s.plan.late key ∧ (t.blk (key / 8192) (key % 8192)).readAt = s.now)) ∧
  (∀ (s : State) (key n : Nat), (s.blk (key / 8192) (key % 8192)).use = .band n → (s.band n).phase = .closed → 0 < (s.band n).valid → key ∉ s.plan.late →
    answers (.planishDeadlineMissed key) s fun t => t.plan = { s.plan with late := s.plan.late ++ [key] } ∧ hasCause t .plan 1) ∧
  (∀ (s : State) (c : Nat), c < 8 → s.working = true →
    ((s.cluster c).retPhase = 1 → answers (.retirementPhaseComplete c) s fun t => (t.cluster c).retPhase = 2 ∧ (t.cluster c).retPct = 0) ∧
    ((s.cluster c).retPhase = 2 → s.inService (.mclu c) → answers (.retirementPhaseComplete c) s fun t => hasCause t (.mclu c) 8))

/-- The stream port's link comes up and goes down (11_ingest_port.md R454, 11_ingest_port.md R455, 11_ingest_port.md R456, 11_ingest_port.md
R457, 11_ingest_port.md R460, 11_ingest_port.md R467, 11_ingest_port.md R476, 11_ingest_port.md R478).
Each step of link-up ends in the next; the third forms the widest group of healthy lanes; the last brings the link up and begins
negotiation; an expired limit waits to restart; a lost alignment brings the link down; a calendar word sets the state of 16 channels. -/
def Obligations.LinkBringUp : Prop :=
  (∀ (s : State) (rx peer : Nat), s.sysc.mode.links = true → s.on .ilkn → s.ilkn.up = false → s.ilkn.waitRestart = false →
    (s.settled → s.ilkn.step = 0 → answers (.ilknLinkupStep rx peer) s fun t =>
      t = { s with ilkn := { s.ilkn with step := 1, rate := min 4 (fld s.ilkn.lanecfg 0 3) } }) ∧
    (s.settled → s.ilkn.step = 1 → answers (.ilknLinkupStep rx peer) s fun t =>
      t = { s with ilkn := { s.ilkn with step := 2, rxok := rx % 2 ^ s.fuse.part.lanes, peerok := peer % 2 ^ s.fuse.part.lanes } }) ∧
    (∀ k w, s.settled → s.ilkn.step = 2 →
      laneGroup s.fuse.part.lanes (rx % 2 ^ s.fuse.part.lanes &&& peer % 2 ^ s.fuse.part.lanes) = some (k, w) →
      answers (.ilknLinkupStep rx peer) s fun t => t = { s with ilkn := { s.ilkn with
        step := 3, group := k, width := w, rxok := rx % 2 ^ s.fuse.part.lanes, peerok := peer % 2 ^ s.fuse.part.lanes } }) ∧
    (s.ilkn.step = 3 → answers (.ilknLinkupStep rx peer) s fun t => t.ilkn.up = true ∧ t.ilkn.step = 4 ∧ t.kspe.vstate = 1 ∧ t.kspe.agreed = 0 ∧
      t.kspe.vmin = fld s.kspe.version 0 8 ∧ t.kspe.vmax = fld s.kspe.version 8 8 ∧ hasCause t .ilkn 1 ∧
      Out.versionFrame t.kspe.vmin t.kspe.vmax (fld s.coht.member 0 16) (wbit s.coht.member 16) ∈ t.out)) ∧
  (∀ (s : State), s.settled → s.sysc.mode.links = true → s.ilkn.up = false →
    answers .ilknLinkupTimeout s fun t => t = { s with ilkn := { s.ilkn with waitRestart := true, step := 0, group := 0, width := 0 } }) ∧
  (∀ (s : State), s.settled → answers .ilknRestartDelay s fun t => t = { s with ilkn := { s.ilkn with waitRestart := false } }) ∧
  (∀ (s : State) (lane : Nat), s.ilkn.up = true → s.ilkn.group * s.ilkn.width ≤ lane → lane < s.ilkn.group * s.ilkn.width + s.ilkn.width → lane < 2 ^ 28 →
    (s.hdr .ilkn).evalid = false →
    answers (.ilknAlignmentLoss lane) s fun t => t.ilkn.up = false ∧ t.ilkn.step = 0 ∧ t.ilkn.width = 0 ∧ t.kspe.agreed = 0 ∧ t.kspe.vstate = 0 ∧
      t.ilkn.rxok = clrBits s.ilkn.rxok (2 ^ lane) ∧ hasCause t .ilkn 2 ∧ captured t .ilkn 0x41 lane) ∧
  (∀ (s : State), s.ilkn.up = true → s.kspe.vstate = 1 ∨ s.kspe.vstate = 3 →
    answers .versionFrameTimer s fun t => t.kspe = { s.kspe with sentSeq := wrapInc 16 s.kspe.sentSeq } ∧
      Out.versionFrame s.kspe.vmin s.kspe.vmax (fld s.coht.member 0 16) (wbit s.coht.member 16) ∈ t.out) ∧
  (∀ (s : State) (first bits : Nat), s.ilkn.up = true →
    answers (.flowControlWord first bits) s fun t =>
      (∀ i < 16, (first + i) % 256 ∈ t.kspe.peerXoff ↔ bits.testBit i = false) ∧
      ∀ c < 256, (∀ i < 16, (first + i) % 256 ≠ c) → (c ∈ t.kspe.peerXoff ↔ c ∈ s.kspe.peerXoff))

/-- What each control frame does and how it is answered (11_ingest_port.md R476, 11_ingest_port.md R477, 11_ingest_port.md R478,
11_ingest_port.md R480, 11_ingest_port.md R481, 11_ingest_port.md R482, 12_capture.md R490, 12_capture.md R525, 12_capture.md R530,
20_cohort_and_time.md R789).
VERSION agrees on the highest common version or leaves no agreement; TOD loads the time; ARM and STOP act on their strand and TRIG
triggers it, each with its STATUS; a body of another length is answered 4, a disabled frame 5 and an unknown one 3. -/
def Obligations.ControlFrames : Prop :=
  (∀ (s : State) (g : Segment), s.hears g 1 → g.body.length = 1 → s.kspe.vstate = 1 ∨ s.kspe.vstate = 3 →
    (max (fld (g.body.getD 0 0) 0 8) s.kspe.vmin ≤ min (fld (g.body.getD 0 0) 8 8) s.kspe.vmax →
      answers (.version g) s fun t => t.kspe.agreed = min (fld (g.body.getD 0 0) 8 8) s.kspe.vmax ∧ t.kspe.vstate = 2 ∧ t.ilkn.step = 6 ∧
        hasCause t .kspe 1 ∧ Out.versionFrame t.kspe.agreed t.kspe.agreed (fld s.coht.member 0 16) (wbit s.coht.member 16) ∈ t.out ∧
        t.coht.peer = fld (g.body.getD 0 0) 16 16 ∧ t.coht.peerValid = wbit (g.body.getD 0 0) 32) ∧
    (min (fld (g.body.getD 0 0) 8 8) s.kspe.vmax < max (fld (g.body.getD 0 0) 0 8) s.kspe.vmin → s.kspe.vstate = 1 → (s.hdr .kspe).evalid = false →
      answers (.version g) s fun t => t.kspe.vstate = 3 ∧ t.kspe.agreed = s.kspe.agreed ∧ captured t .kspe 0x40 0 ∧ hasCause t .kspe 2)) ∧
  (∀ (s : State) (g : Segment) (time : Nat), s.hears g 2 → g.body.length = 2 → wbit s.kspe.ctrl 1 = true → wbit (g.body.getD 1 0) 26 = false →
    s.replayActive = false → time = fld (g.body.getD 1 0) 24 2 + 4 * g.wide 24 → time < 2 ^ 65 →
    answers (.tod g) s fun t => t.coht.phase = time * 2 ^ 32 ∧ t.coht.running = true ∧ hasCause t .coht 3 ∧ hasCause t .kspe 5 ∧
      Out.status 2 g.seq 0 ∈ t.out) ∧
  (∀ (s : State) (g : Segment), s.hears g 3 → g.body.length = 2 → wbit s.kspe.ctrl 0 = true → s.sysc.mode = .stream → s.canArm g.strand (g.wide 24) →
    answers (.arm { seg := g, same := none }) s fun t => (t.strand g.strand).armedFor (g.wide 24) ∧ Out.status 3 g.seq 0 ∈ t.out ∧ hasCause t .kspe 5 ∧
      ∀ m, m ≠ g.strand → t.strand m = s.strand m) ∧
  (∀ (s : State) (g : Segment), s.hears g 4 → g.body.length = 1 → wbit s.kspe.ctrl 0 = true → s.sysc.mode = .stream →
    (s.strand g.strand).live = true ∨ (s.strand g.strand).st = .scheduled →
    answers (.stop { seg := g, same := none }) s fun t => (t.strand g.strand).st = .idle ∧ (t.strand g.strand).armAt = none ∧ (t.strand g.strand).opened = false ∧
      (∀ x ∈ t.strd.timed, x.strand ≠ g.strand) ∧ Out.status 4 g.seq 0 ∈ t.out) ∧
  (∀ (s : State) (g : Segment), s.hears g 5 → g.body.length = 2 → wbit s.kspe.ctrl 2 = true → s.sysc.mode = .stream → s.kspe.agreed ≠ 1 →
    wbit (g.head 1) 16 = false → (s.strand g.strand).st = .armed → (s.strand g.strand).srcen.testBit 0 = true →
    answers (.trig g) s fun t => (t.strand g.strand).st = .running ∧ (t.strand g.strand).trigUnit = (s.strand g.strand).wpunit ∧ hasCause t .strd 2 ∧
      Out.status 5 g.seq 0 ∈ t.out) ∧
  (∀ (s : State) (g : Segment) (c : Instr) (len bit : Nat), s.hears g g.cop →
    (c = .tod g ∧ g.cop = 2 ∧ len = 2 ∧ bit = 1) ∨ (c = .arm { seg := g, same := none } ∧ g.cop = 3 ∧ len = 2 ∧ bit = 0) ∨ (c = .stop { seg := g, same := none } ∧ g.cop = 4 ∧ len = 1 ∧ bit = 0) ∨
      (c = .trig g ∧ g.cop = 5 ∧ len = 2 ∧ bit = 2 ∧ s.kspe.agreed ≠ 1) →
    (g.body.length ≠ len → answers c s fun t => Out.status g.cop g.seq 4 ∈ t.out ∧ t.strd = s.strd ∧ t.coht = s.coht) ∧
    (g.body.length = len → wbit s.kspe.ctrl bit = false →
      answers c s fun t => Out.status g.cop g.seq 5 ∈ t.out ∧ t.strd = s.strd ∧ t.coht = s.coht)) ∧
  (∀ (s : State) (g : Segment) (c : Instr), s.hears g g.cop → s.sysc.mode ≠ .stream →
    (c = .arm { seg := g, same := none } ∧ g.cop = 3 ∧ g.body.length = 2 ∧ wbit s.kspe.ctrl 0 = true) ∨ (c = .stop { seg := g, same := none } ∧ g.cop = 4 ∧ g.body.length = 1 ∧ wbit s.kspe.ctrl 0 = true) ∨
      (c = .trig g ∧ g.cop = 5 ∧ g.body.length = 2 ∧ s.kspe.agreed ≠ 1 ∧ wbit s.kspe.ctrl 2 = true) →
    answers c s fun t => Out.status g.cop g.seq 1 ∈ t.out ∧ t.strd = s.strd) ∧
  (∀ (s : State) (g : Segment), s.hears g g.cop → g.cop ∉ [1, 2, 3, 4, 5] →
    answers (.unknownControlFrame g) s fun t => Out.status g.cop g.seq 3 ∈ t.out ∧ t.strd = s.strd ∧ t.coht = s.coht)

/-- Data segments are discarded with their count, or staged (11_ingest_port.md R472, 11_ingest_port.md R473, 11_ingest_port.md R475,
12_capture.md R500, 12_capture.md R508).
The first check that fails counts the discard; a strand that is not armed counts it; an accepted segment in the middle of a record moves
the write point on by its words, without its strand's other settings. -/
def Obligations.DataSegments : Prop :=
  (∀ (s : State) (g : Segment) (k : Nat), s.ilkn.up = true → g.words.length < 2 ∨ g.typ ≠ 1 → s.failedCheck g = some k →
    (k ≠ 0 → answers (.dataSegment g) s fun t => tget 0 t.kspe.disc k = satInc 20 (tget 0 s.kspe.disc k) ∧ hasCause t .kspe 3 ∧ t.kspe.segs = s.kspe.segs) ∧
    (k = 0 → answers (.dataSegment g) s fun t => tget 0 t.kspe.disc 0 = satInc 20 (tget 0 s.kspe.disc 0) ∧ hasCause t .kspe 3 ∧ t.strd = s.strd)) ∧
  (∀ (s : State) (g : Segment), s.takesData g → s.armedFor g.strand = false →
    answers (.dataSegment g) s fun t => t.kspe.disc = tmod 0 s.kspe.disc 4 (satInc 20) ∧ hasCause t .kspe 3 ∧ t.strd = s.strd ∧ t.ingp = s.ingp) ∧
  (∀ (s : State) (g : Segment) (x : Strand), s.takesData g → s.armedFor g.strand = true → x = s.strand g.strand →
    wbit (g.head 0) 34 = false → wbit (g.head 0) 36 = false → x.seqany = true ∨ x.expseq = g.seq →
    (x.discard = true → answers (.dataSegment g) s fun t => t.kspe.segs = wrapInc 40 s.kspe.segs ∧ t.ingp = s.ingp ∧
      t.strand g.strand = { x with seqany := false, expseq := (g.seq + 1) % 2 ^ 16, discard := !wbit (g.head 0) 35 }) ∧
    (x.discard = false → x.opened = true → x.resume = false → x.filterWait = false → 4 ≤ x.recHead.length → wbit (g.head 0) 35 = false → 0 < x.wpword →
      x.wpword + g.body.length < unitWords → (s.pipe (g.strand % 4)).sealwait = false →
      ((s.pipe (g.strand % 4)).cruc (s.pipe (g.strand % 4)).filling).length + g.body.length ≤ 256 →
      answers (.dataSegment g) s fun t => t.kspe.segs = wrapInc 40 s.kspe.segs ∧
        (t.strand g.strand).wpword = x.wpword + g.body.length ∧ (t.strand g.strand).rlen = x.rlen + g.body.length ∧
        (t.strand g.strand).wpunit = x.wpunit ∧ (t.strand g.strand).expseq = (g.seq + 1) % 2 ^ 16 ∧ (t.strand g.strand).st = x.st ∧
        ∀ m, m ≠ g.strand → t.strand m = s.strand m))

/-- Strands are allocated, adopted, configured, rewound and released (12_capture.md R491, 12_capture.md R492, 12_capture.md R494,
12_capture.md R495, 12_capture.md R541, 12_capture.md R542, 12_capture.md R543).
ALLOC makes the strand of the staged words, and with ADOPT waits until its write point is found; CONFIG changes an idle strand's
configuration; REWIND and RELEASE empty the hank once no frame of it is staged; what cannot be done is refused with its result and code
0x40. -/
def Obligations.StrandAllocation : Prop :=
  (∀ (s : State) (n : Nat) (adopt : Bool), s.strdTakes [.memory, .stream] n → (s.strand n).st = .free → s.configOk s.staged = true →
    s.staged.hbase + s.staged.hsize ≤ unitCount → s.hankLocked s.staged.hbase s.staged.hsize = false → s.hankTaken n s.staged = false →
    (s.modStrand n fun _ => s.staged).hankUse + s.ftlm.hdrMib ≤ s.ftlm.exported →
    (adopt = false → answers (.alloc adopt) s fun t => t.strand n = s.staged ∧ strdOk t 1 ∧ ∀ m, m ≠ n → t.strand m = s.strand m) ∧
    (adopt = true → answers (.alloc adopt) s fun t => t.strand n = s.staged ∧ t.strd.adopting = some n ∧ t.strd.go = true)) ∧
  (∀ (s : State) (n : Nat) (adopt : Bool), s.strdTakes [.memory, .stream] n → (s.hdr .strd).evalid = false →
    ((s.strand n).st ≠ .free → answers (.alloc adopt) s fun t => t.strd.result = 3 ∧ captured t .strd 0x40 n ∧ t.strd.strands = s.strd.strands) ∧
    ((s.strand n).st = .free → s.configOk s.staged = false →
      answers (.alloc adopt) s fun t => t.strd.result = 4 ∧ captured t .strd 0x40 n ∧ t.strd.strands = s.strd.strands)) ∧
  (∀ (s : State) (n : Nat), s.strd.adopting = some n →
    answers .allocAdoptComplete s fun t => t.strd.adopting = none ∧ (t.strand n).st = .idle ∧ t.strd.result = 0 ∧ t.strd.go = false ∧ hasCause t .strd 1) ∧
  (∀ (s : State) (n : Nat) (y : Strand), s.strdTakes [.memory, .stream] n → (s.strand n).st = .idle ∨ (s.strand n).st = .done →
    s.replayBound n = false → y = (s.strand n).configure s.strd.stage2 s.strd.stage4 s.strd.stage5 → s.configOk y = true →
    answers .config s fun t => t.strand n = y ∧ strdOk t 2 ∧ y.hsize = (s.strand n).hsize ∧ y.wpunit = (s.strand n).wpunit) ∧
  (∀ (s : State) (n : Nat), s.strdTakes [.memory, .stream] n → (s.strand n).st = .idle ∨ (s.strand n).st = .done → s.replayBound n = false →
    (∀ e ∈ s.strd.strands, e.2.releasing = none) →
    (s.framesGone n = true → answers .rewind s fun t => (t.strand n).st = .idle ∧ (t.strand n).wpunit = 0 ∧ (t.strand n).wpword = 0 ∧
      (t.strand n).releasing = none ∧ (t.strand n).hbase = (s.strand n).hbase ∧ strdOk t 8) ∧
    (s.framesGone n = false → answers .rewind s fun t => (t.strand n).releasing = some false ∧ t.strd.go = true)) ∧
  (∀ (s : State) (n : Nat), s.strdTakes [.memory, .stream, .safe] n → (s.strand n).st = .idle ∨ (s.strand n).st = .done → s.replayBound n = false →
    answers .release s fun t => (t.strand n).releasing = some true ∧ t.strd.go = true ∧ t.strd.op = 9) ∧
  (∀ (s : State) (n : Nat) (x : Strand), (s.strd.strands.find? fun e => e.2.releasing = some true) = some (n, x) → s.framesGone n = true →
    answers .releaseComplete s fun t => t.strand n = .reset ∧ (∀ u ∈ t.strd.timed, u.strand ≠ n) ∧ t.strd.result = 0 ∧ t.strd.go = false ∧
      hasCause t .strd 1) ∧
  (∀ (s : State) (op : Nat), s.up .strd → s.strd.go = false → op ∉ [1, 2, 3, 4, 5, 6, 7, 8, 9] → (s.hdr .strd).evalid = false →
    answers (.strdUnknownOp op) s fun t => t.strd.result = 7 ∧ captured t .strd 0x40 (fld s.strd.sel 0 18) ∧ t.strd.strands = s.strd.strands)

/-- Strands are armed, stopped and triggered by command (12_capture.md R487, 12_capture.md R490, 12_capture.md R517, 12_capture.md R525,
12_capture.md R530, 12_capture.md R534, 12_capture.md R541, 12_capture.md R542, 12_capture.md R543).
In STREAM, ARM arms or schedules an idle strand, STOP idles a live one, TRIGGER runs an armed one and TIMEDTRIG lists a trigger; DROPREM
ends the open record; each completes with CMDDONE; in another mode each is refused with result 2, and while a command is in progress with
result 1. -/
def Obligations.StrandCommands : Prop :=
  (∀ (s : State) (n : Nat), s.strdTakes [.stream] n → s.canArm n s.strd.time →
    answers .strandArm s fun t => (t.strand n).armedFor s.strd.time ∧ strdOk t 3 ∧ ∀ m, m ≠ n → t.strand m = s.strand m) ∧
  (∀ (s : State) (n : Nat), s.strdTakes [.stream] n → (s.strand n).live = true ∨ (s.strand n).st = .scheduled →
    answers .strandStop s fun t => (t.strand n).st = .idle ∧ (t.strand n).armAt = none ∧ (t.strand n).opened = false ∧
      (∀ x ∈ t.strd.timed, x.strand ≠ n) ∧ strdOk t 4) ∧
  (∀ (s : State) (n : Nat), s.strdTakes [.stream] n →
    ((s.strand n).st = .armed → (s.strand n).srcen.testBit 4 = true →
      answers .trigger s fun t => (t.strand n).st = .running ∧ (t.strand n).trigUnit = (s.strand n).wpunit ∧ hasCause t .strd 2 ∧ strdOk t 5) ∧
    ((s.strand n).st ≠ .armed → (s.strand n).st ≠ .free → (s.strand n).srcen.testBit 4 = true →
      answers .trigger s fun t => t.strd.trigIgn = satInc 20 s.strd.trigIgn ∧ t.strd.strands = s.strd.strands ∧ strdOk t 5)) ∧
  (∀ (s : State) (n : Nat), s.strdTakes [.stream] n → (s.strand n).st ≠ .free → (s.strd.time ≠ 0 → s.coht.running = true) → s.timedUsed < 4096 →
    answers .timedtrig s fun t => t.strd.timed = s.strd.timed ++ [{ at_ := s.strd.time, strand := n }] ∧ strdOk t 6 ∧ t.strd.strands = s.strd.strands) ∧
  (∀ (s : State) (n : Nat), s.strdTakes [.stream] n → (s.strand n).live = true →
    answers .droprem s fun t => strdOk t 7 ∧ ((s.strand n).mode ≠ 1 → (t.strand n).opened = false)) ∧
  (∀ (s : State) (c : Instr) (op : Nat), s.up .strd → fld s.strd.sel 0 18 < 2 ^ 28 → (s.hdr .strd).evalid = false →
    (c = .strandArm ∧ op = 3) ∨ (c = .strandStop ∧ op = 4) ∨ (c = .trigger ∧ op = 5) ∨ (c = .timedtrig ∧ op = 6) ∨ (c = .droprem ∧ op = 7) →
    (s.strd.go = true → answers c s fun t => t.strd.result = 1 ∧ captured t .strd 0x40 (fld s.strd.sel 0 18) ∧ t.strd.strands = s.strd.strands) ∧
    (s.strd.go = false → s.sysc.mode ≠ .stream → answers c s fun t => t.strd.result = 2 ∧ t.strd.op = op ∧ captured t .strd 0x40 (fld s.strd.sel 0 18) ∧
      t.strd.strands = s.strd.strands))

/-- Arm times, timed triggers, filters, the trigger log, seals and index rebuilds (12_capture.md R487, 12_capture.md R509, 12_capture.md R519,
12_capture.md R534, 12_capture.md R535, 12_capture.md R540).
A scheduled strand is armed at its time; a due trigger reaches its strand or is counted; a filter word is stored; the log's oldest entry
is popped; the seal interval seals the crucible; a rebuilt index line replaces the one there, and the last one wanted sets its cause. -/
def Obligations.StrandTimers : Prop :=
  (∀ (s : State) (n u : Nat), s.settled → (s.strand n).st = .scheduled → s.sysc.mode = .stream → (s.strand n).armAt = some u → u ≤ s.cohortNs →
    answers (.armTimeReached n) s fun t => t = s.modStrand n fun x => { x with st := .armed, armAt := none }) ∧
  (∀ (s : State) (u : TimedTrig), s.dueTimed = some u →
    ((s.strand u.strand).st = .armed → (s.strand u.strand).srcen.testBit 2 = true →
      answers .timedTriggerDue s fun t => (t.strand u.strand).st = .running ∧ t.strd.timed = s.strd.timed.erase u ∧ hasCause t .strd 2) ∧
    (s.settled → (s.strand u.strand).st ≠ .armed →
      answers .timedTriggerDue s fun t => t = { s with strd := { s.strd with timed := s.strd.timed.erase u, trigIgn := satInc 20 s.strd.trigIgn } })) ∧
  (∀ (s : State) (v : Word), s.settled → s.up .strd →
    (fld s.strd.fsel 12 4 < 8 → answers (.filterWrite v) s fun t => t = { s with strd := { s.strd with
      filters := tput 0 s.strd.filters (16 * fld s.strd.fsel 0 12 + fld s.strd.fsel 12 4) v } }) ∧
    (8 ≤ fld s.strd.fsel 12 4 → answers (.filterWrite v) s fun t => t = { s with strd := { s.strd with
      filters := tput 0 s.strd.filters (16 * fld s.strd.fsel 0 12 + 8) (keep v 1) } }) ∧
    answers .triggerLogPop s fun t => t = { s with strd := { s.strd with trigLog := s.strd.trigLog.drop 1 } }) ∧
  (∀ (s : State) (p u : Nat), p < 4 → (s.pipe p).since = some u → u + max 10 (fld (s.pipe p).ctrl 2 14) * 1000 ≤ s.now → (s.pipe p).sealwait = false →
    ((s.pipe p).cruc (s.pipe p).filling).all (·.sealed) = false →
    answers (.sealIntervalExpired p) s fun t => (t.pipe p).seals = satInc 20 (s.pipe p).seals) ∧
  (∀ (s : State) (c : Nat), s.on .strd → c < unitCount →
    answers (.indexRebuildComplete c) s fun t => t.strd.rebuild = without s.strd.rebuild c ∧
      t.idxLine c = s.walkSlots c { s.idxLine c with e := [] } 0 unitWords ∧
      ((without s.strd.rebuild c).isEmpty = true → hasCause t .strd 5) ∧ (c ∉ s.strd.rebuild → (s.idxLine c).e ≠ [] → (s.hdr .strd).evalid = false → captured t .strd 0x41 c))

/-- Setting and reading the time (20_cohort_and_time.md R786, 20_cohort_and_time.md R788, 20_cohort_and_time.md R789, 20_cohort_and_time.md
R790, 20_cohort_and_time.md R791, 20_cohort_and_time.md R793).
A set at once loads the time; one at an edge waits; one that cannot be taken is refused with code 0x40; a set that waited 2.5 s is
refused; a read of TIMELO latches TIMEHI. -/
def Obligations.CohortSets : Prop :=
  (∀ (s : State) (time : Nat), s.up .coht → s.replayActive = false → time < 2 ^ 65 →
    time = fld s.coht.sethi 24 2 + 4 * (fld s.coht.setlo 0 40 + 2 ^ 40 * fld s.coht.sethi 0 24) →
    (wbit s.coht.sethi 26 = false → answers .timeSet s fun t => t.coht.phase = time * 2 ^ 32 ∧ t.coht.running = true ∧ t.coht.setGo = false ∧
      t.coht.setRefused = false ∧ t.coht.setWait = none ∧ hasCause t .coht 3) ∧
    (wbit s.coht.sethi 26 = true → wbit s.coht.disc 0 = true → answers .timeSet s fun t =>
      t.coht.setWait = some { time := time, frame := none, at_ := s.now } ∧ t.coht.setGo = true ∧ t.coht.setRefused = false ∧
      t.coht.phase = s.coht.phase)) ∧
  (∀ (s : State), s.up .coht → (s.hdr .coht).evalid = false →
    s.replayActive = true ∨ wbit s.coht.sethi 23 = true ∨ (wbit s.coht.sethi 26 = true ∧ wbit s.coht.disc 0 = false) →
    answers .timeSet s fun t => t.coht.setRefused = true ∧ t.coht.setGo = false ∧ t.coht.phase = s.coht.phase ∧ captured t .coht 0x40 0) ∧
  (∀ (s : State) (w : SetReq), s.coht.setWait = some w → w.at_ + 2500000000 ≤ s.now →
    answers .atppsSetTimeout s fun t => t.coht.setWait = none ∧ t.coht.setRefused = true ∧ t.coht.phase = s.coht.phase ∧
      (w.frame = none → (s.hdr .coht).evalid = false → t.coht.setGo = false ∧ captured t .coht 0x40 0)) ∧
  (∀ (s : State), s.up .coht →
    answers .timeloRead s fun t => t.coht = { s.coht with
        timehi := packW [(24, s.cohortNs / 2 ^ 40), (2, s.cohort), (1, b2n s.coht.running)] } ∧
      Out.regRead (BitVec.ofNat 64 (s.cohortNs % 2 ^ 40)) ∈ t.out)

/-- The edges of PPS discipline the time (20_cohort_and_time.md R789, 20_cohort_and_time.md R790, 20_cohort_and_time.md R794,
20_cohort_and_time.md R795, 20_cohort_and_time.md R805).
A locked discipline rejects an edge outside its window, and is unlocked by the third in a row; an accepted edge moves the integral and the
rate; a large error steps the time; a waiting set is loaded at the edge; three missed seconds lead to HOLDOVER; DISC begins and ends the
discipline. -/
def Obligations.PpsDiscipline : Prop :=
  (∀ (s : State) (frac : Nat) (e : Int), s.on .coht → wbit s.coht.disc 0 = true → e = ppsError (s.cohort + frac % 4) →
    (s.settled → s.coht.dstate = .locked → s.coht.window < e.natAbs → s.coht.glitches < 2 →
      answers (.ppsEdge frac) s fun t => t = { s with coht := { s.coht with err := e, glitches := s.coht.glitches + 1 } }) ∧
    (s.coht.dstate = .locked → s.coht.window < e.natAbs → 2 ≤ s.coht.glitches →
      answers (.ppsEdge frac) s fun t => t.coht.dstate = .acquiring ∧ t.coht.err = e ∧ hasCause t .coht 2 ∧ t.coht.phase = s.coht.phase) ∧
    (s.settled → s.coht.dstate = .locked → e.natAbs ≤ s.coht.window → s.coht.setWait = none →
      answers (.ppsEdge frac) s fun t => t = { s with coht := { s.coht with
        err := e, glitches := 0, missed := 0, lastEdge := s.now, good := satInc 3 s.coht.good,
        integ := clampRate (s.coht.integ + e * 2 ^ (15 - fld s.coht.disc 4 4)),
        rate := clampRate (clampRate (s.coht.integ + e * 2 ^ (15 - fld s.coht.disc 4 4)) + e * 2 ^ (15 - fld s.coht.disc 1 3)) } }) ∧
    (s.coht.dstate ≠ .locked → s.coht.stepThr < e.natAbs → s.replayActive = false → s.coht.setWait = none →
      answers (.ppsEdge frac) s fun t => t.coht.phase = (((s.coht.phase : Int) - e * 2 ^ 32) % 2 ^ 98).toNat ∧ t.coht.dstate = .acquiring ∧
        t.coht.integ = 0 ∧ t.coht.good = 0 ∧ hasCause t .coht 3) ∧
    (∀ w : SetReq, ¬(s.coht.dstate = .locked ∧ s.coht.window < e.natAbs) → s.replayActive = false → s.coht.setWait = some w → w.time % second = 0 →
      answers (.ppsEdge frac) s fun t => t.coht.phase = (w.time + 2 ^ 66 - frac % 4) % 2 ^ 66 * 2 ^ 32 ∧ t.coht.running = true ∧
        t.coht.setWait = none ∧ t.coht.err = 0 ∧ hasCause t .coht 3)) ∧
  (∀ (s : State), s.on .coht → wbit s.coht.disc 0 = true → s.coht.lastEdge + 1500000000 + 1000000000 * s.coht.missed ≤ s.now →
    (s.settled → ¬(s.coht.dstate = .locked ∧ 2 ≤ s.coht.missed) →
      answers .ppsMissedSecond s fun t => t = { s with coht := { s.coht with missed := satInc 8 s.coht.missed } }) ∧
    (s.coht.dstate = .locked → 2 ≤ s.coht.missed →
      answers .ppsMissedSecond s fun t => t.coht.dstate = .holdover ∧ t.coht.missed = satInc 8 s.coht.missed ∧ hasCause t .coht 2)) ∧
  (∀ (s : State) (v w : Word), s.up .coht → w = setFld (setFld v 8 16 (max 1 (fld v 8 16))) 24 16 (max 1 (fld v 24 16)) →
    (wbit v 0 = true → wbit s.coht.disc 0 = false → answers (.discWrite v) s fun t => t.coht.disc = w ∧ t.coht.dstate = .acquiring ∧
      t.coht.lastEdge = s.now ∧ t.coht.missed = 0 ∧ t.coht.glitches = 0 ∧ t.coht.good = 0 ∧ t.coht.integ = 0) ∧
    (wbit v 0 = false → wbit s.coht.disc 0 = true → answers (.discWrite v) s fun t => t.coht.disc = w ∧ t.coht.dstate = .free ∧
      t.coht.rate = 0 ∧ t.coht.missed = 0 ∧ t.coht.setWait = none ∧ (s.coht.dstate = .locked → hasCause t .coht 2)) ∧
    (s.settled → wbit v 0 = wbit s.coht.disc 0 → answers (.discWrite v) s fun t => t = { s with coht := { s.coht with disc := w } }))

/-- The trigger lines (12_capture.md R530, 20_cohort_and_time.md R801, 20_cohort_and_time.md R803).
An edge of TRIG_IN outside the hold-off is counted and triggers every armed strand that enables the line, in STREAM; one within it changes
nothing; TRIG_OUT rises at its time and is released after its pulse. -/
def Obligations.TriggerLines : Prop :=
  (∀ (s : State) (frac : Nat), s.on .coht → ¬(wbit s.coht.trigcfg 39 = true ∧ s.coht.outHigh = true) →
    ((∀ u, s.coht.lastIn = some u → u + s.coht.holdoff ≤ 4 * s.now + frac % 4) →
      answers (.trigInEdge frac) s fun t => t.coht.trigIn = satInc 16 s.coht.trigIn ∧ t.coht.lastIn = some (4 * s.now + frac % 4) ∧ hasCause t .coht 5 ∧
        (s.sysc.mode ≠ .stream → t.strd = s.strd) ∧
        (s.sysc.mode = .stream → ∀ n, (s.strand n).st = .armed → (s.strand n).srcen.testBit 1 = true → (t.strand n).st = .running)) ∧
    (∀ u, s.settled → s.coht.lastIn = some u → 4 * s.now + frac % 4 < u + s.coht.holdoff → answers (.trigInEdge frac) s fun t => t = s)) ∧
  (∀ (s : State) (u : Nat) (rest : List Nat), s.settled → s.coht.outRise = u :: rest → u ≤ s.cohort →
    answers .trigOutRise s fun t => t = { s with coht := { s.coht with outRise := rest, outHigh := true, outStart := u, outEver := true } }) ∧
  (∀ (s : State), s.settled → s.coht.outHigh = true → s.coht.outStart + s.coht.pulse ≤ s.cohort →
    answers .trigOutPulseEnd s fun t => t = { s with coht := { s.coht with outHigh := false } })

/-- Replay slots are bound, configured, preloaded, started, stopped and unbound (13_replay_and_query.md R545, 13_replay_and_query.md R548,
13_replay_and_query.md R550, 13_replay_and_query.md R552, 13_replay_and_query.md R556, 13_replay_and_query.md R559, 13_replay_and_query.md
R567, 13_replay_and_query.md R572, 13_replay_and_query.md R583).
Each command completes on the slot that SEL names with CMDDONE when its slot, its strand and the pool allow it; an unknown OP is refused
with result 7 and a command in another mode with result 2. That a preload begins in BOUND is the model's reading (log 73). -/
def Obligations.ReplayCommands : Prop :=
  (∀ (s : State) (k n : Nat), s.rpleTakes [.memory, .stream] k → n = fld (s.slot k).cfg0 0 18 → (s.slot k).st = .unbound → n < s.strandCount →
    (s.strand n).st = .idle ∨ (s.strand n).st = .done → (s.strand n).releasing = none → s.strd.adopting ≠ some n →
    s.hankLocked (s.strand n).hbase (s.strand n).hsize = false →
    answers .bind s fun t => (t.slot k).st = .bound ∧ (t.slot k).strand = n ∧ rpleOk t k 1 ∧ ∀ j, j ≠ k → t.slot j = s.slot j) ∧
  (∀ (s : State) (k : Nat) (x : Slot), s.rpleTakes [.memory, .stream] k → x = s.slot k → x.st = .bound ∨ x.st = .done →
    (fld x.cfg0 18 8 ≠ 0 → fld x.cfg1 0 18 ≠ fld x.cfg1 18 18 →
      answers .replayConfig s fun t => (t.slot k).app0 = x.cfg0 ∧ (t.slot k).app1 = x.cfg1 ∧ (t.slot k).app2 = x.cfg2 ∧
        (t.slot k).from_ = x.fromLo.toNat + 2 ^ 40 * x.fromHi.toNat ∧ (t.slot k).to_ = x.toLo.toNat + 2 ^ 40 * x.toHi.toNat ∧
        (t.slot k).gap = x.loopgap.toNat ∧ (t.slot k).strand = x.strand ∧ rpleOk t k 2) ∧
    (x.st = .bound → s.poolHolds x = true → answers .preload s fun t => (t.slot k).st = .loading ∧ (t.slot k).window = s.replayWindow x ∧
      (t.slot k).poolMib = x.bufmib ∧ rpleOk t k 3) ∧
    (x.st = .bound → s.poolHolds x = false → (s.hdr .rple).evalid = false →
      answers .preload s fun t => (t.slot k).result = 5 ∧ (t.slot k).st = x.st ∧ captured t .rple 0x40 k)) ∧
  (∀ (s : State) (k time : Nat) (x : Slot), s.rpleTakes [.stream] k → x = s.slot k → x.st = .bound ∨ x.st = .loading ∨ x.st = .done →
    time = x.startLo.toNat + 2 ^ 40 * fld x.startHi 0 26 → s.kspe.agreed ≠ 0 → (s.kspe.agreed = 1 → x.outstrand < 65536 ∧ x.gapstrand < 65536) →
    (time ≠ 0 → s.coht.running = true ∧ s.cohort + 40000 ≤ time) → s.poolHolds x = true →
    answers .start s fun t => rpleOk t k 4 ∧ if (s.replayWindow x).isEmpty then (t.slot k).st = .done ∧ hasCause t .rple 4
      else (t.slot k).st = .waiting ∧ (t.slot k).window = s.replayWindow x ∧ (t.slot k).next = 0 ∧ (t.slot k).seq = 0 ∧ (t.slot k).sent = 0 ∧
        (time ≠ 0 → (t.slot k).start = time)) ∧
  (∀ (s : State) (k : Nat), s.up .rple → k = fld s.rple.sel 0 6 →
    ((s.slot k).st ≠ .unbound → s.rple.framer ≠ some k → answers .replayStop s fun t => (t.slot k).st = .done ∧ rpleOk t k 5) ∧
    ((s.slot k).st = .waiting ∨ (s.slot k).st = .running → s.rple.framer = some k →
      answers .replayStop s fun t => (t.slot k).stopping = true ∧ (t.slot k).st = (s.slot k).st ∧ rpleOk t k 5) ∧
    ((s.slot k).st = .bound ∨ (s.slot k).st = .loading ∨ (s.slot k).st = .done →
      answers .unbind s fun t => (t.slot k).st = .unbound ∧ (t.slot k).strand = 0 ∧ (t.slot k).poolMib = 0 ∧ rpleOk t k 6) ∧
    (∀ op, op ∉ [1, 2, 3, 4, 5, 6] → (s.hdr .rple).evalid = false →
      answers (.rpleUnknownOp op) s fun t => (t.slot k).result = 7 ∧ (t.slot k).st = (s.slot k).st ∧ captured t .rple 0x40 k)) ∧
  (∀ (s : State) (c : Instr) (k : Nat), s.up .rple → k = fld s.rple.sel 0 6 → (s.hdr .rple).evalid = false →
    (c = .start ∧ s.sysc.mode ≠ .stream) ∨ ((c = .bind ∨ c = .replayConfig ∨ c = .preload) ∧ s.sysc.mode ≠ .memory ∧ s.sysc.mode ≠ .stream) →
    answers c s fun t => (t.slot k).result = 2 ∧ (t.slot k).st = (s.slot k).st ∧ captured t .rple 0x40 k)

/-- Replay reads its pages ahead (13_replay_and_query.md R565, 13_replay_and_query.md R566, 13_replay_and_query.md R569).
The next page within the horizon and the buffer's limit is read; a page read that is still wanted is buffered, and marked where it was
bad. -/
def Obligations.ReplayPages : Prop :=
  (∀ (s : State) (k key : Nat), s.settled → (s.slot k).preloading = true ∨ (s.slot k).st = .waiting ∨ (s.slot k).st = .running →
    s.nextPage (s.slot k) (s.hankRecords (s.slot k).strand) = some key →
    answers (.replayPageRead k (key % 2 ^ 32)) s fun t => t = s.modReplay k fun x => { x with reading := x.reading ++ [key] }) ∧
  (∀ (s : State) (k page key : Nat) (ok : Bool), ((s.slot k).reading.find? fun q => q % 2 ^ 32 = page) = some key →
    answers (.replayPageBuffered k page ok) s fun t => (t.slot k).reading = without (s.slot k).reading key ∧
      (key ∈ (s.slot k).wanted (s.hankRecords (s.slot k).strand) → key ∈ (t.slot k).buffered ∧ (ok = false → key ∈ (t.slot k).bad)))

/-- Records leave when they are due (13_replay_and_query.md R550, 13_replay_and_query.md R554, 13_replay_and_query.md R555,
13_replay_and_query.md R561, 13_replay_and_query.md R563, 13_replay_and_query.md R570, 13_replay_and_query.md R571, 13_replay_and_query.md
R574).
A due record is skipped when it is marked bad or its pages or the link are missing, waits for the framer or for XON, and otherwise its
first segment leaves; the framer's segment is followed by the slot's next; a gap ends with a marker before the first record that can
leave. -/
def Obligations.ReplayDepartures : Prop :=
  (∀ (s : State) (k : Nat) (x : Slot) (r : List HSlot), x = s.slot k → x.st = .waiting ∨ x.st = .running → x.startWait = false → x.late = false →
    x.stopping = false → s.nextRecord x = some r → x.due (s.hankRecords x.strand) x.pass r ≤ s.cohort →
    (x.skipbad = true → recFlag r [21, 22, 23, 25] = true →
      answers (.recordDue k) s fun t => (t.slot k).skipBad = satInc 20 x.skipBad ∧ (t.slot k).seq = x.seq ∧ t.rple.framer = s.rple.framer) ∧
    (¬(x.skipbad = true ∧ recFlag r [21, 22, 23, 25] = true) →
      s.replayLink = false ∨ x.buffers x.pass r = false ∨ s.recordLost x x.pass r = true →
      answers (.recordDue k) s fun t => (t.slot k).skipUnder = satInc 20 x.skipUnder ∧ t.rple.framer = s.rple.framer) ∧
    (¬(x.skipbad = true ∧ recFlag r [21, 22, 23, 25] = true) → s.replayLink = true → x.buffers x.pass r = true → s.recordLost x x.pass r = false →
      (s.settled → s.rple.framer.isSome = true ∨ x.sending = true ∨ x.chan ∈ s.kspe.peerXoff →
        answers (.recordDue k) s fun t => t = s.modReplay k fun x => { x with st := .running, late := true }) ∧
      (s.rple.framer = none → x.sending = false → x.chan ∉ s.kspe.peerXoff →
        answers (.recordDue k) s fun t => t.rple.framer = some k ∧ (t.slot k).sending = true ∧ (t.slot k).st = .running ∧
          ∃ w0 w1 body, Out.segment x.chan (w0 :: w1 :: body) ∈ t.out ∧ fld w0 0 18 = x.outstrand ∧ wbit w0 34 = true))) ∧
  (∀ (s : State) (k : Nat) (x : Slot), x = s.slot k → s.rple.framer = some k →
    (x.stopping = true → answers (.segmentSent k) s fun t => (t.slot k).st = .done ∧ hasCause t .rple 4) ∧
    (x.stopping = false → x.segq = [] → answers (.segmentSent k) s fun t => (t.slot k).sent = wrapInc 40 x.sent ∧
      (x.window.length ≤ x.next → (t.slot k).st = .done)) ∧
    (∀ g l, x.stopping = false → x.segq = g :: l → s.replayLink = true → x.chan ∉ s.kspe.peerXoff →
      answers (.segmentSent k) s fun t => t.rple.framer = some k ∧ (t.slot k).segq = l ∧ (t.slot k).seq = wrapInc 16 x.seq ∧
        ∃ w0 w1, Out.segment x.chan (w0 :: w1 :: g.1) ∈ t.out) ∧
    (x.stopping = false → x.segq ≠ [] → s.replayLink = false →
      answers (.segmentSent k) s fun t => (t.slot k).segq = [] ∧ (t.slot k).sending = false ∧ (t.slot k).sent = x.sent ∧ t.rple.framer = none)) ∧
  (∀ (s : State) (k : Nat) (x : Slot) (r : List HSlot), x = s.slot k → x.run ≠ 0 → x.endSent = false → x.gapen = true → s.replayLink = true →
    x.st = .running → s.nextRecord x = some r → x.due (s.hankRecords x.strand) x.pass r ≤ s.cohort + s.cycles16 →
    ¬(x.skipbad = true ∧ recFlag r [21, 22, 23, 25] = true) → x.buffers x.pass r = true → s.recordLost x x.pass r = false →
    answers (.gapMarkerEnd k) s fun t => (t.slot k).endSent = true ∧ (t.slot k).seq = wrapInc 16 x.seq ∧
      ∃ w0 w1 body, Out.segment x.chan (w0 :: w1 :: body) ∈ t.out ∧ fld w0 0 18 = x.gapstrand)

/-- Time seeks and record counts (13_replay_and_query.md R575, 13_replay_and_query.md R576, 13_replay_and_query.md R578,
13_replay_and_query.md R580, 13_replay_and_query.md R584).
A query in a working mode on an allocated strand is taken, refused otherwise with its result, and answered busy while another runs; it
ends with the first slot at or after T, or with the number of slots from T1 to below T2, and says when a span could not be read. -/
def Obligations.Queries : Prop :=
  (∀ (s : State) (c : Instr) (op : Nat), s.up .qrye → (c = .timeSeek ∧ op = 1) ∨ (c = .recordCount ∧ op = 2) →
    (s.settled → s.qrye.go = false → s.sysc.mode ∈ [Mode.memory, .stream, .safe] → s.qrye.strand < s.strandCount → (s.strand s.qrye.strand).st ≠ .free →
      (op = 2 → s.qrye.t1 < s.qrye.t2) → answers c s fun t => t.qrye.go = true ∧ t.qrye.op = op ∧ t.qrye.entered = [] ∧ t.hall = s.hall ∧ t.out = s.out) ∧
    (s.qrye.go = false → s.sysc.mode ∉ [Mode.memory, .stream, .safe] → answers c s fun t => t.qrye.result = 2 ∧ t.qrye.go = false ∧ hasCause t .qrye 1) ∧
    (s.qrye.go = false → s.sysc.mode ∈ [Mode.memory, .stream, .safe] → s.strandCount ≤ s.qrye.strand ∨ (s.strand s.qrye.strand).st = .free →
      answers c s fun t => t.qrye.result = 3 ∧ t.qrye.go = false ∧ hasCause t .qrye 1) ∧
    (s.qrye.go = true → answers c s fun t => t.qrye.result = 1 ∧ t.qrye.go = true ∧ hasCause t .qrye 1)) ∧
  (∀ (s : State) (op : Nat), s.up .qrye → s.qrye.go = false → op ≠ 1 → op ≠ 2 →
    answers (.qryeUnknownOp op) s fun t => t.qrye.result = 7 ∧ t.qrye.go = false ∧ hasCause t .qrye 1) ∧
  (∀ (s : State) (skipped : List Nat) (l : List HSlot), s.qrye.go = true → (∀ c ∈ s.strd.rebuild, c ∉ s.qrye.used) →
    l = s.querySlots ((s.hankSlots s.qrye.strand).filter fun a => a.h / 52416 ∉ skipped) →
    answers (.queryComplete skipped) s fun t => t.qrye.go = false ∧ t.qrye.result = 0 ∧ hasCause t .qrye 1 ∧
      t.qrye.incomplete = !skipped.isEmpty ∧
      (s.qrye.op = 1 → ∀ a l', l = a :: l' → t.qrye.found = true ∧ t.qrye.hword = a.h ∧ t.qrye.rts = a.ts) ∧
      (s.qrye.op = 1 → l = [] → t.qrye.found = false ∧
        t.qrye.hword = (s.strand s.qrye.strand).wpunit * unitWords + (s.strand s.qrye.strand).wpword) ∧
      (s.qrye.op ≠ 1 → t.qrye.count = l.length % 2 ^ 40) ∧
      (skipped ≠ [] → (s.hdr .qrye).evalid = false → s.qrye.strand < 2 ^ 28 → captured t .qrye 0x40 s.qrye.strand))

/-- A frame of the temperature sensors, and the settings (16_thermal.md R679, 16_thermal.md R680, 16_thermal.md R681, 16_thermal.md R682,
16_thermal.md R684, 16_thermal.md R689, 16_thermal.md R690, 16_thermal.md R692, 23_electrical.md R849).
A frame takes the highest governing reading and sets and clears the levels with their hysteresis; two frames at the shutdown threshold
begin QUENCH; exclusions in reach, ordered thresholds and the cap are stored. The value held where a table treats one value as another is
the model's reading (log 35). -/
def Obligations.ThermalFrames : Prop :=
  (∀ (s : State) (raw : List (Option Nat)) (temps : List Int), s.on .thrm → s.thrm.shutdown = true ∨ s.thrm.shutRun = 0 →
    answers (.thermalFrame raw temps) s fun t => t.thrm.exclNow = s.thrm.excl ∧
      (∀ i < 20, t.thrm.sensor i = (s.thrm.sensor i).frame (raw.getD i none) (temps.getD i 0)) ∧
      (∀ i v, ({ t.thrm with exclNow := s.thrm.exclNow } : Thrm).highest ({ t.thrm with exclNow := s.thrm.exclNow } : Thrm).governing = some (i, v) →
        t.thrm.source = i ∧ t.thrm.tg = v) ∧
      t.thrm.warn = (if s.thrm.warn then decide (s.thrm.warnAt - s.thrm.hyst < t.thrm.tg) else decide (s.thrm.warnAt ≤ t.thrm.tg)) ∧
      t.thrm.throttle = (if s.thrm.throttle then decide (s.thrm.throtAt - s.thrm.hyst < t.thrm.tg) else decide (s.thrm.throtAt ≤ t.thrm.tg)) ∧
      (t.thrm.warn = true → s.thrm.warn = false → hasCause t .thrm 1)) ∧
  (∀ (s : State) (raw : List (Option Nat)) (temps : List Int) (i : Nat), s.on .thrm → s.thrm.shutdown = false → 0 < s.thrm.shutRun →
    s.sysc.mode = .memory ∨ s.sysc.mode = .stream → s.sysc.svcstrap = false → i < 20 → wbit s.thrm.exclNow i = false →
    s.thrm.shutAt ≤ ((s.thrm.sensor i).frame (raw.getD i none) (temps.getD i 0)).temp →
    answers (.thermalFrame raw temps) s fun t => t.sysc.mode = .quench ∧ t.pseq.seq.thermalStop = true ∧ t.thrm.shutdown = true ∧ hasCause t .thrm 3) ∧
  (∀ (s : State) (hold : Bool), s.settled →
    answers (.xoffDutyPeriod hold) s fun t => t = { s with thrm := { s.thrm with dutyHold := hold && decide (0 < s.thrm.xoff) } }) ∧
  (∀ (s : State) (c : Nat), s.settled → s.thrm.clockTarget = some c →
    answers .clockChangeComplete s fun t => t = { s with thrm := { s.thrm with clock := c, clockTarget := none } }) ∧
  (∀ (s : State) (v : Word), s.up .thrm →
    ((onesOf 20 (keep v 0xFFFFF).toNat).length ≤ 4 → answers (.thrmExclWrite v) s fun t =>
      t.thrm = { s.thrm with excl := keep v 0xFFFFF } ∧ hasCause t .thrm 6) ∧
    (4 < (onesOf 20 (keep v 0xFFFFF).toNat).length → (s.hdr .thrm).evalid = false →
      answers (.thrmExclWrite v) s fun t => t.thrm = s.thrm ∧ captured t .thrm 0x41 0) ∧
    (s.settled → fld v 0 8 < fld v 8 8 → fld v 8 8 < fld v 16 8 → fld v 16 8 ≤ 110 →
      answers (.thrmThreshWrite v) s fun t => t = { s with thrm := { s.thrm with thresh := heldThresh v } }) ∧
    (answers (.pcapWrite v) s fun t => t.thrm.pcap = heldPcap v) ∧
    answers .thermalSave s fun t => t.thrm = { s.thrm with save := true })

/-- The recorder's ticks and timers (17_event_recorder.md R704, 17_event_recorder.md R705, 17_event_recorder.md R706, 17_event_recorder.md
R707, 17_event_recorder.md R709, 17_event_recorder.md R710, 17_event_recorder.md R716).
A tick refills the buckets and begins, raises or keeps an incident; the 10 ms tick clears the summarised counts and ends an incident after
ten quiet ticks; the long log's page, in REST at the wake, and the oldest critical records are written when they fall due; records after
the window raise NEWREC. -/
def Obligations.RecorderTimers : Prop :=
  (∀ (s : State), s.settled →
    (s.evtr.inc.active = false → s.evtr.thresh < s.evtr.inc.now →
      answers .recorderTick s fun t => t.evtr.inc.active = true ∧ t.evtr.inc.level = 1 ∧ t.evtr.inc.since = s.now ∧ hasCause t .evtr 3) ∧
    (¬(s.evtr.inc.active = false ∧ s.evtr.thresh < s.evtr.inc.now) →
      answers .recorderTick s fun t => t = { s with evtr := { s.evtr.refill with inc := { s.evtr.inc with
        ticks := (s.evtr.inc.now :: s.evtr.inc.ticks).take 10, now := 0, nowInfo := 0,
        level := if s.evtr.inc.active ∧ s.evtr.thresh < s.evtr.inc.nowInfo then 2 else s.evtr.inc.level } } }) ∧
    (answers .recorder10msTick s fun t => t.evtr.sumTrace = 0 ∧ t.evtr.sumInfo = 0 ∧ t.evtr.sumSupp = [] ∧
      (s.evtr.inc.active = true → s.evtr.inc.ticks.length = 10 → (∀ n ∈ s.evtr.inc.ticks, n ≤ s.evtr.thresh / 2) →
        t.evtr.inc.active = false ∧ t.evtr.inc.level = 0 ∧ t.evtr.inc.bookend = [])) ∧
    (s.logOpen = true → s.sysc.mode ≠ .rest → s.logDue = true →
      answers .longLogFlushDue s fun t => t.evtr.logPage = [] ∧ t.evtr.logCount = s.evtr.logCount + s.evtr.logPage.length ∧
        t.evtr.log = (List.replicate (512 - s.evtr.logPage.length) EvRec.reset ++ s.evtr.logPage ++ s.evtr.log).take 67108864) ∧
    (s.logOpen = true → s.sysc.mode = .rest → s.logDue = true → answers .longLogFlushDue s fun t => t = { s with evtr := { s.evtr with flushWait := true } }) ∧
    (s.evtr.critPend ≠ [] → s.evtr.critSince + 10 ^ 7 ≤ s.now →
      answers .criticalCopyTimer s fun t => t.evtr.critPend = (s.evtr.critPend.reverse.drop 8).reverse ∧ t.evtr.critSince = s.now ∧
        t.evtr.critPage = if s.evtr.critPage = 767 then 736 else s.evtr.critPage + 1) ∧
    (1 ≤ s.afterWindow → s.evtr.inc.active = false →
      answers .newrecTimeout s fun t => hasCause t .evtr 1 ∧ t.evtr.newrecAt = some s.now))

/-- Cursors, their windows and the recorder's settings (17_event_recorder.md R706, 17_event_recorder.md R711, 17_event_recorder.md R712,
17_event_recorder.md R714, 17_event_recorder.md R717).
A cursor is placed at the record it names and moves on to the record after its window; a slow window is filled with what its source holds;
a group that is another's is refused with code 0x40; a rate class is stored, and one with no rate or no burst refused with code 0x41. -/
def Obligations.RecorderCursors : Prop :=
  (∀ (s : State) (who k i : Nat) (v : Word) (l : List EvRec) (base : Nat), s.settled → s.up .evtr → k ≤ 2 → (who = 0 → k = 0) → (who = 1 → k = 1) →
    s.source (fld v 32 2) = (l, base) → (l.findIdx? fun r => r.seq = fld v 0 32) = some i →
    answers (.cursorPlace who k v) s fun t => (t.cursor k).source = fld v 32 2 ∧ (t.cursor k).pos = base + i ∧ (t.cursor k).seq = fld v 0 32 ∧
      (t.cursor k).win = if fld v 32 2 ≤ 1 then (l.drop i).take 8 else []) ∧
  (∀ (s : State) (who k : Nat) (v : Word) (l : List EvRec) (base : Nat), s.settled → s.up .evtr → k ≤ 2 → (who = 0 → k = 0) → (who = 1 → k = 1) →
    s.source (s.cursor k).source = (l, base) → base ≤ (s.cursor k).pos + (s.cursor k).win.length →
    answers (.cursorAdvance who k v) s fun t => (t.cursor k).source = (s.cursor k).source ∧
      (t.cursor k).pos = (s.cursor k).pos + (s.cursor k).win.length ∧ (t.cursor k).lost = (s.cursor k).lost) ∧
  (∀ (s : State) (c : Instr) (who k : Nat) (v : Word), s.settled → s.up .evtr → k ≤ 2 → (who = 0 ∧ k ≠ 0) ∨ (who = 1 ∧ k ≠ 1) →
    (s.hdr .evtr).evalid = false → c = .cursorPlace who k v ∨ c = .cursorAdvance who k v →
    answers c s fun t => captured t .evtr 0x40 k ∧ (t.cursor k).source = (s.cursor k).source ∧ (t.cursor k).pos = (s.cursor k).pos) ∧
  (∀ (s : State) (k : Nat) (l : List EvRec) (base : Nat), s.settled → k ≤ 2 → 2 ≤ (s.cursor k).source → (s.cursor k).filling = true →
    s.source (s.cursor k).source = (l, base) →
    answers (.windowFillComplete k) s fun t => (t.cursor k).filling = false ∧ (t.cursor k).win = (l.drop ((s.cursor k).pos - base)).take 8 ∧
      (t.cursor k).pos = (s.cursor k).pos ∧ t.hall = s.hall) ∧
  (∀ (s : State), s.settled → s.up .evtr → answers .recorderSave s fun t => t.evtr = { s.evtr with save := true }) ∧
  (∀ (s : State) (v : Word) (k : Nat), s.settled → s.up .evtr → k = fld s.evtr.rcsel 0 3 → k ≠ 0 →
    (fld v 0 16 ≠ 0 → fld v 16 12 ≠ 0 → answers (.rateClassWrite v) s fun t => t.evtr.rateOf k = keep v 0xFFFFFFF ∧
      ∀ j, j ≠ k → t.evtr.rateOf j = s.evtr.rateOf j) ∧
    (fld v 0 16 = 0 ∨ fld v 16 12 = 0 → (s.hdr .evtr).evalid = false →
      answers (.rateClassWrite v) s fun t => t.evtr.rates = s.evtr.rates ∧ captured t .evtr 0x41 k))

/-- The opening exchanges of attestation (19_firmware_and_identity.md R773, 19_firmware_and_identity.md R782).
Over the message layouts of SPDM 1.3 that the model presumes (log 25): GET_VERSION restarts a connection and answers version 1.3,
capabilities and algorithms are answered in their order, and RESPOND_IF_READY, or a request out of order, with ERROR 4 and code 0x41. -/
def Obligations.AttestationOpens : Prop :=
  (∀ (s : State) (conn : Nat) (m : List (BitVec 8)), conn < 2 → s.up .idnt → codeOf m = 0x84 →
    (leAt m 0 1 = 0x10 → answers (.getVersion conn m) s fun t => Out.spdm conn [0x10, 0x04, 0, 0, 0, 1, 0x00, 0x13] ∈ t.out ∧
      (t.spdm conn).version = true ∧ (t.spdm conn).caps = false ∧ (t.spdm conn).algs = false ∧ ∀ k, k ≠ conn → t.spdm k = s.spdm k) ∧
    (leAt m 0 1 ≠ 0x10 → (s.hdr .idnt).evalid = false →
      answers (.getVersion conn m) s fun t => Out.spdm conn [0x10, 0x7F, 0x41, 0] ∈ t.out ∧ captured t .idnt 0x41 0x84)) ∧
  (∀ (s : State) (conn : Nat) (m : List (BitVec 8)), conn < 2 → s.up .idnt → leAt m 0 1 = 0x13 → (s.spdm conn).version = true →
    (codeOf m = 0xE1 → 20 ≤ m.length → answers (.getCapabilities conn m) s fun t =>
      Out.spdm conn ([0x13, 0x61, 0, 0, 0, 16, 0, 0] ++ le 4 0x20016 ++ le 4 1024 ++ le 4 8192) ∈ t.out ∧ (t.spdm conn).caps = true ∧
      (t.spdm conn).algs = false) ∧
    (codeOf m = 0xE3 → (s.spdm conn).caps = true → 32 ≤ m.length → leAt m 4 2 = m.length → (BitVec.ofNat 32 (leAt m 8 4)).getLsbD 10 = true →
      (BitVec.ofNat 32 (leAt m 12 4)).getLsbD 2 = true →
      answers (.negotiateAlgorithms conn m) s fun t => (t.spdm conn).algs = true ∧
        Out.spdm conn ([0x13, 0x63, 0, 0] ++ le 2 36 ++ [b8 (leAt m 6 1 % 2), 0] ++ le 4 8 ++ le 4 0x400 ++ le 4 4 ++ le 16 0) ∈ t.out) ∧
    (codeOf m = 0xFF → (s.spdm conn).caps = true → (s.spdm conn).algs = true → (s.hdr .idnt).evalid = false →
      answers (.respondIfReady conn m) s fun t => Out.spdm conn [0x13, 0x7F, 4, 0] ∈ t.out ∧ captured t .idnt 0x41 0xFF) ∧
    (codeOf m = 0xE3 → (s.spdm conn).caps = false → (s.hdr .idnt).evalid = false →
      answers (.negotiateAlgorithms conn m) s fun t => Out.spdm conn [0x13, 0x7F, 4, 0] ∈ t.out ∧ captured t .idnt 0x41 0xE3))

/-- Certificates, challenges, measurements and large messages (19_firmware_and_identity.md R769, 19_firmware_and_identity.md R770,
19_firmware_and_identity.md R771, 19_firmware_and_identity.md R773, 19_firmware_and_identity.md R774, 19_firmware_and_identity.md R775,
19_firmware_and_identity.md R782).
Over the presumed SPDM 1.3 layouts (log 25), on a connection past its opening exchanges: digests and certificates come from the Ed25519
chain, a challenge and signed measurements are signed and set ATTEST, the ML-DSA chain and signature come as vendor messages, and large
messages move in chunks. -/
def Obligations.Attestation : Prop :=
  ∀ (s : State) (conn : Nat) (m : List (BitVec 8)), conn < 2 → s.up .idnt → leAt m 0 1 = 0x13 →
    (s.spdm conn).version = true → (s.spdm conn).caps = true → (s.spdm conn).algs = true →
    (codeOf m = 0x81 → answers (.getDigests conn m) s fun t => Out.spdm conn (match s.chain 0 with
      | some c => [0x13, 0x01, 1, 1] ++ le 64 (Config.sha512 c).toNat
      | none => [0x13, 0x01, 1, 0]) ∈ t.out) ∧
    (∀ c n, codeOf m = 0x82 → s.chain 0 = some c → 8 ≤ m.length → leAt m 2 1 % 16 = 0 → leAt m 4 2 < c.length →
      n = min (min 1016 (leAt m 6 2)) (c.length - leAt m 4 2) →
      answers (.getCertificate conn m) s fun t =>
        Out.spdm conn ([0x13, 0x02, 0, 1] ++ le 2 n ++ le 2 (c.length - leAt m 4 2 - n) ++ (c.drop (leAt m 4 2)).take n) ∈ t.out) ∧
    (∀ c, codeOf m = 0x83 → s.chain 0 = some c → 44 ≤ m.length → leAt m 2 1 = 0 → leAt m 3 1 ∈ [0, 1, 0xFF] →
      answers (.challenge conn m) s fun t => hasCause t .idnt 2 ∧ (t.spdm conn).signedLast = true ∧ ∃ nonce summary sig, nonce.length = 32 ∧
        Out.spdm conn ([0x13, 0x03, 0, 1] ++ le 64 (Config.sha512 c).toNat ++ nonce ++ summary ++ le 2 0 ++ (m.drop 36).take 8 ++ sig) ∈ t.out) ∧
    (codeOf m = 0xE0 → 12 ≤ m.length → leAt m 2 1 % 2 = 0 →
      (leAt m 3 1 = 0 → answers (.getMeasurements conn m) s fun t => ∃ nonce, nonce.length = 32 ∧
        Out.spdm conn ([0x13, 0x60, 9, 0, 0, 0, 0, 0] ++ nonce ++ le 2 0 ++ (m.drop 4).take 8) ∈ t.out) ∧
      (1 ≤ leAt m 3 1 → leAt m 3 1 ≤ 9 → answers (.getMeasurements conn m) s fun t => ∃ nonce, nonce.length = 32 ∧
        Out.spdm conn ([0x13, 0x60, 0, 0, 1] ++ le 3 (s.measBlock (leAt m 3 1)).length ++ s.measBlock (leAt m 3 1) ++ nonce ++ le 2 0 ++
          (m.drop 4).take 8) ∈ t.out)) ∧
    (codeOf m = 0xE0 → 45 ≤ m.length → leAt m 2 1 % 2 = 1 → leAt m 3 1 ≤ 9 → leAt m 36 1 % 16 = 0 → s.certDigest.isSome = true →
      answers (.getMeasurements conn m) s fun t => hasCause t .idnt 2 ∧ (t.spdm conn).signedLast = true) ∧
    (∀ c p, codeOf m = 0xFE → vendorPayload m = some p → 7 ≤ p.length → leAt p 0 1 = 1 → s.chain 1 = some c → leAt p 1 4 ≤ c.length →
      leAt p 5 2 ≤ 1000 →
      answers (.getPqCert conn m) s fun t => Out.spdm conn (vendorResponse ((c.drop (leAt p 1 4)).take (min (leAt p 5 2) (c.length - leAt p 1 4)) ++
        le 2 (c.length - leAt p 1 4 - min (leAt p 5 2) (c.length - leAt p 1 4)))) ∈ t.out) ∧
    (∀ p h, codeOf m = 0xFE → vendorPayload m = some p → p ≠ [] → leAt p 0 1 = 2 → (s.spdm conn).lastT = some h → (s.spdm conn).signedLast = true →
      answers (.getPqSig conn m) s fun t => (t.spdm conn).outChunks = vendorResponse (le 3309 (Config.mldsa (s.fuse.aliasSeed 1 s.imageDigest) h).toNat) ∧ (t.spdm conn).chunkSeq = 0 ∧
        Out.spdm conn [0x13, 0x7F, 0x0F, 0, b8 (((s.spdm conn).handle + 1) % 256)] ∈ t.out) ∧
    (16 ≤ m.length → codeOf m = 0x85 → leAt m 4 2 = 0 → leAt m 8 4 = m.length - 16 → leAt m 8 4 ≠ 0 → leAt m 8 4 ≤ 8192 → leAt m 2 1 % 2 = 0 →
      (s.spdm conn).inChunks = [] →
      answers (.chunkSend conn m) s fun t => (t.spdm conn).inChunks = m.drop 16 ∧ (t.spdm conn).chunkSeq = 1 ∧
        Out.spdm conn ([0x13, 0x05, 0, b8 (leAt m 3 1)] ++ le 2 0) ∈ t.out) ∧
    (6 ≤ m.length → codeOf m = 0x86 → (s.spdm conn).outChunks ≠ [] → leAt m 3 1 = (s.spdm conn).handle → leAt m 4 2 = (s.spdm conn).chunkSeq →
      0 < (s.spdm conn).chunkSeq → answers (.chunkGet conn m) s fun t =>
        (t.spdm conn).outChunks = (s.spdm conn).outChunks.drop (min 1012 (s.spdm conn).outChunks.length) ∧
        (t.spdm conn).chunkSeq = wrapInc 16 (s.spdm conn).chunkSeq)

/-- Thermal thresholds out of order are discarded with code 0x40 (16_thermal.md R685).
Whatever the threshold word, a write of values out of order, or of a shutdown threshold above 110, leaves every thermal setting and
captures code 0x40, in ERRSTAT where it holds no error and as MULTI where it does. -/
def Obligations.ThresholdOrder : Prop :=
  ∀ (s : State) (v : Word), s.up .thrm → ¬(fld v 0 8 < fld v 8 8 ∧ fld v 8 8 < fld v 16 8 ∧ fld v 16 8 ≤ 110) →
    answers (.thrmThreshWrite v) s fun t => t.thrm = s.thrm ∧
      if (s.hdr .thrm).evalid then t.hdr .thrm = { s.hdr .thrm with emulti := true } else captured t .thrm 0x40 0

/-- ERRSTAT keeps the first error (03_registers_and_hallmark.md R118).
For every block and every error of a command: with VALID 0 the error's code and locator are captured; with VALID 1 only MULTI changes in
ERRSTAT, whatever cause bits the error sets. -/
def Obligations.FirstErrorKept : Prop :=
  ∀ (s : State) (b : Block) (code addr bits sev : Nat), code < 256 → addr < 2 ^ 28 →
    ((s.hdr b).evalid = false → captured (s.error b code addr bits sev) b code addr ∧ ((s.error b code addr bits sev).hdr b).emulti = (s.hdr b).emulti) ∧
    ((s.hdr b).evalid = true → ((s.error b code addr bits sev).hdr b).emulti = true ∧ ((s.error b code addr bits sev).hdr b).evalid = true ∧
      ((s.error b code addr bits sev).hdr b).ecode = (s.hdr b).ecode ∧ ((s.error b code addr bits sev).hdr b).eaddr = (s.hdr b).eaddr)

end
end

