-- ==== Sys2Proof/Laws/Reports.lean ====
section
/-!
SUPPORT. What the reporting operations do: interrupts, captured errors, event records, HALL's generation and the writing of records change
the state only as `State.reported` says. One lemma for each operation and field follows, so that no proof unfolds them.
-/
namespace Sys2Proof.Machine

/-- `t` differs from `s` only by reporting. -/
def Rep (s t : State) : Prop := s.reported t = t

theorem Rep.refl (s : State) : Rep s s := rfl

theorem Rep.trans {s t u : State} (h : Rep s t) (g : Rep t u) : Rep s u := by
  unfold Rep at *
  rw [← g, ← h]
  rfl

theorem Rep.after {s t u : State} (g : Rep t u) (h : Rep s t) : Rep s u := h.trans g

theorem Rep.ite {s t u : State} (c : Prop) [Decidable c] (h : c → Rep s t) (g : ¬ c → Rep s u) : Rep s (if c then t else u) := by
  split
  · exact h ‹_›
  · exact g ‹_›

theorem Rep.foldl {α : Type} {f : State → α → State} (h : ∀ s a, Rep s (f s a)) (s : State) (l : List α) : Rep s (l.foldl f s) := by
  induction l generalizing s with
  | nil => exact Rep.refl s
  | cons a l ih => exact (h s a).trans (ih _)

theorem Rep.fuse {s t : State} (h : Rep s t) : t.fuse = s.fuse := by rw [← h]; rfl
theorem Rep.sysc {s t : State} (h : Rep s t) : t.sysc = s.sysc := by rw [← h]; rfl
theorem Rep.rest {s t : State} (h : Rep s t) : t.rest = s.rest := by rw [← h]; rfl
theorem Rep.mbox {s t : State} (h : Rep s t) : t.mbox = s.mbox := by rw [← h]; rfl
theorem Rep.ncch {s t : State} (h : Rep s t) : t.ncch = s.ncch := by rw [← h]; rfl
theorem Rep.sram {s t : State} (h : Rep s t) : t.sram = s.sram := by rw [← h]; rfl
theorem Rep.drmc {s t : State} (h : Rep s t) : t.drmc = s.drmc := by rw [← h]; rfl
theorem Rep.tier {s t : State} (h : Rep s t) : t.tier = s.tier := by rw [← h]; rfl
theorem Rep.ftlm {s t : State} (h : Rep s t) : t.ftlm = s.ftlm := by rw [← h]; rfl
theorem Rep.media {s t : State} (h : Rep s t) : t.media = s.media := by rw [← h]; rfl
theorem Rep.clus {s t : State} (h : Rep s t) : t.clus = s.clus := by rw [← h]; rfl
theorem Rep.plan {s t : State} (h : Rep s t) : t.plan = s.plan := by rw [← h]; rfl
theorem Rep.pers {s t : State} (h : Rep s t) : t.pers = s.pers := by rw [← h]; rfl
theorem Rep.aon {s t : State} (h : Rep s t) : t.aon = s.aon := by rw [← h]; rfl
theorem Rep.ilkn {s t : State} (h : Rep s t) : t.ilkn = s.ilkn := by rw [← h]; rfl
theorem Rep.kspe {s t : State} (h : Rep s t) : t.kspe = s.kspe := by rw [← h]; rfl
theorem Rep.ingp {s t : State} (h : Rep s t) : t.ingp = s.ingp := by rw [← h]; rfl
theorem Rep.strd {s t : State} (h : Rep s t) : t.strd = s.strd := by rw [← h]; rfl
theorem Rep.rple {s t : State} (h : Rep s t) : t.rple = s.rple := by rw [← h]; rfl
theorem Rep.qrye {s t : State} (h : Rep s t) : t.qrye = s.qrye := by rw [← h]; rfl
theorem Rep.mprt {s t : State} (h : Rep s t) : t.mprt = s.mprt := by rw [← h]; rfl
theorem Rep.pseq {s t : State} (h : Rep s t) : t.pseq = s.pseq := by rw [← h]; rfl
theorem Rep.thrm {s t : State} (h : Rep s t) : t.thrm = s.thrm := by rw [← h]; rfl
theorem Rep.boot {s t : State} (h : Rep s t) : t.boot = s.boot := by rw [← h]; rfl
theorem Rep.idnt {s t : State} (h : Rep s t) : t.idnt = s.idnt := by rw [← h]; rfl
theorem Rep.coht {s t : State} (h : Rep s t) : t.coht = s.coht := by rw [← h]; rfl
theorem Rep.free {s t : State} (h : Rep s t) : t.free = s.free := by rw [← h]; rfl
theorem Rep.pending {s t : State} (h : Rep s t) : t.pending = s.pending := by rw [← h]; rfl
theorem Rep.cxlp {s t : State} (h : Rep s t) : { t.cxlp with msixPend := [] } = { s.cxlp with msixPend := [] } := by rw [← h]; rfl
theorem Rep.psto {s t : State} (h : Rep s t) :
    { t.psto with recs := [], running := none, queue := [], waiting := [] } = { s.psto with recs := [], running := none, queue := [], waiting := [] } := by
  rw [← h]; rfl
theorem Rep.evtr {s t : State} (h : Rep s t) :
    { Evtr.reset with
        ctrl := t.evtr.ctrl, save := t.evtr.save, inccfg := t.evtr.inccfg, imod := t.evtr.imod, rcsel := t.evtr.rcsel
        rates := t.evtr.rates, rcmap := t.evtr.rcmap } =
    { Evtr.reset with
        ctrl := s.evtr.ctrl, save := s.evtr.save, inccfg := s.evtr.inccfg, imod := s.evtr.imod, rcsel := s.evtr.rcsel
        rates := s.evtr.rates, rcmap := s.evtr.rcmap } := by
  rw [← h]; rfl

/-! ### The operations -/

theorem rep_modHdr (s : State) (b : Block) (f : Hdr → Hdr) : Rep s (s.modHdr b f) := rfl
theorem rep_send (s : State) (o : Out) : Rep s (s.send o) := rfl
theorem rep_message (s : State) (v : Nat) : Rep s (s.message v) := by
  unfold State.message; exact Rep.ite _ (fun _ => rfl) fun _ => rfl
theorem rep_signal (s : State) (b : Block) (w : Bool) (f : Hdr → Hdr) : Rep s (s.signal b w f) := by
  unfold State.signal
  exact Rep.ite _ (fun _ => (rep_modHdr s b f).trans (rep_message _ _)) fun _ => rep_modHdr s b f
theorem rep_reportCause (s : State) (b : Block) (n : Nat) : Rep s (s.reportCause b n) := rep_signal ..
theorem rep_setCause (s : State) (b : Block) (n : Nat) : Rep s (s.setCause b n) := by
  unfold State.setCause; exact Rep.ite _ (fun _ => Rep.refl s) fun _ => rep_reportCause ..
theorem rep_captureAs (s : State) (b : Block) (c a : Nat) (q : Bool) : Rep s (s.captureAs b c a q) := by
  unfold State.captureAs; exact Rep.ite _ (fun _ => rep_modHdr ..) fun _ => rep_signal ..
theorem rep_capture (s : State) (b : Block) (c a : Nat) : Rep s (s.capture b c a) := rep_captureAs ..
theorem rep_raise (s : State) (c v r p q w : Nat) : Rep s (s.raise c v r p q w) := by
  unfold State.raise; exact Rep.ite _ (fun _ => rfl) fun _ => Rep.ite _ (fun _ => rfl) fun _ => rfl
theorem rep_causeRecord (s : State) (b : Block) (i v : Nat) : Rep s (s.causeRecord b i v) := by
  unfold State.causeRecord; exact Rep.ite _ (fun _ => rfl) fun _ => rep_raise ..
theorem rep_errorRecord (s : State) (b : Block) (c a v : Nat) : Rep s (s.errorRecord b c a v) := by
  unfold State.errorRecord; exact Rep.ite _ (fun _ => rep_raise ..) fun _ => rep_raise ..
theorem rep_cause (s : State) (b : Block) (i v : Nat) : Rep s (s.cause b i v) := by
  unfold State.cause; exact Rep.ite _ (fun _ => Rep.refl s) fun _ => (rep_setCause ..).trans (rep_causeRecord ..)
theorem rep_error (s : State) (b : Block) (c a n v : Nat) : Rep s (s.error b c a n v) := by
  unfold State.error
  exact (Rep.ite _ (fun _ => Rep.refl s) fun _ => rep_setCause ..).trans ((rep_capture ..).trans (rep_errorRecord ..))
theorem rep_reportError (s : State) (b : Block) (c a n v : Nat) : Rep s (s.reportError b c a n v) := by
  unfold State.reportError
  exact (Rep.ite _ (fun _ => Rep.refl s) fun _ => rep_reportCause ..).trans ((rep_captureAs ..).trans (rep_errorRecord ..))
theorem rep_changeRecord (s : State) (b : Block) (r o n v : Nat) : Rep s (s.changeRecord b r o n v) := rep_raise ..
theorem rep_namedRecord (s : State) (b : Block) (p q r v : Nat) : Rep s (s.namedRecord b p q r v) := rep_raise ..
theorem rep_hallSync (s : State) : Rep s s.hallSync := by
  simp only [State.hallSync]; exact Rep.ite _ (fun _ => rfl) fun _ => rfl
theorem rep_retireBlock (s : State) (b : Block) (v : Nat) : Rep s (s.retireBlock b v) :=
  (rep_modHdr s b _).trans ((rep_hallSync _).trans (rep_raise ..))
theorem rep_modRecord (s : State) (t : Nat) (f : RecSlot → RecSlot) : Rep s (s.modRecord t f) := rfl
theorem rep_pump (s : State) (p : Psto) (h : Rep s { s with psto := p }) : Rep s { s with psto := p.pump } := by
  unfold Psto.pump
  split
  · have := congrArg State.psto h
    simp only [State.reported] at this
    unfold Rep State.reported
    simp only
    rw [← this]
  · exact h
theorem rep_queuePage (s : State) (w : PageWrite) : Rep s (s.queuePage w) := by
  unfold State.queuePage
  apply rep_pump
  split <;> rfl
theorem rep_startRecord (s : State) (t : Nat) : Rep s (s.startRecord t) := by
  unfold State.startRecord
  exact (rep_modRecord s t _).trans (Rep.foldl (fun s a => rep_queuePage s _) _ _)
theorem rep_writeRecord (s : State) (t : Nat) : Rep s (s.writeRecord t) := by
  unfold State.writeRecord
  refine Rep.trans (t := if (s.record t).deferred.isSome then s.modRecord t fun r => { r with deferred := none, hostAt := some s.now } else s)
    (Rep.ite _ (fun _ => rep_modRecord ..) fun _ => Rep.refl s) ?_
  exact Rep.ite _ (fun _ => rep_modRecord ..) fun _ => rep_startRecord ..
theorem rep_hostRecord (s : State) (t : Nat) : Rep s (s.hostRecord t) := by
  unfold State.hostRecord
  have h := rep_modRecord s t fun r => { r with hostAt := some s.now }
  simp only
  split
  · exact Rep.ite _ (fun _ => rep_modRecord ..) fun _ =>
      h.trans (Rep.ite _ (fun _ => rep_modRecord ..) fun _ => rep_startRecord ..)
  · exact h.trans (Rep.ite _ (fun _ => rep_modRecord ..) fun _ => rep_startRecord ..)
theorem rep_setRecord (s : State) (t : Nat) (b : Rec) : Rep s (s.setRecord t b) := rep_modRecord ..

/-! ### The admission of records -/

/-- Any change of the recorder's stores is reporting. -/
theorem rep_evtr (s : State) (e : Evtr) (h : e.ctrl = s.evtr.ctrl) (h1 : e.save = s.evtr.save) (h2 : e.inccfg = s.evtr.inccfg)
    (h3 : e.imod = s.evtr.imod) (h4 : e.rcsel = s.evtr.rcsel) (h5 : e.rates = s.evtr.rates) (h6 : e.rcmap = s.evtr.rcmap) :
    Rep s { s with evtr := e } := by
  unfold Rep State.reported
  simp only [← h, ← h1, ← h2, ← h3, ← h4, ← h5, ← h6]

theorem rep_setNewrec (s : State) : Rep s s.setNewrec := by
  unfold State.setNewrec
  exact Rep.ite _ (fun _ => Rep.refl s) fun _ => Rep.trans (rep_setCause ..) (rep_evtr _ _ rfl rfl rfl rfl rfl rfl rfl)
theorem rep_mainPut (s : State) (r : EvRec) : Rep s (s.mainPut r) := by
  simp only [State.mainPut]
  exact Rep.ite _ (fun _ => Rep.after (rep_setCause ..) (rep_evtr s _ rfl rfl rfl rfl rfl rfl rfl))
    fun _ => rep_evtr s _ rfl rfl rfl rfl rfl rfl rfl
theorem rep_aonPut (s : State) (r : EvRec) : Rep s (s.aonPut r) := rep_evtr s _ rfl rfl rfl rfl rfl rfl rfl
theorem rep_flushLog (s : State) : Rep s s.flushLog := by
  simp only [State.flushLog]
  exact Rep.ite _ (fun _ => Rep.refl s) fun _ => rep_evtr s _ rfl rfl rfl rfl rfl rfl rfl
theorem rep_logPut (s : State) (r : EvRec) : Rep s (s.logPut r) := by
  simp only [State.logPut]
  exact Rep.ite _ (fun _ => Rep.after (rep_flushLog _) (rep_evtr s _ rfl rfl rfl rfl rfl rfl rfl))
    fun _ => rep_evtr s _ rfl rfl rfl rfl rfl rfl rfl
theorem rep_critPage1 (s : State) : Rep s s.critPage1 := by
  simp only [State.critPage1]
  exact Rep.ite _ (fun _ => Rep.refl s) fun _ => Rep.after (rep_queuePage ..) (rep_evtr s _ rfl rfl rfl rfl rfl rfl rfl)
theorem rep_critPut (s : State) (r : EvRec) : Rep s (s.critPut r) := by
  simp only [State.critPut]
  exact Rep.ite _ (fun _ => Rep.after (rep_critPage1 _) (rep_evtr s _ rfl rfl rfl rfl rfl rfl rfl))
    fun _ => rep_evtr s _ rfl rfl rfl rfl rfl rfl rfl
theorem rep_when {s : State} (c : Prop) [Decidable c] (t : State) (h : Rep s t) : Rep s (if c then t else s) :=
  Rep.ite c (fun _ => h) fun _ => Rep.refl s
theorem rep_storeRecord (s : State) (r : EvRec) : Rep s (s.storeRecord r) := by
  simp only [State.storeRecord]
  refine (rep_when (decide (3 ≤ r.sev) || r.ofFault || !s.evtr.mainRun) _ (rep_aonPut s r)).trans ?_
  generalize (if (decide (3 ≤ r.sev) || r.ofFault || !s.evtr.mainRun) = true then s.aonPut r else s) = a
  refine (rep_when (a.evtr.mainRun = true) _ (rep_mainPut a r)).trans ?_
  generalize (if a.evtr.mainRun = true then a.mainPut r else a) = b
  refine (rep_when ((b.evtr.mainRun && decide (b.evtr.logsev ≤ r.sev)) = true) _ (rep_logPut b r)).trans ?_
  generalize (if (b.evtr.mainRun && decide (b.evtr.logsev ≤ r.sev)) = true then b.logPut r else b) = c
  refine (rep_when ((c.evtr.mainRun && decide (r.sev = 5)) = true) _ (rep_critPut c r)).trans ?_
  generalize (if (c.evtr.mainRun && decide (r.sev = 5)) = true then c.critPut r else c) = d
  refine (rep_when (r.sev = 5) _ (rep_setCause d .evtr (2 ^ 2))).trans ?_
  exact rep_when _ _ (rep_setNewrec _)
theorem rep_takeSeq (s : State) : Rep s s.takeSeq := by
  simp only [State.takeSeq]
  have h := rep_evtr s { s.evtr with next := (s.evtr.next + 1) % 2 ^ 32 } rfl rfl rfl rfl rfl rfl rfl
  exact Rep.ite _ (fun _ => Rep.after (rep_writeRecord ..) (Rep.after (rep_setRecord ..) (rep_evtr s _ rfl rfl rfl rfl rfl rfl rfl)))
    fun _ => h
theorem rep_spend {e f : Evtr} {code : Nat} (h : e.spend code = some f) : ∃ t, f = { e with spent := t } := by
  simp only [Evtr.spend] at h
  split at h
  · exact ⟨_, (Option.some.inj h).symm⟩
  · cases h
theorem rep_shed (s : State) (r : EvRec) : Rep s { s with evtr := s.evtr.shed r } := by
  unfold Evtr.shed
  split <;> exact rep_evtr s _ rfl rfl rfl rfl rfl rfl rfl
theorem rep_enrol (s : State) (r : EvRec) : Rep s (s.enrol r) := by
  simp only [State.enrol]
  split
  · exact rep_evtr s _ rfl rfl rfl rfl rfl rfl rfl
  · rename_i e he
    have hs : ∃ t, e = { s.evtr with spent := t } := by
      split at he
      · exact rep_spend he
      · exact ⟨s.evtr.spent, (Option.some.inj he).symm⟩
    obtain ⟨sp, rfl⟩ := hs
    refine Rep.ite _ (fun _ => Rep.after (rep_shed ..) (Rep.after (rep_takeSeq _) ?_)) fun _ => Rep.after (rep_storeRecord ..) (Rep.after (rep_takeSeq _) ?_)
    all_goals split <;> exact rep_evtr s _ rfl rfl rfl rfl rfl rfl rfl

/-- The end of a command changes the state only by reporting. -/
theorem rep_settle (s : State) : Rep s s.settle := by
  unfold State.settle
  exact Rep.trans (t := { s with raised := [] }) rfl (Rep.foldl rep_enrol _ _)


/-! ### The fields that reporting leaves alone, for each operation -/

@[simp] theorem modHdr_fuse (s : State) (b : Block) (f : Hdr → Hdr) : (s.modHdr b f).fuse = s.fuse := (rep_modHdr s b f).fuse
@[simp] theorem modHdr_sysc (s : State) (b : Block) (f : Hdr → Hdr) : (s.modHdr b f).sysc = s.sysc := (rep_modHdr s b f).sysc
@[simp] theorem modHdr_rest (s : State) (b : Block) (f : Hdr → Hdr) : (s.modHdr b f).rest = s.rest := (rep_modHdr s b f).rest
@[simp] theorem modHdr_mbox (s : State) (b : Block) (f : Hdr → Hdr) : (s.modHdr b f).mbox = s.mbox := (rep_modHdr s b f).mbox
@[simp] theorem modHdr_ncch (s : State) (b : Block) (f : Hdr → Hdr) : (s.modHdr b f).ncch = s.ncch := (rep_modHdr s b f).ncch
@[simp] theorem modHdr_sram (s : State) (b : Block) (f : Hdr → Hdr) : (s.modHdr b f).sram = s.sram := (rep_modHdr s b f).sram
@[simp] theorem modHdr_drmc (s : State) (b : Block) (f : Hdr → Hdr) : (s.modHdr b f).drmc = s.drmc := (rep_modHdr s b f).drmc
@[simp] theorem modHdr_tier (s : State) (b : Block) (f : Hdr → Hdr) : (s.modHdr b f).tier = s.tier := (rep_modHdr s b f).tier
@[simp] theorem modHdr_ftlm (s : State) (b : Block) (f : Hdr → Hdr) : (s.modHdr b f).ftlm = s.ftlm := (rep_modHdr s b f).ftlm
@[simp] theorem modHdr_media (s : State) (b : Block) (f : Hdr → Hdr) : (s.modHdr b f).media = s.media := (rep_modHdr s b f).media
@[simp] theorem modHdr_clus (s : State) (b : Block) (f : Hdr → Hdr) : (s.modHdr b f).clus = s.clus := (rep_modHdr s b f).clus
@[simp] theorem modHdr_plan (s : State) (b : Block) (f : Hdr → Hdr) : (s.modHdr b f).plan = s.plan := (rep_modHdr s b f).plan
@[simp] theorem modHdr_pers (s : State) (b : Block) (f : Hdr → Hdr) : (s.modHdr b f).pers = s.pers := (rep_modHdr s b f).pers
@[simp] theorem modHdr_aon (s : State) (b : Block) (f : Hdr → Hdr) : (s.modHdr b f).aon = s.aon := (rep_modHdr s b f).aon
@[simp] theorem modHdr_ilkn (s : State) (b : Block) (f : Hdr → Hdr) : (s.modHdr b f).ilkn = s.ilkn := (rep_modHdr s b f).ilkn
@[simp] theorem modHdr_kspe (s : State) (b : Block) (f : Hdr → Hdr) : (s.modHdr b f).kspe = s.kspe := (rep_modHdr s b f).kspe
@[simp] theorem modHdr_ingp (s : State) (b : Block) (f : Hdr → Hdr) : (s.modHdr b f).ingp = s.ingp := (rep_modHdr s b f).ingp
@[simp] theorem modHdr_strd (s : State) (b : Block) (f : Hdr → Hdr) : (s.modHdr b f).strd = s.strd := (rep_modHdr s b f).strd
@[simp] theorem modHdr_rple (s : State) (b : Block) (f : Hdr → Hdr) : (s.modHdr b f).rple = s.rple := (rep_modHdr s b f).rple
@[simp] theorem modHdr_qrye (s : State) (b : Block) (f : Hdr → Hdr) : (s.modHdr b f).qrye = s.qrye := (rep_modHdr s b f).qrye
@[simp] theorem modHdr_mprt (s : State) (b : Block) (f : Hdr → Hdr) : (s.modHdr b f).mprt = s.mprt := (rep_modHdr s b f).mprt
@[simp] theorem modHdr_pseq (s : State) (b : Block) (f : Hdr → Hdr) : (s.modHdr b f).pseq = s.pseq := (rep_modHdr s b f).pseq
@[simp] theorem modHdr_thrm (s : State) (b : Block) (f : Hdr → Hdr) : (s.modHdr b f).thrm = s.thrm := (rep_modHdr s b f).thrm
@[simp] theorem modHdr_boot (s : State) (b : Block) (f : Hdr → Hdr) : (s.modHdr b f).boot = s.boot := (rep_modHdr s b f).boot
@[simp] theorem modHdr_idnt (s : State) (b : Block) (f : Hdr → Hdr) : (s.modHdr b f).idnt = s.idnt := (rep_modHdr s b f).idnt
@[simp] theorem modHdr_coht (s : State) (b : Block) (f : Hdr → Hdr) : (s.modHdr b f).coht = s.coht := (rep_modHdr s b f).coht
@[simp] theorem modHdr_free (s : State) (b : Block) (f : Hdr → Hdr) : (s.modHdr b f).free = s.free := (rep_modHdr s b f).free
@[simp] theorem modHdr_pending (s : State) (b : Block) (f : Hdr → Hdr) : (s.modHdr b f).pending = s.pending := (rep_modHdr s b f).pending
@[simp] theorem send_fuse (s : State) (o : Out) : (s.send o).fuse = s.fuse := (rep_send s o).fuse
@[simp] theorem send_sysc (s : State) (o : Out) : (s.send o).sysc = s.sysc := (rep_send s o).sysc
@[simp] theorem send_rest (s : State) (o : Out) : (s.send o).rest = s.rest := (rep_send s o).rest
@[simp] theorem send_mbox (s : State) (o : Out) : (s.send o).mbox = s.mbox := (rep_send s o).mbox
@[simp] theorem send_ncch (s : State) (o : Out) : (s.send o).ncch = s.ncch := (rep_send s o).ncch
@[simp] theorem send_sram (s : State) (o : Out) : (s.send o).sram = s.sram := (rep_send s o).sram
@[simp] theorem send_drmc (s : State) (o : Out) : (s.send o).drmc = s.drmc := (rep_send s o).drmc
@[simp] theorem send_tier (s : State) (o : Out) : (s.send o).tier = s.tier := (rep_send s o).tier
@[simp] theorem send_ftlm (s : State) (o : Out) : (s.send o).ftlm = s.ftlm := (rep_send s o).ftlm
@[simp] theorem send_media (s : State) (o : Out) : (s.send o).media = s.media := (rep_send s o).media
@[simp] theorem send_clus (s : State) (o : Out) : (s.send o).clus = s.clus := (rep_send s o).clus
@[simp] theorem send_plan (s : State) (o : Out) : (s.send o).plan = s.plan := (rep_send s o).plan
@[simp] theorem send_pers (s : State) (o : Out) : (s.send o).pers = s.pers := (rep_send s o).pers
@[simp] theorem send_aon (s : State) (o : Out) : (s.send o).aon = s.aon := (rep_send s o).aon
@[simp] theorem send_ilkn (s : State) (o : Out) : (s.send o).ilkn = s.ilkn := (rep_send s o).ilkn
@[simp] theorem send_kspe (s : State) (o : Out) : (s.send o).kspe = s.kspe := (rep_send s o).kspe
@[simp] theorem send_ingp (s : State) (o : Out) : (s.send o).ingp = s.ingp := (rep_send s o).ingp
@[simp] theorem send_strd (s : State) (o : Out) : (s.send o).strd = s.strd := (rep_send s o).strd
@[simp] theorem send_rple (s : State) (o : Out) : (s.send o).rple = s.rple := (rep_send s o).rple
@[simp] theorem send_qrye (s : State) (o : Out) : (s.send o).qrye = s.qrye := (rep_send s o).qrye
@[simp] theorem send_mprt (s : State) (o : Out) : (s.send o).mprt = s.mprt := (rep_send s o).mprt
@[simp] theorem send_pseq (s : State) (o : Out) : (s.send o).pseq = s.pseq := (rep_send s o).pseq
@[simp] theorem send_thrm (s : State) (o : Out) : (s.send o).thrm = s.thrm := (rep_send s o).thrm
@[simp] theorem send_boot (s : State) (o : Out) : (s.send o).boot = s.boot := (rep_send s o).boot
@[simp] theorem send_idnt (s : State) (o : Out) : (s.send o).idnt = s.idnt := (rep_send s o).idnt
@[simp] theorem send_coht (s : State) (o : Out) : (s.send o).coht = s.coht := (rep_send s o).coht
@[simp] theorem send_free (s : State) (o : Out) : (s.send o).free = s.free := (rep_send s o).free
@[simp] theorem send_pending (s : State) (o : Out) : (s.send o).pending = s.pending := (rep_send s o).pending
@[simp] theorem message_fuse (s : State) (v : Nat) : (s.message v).fuse = s.fuse := (rep_message s v).fuse
@[simp] theorem message_sysc (s : State) (v : Nat) : (s.message v).sysc = s.sysc := (rep_message s v).sysc
@[simp] theorem message_rest (s : State) (v : Nat) : (s.message v).rest = s.rest := (rep_message s v).rest
@[simp] theorem message_mbox (s : State) (v : Nat) : (s.message v).mbox = s.mbox := (rep_message s v).mbox
@[simp] theorem message_ncch (s : State) (v : Nat) : (s.message v).ncch = s.ncch := (rep_message s v).ncch
@[simp] theorem message_sram (s : State) (v : Nat) : (s.message v).sram = s.sram := (rep_message s v).sram
@[simp] theorem message_drmc (s : State) (v : Nat) : (s.message v).drmc = s.drmc := (rep_message s v).drmc
@[simp] theorem message_tier (s : State) (v : Nat) : (s.message v).tier = s.tier := (rep_message s v).tier
@[simp] theorem message_ftlm (s : State) (v : Nat) : (s.message v).ftlm = s.ftlm := (rep_message s v).ftlm
@[simp] theorem message_media (s : State) (v : Nat) : (s.message v).media = s.media := (rep_message s v).media
@[simp] theorem message_clus (s : State) (v : Nat) : (s.message v).clus = s.clus := (rep_message s v).clus
@[simp] theorem message_plan (s : State) (v : Nat) : (s.message v).plan = s.plan := (rep_message s v).plan
@[simp] theorem message_pers (s : State) (v : Nat) : (s.message v).pers = s.pers := (rep_message s v).pers
@[simp] theorem message_aon (s : State) (v : Nat) : (s.message v).aon = s.aon := (rep_message s v).aon
@[simp] theorem message_ilkn (s : State) (v : Nat) : (s.message v).ilkn = s.ilkn := (rep_message s v).ilkn
@[simp] theorem message_kspe (s : State) (v : Nat) : (s.message v).kspe = s.kspe := (rep_message s v).kspe
@[simp] theorem message_ingp (s : State) (v : Nat) : (s.message v).ingp = s.ingp := (rep_message s v).ingp
@[simp] theorem message_strd (s : State) (v : Nat) : (s.message v).strd = s.strd := (rep_message s v).strd
@[simp] theorem message_rple (s : State) (v : Nat) : (s.message v).rple = s.rple := (rep_message s v).rple
@[simp] theorem message_qrye (s : State) (v : Nat) : (s.message v).qrye = s.qrye := (rep_message s v).qrye
@[simp] theorem message_mprt (s : State) (v : Nat) : (s.message v).mprt = s.mprt := (rep_message s v).mprt
@[simp] theorem message_pseq (s : State) (v : Nat) : (s.message v).pseq = s.pseq := (rep_message s v).pseq
@[simp] theorem message_thrm (s : State) (v : Nat) : (s.message v).thrm = s.thrm := (rep_message s v).thrm
@[simp] theorem message_boot (s : State) (v : Nat) : (s.message v).boot = s.boot := (rep_message s v).boot
@[simp] theorem message_idnt (s : State) (v : Nat) : (s.message v).idnt = s.idnt := (rep_message s v).idnt
@[simp] theorem message_coht (s : State) (v : Nat) : (s.message v).coht = s.coht := (rep_message s v).coht
@[simp] theorem message_free (s : State) (v : Nat) : (s.message v).free = s.free := (rep_message s v).free
@[simp] theorem message_pending (s : State) (v : Nat) : (s.message v).pending = s.pending := (rep_message s v).pending
@[simp] theorem signal_fuse (s : State) (b : Block) (w : Bool) (f : Hdr → Hdr) : (s.signal b w f).fuse = s.fuse := (rep_signal s b w f).fuse
@[simp] theorem signal_sysc (s : State) (b : Block) (w : Bool) (f : Hdr → Hdr) : (s.signal b w f).sysc = s.sysc := (rep_signal s b w f).sysc
@[simp] theorem signal_rest (s : State) (b : Block) (w : Bool) (f : Hdr → Hdr) : (s.signal b w f).rest = s.rest := (rep_signal s b w f).rest
@[simp] theorem signal_mbox (s : State) (b : Block) (w : Bool) (f : Hdr → Hdr) : (s.signal b w f).mbox = s.mbox := (rep_signal s b w f).mbox
@[simp] theorem signal_ncch (s : State) (b : Block) (w : Bool) (f : Hdr → Hdr) : (s.signal b w f).ncch = s.ncch := (rep_signal s b w f).ncch
@[simp] theorem signal_sram (s : State) (b : Block) (w : Bool) (f : Hdr → Hdr) : (s.signal b w f).sram = s.sram := (rep_signal s b w f).sram
@[simp] theorem signal_drmc (s : State) (b : Block) (w : Bool) (f : Hdr → Hdr) : (s.signal b w f).drmc = s.drmc := (rep_signal s b w f).drmc
@[simp] theorem signal_tier (s : State) (b : Block) (w : Bool) (f : Hdr → Hdr) : (s.signal b w f).tier = s.tier := (rep_signal s b w f).tier
@[simp] theorem signal_ftlm (s : State) (b : Block) (w : Bool) (f : Hdr → Hdr) : (s.signal b w f).ftlm = s.ftlm := (rep_signal s b w f).ftlm
@[simp] theorem signal_media (s : State) (b : Block) (w : Bool) (f : Hdr → Hdr) : (s.signal b w f).media = s.media := (rep_signal s b w f).media
@[simp] theorem signal_clus (s : State) (b : Block) (w : Bool) (f : Hdr → Hdr) : (s.signal b w f).clus = s.clus := (rep_signal s b w f).clus
@[simp] theorem signal_plan (s : State) (b : Block) (w : Bool) (f : Hdr → Hdr) : (s.signal b w f).plan = s.plan := (rep_signal s b w f).plan
@[simp] theorem signal_pers (s : State) (b : Block) (w : Bool) (f : Hdr → Hdr) : (s.signal b w f).pers = s.pers := (rep_signal s b w f).pers
@[simp] theorem signal_aon (s : State) (b : Block) (w : Bool) (f : Hdr → Hdr) : (s.signal b w f).aon = s.aon := (rep_signal s b w f).aon
@[simp] theorem signal_ilkn (s : State) (b : Block) (w : Bool) (f : Hdr → Hdr) : (s.signal b w f).ilkn = s.ilkn := (rep_signal s b w f).ilkn
@[simp] theorem signal_kspe (s : State) (b : Block) (w : Bool) (f : Hdr → Hdr) : (s.signal b w f).kspe = s.kspe := (rep_signal s b w f).kspe
@[simp] theorem signal_ingp (s : State) (b : Block) (w : Bool) (f : Hdr → Hdr) : (s.signal b w f).ingp = s.ingp := (rep_signal s b w f).ingp
@[simp] theorem signal_strd (s : State) (b : Block) (w : Bool) (f : Hdr → Hdr) : (s.signal b w f).strd = s.strd := (rep_signal s b w f).strd
@[simp] theorem signal_rple (s : State) (b : Block) (w : Bool) (f : Hdr → Hdr) : (s.signal b w f).rple = s.rple := (rep_signal s b w f).rple
@[simp] theorem signal_qrye (s : State) (b : Block) (w : Bool) (f : Hdr → Hdr) : (s.signal b w f).qrye = s.qrye := (rep_signal s b w f).qrye
@[simp] theorem signal_mprt (s : State) (b : Block) (w : Bool) (f : Hdr → Hdr) : (s.signal b w f).mprt = s.mprt := (rep_signal s b w f).mprt
@[simp] theorem signal_pseq (s : State) (b : Block) (w : Bool) (f : Hdr → Hdr) : (s.signal b w f).pseq = s.pseq := (rep_signal s b w f).pseq
@[simp] theorem signal_thrm (s : State) (b : Block) (w : Bool) (f : Hdr → Hdr) : (s.signal b w f).thrm = s.thrm := (rep_signal s b w f).thrm
@[simp] theorem signal_boot (s : State) (b : Block) (w : Bool) (f : Hdr → Hdr) : (s.signal b w f).boot = s.boot := (rep_signal s b w f).boot
@[simp] theorem signal_idnt (s : State) (b : Block) (w : Bool) (f : Hdr → Hdr) : (s.signal b w f).idnt = s.idnt := (rep_signal s b w f).idnt
@[simp] theorem signal_coht (s : State) (b : Block) (w : Bool) (f : Hdr → Hdr) : (s.signal b w f).coht = s.coht := (rep_signal s b w f).coht
@[simp] theorem signal_free (s : State) (b : Block) (w : Bool) (f : Hdr → Hdr) : (s.signal b w f).free = s.free := (rep_signal s b w f).free
@[simp] theorem signal_pending (s : State) (b : Block) (w : Bool) (f : Hdr → Hdr) : (s.signal b w f).pending = s.pending := (rep_signal s b w f).pending
@[simp] theorem setCause_fuse (s : State) (b : Block) (n : Nat) : (s.setCause b n).fuse = s.fuse := (rep_setCause s b n).fuse
@[simp] theorem setCause_sysc (s : State) (b : Block) (n : Nat) : (s.setCause b n).sysc = s.sysc := (rep_setCause s b n).sysc
@[simp] theorem setCause_rest (s : State) (b : Block) (n : Nat) : (s.setCause b n).rest = s.rest := (rep_setCause s b n).rest
@[simp] theorem setCause_mbox (s : State) (b : Block) (n : Nat) : (s.setCause b n).mbox = s.mbox := (rep_setCause s b n).mbox
@[simp] theorem setCause_ncch (s : State) (b : Block) (n : Nat) : (s.setCause b n).ncch = s.ncch := (rep_setCause s b n).ncch
@[simp] theorem setCause_sram (s : State) (b : Block) (n : Nat) : (s.setCause b n).sram = s.sram := (rep_setCause s b n).sram
@[simp] theorem setCause_drmc (s : State) (b : Block) (n : Nat) : (s.setCause b n).drmc = s.drmc := (rep_setCause s b n).drmc
@[simp] theorem setCause_tier (s : State) (b : Block) (n : Nat) : (s.setCause b n).tier = s.tier := (rep_setCause s b n).tier
@[simp] theorem setCause_ftlm (s : State) (b : Block) (n : Nat) : (s.setCause b n).ftlm = s.ftlm := (rep_setCause s b n).ftlm
@[simp] theorem setCause_media (s : State) (b : Block) (n : Nat) : (s.setCause b n).media = s.media := (rep_setCause s b n).media
@[simp] theorem setCause_clus (s : State) (b : Block) (n : Nat) : (s.setCause b n).clus = s.clus := (rep_setCause s b n).clus
@[simp] theorem setCause_plan (s : State) (b : Block) (n : Nat) : (s.setCause b n).plan = s.plan := (rep_setCause s b n).plan
@[simp] theorem setCause_pers (s : State) (b : Block) (n : Nat) : (s.setCause b n).pers = s.pers := (rep_setCause s b n).pers
@[simp] theorem setCause_aon (s : State) (b : Block) (n : Nat) : (s.setCause b n).aon = s.aon := (rep_setCause s b n).aon
@[simp] theorem setCause_ilkn (s : State) (b : Block) (n : Nat) : (s.setCause b n).ilkn = s.ilkn := (rep_setCause s b n).ilkn
@[simp] theorem setCause_kspe (s : State) (b : Block) (n : Nat) : (s.setCause b n).kspe = s.kspe := (rep_setCause s b n).kspe
@[simp] theorem setCause_ingp (s : State) (b : Block) (n : Nat) : (s.setCause b n).ingp = s.ingp := (rep_setCause s b n).ingp
@[simp] theorem setCause_strd (s : State) (b : Block) (n : Nat) : (s.setCause b n).strd = s.strd := (rep_setCause s b n).strd
@[simp] theorem setCause_rple (s : State) (b : Block) (n : Nat) : (s.setCause b n).rple = s.rple := (rep_setCause s b n).rple
@[simp] theorem setCause_qrye (s : State) (b : Block) (n : Nat) : (s.setCause b n).qrye = s.qrye := (rep_setCause s b n).qrye
@[simp] theorem setCause_mprt (s : State) (b : Block) (n : Nat) : (s.setCause b n).mprt = s.mprt := (rep_setCause s b n).mprt
@[simp] theorem setCause_pseq (s : State) (b : Block) (n : Nat) : (s.setCause b n).pseq = s.pseq := (rep_setCause s b n).pseq
@[simp] theorem setCause_thrm (s : State) (b : Block) (n : Nat) : (s.setCause b n).thrm = s.thrm := (rep_setCause s b n).thrm
@[simp] theorem setCause_boot (s : State) (b : Block) (n : Nat) : (s.setCause b n).boot = s.boot := (rep_setCause s b n).boot
@[simp] theorem setCause_idnt (s : State) (b : Block) (n : Nat) : (s.setCause b n).idnt = s.idnt := (rep_setCause s b n).idnt
@[simp] theorem setCause_coht (s : State) (b : Block) (n : Nat) : (s.setCause b n).coht = s.coht := (rep_setCause s b n).coht
@[simp] theorem setCause_free (s : State) (b : Block) (n : Nat) : (s.setCause b n).free = s.free := (rep_setCause s b n).free
@[simp] theorem setCause_pending (s : State) (b : Block) (n : Nat) : (s.setCause b n).pending = s.pending := (rep_setCause s b n).pending
@[simp] theorem capture_fuse (s : State) (b : Block) (c a : Nat) : (s.capture b c a).fuse = s.fuse := (rep_capture s b c a).fuse
@[simp] theorem capture_sysc (s : State) (b : Block) (c a : Nat) : (s.capture b c a).sysc = s.sysc := (rep_capture s b c a).sysc
@[simp] theorem capture_rest (s : State) (b : Block) (c a : Nat) : (s.capture b c a).rest = s.rest := (rep_capture s b c a).rest
@[simp] theorem capture_mbox (s : State) (b : Block) (c a : Nat) : (s.capture b c a).mbox = s.mbox := (rep_capture s b c a).mbox
@[simp] theorem capture_ncch (s : State) (b : Block) (c a : Nat) : (s.capture b c a).ncch = s.ncch := (rep_capture s b c a).ncch
@[simp] theorem capture_sram (s : State) (b : Block) (c a : Nat) : (s.capture b c a).sram = s.sram := (rep_capture s b c a).sram
@[simp] theorem capture_drmc (s : State) (b : Block) (c a : Nat) : (s.capture b c a).drmc = s.drmc := (rep_capture s b c a).drmc
@[simp] theorem capture_tier (s : State) (b : Block) (c a : Nat) : (s.capture b c a).tier = s.tier := (rep_capture s b c a).tier
@[simp] theorem capture_ftlm (s : State) (b : Block) (c a : Nat) : (s.capture b c a).ftlm = s.ftlm := (rep_capture s b c a).ftlm
@[simp] theorem capture_media (s : State) (b : Block) (c a : Nat) : (s.capture b c a).media = s.media := (rep_capture s b c a).media
@[simp] theorem capture_clus (s : State) (b : Block) (c a : Nat) : (s.capture b c a).clus = s.clus := (rep_capture s b c a).clus
@[simp] theorem capture_plan (s : State) (b : Block) (c a : Nat) : (s.capture b c a).plan = s.plan := (rep_capture s b c a).plan
@[simp] theorem capture_pers (s : State) (b : Block) (c a : Nat) : (s.capture b c a).pers = s.pers := (rep_capture s b c a).pers
@[simp] theorem capture_aon (s : State) (b : Block) (c a : Nat) : (s.capture b c a).aon = s.aon := (rep_capture s b c a).aon
@[simp] theorem capture_ilkn (s : State) (b : Block) (c a : Nat) : (s.capture b c a).ilkn = s.ilkn := (rep_capture s b c a).ilkn
@[simp] theorem capture_kspe (s : State) (b : Block) (c a : Nat) : (s.capture b c a).kspe = s.kspe := (rep_capture s b c a).kspe
@[simp] theorem capture_ingp (s : State) (b : Block) (c a : Nat) : (s.capture b c a).ingp = s.ingp := (rep_capture s b c a).ingp
@[simp] theorem capture_strd (s : State) (b : Block) (c a : Nat) : (s.capture b c a).strd = s.strd := (rep_capture s b c a).strd
@[simp] theorem capture_rple (s : State) (b : Block) (c a : Nat) : (s.capture b c a).rple = s.rple := (rep_capture s b c a).rple
@[simp] theorem capture_qrye (s : State) (b : Block) (c a : Nat) : (s.capture b c a).qrye = s.qrye := (rep_capture s b c a).qrye
@[simp] theorem capture_mprt (s : State) (b : Block) (c a : Nat) : (s.capture b c a).mprt = s.mprt := (rep_capture s b c a).mprt
@[simp] theorem capture_pseq (s : State) (b : Block) (c a : Nat) : (s.capture b c a).pseq = s.pseq := (rep_capture s b c a).pseq
@[simp] theorem capture_thrm (s : State) (b : Block) (c a : Nat) : (s.capture b c a).thrm = s.thrm := (rep_capture s b c a).thrm
@[simp] theorem capture_boot (s : State) (b : Block) (c a : Nat) : (s.capture b c a).boot = s.boot := (rep_capture s b c a).boot
@[simp] theorem capture_idnt (s : State) (b : Block) (c a : Nat) : (s.capture b c a).idnt = s.idnt := (rep_capture s b c a).idnt
@[simp] theorem capture_coht (s : State) (b : Block) (c a : Nat) : (s.capture b c a).coht = s.coht := (rep_capture s b c a).coht
@[simp] theorem capture_free (s : State) (b : Block) (c a : Nat) : (s.capture b c a).free = s.free := (rep_capture s b c a).free
@[simp] theorem capture_pending (s : State) (b : Block) (c a : Nat) : (s.capture b c a).pending = s.pending := (rep_capture s b c a).pending
@[simp] theorem raise_fuse (s : State) (c v r p q w : Nat) : (s.raise c v r p q w).fuse = s.fuse := (rep_raise s c v r p q w).fuse
@[simp] theorem raise_sysc (s : State) (c v r p q w : Nat) : (s.raise c v r p q w).sysc = s.sysc := (rep_raise s c v r p q w).sysc
@[simp] theorem raise_rest (s : State) (c v r p q w : Nat) : (s.raise c v r p q w).rest = s.rest := (rep_raise s c v r p q w).rest
@[simp] theorem raise_mbox (s : State) (c v r p q w : Nat) : (s.raise c v r p q w).mbox = s.mbox := (rep_raise s c v r p q w).mbox
@[simp] theorem raise_ncch (s : State) (c v r p q w : Nat) : (s.raise c v r p q w).ncch = s.ncch := (rep_raise s c v r p q w).ncch
@[simp] theorem raise_sram (s : State) (c v r p q w : Nat) : (s.raise c v r p q w).sram = s.sram := (rep_raise s c v r p q w).sram
@[simp] theorem raise_drmc (s : State) (c v r p q w : Nat) : (s.raise c v r p q w).drmc = s.drmc := (rep_raise s c v r p q w).drmc
@[simp] theorem raise_tier (s : State) (c v r p q w : Nat) : (s.raise c v r p q w).tier = s.tier := (rep_raise s c v r p q w).tier
@[simp] theorem raise_ftlm (s : State) (c v r p q w : Nat) : (s.raise c v r p q w).ftlm = s.ftlm := (rep_raise s c v r p q w).ftlm
@[simp] theorem raise_media (s : State) (c v r p q w : Nat) : (s.raise c v r p q w).media = s.media := (rep_raise s c v r p q w).media
@[simp] theorem raise_clus (s : State) (c v r p q w : Nat) : (s.raise c v r p q w).clus = s.clus := (rep_raise s c v r p q w).clus
@[simp] theorem raise_plan (s : State) (c v r p q w : Nat) : (s.raise c v r p q w).plan = s.plan := (rep_raise s c v r p q w).plan
@[simp] theorem raise_pers (s : State) (c v r p q w : Nat) : (s.raise c v r p q w).pers = s.pers := (rep_raise s c v r p q w).pers
@[simp] theorem raise_aon (s : State) (c v r p q w : Nat) : (s.raise c v r p q w).aon = s.aon := (rep_raise s c v r p q w).aon
@[simp] theorem raise_ilkn (s : State) (c v r p q w : Nat) : (s.raise c v r p q w).ilkn = s.ilkn := (rep_raise s c v r p q w).ilkn
@[simp] theorem raise_kspe (s : State) (c v r p q w : Nat) : (s.raise c v r p q w).kspe = s.kspe := (rep_raise s c v r p q w).kspe
@[simp] theorem raise_ingp (s : State) (c v r p q w : Nat) : (s.raise c v r p q w).ingp = s.ingp := (rep_raise s c v r p q w).ingp
@[simp] theorem raise_strd (s : State) (c v r p q w : Nat) : (s.raise c v r p q w).strd = s.strd := (rep_raise s c v r p q w).strd
@[simp] theorem raise_rple (s : State) (c v r p q w : Nat) : (s.raise c v r p q w).rple = s.rple := (rep_raise s c v r p q w).rple
@[simp] theorem raise_qrye (s : State) (c v r p q w : Nat) : (s.raise c v r p q w).qrye = s.qrye := (rep_raise s c v r p q w).qrye
@[simp] theorem raise_mprt (s : State) (c v r p q w : Nat) : (s.raise c v r p q w).mprt = s.mprt := (rep_raise s c v r p q w).mprt
@[simp] theorem raise_pseq (s : State) (c v r p q w : Nat) : (s.raise c v r p q w).pseq = s.pseq := (rep_raise s c v r p q w).pseq
@[simp] theorem raise_thrm (s : State) (c v r p q w : Nat) : (s.raise c v r p q w).thrm = s.thrm := (rep_raise s c v r p q w).thrm
@[simp] theorem raise_boot (s : State) (c v r p q w : Nat) : (s.raise c v r p q w).boot = s.boot := (rep_raise s c v r p q w).boot
@[simp] theorem raise_idnt (s : State) (c v r p q w : Nat) : (s.raise c v r p q w).idnt = s.idnt := (rep_raise s c v r p q w).idnt
@[simp] theorem raise_coht (s : State) (c v r p q w : Nat) : (s.raise c v r p q w).coht = s.coht := (rep_raise s c v r p q w).coht
@[simp] theorem raise_free (s : State) (c v r p q w : Nat) : (s.raise c v r p q w).free = s.free := (rep_raise s c v r p q w).free
@[simp] theorem raise_pending (s : State) (c v r p q w : Nat) : (s.raise c v r p q w).pending = s.pending := (rep_raise s c v r p q w).pending
@[simp] theorem causeRecord_fuse (s : State) (b : Block) (i v : Nat) : (s.causeRecord b i v).fuse = s.fuse := (rep_causeRecord s b i v).fuse
@[simp] theorem causeRecord_sysc (s : State) (b : Block) (i v : Nat) : (s.causeRecord b i v).sysc = s.sysc := (rep_causeRecord s b i v).sysc
@[simp] theorem causeRecord_rest (s : State) (b : Block) (i v : Nat) : (s.causeRecord b i v).rest = s.rest := (rep_causeRecord s b i v).rest
@[simp] theorem causeRecord_mbox (s : State) (b : Block) (i v : Nat) : (s.causeRecord b i v).mbox = s.mbox := (rep_causeRecord s b i v).mbox
@[simp] theorem causeRecord_ncch (s : State) (b : Block) (i v : Nat) : (s.causeRecord b i v).ncch = s.ncch := (rep_causeRecord s b i v).ncch
@[simp] theorem causeRecord_sram (s : State) (b : Block) (i v : Nat) : (s.causeRecord b i v).sram = s.sram := (rep_causeRecord s b i v).sram
@[simp] theorem causeRecord_drmc (s : State) (b : Block) (i v : Nat) : (s.causeRecord b i v).drmc = s.drmc := (rep_causeRecord s b i v).drmc
@[simp] theorem causeRecord_tier (s : State) (b : Block) (i v : Nat) : (s.causeRecord b i v).tier = s.tier := (rep_causeRecord s b i v).tier
@[simp] theorem causeRecord_ftlm (s : State) (b : Block) (i v : Nat) : (s.causeRecord b i v).ftlm = s.ftlm := (rep_causeRecord s b i v).ftlm
@[simp] theorem causeRecord_media (s : State) (b : Block) (i v : Nat) : (s.causeRecord b i v).media = s.media := (rep_causeRecord s b i v).media
@[simp] theorem causeRecord_clus (s : State) (b : Block) (i v : Nat) : (s.causeRecord b i v).clus = s.clus := (rep_causeRecord s b i v).clus
@[simp] theorem causeRecord_plan (s : State) (b : Block) (i v : Nat) : (s.causeRecord b i v).plan = s.plan := (rep_causeRecord s b i v).plan
@[simp] theorem causeRecord_pers (s : State) (b : Block) (i v : Nat) : (s.causeRecord b i v).pers = s.pers := (rep_causeRecord s b i v).pers
@[simp] theorem causeRecord_aon (s : State) (b : Block) (i v : Nat) : (s.causeRecord b i v).aon = s.aon := (rep_causeRecord s b i v).aon
@[simp] theorem causeRecord_ilkn (s : State) (b : Block) (i v : Nat) : (s.causeRecord b i v).ilkn = s.ilkn := (rep_causeRecord s b i v).ilkn
@[simp] theorem causeRecord_kspe (s : State) (b : Block) (i v : Nat) : (s.causeRecord b i v).kspe = s.kspe := (rep_causeRecord s b i v).kspe
@[simp] theorem causeRecord_ingp (s : State) (b : Block) (i v : Nat) : (s.causeRecord b i v).ingp = s.ingp := (rep_causeRecord s b i v).ingp
@[simp] theorem causeRecord_strd (s : State) (b : Block) (i v : Nat) : (s.causeRecord b i v).strd = s.strd := (rep_causeRecord s b i v).strd
@[simp] theorem causeRecord_rple (s : State) (b : Block) (i v : Nat) : (s.causeRecord b i v).rple = s.rple := (rep_causeRecord s b i v).rple
@[simp] theorem causeRecord_qrye (s : State) (b : Block) (i v : Nat) : (s.causeRecord b i v).qrye = s.qrye := (rep_causeRecord s b i v).qrye
@[simp] theorem causeRecord_mprt (s : State) (b : Block) (i v : Nat) : (s.causeRecord b i v).mprt = s.mprt := (rep_causeRecord s b i v).mprt
@[simp] theorem causeRecord_pseq (s : State) (b : Block) (i v : Nat) : (s.causeRecord b i v).pseq = s.pseq := (rep_causeRecord s b i v).pseq
@[simp] theorem causeRecord_thrm (s : State) (b : Block) (i v : Nat) : (s.causeRecord b i v).thrm = s.thrm := (rep_causeRecord s b i v).thrm
@[simp] theorem causeRecord_boot (s : State) (b : Block) (i v : Nat) : (s.causeRecord b i v).boot = s.boot := (rep_causeRecord s b i v).boot
@[simp] theorem causeRecord_idnt (s : State) (b : Block) (i v : Nat) : (s.causeRecord b i v).idnt = s.idnt := (rep_causeRecord s b i v).idnt
@[simp] theorem causeRecord_coht (s : State) (b : Block) (i v : Nat) : (s.causeRecord b i v).coht = s.coht := (rep_causeRecord s b i v).coht
@[simp] theorem causeRecord_free (s : State) (b : Block) (i v : Nat) : (s.causeRecord b i v).free = s.free := (rep_causeRecord s b i v).free
@[simp] theorem causeRecord_pending (s : State) (b : Block) (i v : Nat) : (s.causeRecord b i v).pending = s.pending := (rep_causeRecord s b i v).pending
@[simp] theorem errorRecord_fuse (s : State) (b : Block) (c a v : Nat) : (s.errorRecord b c a v).fuse = s.fuse := (rep_errorRecord s b c a v).fuse
@[simp] theorem errorRecord_sysc (s : State) (b : Block) (c a v : Nat) : (s.errorRecord b c a v).sysc = s.sysc := (rep_errorRecord s b c a v).sysc
@[simp] theorem errorRecord_rest (s : State) (b : Block) (c a v : Nat) : (s.errorRecord b c a v).rest = s.rest := (rep_errorRecord s b c a v).rest
@[simp] theorem errorRecord_mbox (s : State) (b : Block) (c a v : Nat) : (s.errorRecord b c a v).mbox = s.mbox := (rep_errorRecord s b c a v).mbox
@[simp] theorem errorRecord_ncch (s : State) (b : Block) (c a v : Nat) : (s.errorRecord b c a v).ncch = s.ncch := (rep_errorRecord s b c a v).ncch
@[simp] theorem errorRecord_sram (s : State) (b : Block) (c a v : Nat) : (s.errorRecord b c a v).sram = s.sram := (rep_errorRecord s b c a v).sram
@[simp] theorem errorRecord_drmc (s : State) (b : Block) (c a v : Nat) : (s.errorRecord b c a v).drmc = s.drmc := (rep_errorRecord s b c a v).drmc
@[simp] theorem errorRecord_tier (s : State) (b : Block) (c a v : Nat) : (s.errorRecord b c a v).tier = s.tier := (rep_errorRecord s b c a v).tier
@[simp] theorem errorRecord_ftlm (s : State) (b : Block) (c a v : Nat) : (s.errorRecord b c a v).ftlm = s.ftlm := (rep_errorRecord s b c a v).ftlm
@[simp] theorem errorRecord_media (s : State) (b : Block) (c a v : Nat) : (s.errorRecord b c a v).media = s.media := (rep_errorRecord s b c a v).media
@[simp] theorem errorRecord_clus (s : State) (b : Block) (c a v : Nat) : (s.errorRecord b c a v).clus = s.clus := (rep_errorRecord s b c a v).clus
@[simp] theorem errorRecord_plan (s : State) (b : Block) (c a v : Nat) : (s.errorRecord b c a v).plan = s.plan := (rep_errorRecord s b c a v).plan
@[simp] theorem errorRecord_pers (s : State) (b : Block) (c a v : Nat) : (s.errorRecord b c a v).pers = s.pers := (rep_errorRecord s b c a v).pers
@[simp] theorem errorRecord_aon (s : State) (b : Block) (c a v : Nat) : (s.errorRecord b c a v).aon = s.aon := (rep_errorRecord s b c a v).aon
@[simp] theorem errorRecord_ilkn (s : State) (b : Block) (c a v : Nat) : (s.errorRecord b c a v).ilkn = s.ilkn := (rep_errorRecord s b c a v).ilkn
@[simp] theorem errorRecord_kspe (s : State) (b : Block) (c a v : Nat) : (s.errorRecord b c a v).kspe = s.kspe := (rep_errorRecord s b c a v).kspe
@[simp] theorem errorRecord_ingp (s : State) (b : Block) (c a v : Nat) : (s.errorRecord b c a v).ingp = s.ingp := (rep_errorRecord s b c a v).ingp
@[simp] theorem errorRecord_strd (s : State) (b : Block) (c a v : Nat) : (s.errorRecord b c a v).strd = s.strd := (rep_errorRecord s b c a v).strd
@[simp] theorem errorRecord_rple (s : State) (b : Block) (c a v : Nat) : (s.errorRecord b c a v).rple = s.rple := (rep_errorRecord s b c a v).rple
@[simp] theorem errorRecord_qrye (s : State) (b : Block) (c a v : Nat) : (s.errorRecord b c a v).qrye = s.qrye := (rep_errorRecord s b c a v).qrye
@[simp] theorem errorRecord_mprt (s : State) (b : Block) (c a v : Nat) : (s.errorRecord b c a v).mprt = s.mprt := (rep_errorRecord s b c a v).mprt
@[simp] theorem errorRecord_pseq (s : State) (b : Block) (c a v : Nat) : (s.errorRecord b c a v).pseq = s.pseq := (rep_errorRecord s b c a v).pseq
@[simp] theorem errorRecord_thrm (s : State) (b : Block) (c a v : Nat) : (s.errorRecord b c a v).thrm = s.thrm := (rep_errorRecord s b c a v).thrm
@[simp] theorem errorRecord_boot (s : State) (b : Block) (c a v : Nat) : (s.errorRecord b c a v).boot = s.boot := (rep_errorRecord s b c a v).boot
@[simp] theorem errorRecord_idnt (s : State) (b : Block) (c a v : Nat) : (s.errorRecord b c a v).idnt = s.idnt := (rep_errorRecord s b c a v).idnt
@[simp] theorem errorRecord_coht (s : State) (b : Block) (c a v : Nat) : (s.errorRecord b c a v).coht = s.coht := (rep_errorRecord s b c a v).coht
@[simp] theorem errorRecord_free (s : State) (b : Block) (c a v : Nat) : (s.errorRecord b c a v).free = s.free := (rep_errorRecord s b c a v).free
@[simp] theorem errorRecord_pending (s : State) (b : Block) (c a v : Nat) : (s.errorRecord b c a v).pending = s.pending := (rep_errorRecord s b c a v).pending
@[simp] theorem cause_fuse (s : State) (b : Block) (i v : Nat) : (s.cause b i v).fuse = s.fuse := (rep_cause s b i v).fuse
@[simp] theorem cause_sysc (s : State) (b : Block) (i v : Nat) : (s.cause b i v).sysc = s.sysc := (rep_cause s b i v).sysc
@[simp] theorem cause_rest (s : State) (b : Block) (i v : Nat) : (s.cause b i v).rest = s.rest := (rep_cause s b i v).rest
@[simp] theorem cause_mbox (s : State) (b : Block) (i v : Nat) : (s.cause b i v).mbox = s.mbox := (rep_cause s b i v).mbox
@[simp] theorem cause_ncch (s : State) (b : Block) (i v : Nat) : (s.cause b i v).ncch = s.ncch := (rep_cause s b i v).ncch
@[simp] theorem cause_sram (s : State) (b : Block) (i v : Nat) : (s.cause b i v).sram = s.sram := (rep_cause s b i v).sram
@[simp] theorem cause_drmc (s : State) (b : Block) (i v : Nat) : (s.cause b i v).drmc = s.drmc := (rep_cause s b i v).drmc
@[simp] theorem cause_tier (s : State) (b : Block) (i v : Nat) : (s.cause b i v).tier = s.tier := (rep_cause s b i v).tier
@[simp] theorem cause_ftlm (s : State) (b : Block) (i v : Nat) : (s.cause b i v).ftlm = s.ftlm := (rep_cause s b i v).ftlm
@[simp] theorem cause_media (s : State) (b : Block) (i v : Nat) : (s.cause b i v).media = s.media := (rep_cause s b i v).media
@[simp] theorem cause_clus (s : State) (b : Block) (i v : Nat) : (s.cause b i v).clus = s.clus := (rep_cause s b i v).clus
@[simp] theorem cause_plan (s : State) (b : Block) (i v : Nat) : (s.cause b i v).plan = s.plan := (rep_cause s b i v).plan
@[simp] theorem cause_pers (s : State) (b : Block) (i v : Nat) : (s.cause b i v).pers = s.pers := (rep_cause s b i v).pers
@[simp] theorem cause_aon (s : State) (b : Block) (i v : Nat) : (s.cause b i v).aon = s.aon := (rep_cause s b i v).aon
@[simp] theorem cause_ilkn (s : State) (b : Block) (i v : Nat) : (s.cause b i v).ilkn = s.ilkn := (rep_cause s b i v).ilkn
@[simp] theorem cause_kspe (s : State) (b : Block) (i v : Nat) : (s.cause b i v).kspe = s.kspe := (rep_cause s b i v).kspe
@[simp] theorem cause_ingp (s : State) (b : Block) (i v : Nat) : (s.cause b i v).ingp = s.ingp := (rep_cause s b i v).ingp
@[simp] theorem cause_strd (s : State) (b : Block) (i v : Nat) : (s.cause b i v).strd = s.strd := (rep_cause s b i v).strd
@[simp] theorem cause_rple (s : State) (b : Block) (i v : Nat) : (s.cause b i v).rple = s.rple := (rep_cause s b i v).rple
@[simp] theorem cause_qrye (s : State) (b : Block) (i v : Nat) : (s.cause b i v).qrye = s.qrye := (rep_cause s b i v).qrye
@[simp] theorem cause_mprt (s : State) (b : Block) (i v : Nat) : (s.cause b i v).mprt = s.mprt := (rep_cause s b i v).mprt
@[simp] theorem cause_pseq (s : State) (b : Block) (i v : Nat) : (s.cause b i v).pseq = s.pseq := (rep_cause s b i v).pseq
@[simp] theorem cause_thrm (s : State) (b : Block) (i v : Nat) : (s.cause b i v).thrm = s.thrm := (rep_cause s b i v).thrm
@[simp] theorem cause_boot (s : State) (b : Block) (i v : Nat) : (s.cause b i v).boot = s.boot := (rep_cause s b i v).boot
@[simp] theorem cause_idnt (s : State) (b : Block) (i v : Nat) : (s.cause b i v).idnt = s.idnt := (rep_cause s b i v).idnt
@[simp] theorem cause_coht (s : State) (b : Block) (i v : Nat) : (s.cause b i v).coht = s.coht := (rep_cause s b i v).coht
@[simp] theorem cause_free (s : State) (b : Block) (i v : Nat) : (s.cause b i v).free = s.free := (rep_cause s b i v).free
@[simp] theorem cause_pending (s : State) (b : Block) (i v : Nat) : (s.cause b i v).pending = s.pending := (rep_cause s b i v).pending
@[simp] theorem error_fuse (s : State) (b : Block) (c a n v : Nat) : (s.error b c a n v).fuse = s.fuse := (rep_error s b c a n v).fuse
@[simp] theorem error_sysc (s : State) (b : Block) (c a n v : Nat) : (s.error b c a n v).sysc = s.sysc := (rep_error s b c a n v).sysc
@[simp] theorem error_rest (s : State) (b : Block) (c a n v : Nat) : (s.error b c a n v).rest = s.rest := (rep_error s b c a n v).rest
@[simp] theorem error_mbox (s : State) (b : Block) (c a n v : Nat) : (s.error b c a n v).mbox = s.mbox := (rep_error s b c a n v).mbox
@[simp] theorem error_ncch (s : State) (b : Block) (c a n v : Nat) : (s.error b c a n v).ncch = s.ncch := (rep_error s b c a n v).ncch
@[simp] theorem error_sram (s : State) (b : Block) (c a n v : Nat) : (s.error b c a n v).sram = s.sram := (rep_error s b c a n v).sram
@[simp] theorem error_drmc (s : State) (b : Block) (c a n v : Nat) : (s.error b c a n v).drmc = s.drmc := (rep_error s b c a n v).drmc
@[simp] theorem error_tier (s : State) (b : Block) (c a n v : Nat) : (s.error b c a n v).tier = s.tier := (rep_error s b c a n v).tier
@[simp] theorem error_ftlm (s : State) (b : Block) (c a n v : Nat) : (s.error b c a n v).ftlm = s.ftlm := (rep_error s b c a n v).ftlm
@[simp] theorem error_media (s : State) (b : Block) (c a n v : Nat) : (s.error b c a n v).media = s.media := (rep_error s b c a n v).media
@[simp] theorem error_clus (s : State) (b : Block) (c a n v : Nat) : (s.error b c a n v).clus = s.clus := (rep_error s b c a n v).clus
@[simp] theorem error_plan (s : State) (b : Block) (c a n v : Nat) : (s.error b c a n v).plan = s.plan := (rep_error s b c a n v).plan
@[simp] theorem error_pers (s : State) (b : Block) (c a n v : Nat) : (s.error b c a n v).pers = s.pers := (rep_error s b c a n v).pers
@[simp] theorem error_aon (s : State) (b : Block) (c a n v : Nat) : (s.error b c a n v).aon = s.aon := (rep_error s b c a n v).aon
@[simp] theorem error_ilkn (s : State) (b : Block) (c a n v : Nat) : (s.error b c a n v).ilkn = s.ilkn := (rep_error s b c a n v).ilkn
@[simp] theorem error_kspe (s : State) (b : Block) (c a n v : Nat) : (s.error b c a n v).kspe = s.kspe := (rep_error s b c a n v).kspe
@[simp] theorem error_ingp (s : State) (b : Block) (c a n v : Nat) : (s.error b c a n v).ingp = s.ingp := (rep_error s b c a n v).ingp
@[simp] theorem error_strd (s : State) (b : Block) (c a n v : Nat) : (s.error b c a n v).strd = s.strd := (rep_error s b c a n v).strd
@[simp] theorem error_rple (s : State) (b : Block) (c a n v : Nat) : (s.error b c a n v).rple = s.rple := (rep_error s b c a n v).rple
@[simp] theorem error_qrye (s : State) (b : Block) (c a n v : Nat) : (s.error b c a n v).qrye = s.qrye := (rep_error s b c a n v).qrye
@[simp] theorem error_mprt (s : State) (b : Block) (c a n v : Nat) : (s.error b c a n v).mprt = s.mprt := (rep_error s b c a n v).mprt
@[simp] theorem error_pseq (s : State) (b : Block) (c a n v : Nat) : (s.error b c a n v).pseq = s.pseq := (rep_error s b c a n v).pseq
@[simp] theorem error_thrm (s : State) (b : Block) (c a n v : Nat) : (s.error b c a n v).thrm = s.thrm := (rep_error s b c a n v).thrm
@[simp] theorem error_boot (s : State) (b : Block) (c a n v : Nat) : (s.error b c a n v).boot = s.boot := (rep_error s b c a n v).boot
@[simp] theorem error_idnt (s : State) (b : Block) (c a n v : Nat) : (s.error b c a n v).idnt = s.idnt := (rep_error s b c a n v).idnt
@[simp] theorem error_coht (s : State) (b : Block) (c a n v : Nat) : (s.error b c a n v).coht = s.coht := (rep_error s b c a n v).coht
@[simp] theorem error_free (s : State) (b : Block) (c a n v : Nat) : (s.error b c a n v).free = s.free := (rep_error s b c a n v).free
@[simp] theorem error_pending (s : State) (b : Block) (c a n v : Nat) : (s.error b c a n v).pending = s.pending := (rep_error s b c a n v).pending
@[simp] theorem reportCause_fuse (s : State) (b : Block) (n : Nat) : (s.reportCause b n).fuse = s.fuse := (rep_reportCause s b n).fuse
@[simp] theorem reportCause_sysc (s : State) (b : Block) (n : Nat) : (s.reportCause b n).sysc = s.sysc := (rep_reportCause s b n).sysc
@[simp] theorem reportCause_rest (s : State) (b : Block) (n : Nat) : (s.reportCause b n).rest = s.rest := (rep_reportCause s b n).rest
@[simp] theorem reportCause_mbox (s : State) (b : Block) (n : Nat) : (s.reportCause b n).mbox = s.mbox := (rep_reportCause s b n).mbox
@[simp] theorem reportCause_ncch (s : State) (b : Block) (n : Nat) : (s.reportCause b n).ncch = s.ncch := (rep_reportCause s b n).ncch
@[simp] theorem reportCause_sram (s : State) (b : Block) (n : Nat) : (s.reportCause b n).sram = s.sram := (rep_reportCause s b n).sram
@[simp] theorem reportCause_drmc (s : State) (b : Block) (n : Nat) : (s.reportCause b n).drmc = s.drmc := (rep_reportCause s b n).drmc
@[simp] theorem reportCause_tier (s : State) (b : Block) (n : Nat) : (s.reportCause b n).tier = s.tier := (rep_reportCause s b n).tier
@[simp] theorem reportCause_ftlm (s : State) (b : Block) (n : Nat) : (s.reportCause b n).ftlm = s.ftlm := (rep_reportCause s b n).ftlm
@[simp] theorem reportCause_media (s : State) (b : Block) (n : Nat) : (s.reportCause b n).media = s.media := (rep_reportCause s b n).media
@[simp] theorem reportCause_clus (s : State) (b : Block) (n : Nat) : (s.reportCause b n).clus = s.clus := (rep_reportCause s b n).clus
@[simp] theorem reportCause_plan (s : State) (b : Block) (n : Nat) : (s.reportCause b n).plan = s.plan := (rep_reportCause s b n).plan
@[simp] theorem reportCause_pers (s : State) (b : Block) (n : Nat) : (s.reportCause b n).pers = s.pers := (rep_reportCause s b n).pers
@[simp] theorem reportCause_aon (s : State) (b : Block) (n : Nat) : (s.reportCause b n).aon = s.aon := (rep_reportCause s b n).aon
@[simp] theorem reportCause_ilkn (s : State) (b : Block) (n : Nat) : (s.reportCause b n).ilkn = s.ilkn := (rep_reportCause s b n).ilkn
@[simp] theorem reportCause_kspe (s : State) (b : Block) (n : Nat) : (s.reportCause b n).kspe = s.kspe := (rep_reportCause s b n).kspe
@[simp] theorem reportCause_ingp (s : State) (b : Block) (n : Nat) : (s.reportCause b n).ingp = s.ingp := (rep_reportCause s b n).ingp
@[simp] theorem reportCause_strd (s : State) (b : Block) (n : Nat) : (s.reportCause b n).strd = s.strd := (rep_reportCause s b n).strd
@[simp] theorem reportCause_rple (s : State) (b : Block) (n : Nat) : (s.reportCause b n).rple = s.rple := (rep_reportCause s b n).rple
@[simp] theorem reportCause_qrye (s : State) (b : Block) (n : Nat) : (s.reportCause b n).qrye = s.qrye := (rep_reportCause s b n).qrye
@[simp] theorem reportCause_mprt (s : State) (b : Block) (n : Nat) : (s.reportCause b n).mprt = s.mprt := (rep_reportCause s b n).mprt
@[simp] theorem reportCause_pseq (s : State) (b : Block) (n : Nat) : (s.reportCause b n).pseq = s.pseq := (rep_reportCause s b n).pseq
@[simp] theorem reportCause_thrm (s : State) (b : Block) (n : Nat) : (s.reportCause b n).thrm = s.thrm := (rep_reportCause s b n).thrm
@[simp] theorem reportCause_boot (s : State) (b : Block) (n : Nat) : (s.reportCause b n).boot = s.boot := (rep_reportCause s b n).boot
@[simp] theorem reportCause_idnt (s : State) (b : Block) (n : Nat) : (s.reportCause b n).idnt = s.idnt := (rep_reportCause s b n).idnt
@[simp] theorem reportCause_coht (s : State) (b : Block) (n : Nat) : (s.reportCause b n).coht = s.coht := (rep_reportCause s b n).coht
@[simp] theorem reportCause_free (s : State) (b : Block) (n : Nat) : (s.reportCause b n).free = s.free := (rep_reportCause s b n).free
@[simp] theorem reportCause_pending (s : State) (b : Block) (n : Nat) : (s.reportCause b n).pending = s.pending := (rep_reportCause s b n).pending
@[simp] theorem captureAs_fuse (s : State) (b : Block) (c a : Nat) (q : Bool) : (s.captureAs b c a q).fuse = s.fuse := (rep_captureAs s b c a q).fuse
@[simp] theorem captureAs_sysc (s : State) (b : Block) (c a : Nat) (q : Bool) : (s.captureAs b c a q).sysc = s.sysc := (rep_captureAs s b c a q).sysc
@[simp] theorem captureAs_rest (s : State) (b : Block) (c a : Nat) (q : Bool) : (s.captureAs b c a q).rest = s.rest := (rep_captureAs s b c a q).rest
@[simp] theorem captureAs_mbox (s : State) (b : Block) (c a : Nat) (q : Bool) : (s.captureAs b c a q).mbox = s.mbox := (rep_captureAs s b c a q).mbox
@[simp] theorem captureAs_ncch (s : State) (b : Block) (c a : Nat) (q : Bool) : (s.captureAs b c a q).ncch = s.ncch := (rep_captureAs s b c a q).ncch
@[simp] theorem captureAs_sram (s : State) (b : Block) (c a : Nat) (q : Bool) : (s.captureAs b c a q).sram = s.sram := (rep_captureAs s b c a q).sram
@[simp] theorem captureAs_drmc (s : State) (b : Block) (c a : Nat) (q : Bool) : (s.captureAs b c a q).drmc = s.drmc := (rep_captureAs s b c a q).drmc
@[simp] theorem captureAs_tier (s : State) (b : Block) (c a : Nat) (q : Bool) : (s.captureAs b c a q).tier = s.tier := (rep_captureAs s b c a q).tier
@[simp] theorem captureAs_ftlm (s : State) (b : Block) (c a : Nat) (q : Bool) : (s.captureAs b c a q).ftlm = s.ftlm := (rep_captureAs s b c a q).ftlm
@[simp] theorem captureAs_media (s : State) (b : Block) (c a : Nat) (q : Bool) : (s.captureAs b c a q).media = s.media := (rep_captureAs s b c a q).media
@[simp] theorem captureAs_clus (s : State) (b : Block) (c a : Nat) (q : Bool) : (s.captureAs b c a q).clus = s.clus := (rep_captureAs s b c a q).clus
@[simp] theorem captureAs_plan (s : State) (b : Block) (c a : Nat) (q : Bool) : (s.captureAs b c a q).plan = s.plan := (rep_captureAs s b c a q).plan
@[simp] theorem captureAs_pers (s : State) (b : Block) (c a : Nat) (q : Bool) : (s.captureAs b c a q).pers = s.pers := (rep_captureAs s b c a q).pers
@[simp] theorem captureAs_aon (s : State) (b : Block) (c a : Nat) (q : Bool) : (s.captureAs b c a q).aon = s.aon := (rep_captureAs s b c a q).aon
@[simp] theorem captureAs_ilkn (s : State) (b : Block) (c a : Nat) (q : Bool) : (s.captureAs b c a q).ilkn = s.ilkn := (rep_captureAs s b c a q).ilkn
@[simp] theorem captureAs_kspe (s : State) (b : Block) (c a : Nat) (q : Bool) : (s.captureAs b c a q).kspe = s.kspe := (rep_captureAs s b c a q).kspe
@[simp] theorem captureAs_ingp (s : State) (b : Block) (c a : Nat) (q : Bool) : (s.captureAs b c a q).ingp = s.ingp := (rep_captureAs s b c a q).ingp
@[simp] theorem captureAs_strd (s : State) (b : Block) (c a : Nat) (q : Bool) : (s.captureAs b c a q).strd = s.strd := (rep_captureAs s b c a q).strd
@[simp] theorem captureAs_rple (s : State) (b : Block) (c a : Nat) (q : Bool) : (s.captureAs b c a q).rple = s.rple := (rep_captureAs s b c a q).rple
@[simp] theorem captureAs_qrye (s : State) (b : Block) (c a : Nat) (q : Bool) : (s.captureAs b c a q).qrye = s.qrye := (rep_captureAs s b c a q).qrye
@[simp] theorem captureAs_mprt (s : State) (b : Block) (c a : Nat) (q : Bool) : (s.captureAs b c a q).mprt = s.mprt := (rep_captureAs s b c a q).mprt
@[simp] theorem captureAs_pseq (s : State) (b : Block) (c a : Nat) (q : Bool) : (s.captureAs b c a q).pseq = s.pseq := (rep_captureAs s b c a q).pseq
@[simp] theorem captureAs_thrm (s : State) (b : Block) (c a : Nat) (q : Bool) : (s.captureAs b c a q).thrm = s.thrm := (rep_captureAs s b c a q).thrm
@[simp] theorem captureAs_boot (s : State) (b : Block) (c a : Nat) (q : Bool) : (s.captureAs b c a q).boot = s.boot := (rep_captureAs s b c a q).boot
@[simp] theorem captureAs_idnt (s : State) (b : Block) (c a : Nat) (q : Bool) : (s.captureAs b c a q).idnt = s.idnt := (rep_captureAs s b c a q).idnt
@[simp] theorem captureAs_coht (s : State) (b : Block) (c a : Nat) (q : Bool) : (s.captureAs b c a q).coht = s.coht := (rep_captureAs s b c a q).coht
@[simp] theorem captureAs_free (s : State) (b : Block) (c a : Nat) (q : Bool) : (s.captureAs b c a q).free = s.free := (rep_captureAs s b c a q).free
@[simp] theorem captureAs_pending (s : State) (b : Block) (c a : Nat) (q : Bool) : (s.captureAs b c a q).pending = s.pending := (rep_captureAs s b c a q).pending
@[simp] theorem reportError_fuse (s : State) (b : Block) (c a n v : Nat) : (s.reportError b c a n v).fuse = s.fuse := (rep_reportError s b c a n v).fuse
@[simp] theorem reportError_sysc (s : State) (b : Block) (c a n v : Nat) : (s.reportError b c a n v).sysc = s.sysc := (rep_reportError s b c a n v).sysc
@[simp] theorem reportError_rest (s : State) (b : Block) (c a n v : Nat) : (s.reportError b c a n v).rest = s.rest := (rep_reportError s b c a n v).rest
@[simp] theorem reportError_mbox (s : State) (b : Block) (c a n v : Nat) : (s.reportError b c a n v).mbox = s.mbox := (rep_reportError s b c a n v).mbox
@[simp] theorem reportError_ncch (s : State) (b : Block) (c a n v : Nat) : (s.reportError b c a n v).ncch = s.ncch := (rep_reportError s b c a n v).ncch
@[simp] theorem reportError_sram (s : State) (b : Block) (c a n v : Nat) : (s.reportError b c a n v).sram = s.sram := (rep_reportError s b c a n v).sram
@[simp] theorem reportError_drmc (s : State) (b : Block) (c a n v : Nat) : (s.reportError b c a n v).drmc = s.drmc := (rep_reportError s b c a n v).drmc
@[simp] theorem reportError_tier (s : State) (b : Block) (c a n v : Nat) : (s.reportError b c a n v).tier = s.tier := (rep_reportError s b c a n v).tier
@[simp] theorem reportError_ftlm (s : State) (b : Block) (c a n v : Nat) : (s.reportError b c a n v).ftlm = s.ftlm := (rep_reportError s b c a n v).ftlm
@[simp] theorem reportError_media (s : State) (b : Block) (c a n v : Nat) : (s.reportError b c a n v).media = s.media := (rep_reportError s b c a n v).media
@[simp] theorem reportError_clus (s : State) (b : Block) (c a n v : Nat) : (s.reportError b c a n v).clus = s.clus := (rep_reportError s b c a n v).clus
@[simp] theorem reportError_plan (s : State) (b : Block) (c a n v : Nat) : (s.reportError b c a n v).plan = s.plan := (rep_reportError s b c a n v).plan
@[simp] theorem reportError_pers (s : State) (b : Block) (c a n v : Nat) : (s.reportError b c a n v).pers = s.pers := (rep_reportError s b c a n v).pers
@[simp] theorem reportError_aon (s : State) (b : Block) (c a n v : Nat) : (s.reportError b c a n v).aon = s.aon := (rep_reportError s b c a n v).aon
@[simp] theorem reportError_ilkn (s : State) (b : Block) (c a n v : Nat) : (s.reportError b c a n v).ilkn = s.ilkn := (rep_reportError s b c a n v).ilkn
@[simp] theorem reportError_kspe (s : State) (b : Block) (c a n v : Nat) : (s.reportError b c a n v).kspe = s.kspe := (rep_reportError s b c a n v).kspe
@[simp] theorem reportError_ingp (s : State) (b : Block) (c a n v : Nat) : (s.reportError b c a n v).ingp = s.ingp := (rep_reportError s b c a n v).ingp
@[simp] theorem reportError_strd (s : State) (b : Block) (c a n v : Nat) : (s.reportError b c a n v).strd = s.strd := (rep_reportError s b c a n v).strd
@[simp] theorem reportError_rple (s : State) (b : Block) (c a n v : Nat) : (s.reportError b c a n v).rple = s.rple := (rep_reportError s b c a n v).rple
@[simp] theorem reportError_qrye (s : State) (b : Block) (c a n v : Nat) : (s.reportError b c a n v).qrye = s.qrye := (rep_reportError s b c a n v).qrye
@[simp] theorem reportError_mprt (s : State) (b : Block) (c a n v : Nat) : (s.reportError b c a n v).mprt = s.mprt := (rep_reportError s b c a n v).mprt
@[simp] theorem reportError_pseq (s : State) (b : Block) (c a n v : Nat) : (s.reportError b c a n v).pseq = s.pseq := (rep_reportError s b c a n v).pseq
@[simp] theorem reportError_thrm (s : State) (b : Block) (c a n v : Nat) : (s.reportError b c a n v).thrm = s.thrm := (rep_reportError s b c a n v).thrm
@[simp] theorem reportError_boot (s : State) (b : Block) (c a n v : Nat) : (s.reportError b c a n v).boot = s.boot := (rep_reportError s b c a n v).boot
@[simp] theorem reportError_idnt (s : State) (b : Block) (c a n v : Nat) : (s.reportError b c a n v).idnt = s.idnt := (rep_reportError s b c a n v).idnt
@[simp] theorem reportError_coht (s : State) (b : Block) (c a n v : Nat) : (s.reportError b c a n v).coht = s.coht := (rep_reportError s b c a n v).coht
@[simp] theorem reportError_free (s : State) (b : Block) (c a n v : Nat) : (s.reportError b c a n v).free = s.free := (rep_reportError s b c a n v).free
@[simp] theorem reportError_pending (s : State) (b : Block) (c a n v : Nat) : (s.reportError b c a n v).pending = s.pending := (rep_reportError s b c a n v).pending
@[simp] theorem changeRecord_fuse (s : State) (b : Block) (r o n v : Nat) : (s.changeRecord b r o n v).fuse = s.fuse := (rep_changeRecord s b r o n v).fuse
@[simp] theorem changeRecord_sysc (s : State) (b : Block) (r o n v : Nat) : (s.changeRecord b r o n v).sysc = s.sysc := (rep_changeRecord s b r o n v).sysc
@[simp] theorem changeRecord_rest (s : State) (b : Block) (r o n v : Nat) : (s.changeRecord b r o n v).rest = s.rest := (rep_changeRecord s b r o n v).rest
@[simp] theorem changeRecord_mbox (s : State) (b : Block) (r o n v : Nat) : (s.changeRecord b r o n v).mbox = s.mbox := (rep_changeRecord s b r o n v).mbox
@[simp] theorem changeRecord_ncch (s : State) (b : Block) (r o n v : Nat) : (s.changeRecord b r o n v).ncch = s.ncch := (rep_changeRecord s b r o n v).ncch
@[simp] theorem changeRecord_sram (s : State) (b : Block) (r o n v : Nat) : (s.changeRecord b r o n v).sram = s.sram := (rep_changeRecord s b r o n v).sram
@[simp] theorem changeRecord_drmc (s : State) (b : Block) (r o n v : Nat) : (s.changeRecord b r o n v).drmc = s.drmc := (rep_changeRecord s b r o n v).drmc
@[simp] theorem changeRecord_tier (s : State) (b : Block) (r o n v : Nat) : (s.changeRecord b r o n v).tier = s.tier := (rep_changeRecord s b r o n v).tier
@[simp] theorem changeRecord_ftlm (s : State) (b : Block) (r o n v : Nat) : (s.changeRecord b r o n v).ftlm = s.ftlm := (rep_changeRecord s b r o n v).ftlm
@[simp] theorem changeRecord_media (s : State) (b : Block) (r o n v : Nat) : (s.changeRecord b r o n v).media = s.media := (rep_changeRecord s b r o n v).media
@[simp] theorem changeRecord_clus (s : State) (b : Block) (r o n v : Nat) : (s.changeRecord b r o n v).clus = s.clus := (rep_changeRecord s b r o n v).clus
@[simp] theorem changeRecord_plan (s : State) (b : Block) (r o n v : Nat) : (s.changeRecord b r o n v).plan = s.plan := (rep_changeRecord s b r o n v).plan
@[simp] theorem changeRecord_pers (s : State) (b : Block) (r o n v : Nat) : (s.changeRecord b r o n v).pers = s.pers := (rep_changeRecord s b r o n v).pers
@[simp] theorem changeRecord_aon (s : State) (b : Block) (r o n v : Nat) : (s.changeRecord b r o n v).aon = s.aon := (rep_changeRecord s b r o n v).aon
@[simp] theorem changeRecord_ilkn (s : State) (b : Block) (r o n v : Nat) : (s.changeRecord b r o n v).ilkn = s.ilkn := (rep_changeRecord s b r o n v).ilkn
@[simp] theorem changeRecord_kspe (s : State) (b : Block) (r o n v : Nat) : (s.changeRecord b r o n v).kspe = s.kspe := (rep_changeRecord s b r o n v).kspe
@[simp] theorem changeRecord_ingp (s : State) (b : Block) (r o n v : Nat) : (s.changeRecord b r o n v).ingp = s.ingp := (rep_changeRecord s b r o n v).ingp
@[simp] theorem changeRecord_strd (s : State) (b : Block) (r o n v : Nat) : (s.changeRecord b r o n v).strd = s.strd := (rep_changeRecord s b r o n v).strd
@[simp] theorem changeRecord_rple (s : State) (b : Block) (r o n v : Nat) : (s.changeRecord b r o n v).rple = s.rple := (rep_changeRecord s b r o n v).rple
@[simp] theorem changeRecord_qrye (s : State) (b : Block) (r o n v : Nat) : (s.changeRecord b r o n v).qrye = s.qrye := (rep_changeRecord s b r o n v).qrye
@[simp] theorem changeRecord_mprt (s : State) (b : Block) (r o n v : Nat) : (s.changeRecord b r o n v).mprt = s.mprt := (rep_changeRecord s b r o n v).mprt
@[simp] theorem changeRecord_pseq (s : State) (b : Block) (r o n v : Nat) : (s.changeRecord b r o n v).pseq = s.pseq := (rep_changeRecord s b r o n v).pseq
@[simp] theorem changeRecord_thrm (s : State) (b : Block) (r o n v : Nat) : (s.changeRecord b r o n v).thrm = s.thrm := (rep_changeRecord s b r o n v).thrm
@[simp] theorem changeRecord_boot (s : State) (b : Block) (r o n v : Nat) : (s.changeRecord b r o n v).boot = s.boot := (rep_changeRecord s b r o n v).boot
@[simp] theorem changeRecord_idnt (s : State) (b : Block) (r o n v : Nat) : (s.changeRecord b r o n v).idnt = s.idnt := (rep_changeRecord s b r o n v).idnt
@[simp] theorem changeRecord_coht (s : State) (b : Block) (r o n v : Nat) : (s.changeRecord b r o n v).coht = s.coht := (rep_changeRecord s b r o n v).coht
@[simp] theorem changeRecord_free (s : State) (b : Block) (r o n v : Nat) : (s.changeRecord b r o n v).free = s.free := (rep_changeRecord s b r o n v).free
@[simp] theorem changeRecord_pending (s : State) (b : Block) (r o n v : Nat) : (s.changeRecord b r o n v).pending = s.pending := (rep_changeRecord s b r o n v).pending
@[simp] theorem namedRecord_fuse (s : State) (b : Block) (p q r v : Nat) : (s.namedRecord b p q r v).fuse = s.fuse := (rep_namedRecord s b p q r v).fuse
@[simp] theorem namedRecord_sysc (s : State) (b : Block) (p q r v : Nat) : (s.namedRecord b p q r v).sysc = s.sysc := (rep_namedRecord s b p q r v).sysc
@[simp] theorem namedRecord_rest (s : State) (b : Block) (p q r v : Nat) : (s.namedRecord b p q r v).rest = s.rest := (rep_namedRecord s b p q r v).rest
@[simp] theorem namedRecord_mbox (s : State) (b : Block) (p q r v : Nat) : (s.namedRecord b p q r v).mbox = s.mbox := (rep_namedRecord s b p q r v).mbox
@[simp] theorem namedRecord_ncch (s : State) (b : Block) (p q r v : Nat) : (s.namedRecord b p q r v).ncch = s.ncch := (rep_namedRecord s b p q r v).ncch
@[simp] theorem namedRecord_sram (s : State) (b : Block) (p q r v : Nat) : (s.namedRecord b p q r v).sram = s.sram := (rep_namedRecord s b p q r v).sram
@[simp] theorem namedRecord_drmc (s : State) (b : Block) (p q r v : Nat) : (s.namedRecord b p q r v).drmc = s.drmc := (rep_namedRecord s b p q r v).drmc
@[simp] theorem namedRecord_tier (s : State) (b : Block) (p q r v : Nat) : (s.namedRecord b p q r v).tier = s.tier := (rep_namedRecord s b p q r v).tier
@[simp] theorem namedRecord_ftlm (s : State) (b : Block) (p q r v : Nat) : (s.namedRecord b p q r v).ftlm = s.ftlm := (rep_namedRecord s b p q r v).ftlm
@[simp] theorem namedRecord_media (s : State) (b : Block) (p q r v : Nat) : (s.namedRecord b p q r v).media = s.media := (rep_namedRecord s b p q r v).media
@[simp] theorem namedRecord_clus (s : State) (b : Block) (p q r v : Nat) : (s.namedRecord b p q r v).clus = s.clus := (rep_namedRecord s b p q r v).clus
@[simp] theorem namedRecord_plan (s : State) (b : Block) (p q r v : Nat) : (s.namedRecord b p q r v).plan = s.plan := (rep_namedRecord s b p q r v).plan
@[simp] theorem namedRecord_pers (s : State) (b : Block) (p q r v : Nat) : (s.namedRecord b p q r v).pers = s.pers := (rep_namedRecord s b p q r v).pers
@[simp] theorem namedRecord_aon (s : State) (b : Block) (p q r v : Nat) : (s.namedRecord b p q r v).aon = s.aon := (rep_namedRecord s b p q r v).aon
@[simp] theorem namedRecord_ilkn (s : State) (b : Block) (p q r v : Nat) : (s.namedRecord b p q r v).ilkn = s.ilkn := (rep_namedRecord s b p q r v).ilkn
@[simp] theorem namedRecord_kspe (s : State) (b : Block) (p q r v : Nat) : (s.namedRecord b p q r v).kspe = s.kspe := (rep_namedRecord s b p q r v).kspe
@[simp] theorem namedRecord_ingp (s : State) (b : Block) (p q r v : Nat) : (s.namedRecord b p q r v).ingp = s.ingp := (rep_namedRecord s b p q r v).ingp
@[simp] theorem namedRecord_strd (s : State) (b : Block) (p q r v : Nat) : (s.namedRecord b p q r v).strd = s.strd := (rep_namedRecord s b p q r v).strd
@[simp] theorem namedRecord_rple (s : State) (b : Block) (p q r v : Nat) : (s.namedRecord b p q r v).rple = s.rple := (rep_namedRecord s b p q r v).rple
@[simp] theorem namedRecord_qrye (s : State) (b : Block) (p q r v : Nat) : (s.namedRecord b p q r v).qrye = s.qrye := (rep_namedRecord s b p q r v).qrye
@[simp] theorem namedRecord_mprt (s : State) (b : Block) (p q r v : Nat) : (s.namedRecord b p q r v).mprt = s.mprt := (rep_namedRecord s b p q r v).mprt
@[simp] theorem namedRecord_pseq (s : State) (b : Block) (p q r v : Nat) : (s.namedRecord b p q r v).pseq = s.pseq := (rep_namedRecord s b p q r v).pseq
@[simp] theorem namedRecord_thrm (s : State) (b : Block) (p q r v : Nat) : (s.namedRecord b p q r v).thrm = s.thrm := (rep_namedRecord s b p q r v).thrm
@[simp] theorem namedRecord_boot (s : State) (b : Block) (p q r v : Nat) : (s.namedRecord b p q r v).boot = s.boot := (rep_namedRecord s b p q r v).boot
@[simp] theorem namedRecord_idnt (s : State) (b : Block) (p q r v : Nat) : (s.namedRecord b p q r v).idnt = s.idnt := (rep_namedRecord s b p q r v).idnt
@[simp] theorem namedRecord_coht (s : State) (b : Block) (p q r v : Nat) : (s.namedRecord b p q r v).coht = s.coht := (rep_namedRecord s b p q r v).coht
@[simp] theorem namedRecord_free (s : State) (b : Block) (p q r v : Nat) : (s.namedRecord b p q r v).free = s.free := (rep_namedRecord s b p q r v).free
@[simp] theorem namedRecord_pending (s : State) (b : Block) (p q r v : Nat) : (s.namedRecord b p q r v).pending = s.pending := (rep_namedRecord s b p q r v).pending
@[simp] theorem hallSync_fuse (s : State) : (s.hallSync).fuse = s.fuse := (rep_hallSync s ).fuse
@[simp] theorem hallSync_sysc (s : State) : (s.hallSync).sysc = s.sysc := (rep_hallSync s ).sysc
@[simp] theorem hallSync_rest (s : State) : (s.hallSync).rest = s.rest := (rep_hallSync s ).rest
@[simp] theorem hallSync_mbox (s : State) : (s.hallSync).mbox = s.mbox := (rep_hallSync s ).mbox
@[simp] theorem hallSync_ncch (s : State) : (s.hallSync).ncch = s.ncch := (rep_hallSync s ).ncch
@[simp] theorem hallSync_sram (s : State) : (s.hallSync).sram = s.sram := (rep_hallSync s ).sram
@[simp] theorem hallSync_drmc (s : State) : (s.hallSync).drmc = s.drmc := (rep_hallSync s ).drmc
@[simp] theorem hallSync_tier (s : State) : (s.hallSync).tier = s.tier := (rep_hallSync s ).tier
@[simp] theorem hallSync_ftlm (s : State) : (s.hallSync).ftlm = s.ftlm := (rep_hallSync s ).ftlm
@[simp] theorem hallSync_media (s : State) : (s.hallSync).media = s.media := (rep_hallSync s ).media
@[simp] theorem hallSync_clus (s : State) : (s.hallSync).clus = s.clus := (rep_hallSync s ).clus
@[simp] theorem hallSync_plan (s : State) : (s.hallSync).plan = s.plan := (rep_hallSync s ).plan
@[simp] theorem hallSync_pers (s : State) : (s.hallSync).pers = s.pers := (rep_hallSync s ).pers
@[simp] theorem hallSync_aon (s : State) : (s.hallSync).aon = s.aon := (rep_hallSync s ).aon
@[simp] theorem hallSync_ilkn (s : State) : (s.hallSync).ilkn = s.ilkn := (rep_hallSync s ).ilkn
@[simp] theorem hallSync_kspe (s : State) : (s.hallSync).kspe = s.kspe := (rep_hallSync s ).kspe
@[simp] theorem hallSync_ingp (s : State) : (s.hallSync).ingp = s.ingp := (rep_hallSync s ).ingp
@[simp] theorem hallSync_strd (s : State) : (s.hallSync).strd = s.strd := (rep_hallSync s ).strd
@[simp] theorem hallSync_rple (s : State) : (s.hallSync).rple = s.rple := (rep_hallSync s ).rple
@[simp] theorem hallSync_qrye (s : State) : (s.hallSync).qrye = s.qrye := (rep_hallSync s ).qrye
@[simp] theorem hallSync_mprt (s : State) : (s.hallSync).mprt = s.mprt := (rep_hallSync s ).mprt
@[simp] theorem hallSync_pseq (s : State) : (s.hallSync).pseq = s.pseq := (rep_hallSync s ).pseq
@[simp] theorem hallSync_thrm (s : State) : (s.hallSync).thrm = s.thrm := (rep_hallSync s ).thrm
@[simp] theorem hallSync_boot (s : State) : (s.hallSync).boot = s.boot := (rep_hallSync s ).boot
@[simp] theorem hallSync_idnt (s : State) : (s.hallSync).idnt = s.idnt := (rep_hallSync s ).idnt
@[simp] theorem hallSync_coht (s : State) : (s.hallSync).coht = s.coht := (rep_hallSync s ).coht
@[simp] theorem hallSync_free (s : State) : (s.hallSync).free = s.free := (rep_hallSync s ).free
@[simp] theorem hallSync_pending (s : State) : (s.hallSync).pending = s.pending := (rep_hallSync s ).pending
@[simp] theorem retireBlock_fuse (s : State) (b : Block) (v : Nat) : (s.retireBlock b v).fuse = s.fuse := (rep_retireBlock s b v).fuse
@[simp] theorem retireBlock_sysc (s : State) (b : Block) (v : Nat) : (s.retireBlock b v).sysc = s.sysc := (rep_retireBlock s b v).sysc
@[simp] theorem retireBlock_rest (s : State) (b : Block) (v : Nat) : (s.retireBlock b v).rest = s.rest := (rep_retireBlock s b v).rest
@[simp] theorem retireBlock_mbox (s : State) (b : Block) (v : Nat) : (s.retireBlock b v).mbox = s.mbox := (rep_retireBlock s b v).mbox
@[simp] theorem retireBlock_ncch (s : State) (b : Block) (v : Nat) : (s.retireBlock b v).ncch = s.ncch := (rep_retireBlock s b v).ncch
@[simp] theorem retireBlock_sram (s : State) (b : Block) (v : Nat) : (s.retireBlock b v).sram = s.sram := (rep_retireBlock s b v).sram
@[simp] theorem retireBlock_drmc (s : State) (b : Block) (v : Nat) : (s.retireBlock b v).drmc = s.drmc := (rep_retireBlock s b v).drmc
@[simp] theorem retireBlock_tier (s : State) (b : Block) (v : Nat) : (s.retireBlock b v).tier = s.tier := (rep_retireBlock s b v).tier
@[simp] theorem retireBlock_ftlm (s : State) (b : Block) (v : Nat) : (s.retireBlock b v).ftlm = s.ftlm := (rep_retireBlock s b v).ftlm
@[simp] theorem retireBlock_media (s : State) (b : Block) (v : Nat) : (s.retireBlock b v).media = s.media := (rep_retireBlock s b v).media
@[simp] theorem retireBlock_clus (s : State) (b : Block) (v : Nat) : (s.retireBlock b v).clus = s.clus := (rep_retireBlock s b v).clus
@[simp] theorem retireBlock_plan (s : State) (b : Block) (v : Nat) : (s.retireBlock b v).plan = s.plan := (rep_retireBlock s b v).plan
@[simp] theorem retireBlock_pers (s : State) (b : Block) (v : Nat) : (s.retireBlock b v).pers = s.pers := (rep_retireBlock s b v).pers
@[simp] theorem retireBlock_aon (s : State) (b : Block) (v : Nat) : (s.retireBlock b v).aon = s.aon := (rep_retireBlock s b v).aon
@[simp] theorem retireBlock_ilkn (s : State) (b : Block) (v : Nat) : (s.retireBlock b v).ilkn = s.ilkn := (rep_retireBlock s b v).ilkn
@[simp] theorem retireBlock_kspe (s : State) (b : Block) (v : Nat) : (s.retireBlock b v).kspe = s.kspe := (rep_retireBlock s b v).kspe
@[simp] theorem retireBlock_ingp (s : State) (b : Block) (v : Nat) : (s.retireBlock b v).ingp = s.ingp := (rep_retireBlock s b v).ingp
@[simp] theorem retireBlock_strd (s : State) (b : Block) (v : Nat) : (s.retireBlock b v).strd = s.strd := (rep_retireBlock s b v).strd
@[simp] theorem retireBlock_rple (s : State) (b : Block) (v : Nat) : (s.retireBlock b v).rple = s.rple := (rep_retireBlock s b v).rple
@[simp] theorem retireBlock_qrye (s : State) (b : Block) (v : Nat) : (s.retireBlock b v).qrye = s.qrye := (rep_retireBlock s b v).qrye
@[simp] theorem retireBlock_mprt (s : State) (b : Block) (v : Nat) : (s.retireBlock b v).mprt = s.mprt := (rep_retireBlock s b v).mprt
@[simp] theorem retireBlock_pseq (s : State) (b : Block) (v : Nat) : (s.retireBlock b v).pseq = s.pseq := (rep_retireBlock s b v).pseq
@[simp] theorem retireBlock_thrm (s : State) (b : Block) (v : Nat) : (s.retireBlock b v).thrm = s.thrm := (rep_retireBlock s b v).thrm
@[simp] theorem retireBlock_boot (s : State) (b : Block) (v : Nat) : (s.retireBlock b v).boot = s.boot := (rep_retireBlock s b v).boot
@[simp] theorem retireBlock_idnt (s : State) (b : Block) (v : Nat) : (s.retireBlock b v).idnt = s.idnt := (rep_retireBlock s b v).idnt
@[simp] theorem retireBlock_coht (s : State) (b : Block) (v : Nat) : (s.retireBlock b v).coht = s.coht := (rep_retireBlock s b v).coht
@[simp] theorem retireBlock_free (s : State) (b : Block) (v : Nat) : (s.retireBlock b v).free = s.free := (rep_retireBlock s b v).free
@[simp] theorem retireBlock_pending (s : State) (b : Block) (v : Nat) : (s.retireBlock b v).pending = s.pending := (rep_retireBlock s b v).pending
@[simp] theorem modRecord_fuse (s : State) (t : Nat) (f : RecSlot → RecSlot) : (s.modRecord t f).fuse = s.fuse := (rep_modRecord s t f).fuse
@[simp] theorem modRecord_sysc (s : State) (t : Nat) (f : RecSlot → RecSlot) : (s.modRecord t f).sysc = s.sysc := (rep_modRecord s t f).sysc
@[simp] theorem modRecord_rest (s : State) (t : Nat) (f : RecSlot → RecSlot) : (s.modRecord t f).rest = s.rest := (rep_modRecord s t f).rest
@[simp] theorem modRecord_mbox (s : State) (t : Nat) (f : RecSlot → RecSlot) : (s.modRecord t f).mbox = s.mbox := (rep_modRecord s t f).mbox
@[simp] theorem modRecord_ncch (s : State) (t : Nat) (f : RecSlot → RecSlot) : (s.modRecord t f).ncch = s.ncch := (rep_modRecord s t f).ncch
@[simp] theorem modRecord_sram (s : State) (t : Nat) (f : RecSlot → RecSlot) : (s.modRecord t f).sram = s.sram := (rep_modRecord s t f).sram
@[simp] theorem modRecord_drmc (s : State) (t : Nat) (f : RecSlot → RecSlot) : (s.modRecord t f).drmc = s.drmc := (rep_modRecord s t f).drmc
@[simp] theorem modRecord_tier (s : State) (t : Nat) (f : RecSlot → RecSlot) : (s.modRecord t f).tier = s.tier := (rep_modRecord s t f).tier
@[simp] theorem modRecord_ftlm (s : State) (t : Nat) (f : RecSlot → RecSlot) : (s.modRecord t f).ftlm = s.ftlm := (rep_modRecord s t f).ftlm
@[simp] theorem modRecord_media (s : State) (t : Nat) (f : RecSlot → RecSlot) : (s.modRecord t f).media = s.media := (rep_modRecord s t f).media
@[simp] theorem modRecord_clus (s : State) (t : Nat) (f : RecSlot → RecSlot) : (s.modRecord t f).clus = s.clus := (rep_modRecord s t f).clus
@[simp] theorem modRecord_plan (s : State) (t : Nat) (f : RecSlot → RecSlot) : (s.modRecord t f).plan = s.plan := (rep_modRecord s t f).plan
@[simp] theorem modRecord_pers (s : State) (t : Nat) (f : RecSlot → RecSlot) : (s.modRecord t f).pers = s.pers := (rep_modRecord s t f).pers
@[simp] theorem modRecord_aon (s : State) (t : Nat) (f : RecSlot → RecSlot) : (s.modRecord t f).aon = s.aon := (rep_modRecord s t f).aon
@[simp] theorem modRecord_ilkn (s : State) (t : Nat) (f : RecSlot → RecSlot) : (s.modRecord t f).ilkn = s.ilkn := (rep_modRecord s t f).ilkn
@[simp] theorem modRecord_kspe (s : State) (t : Nat) (f : RecSlot → RecSlot) : (s.modRecord t f).kspe = s.kspe := (rep_modRecord s t f).kspe
@[simp] theorem modRecord_ingp (s : State) (t : Nat) (f : RecSlot → RecSlot) : (s.modRecord t f).ingp = s.ingp := (rep_modRecord s t f).ingp
@[simp] theorem modRecord_strd (s : State) (t : Nat) (f : RecSlot → RecSlot) : (s.modRecord t f).strd = s.strd := (rep_modRecord s t f).strd
@[simp] theorem modRecord_rple (s : State) (t : Nat) (f : RecSlot → RecSlot) : (s.modRecord t f).rple = s.rple := (rep_modRecord s t f).rple
@[simp] theorem modRecord_qrye (s : State) (t : Nat) (f : RecSlot → RecSlot) : (s.modRecord t f).qrye = s.qrye := (rep_modRecord s t f).qrye
@[simp] theorem modRecord_mprt (s : State) (t : Nat) (f : RecSlot → RecSlot) : (s.modRecord t f).mprt = s.mprt := (rep_modRecord s t f).mprt
@[simp] theorem modRecord_pseq (s : State) (t : Nat) (f : RecSlot → RecSlot) : (s.modRecord t f).pseq = s.pseq := (rep_modRecord s t f).pseq
@[simp] theorem modRecord_thrm (s : State) (t : Nat) (f : RecSlot → RecSlot) : (s.modRecord t f).thrm = s.thrm := (rep_modRecord s t f).thrm
@[simp] theorem modRecord_boot (s : State) (t : Nat) (f : RecSlot → RecSlot) : (s.modRecord t f).boot = s.boot := (rep_modRecord s t f).boot
@[simp] theorem modRecord_idnt (s : State) (t : Nat) (f : RecSlot → RecSlot) : (s.modRecord t f).idnt = s.idnt := (rep_modRecord s t f).idnt
@[simp] theorem modRecord_coht (s : State) (t : Nat) (f : RecSlot → RecSlot) : (s.modRecord t f).coht = s.coht := (rep_modRecord s t f).coht
@[simp] theorem modRecord_free (s : State) (t : Nat) (f : RecSlot → RecSlot) : (s.modRecord t f).free = s.free := (rep_modRecord s t f).free
@[simp] theorem modRecord_pending (s : State) (t : Nat) (f : RecSlot → RecSlot) : (s.modRecord t f).pending = s.pending := (rep_modRecord s t f).pending
@[simp] theorem queuePage_fuse (s : State) (w : PageWrite) : (s.queuePage w).fuse = s.fuse := (rep_queuePage s w).fuse
@[simp] theorem queuePage_sysc (s : State) (w : PageWrite) : (s.queuePage w).sysc = s.sysc := (rep_queuePage s w).sysc
@[simp] theorem queuePage_rest (s : State) (w : PageWrite) : (s.queuePage w).rest = s.rest := (rep_queuePage s w).rest
@[simp] theorem queuePage_mbox (s : State) (w : PageWrite) : (s.queuePage w).mbox = s.mbox := (rep_queuePage s w).mbox
@[simp] theorem queuePage_ncch (s : State) (w : PageWrite) : (s.queuePage w).ncch = s.ncch := (rep_queuePage s w).ncch
@[simp] theorem queuePage_sram (s : State) (w : PageWrite) : (s.queuePage w).sram = s.sram := (rep_queuePage s w).sram
@[simp] theorem queuePage_drmc (s : State) (w : PageWrite) : (s.queuePage w).drmc = s.drmc := (rep_queuePage s w).drmc
@[simp] theorem queuePage_tier (s : State) (w : PageWrite) : (s.queuePage w).tier = s.tier := (rep_queuePage s w).tier
@[simp] theorem queuePage_ftlm (s : State) (w : PageWrite) : (s.queuePage w).ftlm = s.ftlm := (rep_queuePage s w).ftlm
@[simp] theorem queuePage_media (s : State) (w : PageWrite) : (s.queuePage w).media = s.media := (rep_queuePage s w).media
@[simp] theorem queuePage_clus (s : State) (w : PageWrite) : (s.queuePage w).clus = s.clus := (rep_queuePage s w).clus
@[simp] theorem queuePage_plan (s : State) (w : PageWrite) : (s.queuePage w).plan = s.plan := (rep_queuePage s w).plan
@[simp] theorem queuePage_pers (s : State) (w : PageWrite) : (s.queuePage w).pers = s.pers := (rep_queuePage s w).pers
@[simp] theorem queuePage_aon (s : State) (w : PageWrite) : (s.queuePage w).aon = s.aon := (rep_queuePage s w).aon
@[simp] theorem queuePage_ilkn (s : State) (w : PageWrite) : (s.queuePage w).ilkn = s.ilkn := (rep_queuePage s w).ilkn
@[simp] theorem queuePage_kspe (s : State) (w : PageWrite) : (s.queuePage w).kspe = s.kspe := (rep_queuePage s w).kspe
@[simp] theorem queuePage_ingp (s : State) (w : PageWrite) : (s.queuePage w).ingp = s.ingp := (rep_queuePage s w).ingp
@[simp] theorem queuePage_strd (s : State) (w : PageWrite) : (s.queuePage w).strd = s.strd := (rep_queuePage s w).strd
@[simp] theorem queuePage_rple (s : State) (w : PageWrite) : (s.queuePage w).rple = s.rple := (rep_queuePage s w).rple
@[simp] theorem queuePage_qrye (s : State) (w : PageWrite) : (s.queuePage w).qrye = s.qrye := (rep_queuePage s w).qrye
@[simp] theorem queuePage_mprt (s : State) (w : PageWrite) : (s.queuePage w).mprt = s.mprt := (rep_queuePage s w).mprt
@[simp] theorem queuePage_pseq (s : State) (w : PageWrite) : (s.queuePage w).pseq = s.pseq := (rep_queuePage s w).pseq
@[simp] theorem queuePage_thrm (s : State) (w : PageWrite) : (s.queuePage w).thrm = s.thrm := (rep_queuePage s w).thrm
@[simp] theorem queuePage_boot (s : State) (w : PageWrite) : (s.queuePage w).boot = s.boot := (rep_queuePage s w).boot
@[simp] theorem queuePage_idnt (s : State) (w : PageWrite) : (s.queuePage w).idnt = s.idnt := (rep_queuePage s w).idnt
@[simp] theorem queuePage_coht (s : State) (w : PageWrite) : (s.queuePage w).coht = s.coht := (rep_queuePage s w).coht
@[simp] theorem queuePage_free (s : State) (w : PageWrite) : (s.queuePage w).free = s.free := (rep_queuePage s w).free
@[simp] theorem queuePage_pending (s : State) (w : PageWrite) : (s.queuePage w).pending = s.pending := (rep_queuePage s w).pending
@[simp] theorem startRecord_fuse (s : State) (t : Nat) : (s.startRecord t).fuse = s.fuse := (rep_startRecord s t).fuse
@[simp] theorem startRecord_sysc (s : State) (t : Nat) : (s.startRecord t).sysc = s.sysc := (rep_startRecord s t).sysc
@[simp] theorem startRecord_rest (s : State) (t : Nat) : (s.startRecord t).rest = s.rest := (rep_startRecord s t).rest
@[simp] theorem startRecord_mbox (s : State) (t : Nat) : (s.startRecord t).mbox = s.mbox := (rep_startRecord s t).mbox
@[simp] theorem startRecord_ncch (s : State) (t : Nat) : (s.startRecord t).ncch = s.ncch := (rep_startRecord s t).ncch
@[simp] theorem startRecord_sram (s : State) (t : Nat) : (s.startRecord t).sram = s.sram := (rep_startRecord s t).sram
@[simp] theorem startRecord_drmc (s : State) (t : Nat) : (s.startRecord t).drmc = s.drmc := (rep_startRecord s t).drmc
@[simp] theorem startRecord_tier (s : State) (t : Nat) : (s.startRecord t).tier = s.tier := (rep_startRecord s t).tier
@[simp] theorem startRecord_ftlm (s : State) (t : Nat) : (s.startRecord t).ftlm = s.ftlm := (rep_startRecord s t).ftlm
@[simp] theorem startRecord_media (s : State) (t : Nat) : (s.startRecord t).media = s.media := (rep_startRecord s t).media
@[simp] theorem startRecord_clus (s : State) (t : Nat) : (s.startRecord t).clus = s.clus := (rep_startRecord s t).clus
@[simp] theorem startRecord_plan (s : State) (t : Nat) : (s.startRecord t).plan = s.plan := (rep_startRecord s t).plan
@[simp] theorem startRecord_pers (s : State) (t : Nat) : (s.startRecord t).pers = s.pers := (rep_startRecord s t).pers
@[simp] theorem startRecord_aon (s : State) (t : Nat) : (s.startRecord t).aon = s.aon := (rep_startRecord s t).aon
@[simp] theorem startRecord_ilkn (s : State) (t : Nat) : (s.startRecord t).ilkn = s.ilkn := (rep_startRecord s t).ilkn
@[simp] theorem startRecord_kspe (s : State) (t : Nat) : (s.startRecord t).kspe = s.kspe := (rep_startRecord s t).kspe
@[simp] theorem startRecord_ingp (s : State) (t : Nat) : (s.startRecord t).ingp = s.ingp := (rep_startRecord s t).ingp
@[simp] theorem startRecord_strd (s : State) (t : Nat) : (s.startRecord t).strd = s.strd := (rep_startRecord s t).strd
@[simp] theorem startRecord_rple (s : State) (t : Nat) : (s.startRecord t).rple = s.rple := (rep_startRecord s t).rple
@[simp] theorem startRecord_qrye (s : State) (t : Nat) : (s.startRecord t).qrye = s.qrye := (rep_startRecord s t).qrye
@[simp] theorem startRecord_mprt (s : State) (t : Nat) : (s.startRecord t).mprt = s.mprt := (rep_startRecord s t).mprt
@[simp] theorem startRecord_pseq (s : State) (t : Nat) : (s.startRecord t).pseq = s.pseq := (rep_startRecord s t).pseq
@[simp] theorem startRecord_thrm (s : State) (t : Nat) : (s.startRecord t).thrm = s.thrm := (rep_startRecord s t).thrm
@[simp] theorem startRecord_boot (s : State) (t : Nat) : (s.startRecord t).boot = s.boot := (rep_startRecord s t).boot
@[simp] theorem startRecord_idnt (s : State) (t : Nat) : (s.startRecord t).idnt = s.idnt := (rep_startRecord s t).idnt
@[simp] theorem startRecord_coht (s : State) (t : Nat) : (s.startRecord t).coht = s.coht := (rep_startRecord s t).coht
@[simp] theorem startRecord_free (s : State) (t : Nat) : (s.startRecord t).free = s.free := (rep_startRecord s t).free
@[simp] theorem startRecord_pending (s : State) (t : Nat) : (s.startRecord t).pending = s.pending := (rep_startRecord s t).pending
@[simp] theorem writeRecord_fuse (s : State) (t : Nat) : (s.writeRecord t).fuse = s.fuse := (rep_writeRecord s t).fuse
@[simp] theorem writeRecord_sysc (s : State) (t : Nat) : (s.writeRecord t).sysc = s.sysc := (rep_writeRecord s t).sysc
@[simp] theorem writeRecord_rest (s : State) (t : Nat) : (s.writeRecord t).rest = s.rest := (rep_writeRecord s t).rest
@[simp] theorem writeRecord_mbox (s : State) (t : Nat) : (s.writeRecord t).mbox = s.mbox := (rep_writeRecord s t).mbox
@[simp] theorem writeRecord_ncch (s : State) (t : Nat) : (s.writeRecord t).ncch = s.ncch := (rep_writeRecord s t).ncch
@[simp] theorem writeRecord_sram (s : State) (t : Nat) : (s.writeRecord t).sram = s.sram := (rep_writeRecord s t).sram
@[simp] theorem writeRecord_drmc (s : State) (t : Nat) : (s.writeRecord t).drmc = s.drmc := (rep_writeRecord s t).drmc
@[simp] theorem writeRecord_tier (s : State) (t : Nat) : (s.writeRecord t).tier = s.tier := (rep_writeRecord s t).tier
@[simp] theorem writeRecord_ftlm (s : State) (t : Nat) : (s.writeRecord t).ftlm = s.ftlm := (rep_writeRecord s t).ftlm
@[simp] theorem writeRecord_media (s : State) (t : Nat) : (s.writeRecord t).media = s.media := (rep_writeRecord s t).media
@[simp] theorem writeRecord_clus (s : State) (t : Nat) : (s.writeRecord t).clus = s.clus := (rep_writeRecord s t).clus
@[simp] theorem writeRecord_plan (s : State) (t : Nat) : (s.writeRecord t).plan = s.plan := (rep_writeRecord s t).plan
@[simp] theorem writeRecord_pers (s : State) (t : Nat) : (s.writeRecord t).pers = s.pers := (rep_writeRecord s t).pers
@[simp] theorem writeRecord_aon (s : State) (t : Nat) : (s.writeRecord t).aon = s.aon := (rep_writeRecord s t).aon
@[simp] theorem writeRecord_ilkn (s : State) (t : Nat) : (s.writeRecord t).ilkn = s.ilkn := (rep_writeRecord s t).ilkn
@[simp] theorem writeRecord_kspe (s : State) (t : Nat) : (s.writeRecord t).kspe = s.kspe := (rep_writeRecord s t).kspe
@[simp] theorem writeRecord_ingp (s : State) (t : Nat) : (s.writeRecord t).ingp = s.ingp := (rep_writeRecord s t).ingp
@[simp] theorem writeRecord_strd (s : State) (t : Nat) : (s.writeRecord t).strd = s.strd := (rep_writeRecord s t).strd
@[simp] theorem writeRecord_rple (s : State) (t : Nat) : (s.writeRecord t).rple = s.rple := (rep_writeRecord s t).rple
@[simp] theorem writeRecord_qrye (s : State) (t : Nat) : (s.writeRecord t).qrye = s.qrye := (rep_writeRecord s t).qrye
@[simp] theorem writeRecord_mprt (s : State) (t : Nat) : (s.writeRecord t).mprt = s.mprt := (rep_writeRecord s t).mprt
@[simp] theorem writeRecord_pseq (s : State) (t : Nat) : (s.writeRecord t).pseq = s.pseq := (rep_writeRecord s t).pseq
@[simp] theorem writeRecord_thrm (s : State) (t : Nat) : (s.writeRecord t).thrm = s.thrm := (rep_writeRecord s t).thrm
@[simp] theorem writeRecord_boot (s : State) (t : Nat) : (s.writeRecord t).boot = s.boot := (rep_writeRecord s t).boot
@[simp] theorem writeRecord_idnt (s : State) (t : Nat) : (s.writeRecord t).idnt = s.idnt := (rep_writeRecord s t).idnt
@[simp] theorem writeRecord_coht (s : State) (t : Nat) : (s.writeRecord t).coht = s.coht := (rep_writeRecord s t).coht
@[simp] theorem writeRecord_free (s : State) (t : Nat) : (s.writeRecord t).free = s.free := (rep_writeRecord s t).free
@[simp] theorem writeRecord_pending (s : State) (t : Nat) : (s.writeRecord t).pending = s.pending := (rep_writeRecord s t).pending
@[simp] theorem hostRecord_fuse (s : State) (t : Nat) : (s.hostRecord t).fuse = s.fuse := (rep_hostRecord s t).fuse
@[simp] theorem hostRecord_sysc (s : State) (t : Nat) : (s.hostRecord t).sysc = s.sysc := (rep_hostRecord s t).sysc
@[simp] theorem hostRecord_rest (s : State) (t : Nat) : (s.hostRecord t).rest = s.rest := (rep_hostRecord s t).rest
@[simp] theorem hostRecord_mbox (s : State) (t : Nat) : (s.hostRecord t).mbox = s.mbox := (rep_hostRecord s t).mbox
@[simp] theorem hostRecord_ncch (s : State) (t : Nat) : (s.hostRecord t).ncch = s.ncch := (rep_hostRecord s t).ncch
@[simp] theorem hostRecord_sram (s : State) (t : Nat) : (s.hostRecord t).sram = s.sram := (rep_hostRecord s t).sram
@[simp] theorem hostRecord_drmc (s : State) (t : Nat) : (s.hostRecord t).drmc = s.drmc := (rep_hostRecord s t).drmc
@[simp] theorem hostRecord_tier (s : State) (t : Nat) : (s.hostRecord t).tier = s.tier := (rep_hostRecord s t).tier
@[simp] theorem hostRecord_ftlm (s : State) (t : Nat) : (s.hostRecord t).ftlm = s.ftlm := (rep_hostRecord s t).ftlm
@[simp] theorem hostRecord_media (s : State) (t : Nat) : (s.hostRecord t).media = s.media := (rep_hostRecord s t).media
@[simp] theorem hostRecord_clus (s : State) (t : Nat) : (s.hostRecord t).clus = s.clus := (rep_hostRecord s t).clus
@[simp] theorem hostRecord_plan (s : State) (t : Nat) : (s.hostRecord t).plan = s.plan := (rep_hostRecord s t).plan
@[simp] theorem hostRecord_pers (s : State) (t : Nat) : (s.hostRecord t).pers = s.pers := (rep_hostRecord s t).pers
@[simp] theorem hostRecord_aon (s : State) (t : Nat) : (s.hostRecord t).aon = s.aon := (rep_hostRecord s t).aon
@[simp] theorem hostRecord_ilkn (s : State) (t : Nat) : (s.hostRecord t).ilkn = s.ilkn := (rep_hostRecord s t).ilkn
@[simp] theorem hostRecord_kspe (s : State) (t : Nat) : (s.hostRecord t).kspe = s.kspe := (rep_hostRecord s t).kspe
@[simp] theorem hostRecord_ingp (s : State) (t : Nat) : (s.hostRecord t).ingp = s.ingp := (rep_hostRecord s t).ingp
@[simp] theorem hostRecord_strd (s : State) (t : Nat) : (s.hostRecord t).strd = s.strd := (rep_hostRecord s t).strd
@[simp] theorem hostRecord_rple (s : State) (t : Nat) : (s.hostRecord t).rple = s.rple := (rep_hostRecord s t).rple
@[simp] theorem hostRecord_qrye (s : State) (t : Nat) : (s.hostRecord t).qrye = s.qrye := (rep_hostRecord s t).qrye
@[simp] theorem hostRecord_mprt (s : State) (t : Nat) : (s.hostRecord t).mprt = s.mprt := (rep_hostRecord s t).mprt
@[simp] theorem hostRecord_pseq (s : State) (t : Nat) : (s.hostRecord t).pseq = s.pseq := (rep_hostRecord s t).pseq
@[simp] theorem hostRecord_thrm (s : State) (t : Nat) : (s.hostRecord t).thrm = s.thrm := (rep_hostRecord s t).thrm
@[simp] theorem hostRecord_boot (s : State) (t : Nat) : (s.hostRecord t).boot = s.boot := (rep_hostRecord s t).boot
@[simp] theorem hostRecord_idnt (s : State) (t : Nat) : (s.hostRecord t).idnt = s.idnt := (rep_hostRecord s t).idnt
@[simp] theorem hostRecord_coht (s : State) (t : Nat) : (s.hostRecord t).coht = s.coht := (rep_hostRecord s t).coht
@[simp] theorem hostRecord_free (s : State) (t : Nat) : (s.hostRecord t).free = s.free := (rep_hostRecord s t).free
@[simp] theorem hostRecord_pending (s : State) (t : Nat) : (s.hostRecord t).pending = s.pending := (rep_hostRecord s t).pending
@[simp] theorem setRecord_fuse (s : State) (t : Nat) (b : Rec) : (s.setRecord t b).fuse = s.fuse := (rep_setRecord s t b).fuse
@[simp] theorem setRecord_sysc (s : State) (t : Nat) (b : Rec) : (s.setRecord t b).sysc = s.sysc := (rep_setRecord s t b).sysc
@[simp] theorem setRecord_rest (s : State) (t : Nat) (b : Rec) : (s.setRecord t b).rest = s.rest := (rep_setRecord s t b).rest
@[simp] theorem setRecord_mbox (s : State) (t : Nat) (b : Rec) : (s.setRecord t b).mbox = s.mbox := (rep_setRecord s t b).mbox
@[simp] theorem setRecord_ncch (s : State) (t : Nat) (b : Rec) : (s.setRecord t b).ncch = s.ncch := (rep_setRecord s t b).ncch
@[simp] theorem setRecord_sram (s : State) (t : Nat) (b : Rec) : (s.setRecord t b).sram = s.sram := (rep_setRecord s t b).sram
@[simp] theorem setRecord_drmc (s : State) (t : Nat) (b : Rec) : (s.setRecord t b).drmc = s.drmc := (rep_setRecord s t b).drmc
@[simp] theorem setRecord_tier (s : State) (t : Nat) (b : Rec) : (s.setRecord t b).tier = s.tier := (rep_setRecord s t b).tier
@[simp] theorem setRecord_ftlm (s : State) (t : Nat) (b : Rec) : (s.setRecord t b).ftlm = s.ftlm := (rep_setRecord s t b).ftlm
@[simp] theorem setRecord_media (s : State) (t : Nat) (b : Rec) : (s.setRecord t b).media = s.media := (rep_setRecord s t b).media
@[simp] theorem setRecord_clus (s : State) (t : Nat) (b : Rec) : (s.setRecord t b).clus = s.clus := (rep_setRecord s t b).clus
@[simp] theorem setRecord_plan (s : State) (t : Nat) (b : Rec) : (s.setRecord t b).plan = s.plan := (rep_setRecord s t b).plan
@[simp] theorem setRecord_pers (s : State) (t : Nat) (b : Rec) : (s.setRecord t b).pers = s.pers := (rep_setRecord s t b).pers
@[simp] theorem setRecord_aon (s : State) (t : Nat) (b : Rec) : (s.setRecord t b).aon = s.aon := (rep_setRecord s t b).aon
@[simp] theorem setRecord_ilkn (s : State) (t : Nat) (b : Rec) : (s.setRecord t b).ilkn = s.ilkn := (rep_setRecord s t b).ilkn
@[simp] theorem setRecord_kspe (s : State) (t : Nat) (b : Rec) : (s.setRecord t b).kspe = s.kspe := (rep_setRecord s t b).kspe
@[simp] theorem setRecord_ingp (s : State) (t : Nat) (b : Rec) : (s.setRecord t b).ingp = s.ingp := (rep_setRecord s t b).ingp
@[simp] theorem setRecord_strd (s : State) (t : Nat) (b : Rec) : (s.setRecord t b).strd = s.strd := (rep_setRecord s t b).strd
@[simp] theorem setRecord_rple (s : State) (t : Nat) (b : Rec) : (s.setRecord t b).rple = s.rple := (rep_setRecord s t b).rple
@[simp] theorem setRecord_qrye (s : State) (t : Nat) (b : Rec) : (s.setRecord t b).qrye = s.qrye := (rep_setRecord s t b).qrye
@[simp] theorem setRecord_mprt (s : State) (t : Nat) (b : Rec) : (s.setRecord t b).mprt = s.mprt := (rep_setRecord s t b).mprt
@[simp] theorem setRecord_pseq (s : State) (t : Nat) (b : Rec) : (s.setRecord t b).pseq = s.pseq := (rep_setRecord s t b).pseq
@[simp] theorem setRecord_thrm (s : State) (t : Nat) (b : Rec) : (s.setRecord t b).thrm = s.thrm := (rep_setRecord s t b).thrm
@[simp] theorem setRecord_boot (s : State) (t : Nat) (b : Rec) : (s.setRecord t b).boot = s.boot := (rep_setRecord s t b).boot
@[simp] theorem setRecord_idnt (s : State) (t : Nat) (b : Rec) : (s.setRecord t b).idnt = s.idnt := (rep_setRecord s t b).idnt
@[simp] theorem setRecord_coht (s : State) (t : Nat) (b : Rec) : (s.setRecord t b).coht = s.coht := (rep_setRecord s t b).coht
@[simp] theorem setRecord_free (s : State) (t : Nat) (b : Rec) : (s.setRecord t b).free = s.free := (rep_setRecord s t b).free
@[simp] theorem setRecord_pending (s : State) (t : Nat) (b : Rec) : (s.setRecord t b).pending = s.pending := (rep_setRecord s t b).pending
@[simp] theorem settle_fuse (s : State) : (s.settle).fuse = s.fuse := (rep_settle s ).fuse
@[simp] theorem settle_sysc (s : State) : (s.settle).sysc = s.sysc := (rep_settle s ).sysc
@[simp] theorem settle_rest (s : State) : (s.settle).rest = s.rest := (rep_settle s ).rest
@[simp] theorem settle_mbox (s : State) : (s.settle).mbox = s.mbox := (rep_settle s ).mbox
@[simp] theorem settle_ncch (s : State) : (s.settle).ncch = s.ncch := (rep_settle s ).ncch
@[simp] theorem settle_sram (s : State) : (s.settle).sram = s.sram := (rep_settle s ).sram
@[simp] theorem settle_drmc (s : State) : (s.settle).drmc = s.drmc := (rep_settle s ).drmc
@[simp] theorem settle_tier (s : State) : (s.settle).tier = s.tier := (rep_settle s ).tier
@[simp] theorem settle_ftlm (s : State) : (s.settle).ftlm = s.ftlm := (rep_settle s ).ftlm
@[simp] theorem settle_media (s : State) : (s.settle).media = s.media := (rep_settle s ).media
@[simp] theorem settle_clus (s : State) : (s.settle).clus = s.clus := (rep_settle s ).clus
@[simp] theorem settle_plan (s : State) : (s.settle).plan = s.plan := (rep_settle s ).plan
@[simp] theorem settle_pers (s : State) : (s.settle).pers = s.pers := (rep_settle s ).pers
@[simp] theorem settle_aon (s : State) : (s.settle).aon = s.aon := (rep_settle s ).aon
@[simp] theorem settle_ilkn (s : State) : (s.settle).ilkn = s.ilkn := (rep_settle s ).ilkn
@[simp] theorem settle_kspe (s : State) : (s.settle).kspe = s.kspe := (rep_settle s ).kspe
@[simp] theorem settle_ingp (s : State) : (s.settle).ingp = s.ingp := (rep_settle s ).ingp
@[simp] theorem settle_strd (s : State) : (s.settle).strd = s.strd := (rep_settle s ).strd
@[simp] theorem settle_rple (s : State) : (s.settle).rple = s.rple := (rep_settle s ).rple
@[simp] theorem settle_qrye (s : State) : (s.settle).qrye = s.qrye := (rep_settle s ).qrye
@[simp] theorem settle_mprt (s : State) : (s.settle).mprt = s.mprt := (rep_settle s ).mprt
@[simp] theorem settle_pseq (s : State) : (s.settle).pseq = s.pseq := (rep_settle s ).pseq
@[simp] theorem settle_thrm (s : State) : (s.settle).thrm = s.thrm := (rep_settle s ).thrm
@[simp] theorem settle_boot (s : State) : (s.settle).boot = s.boot := (rep_settle s ).boot
@[simp] theorem settle_idnt (s : State) : (s.settle).idnt = s.idnt := (rep_settle s ).idnt
@[simp] theorem settle_coht (s : State) : (s.settle).coht = s.coht := (rep_settle s ).coht
@[simp] theorem settle_free (s : State) : (s.settle).free = s.free := (rep_settle s ).free
@[simp] theorem settle_pending (s : State) : (s.settle).pending = s.pending := (rep_settle s ).pending
@[simp] theorem send_cxlp_up (s : State) (o : Out) : (s.send o).cxlp.up = s.cxlp.up := congrArg (·.up) (rep_send s o).cxlp
@[simp] theorem send_cxlp_width (s : State) (o : Out) : (s.send o).cxlp.width = s.cxlp.width := congrArg (·.width) (rep_send s o).cxlp
@[simp] theorem send_cxlp_rate (s : State) (o : Out) : (s.send o).cxlp.rate = s.cxlp.rate := congrArg (·.rate) (rep_send s o).cxlp
@[simp] theorem send_cxlp_flit256 (s : State) (o : Out) : (s.send o).cxlp.flit256 = s.cxlp.flit256 := congrArg (·.flit256) (rep_send s o).cxlp
@[simp] theorem send_cxlp_lopt (s : State) (o : Out) : (s.send o).cxlp.lopt = s.cxlp.lopt := congrArg (·.lopt) (rep_send s o).cxlp
@[simp] theorem send_cxlp_memen (s : State) (o : Out) : (s.send o).cxlp.memen = s.cxlp.memen := congrArg (·.memen) (rep_send s o).cxlp
@[simp] theorem send_cxlp_capWidth (s : State) (o : Out) : (s.send o).cxlp.capWidth = s.cxlp.capWidth := congrArg (·.capWidth) (rep_send s o).cxlp
@[simp] theorem send_cxlp_capRate (s : State) (o : Out) : (s.send o).cxlp.capRate = s.cxlp.capRate := congrArg (·.capRate) (rep_send s o).cxlp
@[simp] theorem send_cxlp_training (s : State) (o : Out) : (s.send o).cxlp.training = s.cxlp.training := congrArg (·.training) (rep_send s o).cxlp
@[simp] theorem send_cxlp_l1ok (s : State) (o : Out) : (s.send o).cxlp.l1ok = s.cxlp.l1ok := congrArg (·.l1ok) (rep_send s o).cxlp
@[simp] theorem send_cxlp_l12ok (s : State) (o : Out) : (s.send o).cxlp.l12ok = s.cxlp.l12ok := congrArg (·.l12ok) (rep_send s o).cxlp
@[simp] theorem send_cxlp_portctl (s : State) (o : Out) : (s.send o).cxlp.portctl = s.cxlp.portctl := congrArg (·.portctl) (rep_send s o).cxlp
@[simp] theorem send_cxlp_evict (s : State) (o : Out) : (s.send o).cxlp.evict = s.cxlp.evict := congrArg (·.evict) (rep_send s o).cxlp
@[simp] theorem send_cxlp_stopped (s : State) (o : Out) : (s.send o).cxlp.stopped = s.cxlp.stopped := congrArg (·.stopped) (rep_send s o).cxlp
@[simp] theorem send_cxlp_decoders (s : State) (o : Out) : (s.send o).cxlp.decoders = s.cxlp.decoders := congrArg (·.decoders) (rep_send s o).cxlp
@[simp] theorem send_cxlp_filter (s : State) (o : Out) : (s.send o).cxlp.filter = s.cxlp.filter := congrArg (·.filter) (rep_send s o).cxlp
@[simp] theorem send_cxlp_filtOrder (s : State) (o : Out) : (s.send o).cxlp.filtOrder = s.cxlp.filtOrder := congrArg (·.filtOrder) (rep_send s o).cxlp
@[simp] theorem send_cxlp_biOut (s : State) (o : Out) : (s.send o).cxlp.biOut = s.cxlp.biOut := congrArg (·.biOut) (rep_send s o).cxlp
@[simp] theorem send_cxlp_biHold (s : State) (o : Out) : (s.send o).cxlp.biHold = s.cxlp.biHold := congrArg (·.biHold) (rep_send s o).cxlp
@[simp] theorem send_cxlp_dirtyWait (s : State) (o : Out) : (s.send o).cxlp.dirtyWait = s.cxlp.dirtyWait := congrArg (·.dirtyWait) (rep_send s o).cxlp
@[simp] theorem send_cxlp_zeroWait (s : State) (o : Out) : (s.send o).cxlp.zeroWait = s.cxlp.zeroWait := congrArg (·.zeroWait) (rep_send s o).cxlp
@[simp] theorem send_cxlp_reads (s : State) (o : Out) : (s.send o).cxlp.reads = s.cxlp.reads := congrArg (·.reads) (rep_send s o).cxlp
@[simp] theorem send_cxlp_lastReq (s : State) (o : Out) : (s.send o).cxlp.lastReq = s.cxlp.lastReq := congrArg (·.lastReq) (rep_send s o).cxlp
@[simp] theorem send_cxlp_viral (s : State) (o : Out) : (s.send o).cxlp.viral = s.cxlp.viral := congrArg (·.viral) (rep_send s o).cxlp
@[simp] theorem send_cxlp_poisonList (s : State) (o : Out) : (s.send o).cxlp.poisonList = s.cxlp.poisonList := congrArg (·.poisonList) (rep_send s o).cxlp
@[simp] theorem send_cxlp_poisonOver (s : State) (o : Out) : (s.send o).cxlp.poisonOver = s.cxlp.poisonOver := congrArg (·.poisonOver) (rep_send s o).cxlp
@[simp] theorem send_cxlp_gpf (s : State) (o : Out) : (s.send o).cxlp.gpf = s.cxlp.gpf := congrArg (·.gpf) (rep_send s o).cxlp
@[simp] theorem send_cxlp_msixMask (s : State) (o : Out) : (s.send o).cxlp.msixMask = s.cxlp.msixMask := congrArg (·.msixMask) (rep_send s o).cxlp
@[simp] theorem send_cxlp_latency (s : State) (o : Out) : (s.send o).cxlp.latency = s.cxlp.latency := congrArg (·.latency) (rep_send s o).cxlp
@[simp] theorem send_evtr_ctrl (s : State) (o : Out) : (s.send o).evtr.ctrl = s.evtr.ctrl := congrArg (·.ctrl) (rep_send s o).evtr
@[simp] theorem send_evtr_save (s : State) (o : Out) : (s.send o).evtr.save = s.evtr.save := congrArg (·.save) (rep_send s o).evtr
@[simp] theorem send_evtr_inccfg (s : State) (o : Out) : (s.send o).evtr.inccfg = s.evtr.inccfg := congrArg (·.inccfg) (rep_send s o).evtr
@[simp] theorem send_evtr_imod (s : State) (o : Out) : (s.send o).evtr.imod = s.evtr.imod := congrArg (·.imod) (rep_send s o).evtr
@[simp] theorem send_evtr_rcsel (s : State) (o : Out) : (s.send o).evtr.rcsel = s.evtr.rcsel := congrArg (·.rcsel) (rep_send s o).evtr
@[simp] theorem send_evtr_rates (s : State) (o : Out) : (s.send o).evtr.rates = s.evtr.rates := congrArg (·.rates) (rep_send s o).evtr
@[simp] theorem send_evtr_rcmap (s : State) (o : Out) : (s.send o).evtr.rcmap = s.evtr.rcmap := congrArg (·.rcmap) (rep_send s o).evtr
@[simp] theorem send_psto_bytes (s : State) (o : Out) : (s.send o).psto.bytes = s.psto.bytes := congrArg (·.bytes) (rep_send s o).psto
@[simp] theorem send_psto_copies (s : State) (o : Out) : (s.send o).psto.copies = s.psto.copies := congrArg (·.copies) (rep_send s o).psto
@[simp] theorem send_psto_major (s : State) (o : Out) : (s.send o).psto.major = s.psto.major := congrArg (·.major) (rep_send s o).psto
@[simp] theorem send_psto_migrates (s : State) (o : Out) : (s.send o).psto.migrates = s.psto.migrates := congrArg (·.migrates) (rep_send s o).psto
@[simp] theorem send_psto_recalling (s : State) (o : Out) : (s.send o).psto.recalling = s.psto.recalling := congrArg (·.recalling) (rep_send s o).psto
@[simp] theorem send_psto_prot (s : State) (o : Out) : (s.send o).psto.prot = s.psto.prot := congrArg (·.prot) (rep_send s o).psto
@[simp] theorem send_psto_op (s : State) (o : Out) : (s.send o).psto.op = s.psto.op := congrArg (·.op) (rep_send s o).psto
@[simp] theorem send_psto_go (s : State) (o : Out) : (s.send o).psto.go = s.psto.go := congrArg (·.go) (rep_send s o).psto
@[simp] theorem send_psto_result (s : State) (o : Out) : (s.send o).psto.result = s.psto.result := congrArg (·.result) (rep_send s o).psto
@[simp] theorem send_psto_page (s : State) (o : Out) : (s.send o).psto.page = s.psto.page := congrArg (·.page) (rep_send s o).psto
@[simp] theorem send_psto_data (s : State) (o : Out) : (s.send o).psto.data = s.psto.data := congrArg (·.data) (rep_send s o).psto
@[simp] theorem send_psto_wcount (s : State) (o : Out) : (s.send o).psto.wcount = s.psto.wcount := congrArg (·.wcount) (rep_send s o).psto
@[simp] theorem setCause_cxlp_up (s : State) (b : Block) (n : Nat) : (s.setCause b n).cxlp.up = s.cxlp.up := congrArg (·.up) (rep_setCause s b n).cxlp
@[simp] theorem setCause_cxlp_width (s : State) (b : Block) (n : Nat) : (s.setCause b n).cxlp.width = s.cxlp.width := congrArg (·.width) (rep_setCause s b n).cxlp
@[simp] theorem setCause_cxlp_rate (s : State) (b : Block) (n : Nat) : (s.setCause b n).cxlp.rate = s.cxlp.rate := congrArg (·.rate) (rep_setCause s b n).cxlp
@[simp] theorem setCause_cxlp_flit256 (s : State) (b : Block) (n : Nat) : (s.setCause b n).cxlp.flit256 = s.cxlp.flit256 := congrArg (·.flit256) (rep_setCause s b n).cxlp
@[simp] theorem setCause_cxlp_lopt (s : State) (b : Block) (n : Nat) : (s.setCause b n).cxlp.lopt = s.cxlp.lopt := congrArg (·.lopt) (rep_setCause s b n).cxlp
@[simp] theorem setCause_cxlp_memen (s : State) (b : Block) (n : Nat) : (s.setCause b n).cxlp.memen = s.cxlp.memen := congrArg (·.memen) (rep_setCause s b n).cxlp
@[simp] theorem setCause_cxlp_capWidth (s : State) (b : Block) (n : Nat) : (s.setCause b n).cxlp.capWidth = s.cxlp.capWidth := congrArg (·.capWidth) (rep_setCause s b n).cxlp
@[simp] theorem setCause_cxlp_capRate (s : State) (b : Block) (n : Nat) : (s.setCause b n).cxlp.capRate = s.cxlp.capRate := congrArg (·.capRate) (rep_setCause s b n).cxlp
@[simp] theorem setCause_cxlp_training (s : State) (b : Block) (n : Nat) : (s.setCause b n).cxlp.training = s.cxlp.training := congrArg (·.training) (rep_setCause s b n).cxlp
@[simp] theorem setCause_cxlp_l1ok (s : State) (b : Block) (n : Nat) : (s.setCause b n).cxlp.l1ok = s.cxlp.l1ok := congrArg (·.l1ok) (rep_setCause s b n).cxlp
@[simp] theorem setCause_cxlp_l12ok (s : State) (b : Block) (n : Nat) : (s.setCause b n).cxlp.l12ok = s.cxlp.l12ok := congrArg (·.l12ok) (rep_setCause s b n).cxlp
@[simp] theorem setCause_cxlp_portctl (s : State) (b : Block) (n : Nat) : (s.setCause b n).cxlp.portctl = s.cxlp.portctl := congrArg (·.portctl) (rep_setCause s b n).cxlp
@[simp] theorem setCause_cxlp_evict (s : State) (b : Block) (n : Nat) : (s.setCause b n).cxlp.evict = s.cxlp.evict := congrArg (·.evict) (rep_setCause s b n).cxlp
@[simp] theorem setCause_cxlp_stopped (s : State) (b : Block) (n : Nat) : (s.setCause b n).cxlp.stopped = s.cxlp.stopped := congrArg (·.stopped) (rep_setCause s b n).cxlp
@[simp] theorem setCause_cxlp_decoders (s : State) (b : Block) (n : Nat) : (s.setCause b n).cxlp.decoders = s.cxlp.decoders := congrArg (·.decoders) (rep_setCause s b n).cxlp
@[simp] theorem setCause_cxlp_filter (s : State) (b : Block) (n : Nat) : (s.setCause b n).cxlp.filter = s.cxlp.filter := congrArg (·.filter) (rep_setCause s b n).cxlp
@[simp] theorem setCause_cxlp_filtOrder (s : State) (b : Block) (n : Nat) : (s.setCause b n).cxlp.filtOrder = s.cxlp.filtOrder := congrArg (·.filtOrder) (rep_setCause s b n).cxlp
@[simp] theorem setCause_cxlp_biOut (s : State) (b : Block) (n : Nat) : (s.setCause b n).cxlp.biOut = s.cxlp.biOut := congrArg (·.biOut) (rep_setCause s b n).cxlp
@[simp] theorem setCause_cxlp_biHold (s : State) (b : Block) (n : Nat) : (s.setCause b n).cxlp.biHold = s.cxlp.biHold := congrArg (·.biHold) (rep_setCause s b n).cxlp
@[simp] theorem setCause_cxlp_dirtyWait (s : State) (b : Block) (n : Nat) : (s.setCause b n).cxlp.dirtyWait = s.cxlp.dirtyWait := congrArg (·.dirtyWait) (rep_setCause s b n).cxlp
@[simp] theorem setCause_cxlp_zeroWait (s : State) (b : Block) (n : Nat) : (s.setCause b n).cxlp.zeroWait = s.cxlp.zeroWait := congrArg (·.zeroWait) (rep_setCause s b n).cxlp
@[simp] theorem setCause_cxlp_reads (s : State) (b : Block) (n : Nat) : (s.setCause b n).cxlp.reads = s.cxlp.reads := congrArg (·.reads) (rep_setCause s b n).cxlp
@[simp] theorem setCause_cxlp_lastReq (s : State) (b : Block) (n : Nat) : (s.setCause b n).cxlp.lastReq = s.cxlp.lastReq := congrArg (·.lastReq) (rep_setCause s b n).cxlp
@[simp] theorem setCause_cxlp_viral (s : State) (b : Block) (n : Nat) : (s.setCause b n).cxlp.viral = s.cxlp.viral := congrArg (·.viral) (rep_setCause s b n).cxlp
@[simp] theorem setCause_cxlp_poisonList (s : State) (b : Block) (n : Nat) : (s.setCause b n).cxlp.poisonList = s.cxlp.poisonList := congrArg (·.poisonList) (rep_setCause s b n).cxlp
@[simp] theorem setCause_cxlp_poisonOver (s : State) (b : Block) (n : Nat) : (s.setCause b n).cxlp.poisonOver = s.cxlp.poisonOver := congrArg (·.poisonOver) (rep_setCause s b n).cxlp
@[simp] theorem setCause_cxlp_gpf (s : State) (b : Block) (n : Nat) : (s.setCause b n).cxlp.gpf = s.cxlp.gpf := congrArg (·.gpf) (rep_setCause s b n).cxlp
@[simp] theorem setCause_cxlp_msixMask (s : State) (b : Block) (n : Nat) : (s.setCause b n).cxlp.msixMask = s.cxlp.msixMask := congrArg (·.msixMask) (rep_setCause s b n).cxlp
@[simp] theorem setCause_cxlp_latency (s : State) (b : Block) (n : Nat) : (s.setCause b n).cxlp.latency = s.cxlp.latency := congrArg (·.latency) (rep_setCause s b n).cxlp
@[simp] theorem setCause_evtr_ctrl (s : State) (b : Block) (n : Nat) : (s.setCause b n).evtr.ctrl = s.evtr.ctrl := congrArg (·.ctrl) (rep_setCause s b n).evtr
@[simp] theorem setCause_evtr_save (s : State) (b : Block) (n : Nat) : (s.setCause b n).evtr.save = s.evtr.save := congrArg (·.save) (rep_setCause s b n).evtr
@[simp] theorem setCause_evtr_inccfg (s : State) (b : Block) (n : Nat) : (s.setCause b n).evtr.inccfg = s.evtr.inccfg := congrArg (·.inccfg) (rep_setCause s b n).evtr
@[simp] theorem setCause_evtr_imod (s : State) (b : Block) (n : Nat) : (s.setCause b n).evtr.imod = s.evtr.imod := congrArg (·.imod) (rep_setCause s b n).evtr
@[simp] theorem setCause_evtr_rcsel (s : State) (b : Block) (n : Nat) : (s.setCause b n).evtr.rcsel = s.evtr.rcsel := congrArg (·.rcsel) (rep_setCause s b n).evtr
@[simp] theorem setCause_evtr_rates (s : State) (b : Block) (n : Nat) : (s.setCause b n).evtr.rates = s.evtr.rates := congrArg (·.rates) (rep_setCause s b n).evtr
@[simp] theorem setCause_evtr_rcmap (s : State) (b : Block) (n : Nat) : (s.setCause b n).evtr.rcmap = s.evtr.rcmap := congrArg (·.rcmap) (rep_setCause s b n).evtr
@[simp] theorem setCause_psto_bytes (s : State) (b : Block) (n : Nat) : (s.setCause b n).psto.bytes = s.psto.bytes := congrArg (·.bytes) (rep_setCause s b n).psto
@[simp] theorem setCause_psto_copies (s : State) (b : Block) (n : Nat) : (s.setCause b n).psto.copies = s.psto.copies := congrArg (·.copies) (rep_setCause s b n).psto
@[simp] theorem setCause_psto_major (s : State) (b : Block) (n : Nat) : (s.setCause b n).psto.major = s.psto.major := congrArg (·.major) (rep_setCause s b n).psto
@[simp] theorem setCause_psto_migrates (s : State) (b : Block) (n : Nat) : (s.setCause b n).psto.migrates = s.psto.migrates := congrArg (·.migrates) (rep_setCause s b n).psto
@[simp] theorem setCause_psto_recalling (s : State) (b : Block) (n : Nat) : (s.setCause b n).psto.recalling = s.psto.recalling := congrArg (·.recalling) (rep_setCause s b n).psto
@[simp] theorem setCause_psto_prot (s : State) (b : Block) (n : Nat) : (s.setCause b n).psto.prot = s.psto.prot := congrArg (·.prot) (rep_setCause s b n).psto
@[simp] theorem setCause_psto_op (s : State) (b : Block) (n : Nat) : (s.setCause b n).psto.op = s.psto.op := congrArg (·.op) (rep_setCause s b n).psto
@[simp] theorem setCause_psto_go (s : State) (b : Block) (n : Nat) : (s.setCause b n).psto.go = s.psto.go := congrArg (·.go) (rep_setCause s b n).psto
@[simp] theorem setCause_psto_result (s : State) (b : Block) (n : Nat) : (s.setCause b n).psto.result = s.psto.result := congrArg (·.result) (rep_setCause s b n).psto
@[simp] theorem setCause_psto_page (s : State) (b : Block) (n : Nat) : (s.setCause b n).psto.page = s.psto.page := congrArg (·.page) (rep_setCause s b n).psto
@[simp] theorem setCause_psto_data (s : State) (b : Block) (n : Nat) : (s.setCause b n).psto.data = s.psto.data := congrArg (·.data) (rep_setCause s b n).psto
@[simp] theorem setCause_psto_wcount (s : State) (b : Block) (n : Nat) : (s.setCause b n).psto.wcount = s.psto.wcount := congrArg (·.wcount) (rep_setCause s b n).psto
@[simp] theorem cause_cxlp_up (s : State) (b : Block) (i v : Nat) : (s.cause b i v).cxlp.up = s.cxlp.up := congrArg (·.up) (rep_cause s b i v).cxlp
@[simp] theorem cause_cxlp_width (s : State) (b : Block) (i v : Nat) : (s.cause b i v).cxlp.width = s.cxlp.width := congrArg (·.width) (rep_cause s b i v).cxlp
@[simp] theorem cause_cxlp_rate (s : State) (b : Block) (i v : Nat) : (s.cause b i v).cxlp.rate = s.cxlp.rate := congrArg (·.rate) (rep_cause s b i v).cxlp
@[simp] theorem cause_cxlp_flit256 (s : State) (b : Block) (i v : Nat) : (s.cause b i v).cxlp.flit256 = s.cxlp.flit256 := congrArg (·.flit256) (rep_cause s b i v).cxlp
@[simp] theorem cause_cxlp_lopt (s : State) (b : Block) (i v : Nat) : (s.cause b i v).cxlp.lopt = s.cxlp.lopt := congrArg (·.lopt) (rep_cause s b i v).cxlp
@[simp] theorem cause_cxlp_memen (s : State) (b : Block) (i v : Nat) : (s.cause b i v).cxlp.memen = s.cxlp.memen := congrArg (·.memen) (rep_cause s b i v).cxlp
@[simp] theorem cause_cxlp_capWidth (s : State) (b : Block) (i v : Nat) : (s.cause b i v).cxlp.capWidth = s.cxlp.capWidth := congrArg (·.capWidth) (rep_cause s b i v).cxlp
@[simp] theorem cause_cxlp_capRate (s : State) (b : Block) (i v : Nat) : (s.cause b i v).cxlp.capRate = s.cxlp.capRate := congrArg (·.capRate) (rep_cause s b i v).cxlp
@[simp] theorem cause_cxlp_training (s : State) (b : Block) (i v : Nat) : (s.cause b i v).cxlp.training = s.cxlp.training := congrArg (·.training) (rep_cause s b i v).cxlp
@[simp] theorem cause_cxlp_l1ok (s : State) (b : Block) (i v : Nat) : (s.cause b i v).cxlp.l1ok = s.cxlp.l1ok := congrArg (·.l1ok) (rep_cause s b i v).cxlp
@[simp] theorem cause_cxlp_l12ok (s : State) (b : Block) (i v : Nat) : (s.cause b i v).cxlp.l12ok = s.cxlp.l12ok := congrArg (·.l12ok) (rep_cause s b i v).cxlp
@[simp] theorem cause_cxlp_portctl (s : State) (b : Block) (i v : Nat) : (s.cause b i v).cxlp.portctl = s.cxlp.portctl := congrArg (·.portctl) (rep_cause s b i v).cxlp
@[simp] theorem cause_cxlp_evict (s : State) (b : Block) (i v : Nat) : (s.cause b i v).cxlp.evict = s.cxlp.evict := congrArg (·.evict) (rep_cause s b i v).cxlp
@[simp] theorem cause_cxlp_stopped (s : State) (b : Block) (i v : Nat) : (s.cause b i v).cxlp.stopped = s.cxlp.stopped := congrArg (·.stopped) (rep_cause s b i v).cxlp
@[simp] theorem cause_cxlp_decoders (s : State) (b : Block) (i v : Nat) : (s.cause b i v).cxlp.decoders = s.cxlp.decoders := congrArg (·.decoders) (rep_cause s b i v).cxlp
@[simp] theorem cause_cxlp_filter (s : State) (b : Block) (i v : Nat) : (s.cause b i v).cxlp.filter = s.cxlp.filter := congrArg (·.filter) (rep_cause s b i v).cxlp
@[simp] theorem cause_cxlp_filtOrder (s : State) (b : Block) (i v : Nat) : (s.cause b i v).cxlp.filtOrder = s.cxlp.filtOrder := congrArg (·.filtOrder) (rep_cause s b i v).cxlp
@[simp] theorem cause_cxlp_biOut (s : State) (b : Block) (i v : Nat) : (s.cause b i v).cxlp.biOut = s.cxlp.biOut := congrArg (·.biOut) (rep_cause s b i v).cxlp
@[simp] theorem cause_cxlp_biHold (s : State) (b : Block) (i v : Nat) : (s.cause b i v).cxlp.biHold = s.cxlp.biHold := congrArg (·.biHold) (rep_cause s b i v).cxlp
@[simp] theorem cause_cxlp_dirtyWait (s : State) (b : Block) (i v : Nat) : (s.cause b i v).cxlp.dirtyWait = s.cxlp.dirtyWait := congrArg (·.dirtyWait) (rep_cause s b i v).cxlp
@[simp] theorem cause_cxlp_zeroWait (s : State) (b : Block) (i v : Nat) : (s.cause b i v).cxlp.zeroWait = s.cxlp.zeroWait := congrArg (·.zeroWait) (rep_cause s b i v).cxlp
@[simp] theorem cause_cxlp_reads (s : State) (b : Block) (i v : Nat) : (s.cause b i v).cxlp.reads = s.cxlp.reads := congrArg (·.reads) (rep_cause s b i v).cxlp
@[simp] theorem cause_cxlp_lastReq (s : State) (b : Block) (i v : Nat) : (s.cause b i v).cxlp.lastReq = s.cxlp.lastReq := congrArg (·.lastReq) (rep_cause s b i v).cxlp
@[simp] theorem cause_cxlp_viral (s : State) (b : Block) (i v : Nat) : (s.cause b i v).cxlp.viral = s.cxlp.viral := congrArg (·.viral) (rep_cause s b i v).cxlp
@[simp] theorem cause_cxlp_poisonList (s : State) (b : Block) (i v : Nat) : (s.cause b i v).cxlp.poisonList = s.cxlp.poisonList := congrArg (·.poisonList) (rep_cause s b i v).cxlp
@[simp] theorem cause_cxlp_poisonOver (s : State) (b : Block) (i v : Nat) : (s.cause b i v).cxlp.poisonOver = s.cxlp.poisonOver := congrArg (·.poisonOver) (rep_cause s b i v).cxlp
@[simp] theorem cause_cxlp_gpf (s : State) (b : Block) (i v : Nat) : (s.cause b i v).cxlp.gpf = s.cxlp.gpf := congrArg (·.gpf) (rep_cause s b i v).cxlp
@[simp] theorem cause_cxlp_msixMask (s : State) (b : Block) (i v : Nat) : (s.cause b i v).cxlp.msixMask = s.cxlp.msixMask := congrArg (·.msixMask) (rep_cause s b i v).cxlp
@[simp] theorem cause_cxlp_latency (s : State) (b : Block) (i v : Nat) : (s.cause b i v).cxlp.latency = s.cxlp.latency := congrArg (·.latency) (rep_cause s b i v).cxlp
@[simp] theorem cause_evtr_ctrl (s : State) (b : Block) (i v : Nat) : (s.cause b i v).evtr.ctrl = s.evtr.ctrl := congrArg (·.ctrl) (rep_cause s b i v).evtr
@[simp] theorem cause_evtr_save (s : State) (b : Block) (i v : Nat) : (s.cause b i v).evtr.save = s.evtr.save := congrArg (·.save) (rep_cause s b i v).evtr
@[simp] theorem cause_evtr_inccfg (s : State) (b : Block) (i v : Nat) : (s.cause b i v).evtr.inccfg = s.evtr.inccfg := congrArg (·.inccfg) (rep_cause s b i v).evtr
@[simp] theorem cause_evtr_imod (s : State) (b : Block) (i v : Nat) : (s.cause b i v).evtr.imod = s.evtr.imod := congrArg (·.imod) (rep_cause s b i v).evtr
@[simp] theorem cause_evtr_rcsel (s : State) (b : Block) (i v : Nat) : (s.cause b i v).evtr.rcsel = s.evtr.rcsel := congrArg (·.rcsel) (rep_cause s b i v).evtr
@[simp] theorem cause_evtr_rates (s : State) (b : Block) (i v : Nat) : (s.cause b i v).evtr.rates = s.evtr.rates := congrArg (·.rates) (rep_cause s b i v).evtr
@[simp] theorem cause_evtr_rcmap (s : State) (b : Block) (i v : Nat) : (s.cause b i v).evtr.rcmap = s.evtr.rcmap := congrArg (·.rcmap) (rep_cause s b i v).evtr
@[simp] theorem cause_psto_bytes (s : State) (b : Block) (i v : Nat) : (s.cause b i v).psto.bytes = s.psto.bytes := congrArg (·.bytes) (rep_cause s b i v).psto
@[simp] theorem cause_psto_copies (s : State) (b : Block) (i v : Nat) : (s.cause b i v).psto.copies = s.psto.copies := congrArg (·.copies) (rep_cause s b i v).psto
@[simp] theorem cause_psto_major (s : State) (b : Block) (i v : Nat) : (s.cause b i v).psto.major = s.psto.major := congrArg (·.major) (rep_cause s b i v).psto
@[simp] theorem cause_psto_migrates (s : State) (b : Block) (i v : Nat) : (s.cause b i v).psto.migrates = s.psto.migrates := congrArg (·.migrates) (rep_cause s b i v).psto
@[simp] theorem cause_psto_recalling (s : State) (b : Block) (i v : Nat) : (s.cause b i v).psto.recalling = s.psto.recalling := congrArg (·.recalling) (rep_cause s b i v).psto
@[simp] theorem cause_psto_prot (s : State) (b : Block) (i v : Nat) : (s.cause b i v).psto.prot = s.psto.prot := congrArg (·.prot) (rep_cause s b i v).psto
@[simp] theorem cause_psto_op (s : State) (b : Block) (i v : Nat) : (s.cause b i v).psto.op = s.psto.op := congrArg (·.op) (rep_cause s b i v).psto
@[simp] theorem cause_psto_go (s : State) (b : Block) (i v : Nat) : (s.cause b i v).psto.go = s.psto.go := congrArg (·.go) (rep_cause s b i v).psto
@[simp] theorem cause_psto_result (s : State) (b : Block) (i v : Nat) : (s.cause b i v).psto.result = s.psto.result := congrArg (·.result) (rep_cause s b i v).psto
@[simp] theorem cause_psto_page (s : State) (b : Block) (i v : Nat) : (s.cause b i v).psto.page = s.psto.page := congrArg (·.page) (rep_cause s b i v).psto
@[simp] theorem cause_psto_data (s : State) (b : Block) (i v : Nat) : (s.cause b i v).psto.data = s.psto.data := congrArg (·.data) (rep_cause s b i v).psto
@[simp] theorem cause_psto_wcount (s : State) (b : Block) (i v : Nat) : (s.cause b i v).psto.wcount = s.psto.wcount := congrArg (·.wcount) (rep_cause s b i v).psto
@[simp] theorem error_cxlp_up (s : State) (b : Block) (c a n v : Nat) : (s.error b c a n v).cxlp.up = s.cxlp.up := congrArg (·.up) (rep_error s b c a n v).cxlp
@[simp] theorem error_cxlp_width (s : State) (b : Block) (c a n v : Nat) : (s.error b c a n v).cxlp.width = s.cxlp.width := congrArg (·.width) (rep_error s b c a n v).cxlp
@[simp] theorem error_cxlp_rate (s : State) (b : Block) (c a n v : Nat) : (s.error b c a n v).cxlp.rate = s.cxlp.rate := congrArg (·.rate) (rep_error s b c a n v).cxlp
@[simp] theorem error_cxlp_flit256 (s : State) (b : Block) (c a n v : Nat) : (s.error b c a n v).cxlp.flit256 = s.cxlp.flit256 := congrArg (·.flit256) (rep_error s b c a n v).cxlp
@[simp] theorem error_cxlp_lopt (s : State) (b : Block) (c a n v : Nat) : (s.error b c a n v).cxlp.lopt = s.cxlp.lopt := congrArg (·.lopt) (rep_error s b c a n v).cxlp
@[simp] theorem error_cxlp_memen (s : State) (b : Block) (c a n v : Nat) : (s.error b c a n v).cxlp.memen = s.cxlp.memen := congrArg (·.memen) (rep_error s b c a n v).cxlp
@[simp] theorem error_cxlp_capWidth (s : State) (b : Block) (c a n v : Nat) : (s.error b c a n v).cxlp.capWidth = s.cxlp.capWidth := congrArg (·.capWidth) (rep_error s b c a n v).cxlp
@[simp] theorem error_cxlp_capRate (s : State) (b : Block) (c a n v : Nat) : (s.error b c a n v).cxlp.capRate = s.cxlp.capRate := congrArg (·.capRate) (rep_error s b c a n v).cxlp
@[simp] theorem error_cxlp_training (s : State) (b : Block) (c a n v : Nat) : (s.error b c a n v).cxlp.training = s.cxlp.training := congrArg (·.training) (rep_error s b c a n v).cxlp
@[simp] theorem error_cxlp_l1ok (s : State) (b : Block) (c a n v : Nat) : (s.error b c a n v).cxlp.l1ok = s.cxlp.l1ok := congrArg (·.l1ok) (rep_error s b c a n v).cxlp
@[simp] theorem error_cxlp_l12ok (s : State) (b : Block) (c a n v : Nat) : (s.error b c a n v).cxlp.l12ok = s.cxlp.l12ok := congrArg (·.l12ok) (rep_error s b c a n v).cxlp
@[simp] theorem error_cxlp_portctl (s : State) (b : Block) (c a n v : Nat) : (s.error b c a n v).cxlp.portctl = s.cxlp.portctl := congrArg (·.portctl) (rep_error s b c a n v).cxlp
@[simp] theorem error_cxlp_evict (s : State) (b : Block) (c a n v : Nat) : (s.error b c a n v).cxlp.evict = s.cxlp.evict := congrArg (·.evict) (rep_error s b c a n v).cxlp
@[simp] theorem error_cxlp_stopped (s : State) (b : Block) (c a n v : Nat) : (s.error b c a n v).cxlp.stopped = s.cxlp.stopped := congrArg (·.stopped) (rep_error s b c a n v).cxlp
@[simp] theorem error_cxlp_decoders (s : State) (b : Block) (c a n v : Nat) : (s.error b c a n v).cxlp.decoders = s.cxlp.decoders := congrArg (·.decoders) (rep_error s b c a n v).cxlp
@[simp] theorem error_cxlp_filter (s : State) (b : Block) (c a n v : Nat) : (s.error b c a n v).cxlp.filter = s.cxlp.filter := congrArg (·.filter) (rep_error s b c a n v).cxlp
@[simp] theorem error_cxlp_filtOrder (s : State) (b : Block) (c a n v : Nat) : (s.error b c a n v).cxlp.filtOrder = s.cxlp.filtOrder := congrArg (·.filtOrder) (rep_error s b c a n v).cxlp
@[simp] theorem error_cxlp_biOut (s : State) (b : Block) (c a n v : Nat) : (s.error b c a n v).cxlp.biOut = s.cxlp.biOut := congrArg (·.biOut) (rep_error s b c a n v).cxlp
@[simp] theorem error_cxlp_biHold (s : State) (b : Block) (c a n v : Nat) : (s.error b c a n v).cxlp.biHold = s.cxlp.biHold := congrArg (·.biHold) (rep_error s b c a n v).cxlp
@[simp] theorem error_cxlp_dirtyWait (s : State) (b : Block) (c a n v : Nat) : (s.error b c a n v).cxlp.dirtyWait = s.cxlp.dirtyWait := congrArg (·.dirtyWait) (rep_error s b c a n v).cxlp
@[simp] theorem error_cxlp_zeroWait (s : State) (b : Block) (c a n v : Nat) : (s.error b c a n v).cxlp.zeroWait = s.cxlp.zeroWait := congrArg (·.zeroWait) (rep_error s b c a n v).cxlp
@[simp] theorem error_cxlp_reads (s : State) (b : Block) (c a n v : Nat) : (s.error b c a n v).cxlp.reads = s.cxlp.reads := congrArg (·.reads) (rep_error s b c a n v).cxlp
@[simp] theorem error_cxlp_lastReq (s : State) (b : Block) (c a n v : Nat) : (s.error b c a n v).cxlp.lastReq = s.cxlp.lastReq := congrArg (·.lastReq) (rep_error s b c a n v).cxlp
@[simp] theorem error_cxlp_viral (s : State) (b : Block) (c a n v : Nat) : (s.error b c a n v).cxlp.viral = s.cxlp.viral := congrArg (·.viral) (rep_error s b c a n v).cxlp
@[simp] theorem error_cxlp_poisonList (s : State) (b : Block) (c a n v : Nat) : (s.error b c a n v).cxlp.poisonList = s.cxlp.poisonList := congrArg (·.poisonList) (rep_error s b c a n v).cxlp
@[simp] theorem error_cxlp_poisonOver (s : State) (b : Block) (c a n v : Nat) : (s.error b c a n v).cxlp.poisonOver = s.cxlp.poisonOver := congrArg (·.poisonOver) (rep_error s b c a n v).cxlp
@[simp] theorem error_cxlp_gpf (s : State) (b : Block) (c a n v : Nat) : (s.error b c a n v).cxlp.gpf = s.cxlp.gpf := congrArg (·.gpf) (rep_error s b c a n v).cxlp
@[simp] theorem error_cxlp_msixMask (s : State) (b : Block) (c a n v : Nat) : (s.error b c a n v).cxlp.msixMask = s.cxlp.msixMask := congrArg (·.msixMask) (rep_error s b c a n v).cxlp
@[simp] theorem error_cxlp_latency (s : State) (b : Block) (c a n v : Nat) : (s.error b c a n v).cxlp.latency = s.cxlp.latency := congrArg (·.latency) (rep_error s b c a n v).cxlp
@[simp] theorem error_evtr_ctrl (s : State) (b : Block) (c a n v : Nat) : (s.error b c a n v).evtr.ctrl = s.evtr.ctrl := congrArg (·.ctrl) (rep_error s b c a n v).evtr
@[simp] theorem error_evtr_save (s : State) (b : Block) (c a n v : Nat) : (s.error b c a n v).evtr.save = s.evtr.save := congrArg (·.save) (rep_error s b c a n v).evtr
@[simp] theorem error_evtr_inccfg (s : State) (b : Block) (c a n v : Nat) : (s.error b c a n v).evtr.inccfg = s.evtr.inccfg := congrArg (·.inccfg) (rep_error s b c a n v).evtr
@[simp] theorem error_evtr_imod (s : State) (b : Block) (c a n v : Nat) : (s.error b c a n v).evtr.imod = s.evtr.imod := congrArg (·.imod) (rep_error s b c a n v).evtr
@[simp] theorem error_evtr_rcsel (s : State) (b : Block) (c a n v : Nat) : (s.error b c a n v).evtr.rcsel = s.evtr.rcsel := congrArg (·.rcsel) (rep_error s b c a n v).evtr
@[simp] theorem error_evtr_rates (s : State) (b : Block) (c a n v : Nat) : (s.error b c a n v).evtr.rates = s.evtr.rates := congrArg (·.rates) (rep_error s b c a n v).evtr
@[simp] theorem error_evtr_rcmap (s : State) (b : Block) (c a n v : Nat) : (s.error b c a n v).evtr.rcmap = s.evtr.rcmap := congrArg (·.rcmap) (rep_error s b c a n v).evtr
@[simp] theorem error_psto_bytes (s : State) (b : Block) (c a n v : Nat) : (s.error b c a n v).psto.bytes = s.psto.bytes := congrArg (·.bytes) (rep_error s b c a n v).psto
@[simp] theorem error_psto_copies (s : State) (b : Block) (c a n v : Nat) : (s.error b c a n v).psto.copies = s.psto.copies := congrArg (·.copies) (rep_error s b c a n v).psto
@[simp] theorem error_psto_major (s : State) (b : Block) (c a n v : Nat) : (s.error b c a n v).psto.major = s.psto.major := congrArg (·.major) (rep_error s b c a n v).psto
@[simp] theorem error_psto_migrates (s : State) (b : Block) (c a n v : Nat) : (s.error b c a n v).psto.migrates = s.psto.migrates := congrArg (·.migrates) (rep_error s b c a n v).psto
@[simp] theorem error_psto_recalling (s : State) (b : Block) (c a n v : Nat) : (s.error b c a n v).psto.recalling = s.psto.recalling := congrArg (·.recalling) (rep_error s b c a n v).psto
@[simp] theorem error_psto_prot (s : State) (b : Block) (c a n v : Nat) : (s.error b c a n v).psto.prot = s.psto.prot := congrArg (·.prot) (rep_error s b c a n v).psto
@[simp] theorem error_psto_op (s : State) (b : Block) (c a n v : Nat) : (s.error b c a n v).psto.op = s.psto.op := congrArg (·.op) (rep_error s b c a n v).psto
@[simp] theorem error_psto_go (s : State) (b : Block) (c a n v : Nat) : (s.error b c a n v).psto.go = s.psto.go := congrArg (·.go) (rep_error s b c a n v).psto
@[simp] theorem error_psto_result (s : State) (b : Block) (c a n v : Nat) : (s.error b c a n v).psto.result = s.psto.result := congrArg (·.result) (rep_error s b c a n v).psto
@[simp] theorem error_psto_page (s : State) (b : Block) (c a n v : Nat) : (s.error b c a n v).psto.page = s.psto.page := congrArg (·.page) (rep_error s b c a n v).psto
@[simp] theorem error_psto_data (s : State) (b : Block) (c a n v : Nat) : (s.error b c a n v).psto.data = s.psto.data := congrArg (·.data) (rep_error s b c a n v).psto
@[simp] theorem error_psto_wcount (s : State) (b : Block) (c a n v : Nat) : (s.error b c a n v).psto.wcount = s.psto.wcount := congrArg (·.wcount) (rep_error s b c a n v).psto
@[simp] theorem changeRecord_cxlp_up (s : State) (b : Block) (r o n v : Nat) : (s.changeRecord b r o n v).cxlp.up = s.cxlp.up := congrArg (·.up) (rep_changeRecord s b r o n v).cxlp
@[simp] theorem changeRecord_cxlp_width (s : State) (b : Block) (r o n v : Nat) : (s.changeRecord b r o n v).cxlp.width = s.cxlp.width := congrArg (·.width) (rep_changeRecord s b r o n v).cxlp
@[simp] theorem changeRecord_cxlp_rate (s : State) (b : Block) (r o n v : Nat) : (s.changeRecord b r o n v).cxlp.rate = s.cxlp.rate := congrArg (·.rate) (rep_changeRecord s b r o n v).cxlp
@[simp] theorem changeRecord_cxlp_flit256 (s : State) (b : Block) (r o n v : Nat) : (s.changeRecord b r o n v).cxlp.flit256 = s.cxlp.flit256 := congrArg (·.flit256) (rep_changeRecord s b r o n v).cxlp
@[simp] theorem changeRecord_cxlp_lopt (s : State) (b : Block) (r o n v : Nat) : (s.changeRecord b r o n v).cxlp.lopt = s.cxlp.lopt := congrArg (·.lopt) (rep_changeRecord s b r o n v).cxlp
@[simp] theorem changeRecord_cxlp_memen (s : State) (b : Block) (r o n v : Nat) : (s.changeRecord b r o n v).cxlp.memen = s.cxlp.memen := congrArg (·.memen) (rep_changeRecord s b r o n v).cxlp
@[simp] theorem changeRecord_cxlp_capWidth (s : State) (b : Block) (r o n v : Nat) : (s.changeRecord b r o n v).cxlp.capWidth = s.cxlp.capWidth := congrArg (·.capWidth) (rep_changeRecord s b r o n v).cxlp
@[simp] theorem changeRecord_cxlp_capRate (s : State) (b : Block) (r o n v : Nat) : (s.changeRecord b r o n v).cxlp.capRate = s.cxlp.capRate := congrArg (·.capRate) (rep_changeRecord s b r o n v).cxlp
@[simp] theorem changeRecord_cxlp_training (s : State) (b : Block) (r o n v : Nat) : (s.changeRecord b r o n v).cxlp.training = s.cxlp.training := congrArg (·.training) (rep_changeRecord s b r o n v).cxlp
@[simp] theorem changeRecord_cxlp_l1ok (s : State) (b : Block) (r o n v : Nat) : (s.changeRecord b r o n v).cxlp.l1ok = s.cxlp.l1ok := congrArg (·.l1ok) (rep_changeRecord s b r o n v).cxlp
@[simp] theorem changeRecord_cxlp_l12ok (s : State) (b : Block) (r o n v : Nat) : (s.changeRecord b r o n v).cxlp.l12ok = s.cxlp.l12ok := congrArg (·.l12ok) (rep_changeRecord s b r o n v).cxlp
@[simp] theorem changeRecord_cxlp_portctl (s : State) (b : Block) (r o n v : Nat) : (s.changeRecord b r o n v).cxlp.portctl = s.cxlp.portctl := congrArg (·.portctl) (rep_changeRecord s b r o n v).cxlp
@[simp] theorem changeRecord_cxlp_evict (s : State) (b : Block) (r o n v : Nat) : (s.changeRecord b r o n v).cxlp.evict = s.cxlp.evict := congrArg (·.evict) (rep_changeRecord s b r o n v).cxlp
@[simp] theorem changeRecord_cxlp_stopped (s : State) (b : Block) (r o n v : Nat) : (s.changeRecord b r o n v).cxlp.stopped = s.cxlp.stopped := congrArg (·.stopped) (rep_changeRecord s b r o n v).cxlp
@[simp] theorem changeRecord_cxlp_decoders (s : State) (b : Block) (r o n v : Nat) : (s.changeRecord b r o n v).cxlp.decoders = s.cxlp.decoders := congrArg (·.decoders) (rep_changeRecord s b r o n v).cxlp
@[simp] theorem changeRecord_cxlp_filter (s : State) (b : Block) (r o n v : Nat) : (s.changeRecord b r o n v).cxlp.filter = s.cxlp.filter := congrArg (·.filter) (rep_changeRecord s b r o n v).cxlp
@[simp] theorem changeRecord_cxlp_filtOrder (s : State) (b : Block) (r o n v : Nat) : (s.changeRecord b r o n v).cxlp.filtOrder = s.cxlp.filtOrder := congrArg (·.filtOrder) (rep_changeRecord s b r o n v).cxlp
@[simp] theorem changeRecord_cxlp_biOut (s : State) (b : Block) (r o n v : Nat) : (s.changeRecord b r o n v).cxlp.biOut = s.cxlp.biOut := congrArg (·.biOut) (rep_changeRecord s b r o n v).cxlp
@[simp] theorem changeRecord_cxlp_biHold (s : State) (b : Block) (r o n v : Nat) : (s.changeRecord b r o n v).cxlp.biHold = s.cxlp.biHold := congrArg (·.biHold) (rep_changeRecord s b r o n v).cxlp
@[simp] theorem changeRecord_cxlp_dirtyWait (s : State) (b : Block) (r o n v : Nat) : (s.changeRecord b r o n v).cxlp.dirtyWait = s.cxlp.dirtyWait := congrArg (·.dirtyWait) (rep_changeRecord s b r o n v).cxlp
@[simp] theorem changeRecord_cxlp_zeroWait (s : State) (b : Block) (r o n v : Nat) : (s.changeRecord b r o n v).cxlp.zeroWait = s.cxlp.zeroWait := congrArg (·.zeroWait) (rep_changeRecord s b r o n v).cxlp
@[simp] theorem changeRecord_cxlp_reads (s : State) (b : Block) (r o n v : Nat) : (s.changeRecord b r o n v).cxlp.reads = s.cxlp.reads := congrArg (·.reads) (rep_changeRecord s b r o n v).cxlp
@[simp] theorem changeRecord_cxlp_lastReq (s : State) (b : Block) (r o n v : Nat) : (s.changeRecord b r o n v).cxlp.lastReq = s.cxlp.lastReq := congrArg (·.lastReq) (rep_changeRecord s b r o n v).cxlp
@[simp] theorem changeRecord_cxlp_viral (s : State) (b : Block) (r o n v : Nat) : (s.changeRecord b r o n v).cxlp.viral = s.cxlp.viral := congrArg (·.viral) (rep_changeRecord s b r o n v).cxlp
@[simp] theorem changeRecord_cxlp_poisonList (s : State) (b : Block) (r o n v : Nat) : (s.changeRecord b r o n v).cxlp.poisonList = s.cxlp.poisonList := congrArg (·.poisonList) (rep_changeRecord s b r o n v).cxlp
@[simp] theorem changeRecord_cxlp_poisonOver (s : State) (b : Block) (r o n v : Nat) : (s.changeRecord b r o n v).cxlp.poisonOver = s.cxlp.poisonOver := congrArg (·.poisonOver) (rep_changeRecord s b r o n v).cxlp
@[simp] theorem changeRecord_cxlp_gpf (s : State) (b : Block) (r o n v : Nat) : (s.changeRecord b r o n v).cxlp.gpf = s.cxlp.gpf := congrArg (·.gpf) (rep_changeRecord s b r o n v).cxlp
@[simp] theorem changeRecord_cxlp_msixMask (s : State) (b : Block) (r o n v : Nat) : (s.changeRecord b r o n v).cxlp.msixMask = s.cxlp.msixMask := congrArg (·.msixMask) (rep_changeRecord s b r o n v).cxlp
@[simp] theorem changeRecord_cxlp_latency (s : State) (b : Block) (r o n v : Nat) : (s.changeRecord b r o n v).cxlp.latency = s.cxlp.latency := congrArg (·.latency) (rep_changeRecord s b r o n v).cxlp
@[simp] theorem changeRecord_evtr_ctrl (s : State) (b : Block) (r o n v : Nat) : (s.changeRecord b r o n v).evtr.ctrl = s.evtr.ctrl := congrArg (·.ctrl) (rep_changeRecord s b r o n v).evtr
@[simp] theorem changeRecord_evtr_save (s : State) (b : Block) (r o n v : Nat) : (s.changeRecord b r o n v).evtr.save = s.evtr.save := congrArg (·.save) (rep_changeRecord s b r o n v).evtr
@[simp] theorem changeRecord_evtr_inccfg (s : State) (b : Block) (r o n v : Nat) : (s.changeRecord b r o n v).evtr.inccfg = s.evtr.inccfg := congrArg (·.inccfg) (rep_changeRecord s b r o n v).evtr
@[simp] theorem changeRecord_evtr_imod (s : State) (b : Block) (r o n v : Nat) : (s.changeRecord b r o n v).evtr.imod = s.evtr.imod := congrArg (·.imod) (rep_changeRecord s b r o n v).evtr
@[simp] theorem changeRecord_evtr_rcsel (s : State) (b : Block) (r o n v : Nat) : (s.changeRecord b r o n v).evtr.rcsel = s.evtr.rcsel := congrArg (·.rcsel) (rep_changeRecord s b r o n v).evtr
@[simp] theorem changeRecord_evtr_rates (s : State) (b : Block) (r o n v : Nat) : (s.changeRecord b r o n v).evtr.rates = s.evtr.rates := congrArg (·.rates) (rep_changeRecord s b r o n v).evtr
@[simp] theorem changeRecord_evtr_rcmap (s : State) (b : Block) (r o n v : Nat) : (s.changeRecord b r o n v).evtr.rcmap = s.evtr.rcmap := congrArg (·.rcmap) (rep_changeRecord s b r o n v).evtr
@[simp] theorem changeRecord_psto_bytes (s : State) (b : Block) (r o n v : Nat) : (s.changeRecord b r o n v).psto.bytes = s.psto.bytes := congrArg (·.bytes) (rep_changeRecord s b r o n v).psto
@[simp] theorem changeRecord_psto_copies (s : State) (b : Block) (r o n v : Nat) : (s.changeRecord b r o n v).psto.copies = s.psto.copies := congrArg (·.copies) (rep_changeRecord s b r o n v).psto
@[simp] theorem changeRecord_psto_major (s : State) (b : Block) (r o n v : Nat) : (s.changeRecord b r o n v).psto.major = s.psto.major := congrArg (·.major) (rep_changeRecord s b r o n v).psto
@[simp] theorem changeRecord_psto_migrates (s : State) (b : Block) (r o n v : Nat) : (s.changeRecord b r o n v).psto.migrates = s.psto.migrates := congrArg (·.migrates) (rep_changeRecord s b r o n v).psto
@[simp] theorem changeRecord_psto_recalling (s : State) (b : Block) (r o n v : Nat) : (s.changeRecord b r o n v).psto.recalling = s.psto.recalling := congrArg (·.recalling) (rep_changeRecord s b r o n v).psto
@[simp] theorem changeRecord_psto_prot (s : State) (b : Block) (r o n v : Nat) : (s.changeRecord b r o n v).psto.prot = s.psto.prot := congrArg (·.prot) (rep_changeRecord s b r o n v).psto
@[simp] theorem changeRecord_psto_op (s : State) (b : Block) (r o n v : Nat) : (s.changeRecord b r o n v).psto.op = s.psto.op := congrArg (·.op) (rep_changeRecord s b r o n v).psto
@[simp] theorem changeRecord_psto_go (s : State) (b : Block) (r o n v : Nat) : (s.changeRecord b r o n v).psto.go = s.psto.go := congrArg (·.go) (rep_changeRecord s b r o n v).psto
@[simp] theorem changeRecord_psto_result (s : State) (b : Block) (r o n v : Nat) : (s.changeRecord b r o n v).psto.result = s.psto.result := congrArg (·.result) (rep_changeRecord s b r o n v).psto
@[simp] theorem changeRecord_psto_page (s : State) (b : Block) (r o n v : Nat) : (s.changeRecord b r o n v).psto.page = s.psto.page := congrArg (·.page) (rep_changeRecord s b r o n v).psto
@[simp] theorem changeRecord_psto_data (s : State) (b : Block) (r o n v : Nat) : (s.changeRecord b r o n v).psto.data = s.psto.data := congrArg (·.data) (rep_changeRecord s b r o n v).psto
@[simp] theorem changeRecord_psto_wcount (s : State) (b : Block) (r o n v : Nat) : (s.changeRecord b r o n v).psto.wcount = s.psto.wcount := congrArg (·.wcount) (rep_changeRecord s b r o n v).psto
@[simp] theorem hostRecord_cxlp_up (s : State) (t : Nat) : (s.hostRecord t).cxlp.up = s.cxlp.up := congrArg (·.up) (rep_hostRecord s t).cxlp
@[simp] theorem hostRecord_cxlp_width (s : State) (t : Nat) : (s.hostRecord t).cxlp.width = s.cxlp.width := congrArg (·.width) (rep_hostRecord s t).cxlp
@[simp] theorem hostRecord_cxlp_rate (s : State) (t : Nat) : (s.hostRecord t).cxlp.rate = s.cxlp.rate := congrArg (·.rate) (rep_hostRecord s t).cxlp
@[simp] theorem hostRecord_cxlp_flit256 (s : State) (t : Nat) : (s.hostRecord t).cxlp.flit256 = s.cxlp.flit256 := congrArg (·.flit256) (rep_hostRecord s t).cxlp
@[simp] theorem hostRecord_cxlp_lopt (s : State) (t : Nat) : (s.hostRecord t).cxlp.lopt = s.cxlp.lopt := congrArg (·.lopt) (rep_hostRecord s t).cxlp
@[simp] theorem hostRecord_cxlp_memen (s : State) (t : Nat) : (s.hostRecord t).cxlp.memen = s.cxlp.memen := congrArg (·.memen) (rep_hostRecord s t).cxlp
@[simp] theorem hostRecord_cxlp_capWidth (s : State) (t : Nat) : (s.hostRecord t).cxlp.capWidth = s.cxlp.capWidth := congrArg (·.capWidth) (rep_hostRecord s t).cxlp
@[simp] theorem hostRecord_cxlp_capRate (s : State) (t : Nat) : (s.hostRecord t).cxlp.capRate = s.cxlp.capRate := congrArg (·.capRate) (rep_hostRecord s t).cxlp
@[simp] theorem hostRecord_cxlp_training (s : State) (t : Nat) : (s.hostRecord t).cxlp.training = s.cxlp.training := congrArg (·.training) (rep_hostRecord s t).cxlp
@[simp] theorem hostRecord_cxlp_l1ok (s : State) (t : Nat) : (s.hostRecord t).cxlp.l1ok = s.cxlp.l1ok := congrArg (·.l1ok) (rep_hostRecord s t).cxlp
@[simp] theorem hostRecord_cxlp_l12ok (s : State) (t : Nat) : (s.hostRecord t).cxlp.l12ok = s.cxlp.l12ok := congrArg (·.l12ok) (rep_hostRecord s t).cxlp
@[simp] theorem hostRecord_cxlp_portctl (s : State) (t : Nat) : (s.hostRecord t).cxlp.portctl = s.cxlp.portctl := congrArg (·.portctl) (rep_hostRecord s t).cxlp
@[simp] theorem hostRecord_cxlp_evict (s : State) (t : Nat) : (s.hostRecord t).cxlp.evict = s.cxlp.evict := congrArg (·.evict) (rep_hostRecord s t).cxlp
@[simp] theorem hostRecord_cxlp_stopped (s : State) (t : Nat) : (s.hostRecord t).cxlp.stopped = s.cxlp.stopped := congrArg (·.stopped) (rep_hostRecord s t).cxlp
@[simp] theorem hostRecord_cxlp_decoders (s : State) (t : Nat) : (s.hostRecord t).cxlp.decoders = s.cxlp.decoders := congrArg (·.decoders) (rep_hostRecord s t).cxlp
@[simp] theorem hostRecord_cxlp_filter (s : State) (t : Nat) : (s.hostRecord t).cxlp.filter = s.cxlp.filter := congrArg (·.filter) (rep_hostRecord s t).cxlp
@[simp] theorem hostRecord_cxlp_filtOrder (s : State) (t : Nat) : (s.hostRecord t).cxlp.filtOrder = s.cxlp.filtOrder := congrArg (·.filtOrder) (rep_hostRecord s t).cxlp
@[simp] theorem hostRecord_cxlp_biOut (s : State) (t : Nat) : (s.hostRecord t).cxlp.biOut = s.cxlp.biOut := congrArg (·.biOut) (rep_hostRecord s t).cxlp
@[simp] theorem hostRecord_cxlp_biHold (s : State) (t : Nat) : (s.hostRecord t).cxlp.biHold = s.cxlp.biHold := congrArg (·.biHold) (rep_hostRecord s t).cxlp
@[simp] theorem hostRecord_cxlp_dirtyWait (s : State) (t : Nat) : (s.hostRecord t).cxlp.dirtyWait = s.cxlp.dirtyWait := congrArg (·.dirtyWait) (rep_hostRecord s t).cxlp
@[simp] theorem hostRecord_cxlp_zeroWait (s : State) (t : Nat) : (s.hostRecord t).cxlp.zeroWait = s.cxlp.zeroWait := congrArg (·.zeroWait) (rep_hostRecord s t).cxlp
@[simp] theorem hostRecord_cxlp_reads (s : State) (t : Nat) : (s.hostRecord t).cxlp.reads = s.cxlp.reads := congrArg (·.reads) (rep_hostRecord s t).cxlp
@[simp] theorem hostRecord_cxlp_lastReq (s : State) (t : Nat) : (s.hostRecord t).cxlp.lastReq = s.cxlp.lastReq := congrArg (·.lastReq) (rep_hostRecord s t).cxlp
@[simp] theorem hostRecord_cxlp_viral (s : State) (t : Nat) : (s.hostRecord t).cxlp.viral = s.cxlp.viral := congrArg (·.viral) (rep_hostRecord s t).cxlp
@[simp] theorem hostRecord_cxlp_poisonList (s : State) (t : Nat) : (s.hostRecord t).cxlp.poisonList = s.cxlp.poisonList := congrArg (·.poisonList) (rep_hostRecord s t).cxlp
@[simp] theorem hostRecord_cxlp_poisonOver (s : State) (t : Nat) : (s.hostRecord t).cxlp.poisonOver = s.cxlp.poisonOver := congrArg (·.poisonOver) (rep_hostRecord s t).cxlp
@[simp] theorem hostRecord_cxlp_gpf (s : State) (t : Nat) : (s.hostRecord t).cxlp.gpf = s.cxlp.gpf := congrArg (·.gpf) (rep_hostRecord s t).cxlp
@[simp] theorem hostRecord_cxlp_msixMask (s : State) (t : Nat) : (s.hostRecord t).cxlp.msixMask = s.cxlp.msixMask := congrArg (·.msixMask) (rep_hostRecord s t).cxlp
@[simp] theorem hostRecord_cxlp_latency (s : State) (t : Nat) : (s.hostRecord t).cxlp.latency = s.cxlp.latency := congrArg (·.latency) (rep_hostRecord s t).cxlp
@[simp] theorem hostRecord_evtr_ctrl (s : State) (t : Nat) : (s.hostRecord t).evtr.ctrl = s.evtr.ctrl := congrArg (·.ctrl) (rep_hostRecord s t).evtr
@[simp] theorem hostRecord_evtr_save (s : State) (t : Nat) : (s.hostRecord t).evtr.save = s.evtr.save := congrArg (·.save) (rep_hostRecord s t).evtr
@[simp] theorem hostRecord_evtr_inccfg (s : State) (t : Nat) : (s.hostRecord t).evtr.inccfg = s.evtr.inccfg := congrArg (·.inccfg) (rep_hostRecord s t).evtr
@[simp] theorem hostRecord_evtr_imod (s : State) (t : Nat) : (s.hostRecord t).evtr.imod = s.evtr.imod := congrArg (·.imod) (rep_hostRecord s t).evtr
@[simp] theorem hostRecord_evtr_rcsel (s : State) (t : Nat) : (s.hostRecord t).evtr.rcsel = s.evtr.rcsel := congrArg (·.rcsel) (rep_hostRecord s t).evtr
@[simp] theorem hostRecord_evtr_rates (s : State) (t : Nat) : (s.hostRecord t).evtr.rates = s.evtr.rates := congrArg (·.rates) (rep_hostRecord s t).evtr
@[simp] theorem hostRecord_evtr_rcmap (s : State) (t : Nat) : (s.hostRecord t).evtr.rcmap = s.evtr.rcmap := congrArg (·.rcmap) (rep_hostRecord s t).evtr
@[simp] theorem hostRecord_psto_bytes (s : State) (t : Nat) : (s.hostRecord t).psto.bytes = s.psto.bytes := congrArg (·.bytes) (rep_hostRecord s t).psto
@[simp] theorem hostRecord_psto_copies (s : State) (t : Nat) : (s.hostRecord t).psto.copies = s.psto.copies := congrArg (·.copies) (rep_hostRecord s t).psto
@[simp] theorem hostRecord_psto_major (s : State) (t : Nat) : (s.hostRecord t).psto.major = s.psto.major := congrArg (·.major) (rep_hostRecord s t).psto
@[simp] theorem hostRecord_psto_migrates (s : State) (t : Nat) : (s.hostRecord t).psto.migrates = s.psto.migrates := congrArg (·.migrates) (rep_hostRecord s t).psto
@[simp] theorem hostRecord_psto_recalling (s : State) (t : Nat) : (s.hostRecord t).psto.recalling = s.psto.recalling := congrArg (·.recalling) (rep_hostRecord s t).psto
@[simp] theorem hostRecord_psto_prot (s : State) (t : Nat) : (s.hostRecord t).psto.prot = s.psto.prot := congrArg (·.prot) (rep_hostRecord s t).psto
@[simp] theorem hostRecord_psto_op (s : State) (t : Nat) : (s.hostRecord t).psto.op = s.psto.op := congrArg (·.op) (rep_hostRecord s t).psto
@[simp] theorem hostRecord_psto_go (s : State) (t : Nat) : (s.hostRecord t).psto.go = s.psto.go := congrArg (·.go) (rep_hostRecord s t).psto
@[simp] theorem hostRecord_psto_result (s : State) (t : Nat) : (s.hostRecord t).psto.result = s.psto.result := congrArg (·.result) (rep_hostRecord s t).psto
@[simp] theorem hostRecord_psto_page (s : State) (t : Nat) : (s.hostRecord t).psto.page = s.psto.page := congrArg (·.page) (rep_hostRecord s t).psto
@[simp] theorem hostRecord_psto_data (s : State) (t : Nat) : (s.hostRecord t).psto.data = s.psto.data := congrArg (·.data) (rep_hostRecord s t).psto
@[simp] theorem hostRecord_psto_wcount (s : State) (t : Nat) : (s.hostRecord t).psto.wcount = s.psto.wcount := congrArg (·.wcount) (rep_hostRecord s t).psto
@[simp] theorem settle_cxlp_up (s : State) : (s.settle).cxlp.up = s.cxlp.up := congrArg (·.up) (rep_settle s ).cxlp
@[simp] theorem settle_cxlp_width (s : State) : (s.settle).cxlp.width = s.cxlp.width := congrArg (·.width) (rep_settle s ).cxlp
@[simp] theorem settle_cxlp_rate (s : State) : (s.settle).cxlp.rate = s.cxlp.rate := congrArg (·.rate) (rep_settle s ).cxlp
@[simp] theorem settle_cxlp_flit256 (s : State) : (s.settle).cxlp.flit256 = s.cxlp.flit256 := congrArg (·.flit256) (rep_settle s ).cxlp
@[simp] theorem settle_cxlp_lopt (s : State) : (s.settle).cxlp.lopt = s.cxlp.lopt := congrArg (·.lopt) (rep_settle s ).cxlp
@[simp] theorem settle_cxlp_memen (s : State) : (s.settle).cxlp.memen = s.cxlp.memen := congrArg (·.memen) (rep_settle s ).cxlp
@[simp] theorem settle_cxlp_capWidth (s : State) : (s.settle).cxlp.capWidth = s.cxlp.capWidth := congrArg (·.capWidth) (rep_settle s ).cxlp
@[simp] theorem settle_cxlp_capRate (s : State) : (s.settle).cxlp.capRate = s.cxlp.capRate := congrArg (·.capRate) (rep_settle s ).cxlp
@[simp] theorem settle_cxlp_training (s : State) : (s.settle).cxlp.training = s.cxlp.training := congrArg (·.training) (rep_settle s ).cxlp
@[simp] theorem settle_cxlp_l1ok (s : State) : (s.settle).cxlp.l1ok = s.cxlp.l1ok := congrArg (·.l1ok) (rep_settle s ).cxlp
@[simp] theorem settle_cxlp_l12ok (s : State) : (s.settle).cxlp.l12ok = s.cxlp.l12ok := congrArg (·.l12ok) (rep_settle s ).cxlp
@[simp] theorem settle_cxlp_portctl (s : State) : (s.settle).cxlp.portctl = s.cxlp.portctl := congrArg (·.portctl) (rep_settle s ).cxlp
@[simp] theorem settle_cxlp_evict (s : State) : (s.settle).cxlp.evict = s.cxlp.evict := congrArg (·.evict) (rep_settle s ).cxlp
@[simp] theorem settle_cxlp_stopped (s : State) : (s.settle).cxlp.stopped = s.cxlp.stopped := congrArg (·.stopped) (rep_settle s ).cxlp
@[simp] theorem settle_cxlp_decoders (s : State) : (s.settle).cxlp.decoders = s.cxlp.decoders := congrArg (·.decoders) (rep_settle s ).cxlp
@[simp] theorem settle_cxlp_filter (s : State) : (s.settle).cxlp.filter = s.cxlp.filter := congrArg (·.filter) (rep_settle s ).cxlp
@[simp] theorem settle_cxlp_filtOrder (s : State) : (s.settle).cxlp.filtOrder = s.cxlp.filtOrder := congrArg (·.filtOrder) (rep_settle s ).cxlp
@[simp] theorem settle_cxlp_biOut (s : State) : (s.settle).cxlp.biOut = s.cxlp.biOut := congrArg (·.biOut) (rep_settle s ).cxlp
@[simp] theorem settle_cxlp_biHold (s : State) : (s.settle).cxlp.biHold = s.cxlp.biHold := congrArg (·.biHold) (rep_settle s ).cxlp
@[simp] theorem settle_cxlp_dirtyWait (s : State) : (s.settle).cxlp.dirtyWait = s.cxlp.dirtyWait := congrArg (·.dirtyWait) (rep_settle s ).cxlp
@[simp] theorem settle_cxlp_zeroWait (s : State) : (s.settle).cxlp.zeroWait = s.cxlp.zeroWait := congrArg (·.zeroWait) (rep_settle s ).cxlp
@[simp] theorem settle_cxlp_reads (s : State) : (s.settle).cxlp.reads = s.cxlp.reads := congrArg (·.reads) (rep_settle s ).cxlp
@[simp] theorem settle_cxlp_lastReq (s : State) : (s.settle).cxlp.lastReq = s.cxlp.lastReq := congrArg (·.lastReq) (rep_settle s ).cxlp
@[simp] theorem settle_cxlp_viral (s : State) : (s.settle).cxlp.viral = s.cxlp.viral := congrArg (·.viral) (rep_settle s ).cxlp
@[simp] theorem settle_cxlp_poisonList (s : State) : (s.settle).cxlp.poisonList = s.cxlp.poisonList := congrArg (·.poisonList) (rep_settle s ).cxlp
@[simp] theorem settle_cxlp_poisonOver (s : State) : (s.settle).cxlp.poisonOver = s.cxlp.poisonOver := congrArg (·.poisonOver) (rep_settle s ).cxlp
@[simp] theorem settle_cxlp_gpf (s : State) : (s.settle).cxlp.gpf = s.cxlp.gpf := congrArg (·.gpf) (rep_settle s ).cxlp
@[simp] theorem settle_cxlp_msixMask (s : State) : (s.settle).cxlp.msixMask = s.cxlp.msixMask := congrArg (·.msixMask) (rep_settle s ).cxlp
@[simp] theorem settle_cxlp_latency (s : State) : (s.settle).cxlp.latency = s.cxlp.latency := congrArg (·.latency) (rep_settle s ).cxlp
@[simp] theorem settle_evtr_ctrl (s : State) : (s.settle).evtr.ctrl = s.evtr.ctrl := congrArg (·.ctrl) (rep_settle s ).evtr
@[simp] theorem settle_evtr_save (s : State) : (s.settle).evtr.save = s.evtr.save := congrArg (·.save) (rep_settle s ).evtr
@[simp] theorem settle_evtr_inccfg (s : State) : (s.settle).evtr.inccfg = s.evtr.inccfg := congrArg (·.inccfg) (rep_settle s ).evtr
@[simp] theorem settle_evtr_imod (s : State) : (s.settle).evtr.imod = s.evtr.imod := congrArg (·.imod) (rep_settle s ).evtr
@[simp] theorem settle_evtr_rcsel (s : State) : (s.settle).evtr.rcsel = s.evtr.rcsel := congrArg (·.rcsel) (rep_settle s ).evtr
@[simp] theorem settle_evtr_rates (s : State) : (s.settle).evtr.rates = s.evtr.rates := congrArg (·.rates) (rep_settle s ).evtr
@[simp] theorem settle_evtr_rcmap (s : State) : (s.settle).evtr.rcmap = s.evtr.rcmap := congrArg (·.rcmap) (rep_settle s ).evtr
@[simp] theorem settle_psto_bytes (s : State) : (s.settle).psto.bytes = s.psto.bytes := congrArg (·.bytes) (rep_settle s ).psto
@[simp] theorem settle_psto_copies (s : State) : (s.settle).psto.copies = s.psto.copies := congrArg (·.copies) (rep_settle s ).psto
@[simp] theorem settle_psto_major (s : State) : (s.settle).psto.major = s.psto.major := congrArg (·.major) (rep_settle s ).psto
@[simp] theorem settle_psto_migrates (s : State) : (s.settle).psto.migrates = s.psto.migrates := congrArg (·.migrates) (rep_settle s ).psto
@[simp] theorem settle_psto_recalling (s : State) : (s.settle).psto.recalling = s.psto.recalling := congrArg (·.recalling) (rep_settle s ).psto
@[simp] theorem settle_psto_prot (s : State) : (s.settle).psto.prot = s.psto.prot := congrArg (·.prot) (rep_settle s ).psto
@[simp] theorem settle_psto_op (s : State) : (s.settle).psto.op = s.psto.op := congrArg (·.op) (rep_settle s ).psto
@[simp] theorem settle_psto_go (s : State) : (s.settle).psto.go = s.psto.go := congrArg (·.go) (rep_settle s ).psto
@[simp] theorem settle_psto_result (s : State) : (s.settle).psto.result = s.psto.result := congrArg (·.result) (rep_settle s ).psto
@[simp] theorem settle_psto_page (s : State) : (s.settle).psto.page = s.psto.page := congrArg (·.page) (rep_settle s ).psto
@[simp] theorem settle_psto_data (s : State) : (s.settle).psto.data = s.psto.data := congrArg (·.data) (rep_settle s ).psto
@[simp] theorem settle_psto_wcount (s : State) : (s.settle).psto.wcount = s.psto.wcount := congrArg (·.wcount) (rep_settle s ).psto
@[simp] theorem hallSync_cxlp_up (s : State) : (s.hallSync).cxlp.up = s.cxlp.up := congrArg (·.up) (rep_hallSync s ).cxlp
@[simp] theorem hallSync_cxlp_width (s : State) : (s.hallSync).cxlp.width = s.cxlp.width := congrArg (·.width) (rep_hallSync s ).cxlp
@[simp] theorem hallSync_cxlp_rate (s : State) : (s.hallSync).cxlp.rate = s.cxlp.rate := congrArg (·.rate) (rep_hallSync s ).cxlp
@[simp] theorem hallSync_cxlp_flit256 (s : State) : (s.hallSync).cxlp.flit256 = s.cxlp.flit256 := congrArg (·.flit256) (rep_hallSync s ).cxlp
@[simp] theorem hallSync_cxlp_lopt (s : State) : (s.hallSync).cxlp.lopt = s.cxlp.lopt := congrArg (·.lopt) (rep_hallSync s ).cxlp
@[simp] theorem hallSync_cxlp_memen (s : State) : (s.hallSync).cxlp.memen = s.cxlp.memen := congrArg (·.memen) (rep_hallSync s ).cxlp
@[simp] theorem hallSync_cxlp_capWidth (s : State) : (s.hallSync).cxlp.capWidth = s.cxlp.capWidth := congrArg (·.capWidth) (rep_hallSync s ).cxlp
@[simp] theorem hallSync_cxlp_capRate (s : State) : (s.hallSync).cxlp.capRate = s.cxlp.capRate := congrArg (·.capRate) (rep_hallSync s ).cxlp
@[simp] theorem hallSync_cxlp_training (s : State) : (s.hallSync).cxlp.training = s.cxlp.training := congrArg (·.training) (rep_hallSync s ).cxlp
@[simp] theorem hallSync_cxlp_l1ok (s : State) : (s.hallSync).cxlp.l1ok = s.cxlp.l1ok := congrArg (·.l1ok) (rep_hallSync s ).cxlp
@[simp] theorem hallSync_cxlp_l12ok (s : State) : (s.hallSync).cxlp.l12ok = s.cxlp.l12ok := congrArg (·.l12ok) (rep_hallSync s ).cxlp
@[simp] theorem hallSync_cxlp_portctl (s : State) : (s.hallSync).cxlp.portctl = s.cxlp.portctl := congrArg (·.portctl) (rep_hallSync s ).cxlp
@[simp] theorem hallSync_cxlp_evict (s : State) : (s.hallSync).cxlp.evict = s.cxlp.evict := congrArg (·.evict) (rep_hallSync s ).cxlp
@[simp] theorem hallSync_cxlp_stopped (s : State) : (s.hallSync).cxlp.stopped = s.cxlp.stopped := congrArg (·.stopped) (rep_hallSync s ).cxlp
@[simp] theorem hallSync_cxlp_decoders (s : State) : (s.hallSync).cxlp.decoders = s.cxlp.decoders := congrArg (·.decoders) (rep_hallSync s ).cxlp
@[simp] theorem hallSync_cxlp_filter (s : State) : (s.hallSync).cxlp.filter = s.cxlp.filter := congrArg (·.filter) (rep_hallSync s ).cxlp
@[simp] theorem hallSync_cxlp_filtOrder (s : State) : (s.hallSync).cxlp.filtOrder = s.cxlp.filtOrder := congrArg (·.filtOrder) (rep_hallSync s ).cxlp
@[simp] theorem hallSync_cxlp_biOut (s : State) : (s.hallSync).cxlp.biOut = s.cxlp.biOut := congrArg (·.biOut) (rep_hallSync s ).cxlp
@[simp] theorem hallSync_cxlp_biHold (s : State) : (s.hallSync).cxlp.biHold = s.cxlp.biHold := congrArg (·.biHold) (rep_hallSync s ).cxlp
@[simp] theorem hallSync_cxlp_dirtyWait (s : State) : (s.hallSync).cxlp.dirtyWait = s.cxlp.dirtyWait := congrArg (·.dirtyWait) (rep_hallSync s ).cxlp
@[simp] theorem hallSync_cxlp_zeroWait (s : State) : (s.hallSync).cxlp.zeroWait = s.cxlp.zeroWait := congrArg (·.zeroWait) (rep_hallSync s ).cxlp
@[simp] theorem hallSync_cxlp_reads (s : State) : (s.hallSync).cxlp.reads = s.cxlp.reads := congrArg (·.reads) (rep_hallSync s ).cxlp
@[simp] theorem hallSync_cxlp_lastReq (s : State) : (s.hallSync).cxlp.lastReq = s.cxlp.lastReq := congrArg (·.lastReq) (rep_hallSync s ).cxlp
@[simp] theorem hallSync_cxlp_viral (s : State) : (s.hallSync).cxlp.viral = s.cxlp.viral := congrArg (·.viral) (rep_hallSync s ).cxlp
@[simp] theorem hallSync_cxlp_poisonList (s : State) : (s.hallSync).cxlp.poisonList = s.cxlp.poisonList := congrArg (·.poisonList) (rep_hallSync s ).cxlp
@[simp] theorem hallSync_cxlp_poisonOver (s : State) : (s.hallSync).cxlp.poisonOver = s.cxlp.poisonOver := congrArg (·.poisonOver) (rep_hallSync s ).cxlp
@[simp] theorem hallSync_cxlp_gpf (s : State) : (s.hallSync).cxlp.gpf = s.cxlp.gpf := congrArg (·.gpf) (rep_hallSync s ).cxlp
@[simp] theorem hallSync_cxlp_msixMask (s : State) : (s.hallSync).cxlp.msixMask = s.cxlp.msixMask := congrArg (·.msixMask) (rep_hallSync s ).cxlp
@[simp] theorem hallSync_cxlp_latency (s : State) : (s.hallSync).cxlp.latency = s.cxlp.latency := congrArg (·.latency) (rep_hallSync s ).cxlp
@[simp] theorem hallSync_evtr_ctrl (s : State) : (s.hallSync).evtr.ctrl = s.evtr.ctrl := congrArg (·.ctrl) (rep_hallSync s ).evtr
@[simp] theorem hallSync_evtr_save (s : State) : (s.hallSync).evtr.save = s.evtr.save := congrArg (·.save) (rep_hallSync s ).evtr
@[simp] theorem hallSync_evtr_inccfg (s : State) : (s.hallSync).evtr.inccfg = s.evtr.inccfg := congrArg (·.inccfg) (rep_hallSync s ).evtr
@[simp] theorem hallSync_evtr_imod (s : State) : (s.hallSync).evtr.imod = s.evtr.imod := congrArg (·.imod) (rep_hallSync s ).evtr
@[simp] theorem hallSync_evtr_rcsel (s : State) : (s.hallSync).evtr.rcsel = s.evtr.rcsel := congrArg (·.rcsel) (rep_hallSync s ).evtr
@[simp] theorem hallSync_evtr_rates (s : State) : (s.hallSync).evtr.rates = s.evtr.rates := congrArg (·.rates) (rep_hallSync s ).evtr
@[simp] theorem hallSync_evtr_rcmap (s : State) : (s.hallSync).evtr.rcmap = s.evtr.rcmap := congrArg (·.rcmap) (rep_hallSync s ).evtr
@[simp] theorem hallSync_psto_bytes (s : State) : (s.hallSync).psto.bytes = s.psto.bytes := congrArg (·.bytes) (rep_hallSync s ).psto
@[simp] theorem hallSync_psto_copies (s : State) : (s.hallSync).psto.copies = s.psto.copies := congrArg (·.copies) (rep_hallSync s ).psto
@[simp] theorem hallSync_psto_major (s : State) : (s.hallSync).psto.major = s.psto.major := congrArg (·.major) (rep_hallSync s ).psto
@[simp] theorem hallSync_psto_migrates (s : State) : (s.hallSync).psto.migrates = s.psto.migrates := congrArg (·.migrates) (rep_hallSync s ).psto
@[simp] theorem hallSync_psto_recalling (s : State) : (s.hallSync).psto.recalling = s.psto.recalling := congrArg (·.recalling) (rep_hallSync s ).psto
@[simp] theorem hallSync_psto_prot (s : State) : (s.hallSync).psto.prot = s.psto.prot := congrArg (·.prot) (rep_hallSync s ).psto
@[simp] theorem hallSync_psto_op (s : State) : (s.hallSync).psto.op = s.psto.op := congrArg (·.op) (rep_hallSync s ).psto
@[simp] theorem hallSync_psto_go (s : State) : (s.hallSync).psto.go = s.psto.go := congrArg (·.go) (rep_hallSync s ).psto
@[simp] theorem hallSync_psto_result (s : State) : (s.hallSync).psto.result = s.psto.result := congrArg (·.result) (rep_hallSync s ).psto
@[simp] theorem hallSync_psto_page (s : State) : (s.hallSync).psto.page = s.psto.page := congrArg (·.page) (rep_hallSync s ).psto
@[simp] theorem hallSync_psto_data (s : State) : (s.hallSync).psto.data = s.psto.data := congrArg (·.data) (rep_hallSync s ).psto
@[simp] theorem hallSync_psto_wcount (s : State) : (s.hallSync).psto.wcount = s.psto.wcount := congrArg (·.wcount) (rep_hallSync s ).psto
@[simp] theorem raise_cxlp_up (s : State) (c v r p q w : Nat) : (s.raise c v r p q w).cxlp.up = s.cxlp.up := congrArg (·.up) (rep_raise s c v r p q w).cxlp
@[simp] theorem raise_cxlp_width (s : State) (c v r p q w : Nat) : (s.raise c v r p q w).cxlp.width = s.cxlp.width := congrArg (·.width) (rep_raise s c v r p q w).cxlp
@[simp] theorem raise_cxlp_rate (s : State) (c v r p q w : Nat) : (s.raise c v r p q w).cxlp.rate = s.cxlp.rate := congrArg (·.rate) (rep_raise s c v r p q w).cxlp
@[simp] theorem raise_cxlp_flit256 (s : State) (c v r p q w : Nat) : (s.raise c v r p q w).cxlp.flit256 = s.cxlp.flit256 := congrArg (·.flit256) (rep_raise s c v r p q w).cxlp
@[simp] theorem raise_cxlp_lopt (s : State) (c v r p q w : Nat) : (s.raise c v r p q w).cxlp.lopt = s.cxlp.lopt := congrArg (·.lopt) (rep_raise s c v r p q w).cxlp
@[simp] theorem raise_cxlp_memen (s : State) (c v r p q w : Nat) : (s.raise c v r p q w).cxlp.memen = s.cxlp.memen := congrArg (·.memen) (rep_raise s c v r p q w).cxlp
@[simp] theorem raise_cxlp_capWidth (s : State) (c v r p q w : Nat) : (s.raise c v r p q w).cxlp.capWidth = s.cxlp.capWidth := congrArg (·.capWidth) (rep_raise s c v r p q w).cxlp
@[simp] theorem raise_cxlp_capRate (s : State) (c v r p q w : Nat) : (s.raise c v r p q w).cxlp.capRate = s.cxlp.capRate := congrArg (·.capRate) (rep_raise s c v r p q w).cxlp
@[simp] theorem raise_cxlp_training (s : State) (c v r p q w : Nat) : (s.raise c v r p q w).cxlp.training = s.cxlp.training := congrArg (·.training) (rep_raise s c v r p q w).cxlp
@[simp] theorem raise_cxlp_l1ok (s : State) (c v r p q w : Nat) : (s.raise c v r p q w).cxlp.l1ok = s.cxlp.l1ok := congrArg (·.l1ok) (rep_raise s c v r p q w).cxlp
@[simp] theorem raise_cxlp_l12ok (s : State) (c v r p q w : Nat) : (s.raise c v r p q w).cxlp.l12ok = s.cxlp.l12ok := congrArg (·.l12ok) (rep_raise s c v r p q w).cxlp
@[simp] theorem raise_cxlp_portctl (s : State) (c v r p q w : Nat) : (s.raise c v r p q w).cxlp.portctl = s.cxlp.portctl := congrArg (·.portctl) (rep_raise s c v r p q w).cxlp
@[simp] theorem raise_cxlp_evict (s : State) (c v r p q w : Nat) : (s.raise c v r p q w).cxlp.evict = s.cxlp.evict := congrArg (·.evict) (rep_raise s c v r p q w).cxlp
@[simp] theorem raise_cxlp_stopped (s : State) (c v r p q w : Nat) : (s.raise c v r p q w).cxlp.stopped = s.cxlp.stopped := congrArg (·.stopped) (rep_raise s c v r p q w).cxlp
@[simp] theorem raise_cxlp_decoders (s : State) (c v r p q w : Nat) : (s.raise c v r p q w).cxlp.decoders = s.cxlp.decoders := congrArg (·.decoders) (rep_raise s c v r p q w).cxlp
@[simp] theorem raise_cxlp_filter (s : State) (c v r p q w : Nat) : (s.raise c v r p q w).cxlp.filter = s.cxlp.filter := congrArg (·.filter) (rep_raise s c v r p q w).cxlp
@[simp] theorem raise_cxlp_filtOrder (s : State) (c v r p q w : Nat) : (s.raise c v r p q w).cxlp.filtOrder = s.cxlp.filtOrder := congrArg (·.filtOrder) (rep_raise s c v r p q w).cxlp
@[simp] theorem raise_cxlp_biOut (s : State) (c v r p q w : Nat) : (s.raise c v r p q w).cxlp.biOut = s.cxlp.biOut := congrArg (·.biOut) (rep_raise s c v r p q w).cxlp
@[simp] theorem raise_cxlp_biHold (s : State) (c v r p q w : Nat) : (s.raise c v r p q w).cxlp.biHold = s.cxlp.biHold := congrArg (·.biHold) (rep_raise s c v r p q w).cxlp
@[simp] theorem raise_cxlp_dirtyWait (s : State) (c v r p q w : Nat) : (s.raise c v r p q w).cxlp.dirtyWait = s.cxlp.dirtyWait := congrArg (·.dirtyWait) (rep_raise s c v r p q w).cxlp
@[simp] theorem raise_cxlp_zeroWait (s : State) (c v r p q w : Nat) : (s.raise c v r p q w).cxlp.zeroWait = s.cxlp.zeroWait := congrArg (·.zeroWait) (rep_raise s c v r p q w).cxlp
@[simp] theorem raise_cxlp_reads (s : State) (c v r p q w : Nat) : (s.raise c v r p q w).cxlp.reads = s.cxlp.reads := congrArg (·.reads) (rep_raise s c v r p q w).cxlp
@[simp] theorem raise_cxlp_lastReq (s : State) (c v r p q w : Nat) : (s.raise c v r p q w).cxlp.lastReq = s.cxlp.lastReq := congrArg (·.lastReq) (rep_raise s c v r p q w).cxlp
@[simp] theorem raise_cxlp_viral (s : State) (c v r p q w : Nat) : (s.raise c v r p q w).cxlp.viral = s.cxlp.viral := congrArg (·.viral) (rep_raise s c v r p q w).cxlp
@[simp] theorem raise_cxlp_poisonList (s : State) (c v r p q w : Nat) : (s.raise c v r p q w).cxlp.poisonList = s.cxlp.poisonList := congrArg (·.poisonList) (rep_raise s c v r p q w).cxlp
@[simp] theorem raise_cxlp_poisonOver (s : State) (c v r p q w : Nat) : (s.raise c v r p q w).cxlp.poisonOver = s.cxlp.poisonOver := congrArg (·.poisonOver) (rep_raise s c v r p q w).cxlp
@[simp] theorem raise_cxlp_gpf (s : State) (c v r p q w : Nat) : (s.raise c v r p q w).cxlp.gpf = s.cxlp.gpf := congrArg (·.gpf) (rep_raise s c v r p q w).cxlp
@[simp] theorem raise_cxlp_msixMask (s : State) (c v r p q w : Nat) : (s.raise c v r p q w).cxlp.msixMask = s.cxlp.msixMask := congrArg (·.msixMask) (rep_raise s c v r p q w).cxlp
@[simp] theorem raise_cxlp_latency (s : State) (c v r p q w : Nat) : (s.raise c v r p q w).cxlp.latency = s.cxlp.latency := congrArg (·.latency) (rep_raise s c v r p q w).cxlp
@[simp] theorem raise_evtr_ctrl (s : State) (c v r p q w : Nat) : (s.raise c v r p q w).evtr.ctrl = s.evtr.ctrl := congrArg (·.ctrl) (rep_raise s c v r p q w).evtr
@[simp] theorem raise_evtr_save (s : State) (c v r p q w : Nat) : (s.raise c v r p q w).evtr.save = s.evtr.save := congrArg (·.save) (rep_raise s c v r p q w).evtr
@[simp] theorem raise_evtr_inccfg (s : State) (c v r p q w : Nat) : (s.raise c v r p q w).evtr.inccfg = s.evtr.inccfg := congrArg (·.inccfg) (rep_raise s c v r p q w).evtr
@[simp] theorem raise_evtr_imod (s : State) (c v r p q w : Nat) : (s.raise c v r p q w).evtr.imod = s.evtr.imod := congrArg (·.imod) (rep_raise s c v r p q w).evtr
@[simp] theorem raise_evtr_rcsel (s : State) (c v r p q w : Nat) : (s.raise c v r p q w).evtr.rcsel = s.evtr.rcsel := congrArg (·.rcsel) (rep_raise s c v r p q w).evtr
@[simp] theorem raise_evtr_rates (s : State) (c v r p q w : Nat) : (s.raise c v r p q w).evtr.rates = s.evtr.rates := congrArg (·.rates) (rep_raise s c v r p q w).evtr
@[simp] theorem raise_evtr_rcmap (s : State) (c v r p q w : Nat) : (s.raise c v r p q w).evtr.rcmap = s.evtr.rcmap := congrArg (·.rcmap) (rep_raise s c v r p q w).evtr
@[simp] theorem raise_psto_bytes (s : State) (c v r p q w : Nat) : (s.raise c v r p q w).psto.bytes = s.psto.bytes := congrArg (·.bytes) (rep_raise s c v r p q w).psto
@[simp] theorem raise_psto_copies (s : State) (c v r p q w : Nat) : (s.raise c v r p q w).psto.copies = s.psto.copies := congrArg (·.copies) (rep_raise s c v r p q w).psto
@[simp] theorem raise_psto_major (s : State) (c v r p q w : Nat) : (s.raise c v r p q w).psto.major = s.psto.major := congrArg (·.major) (rep_raise s c v r p q w).psto
@[simp] theorem raise_psto_migrates (s : State) (c v r p q w : Nat) : (s.raise c v r p q w).psto.migrates = s.psto.migrates := congrArg (·.migrates) (rep_raise s c v r p q w).psto
@[simp] theorem raise_psto_recalling (s : State) (c v r p q w : Nat) : (s.raise c v r p q w).psto.recalling = s.psto.recalling := congrArg (·.recalling) (rep_raise s c v r p q w).psto
@[simp] theorem raise_psto_prot (s : State) (c v r p q w : Nat) : (s.raise c v r p q w).psto.prot = s.psto.prot := congrArg (·.prot) (rep_raise s c v r p q w).psto
@[simp] theorem raise_psto_op (s : State) (c v r p q w : Nat) : (s.raise c v r p q w).psto.op = s.psto.op := congrArg (·.op) (rep_raise s c v r p q w).psto
@[simp] theorem raise_psto_go (s : State) (c v r p q w : Nat) : (s.raise c v r p q w).psto.go = s.psto.go := congrArg (·.go) (rep_raise s c v r p q w).psto
@[simp] theorem raise_psto_result (s : State) (c v r p q w : Nat) : (s.raise c v r p q w).psto.result = s.psto.result := congrArg (·.result) (rep_raise s c v r p q w).psto
@[simp] theorem raise_psto_page (s : State) (c v r p q w : Nat) : (s.raise c v r p q w).psto.page = s.psto.page := congrArg (·.page) (rep_raise s c v r p q w).psto
@[simp] theorem raise_psto_data (s : State) (c v r p q w : Nat) : (s.raise c v r p q w).psto.data = s.psto.data := congrArg (·.data) (rep_raise s c v r p q w).psto
@[simp] theorem raise_psto_wcount (s : State) (c v r p q w : Nat) : (s.raise c v r p q w).psto.wcount = s.psto.wcount := congrArg (·.wcount) (rep_raise s c v r p q w).psto

end Sys2Proof.Machine
end

