-- ==== Sys2Proof/Laws/Table.lean ====
section
/-!
SUPPORT. The laws of sparse tables: a value read after it is written, the others unchanged, and the canonical form kept by every
operation.
-/
namespace Sys2Proof.Machine

open Sys2Proof

variable {α : Type}

@[simp] theorem tget_nil (d : α) (k : Nat) : tget d [] k = d := rfl

theorem tget_tins_same (d : α) (k : Nat) (v : α) (t : Tbl α) : tget d (tins k v t) k = v := by
  induction t with
  | nil => simp [tins, tget]
  | cons e t ih =>
    obtain ⟨j, w⟩ := e
    simp only [tins]
    split
    · simp [tget]
    · split
      · simp [tget]
      · rename_i h; simp [tget, Ne.symm h, ih]

theorem tget_tins_other (d : α) {k j : Nat} (v : α) (t : Tbl α) (h : j ≠ k) : tget d (tins k v t) j = tget d t j := by
  induction t with
  | nil => simp [tins, tget, Ne.symm h]
  | cons e t ih =>
    obtain ⟨i, w⟩ := e
    simp only [tins]
    split
    · simp [tget, Ne.symm h]
    · split
      · rename_i hk; subst hk; simp [tget, Ne.symm h]
      · simp only [tget, ih]

theorem tget_tdel_same (d : α) (k : Nat) (t : Tbl α) : tget d (tdel k t) k = d := by
  induction t with
  | nil => rfl
  | cons e t ih =>
    obtain ⟨j, w⟩ := e
    simp only [tdel]
    split
    · exact ih
    · rename_i h; simp [tget, h, ih]

theorem tget_tdel_other (d : α) {k j : Nat} (t : Tbl α) (h : j ≠ k) : tget d (tdel k t) j = tget d t j := by
  induction t with
  | nil => rfl
  | cons e t ih =>
    obtain ⟨i, w⟩ := e
    simp only [tdel]
    split
    · rename_i hk; subst hk; simp [tget, Ne.symm h, ih]
    · simp only [tget, ih]

variable [DecidableEq α]

/-- A value read after it is written. -/
@[simp] theorem tget_tput_same (d : α) (t : Tbl α) (k : Nat) (v : α) : tget d (tput d t k v) k = v := by
  unfold tput
  split
  · rename_i h; rw [tget_tdel_same, h]
  · exact tget_tins_same ..

/-- A write leaves every other key alone. -/
theorem tget_tput_other (d : α) (t : Tbl α) {k j : Nat} (v : α) (h : j ≠ k) : tget d (tput d t k v) j = tget d t j := by
  unfold tput
  split
  · exact tget_tdel_other d t h
  · exact tget_tins_other d v t h

@[simp] theorem tget_tmod_same (d : α) (t : Tbl α) (k : Nat) (f : α → α) : tget d (tmod d t k f) k = f (tget d t k) := by
  simp [tmod]

theorem tget_tmod_other (d : α) (t : Tbl α) {k j : Nat} (f : α → α) (h : j ≠ k) : tget d (tmod d t k f) j = tget d t j :=
  tget_tput_other d t _ h

/-! ### The canonical form -/

theorem tblOk_weaken (d : α) {lo lo' : Nat} (t : Tbl α) (h : lo' ≤ lo) (w : tblOk d lo t = true) : tblOk d lo' t = true := by
  cases t with
  | nil => rfl
  | cons e t =>
    obtain ⟨k, v⟩ := e
    simp only [tblOk, Bool.and_eq_true, decide_eq_true_eq] at w ⊢
    exact ⟨⟨by omega, w.1.2⟩, w.2⟩

theorem tblOk_tins (d : α) {lo k : Nat} (v : α) (t : Tbl α) (hk : lo ≤ k) (hv : v ≠ d) (w : tblOk d lo t = true) :
    tblOk d lo (tins k v t) = true := by
  induction t generalizing lo with
  | nil => simp [tins, tblOk, hk, hv]
  | cons e t ih =>
    obtain ⟨j, u⟩ := e
    simp only [tblOk, Bool.and_eq_true, decide_eq_true_eq] at w
    simp only [tins]
    split
    · simp only [tblOk, Bool.and_eq_true, decide_eq_true_eq]
      exact ⟨⟨hk, hv⟩, ⟨by omega, w.1.2⟩, w.2⟩
    · split
      · rename_i h; subst h
        simp only [tblOk, Bool.and_eq_true, decide_eq_true_eq]
        exact ⟨⟨hk, hv⟩, w.2⟩
      · simp only [tblOk, Bool.and_eq_true, decide_eq_true_eq]
        exact ⟨w.1, ih (by omega) w.2⟩

theorem tblOk_tdel (d : α) {lo k : Nat} (t : Tbl α) (w : tblOk d lo t = true) : tblOk d lo (tdel k t) = true := by
  induction t generalizing lo with
  | nil => rfl
  | cons e t ih =>
    obtain ⟨j, u⟩ := e
    simp only [tblOk, Bool.and_eq_true, decide_eq_true_eq] at w
    simp only [tdel]
    split
    · exact tblOk_weaken d _ (by omega) (ih w.2)
    · simp only [tblOk, Bool.and_eq_true, decide_eq_true_eq]
      exact ⟨w.1, ih w.2⟩

/-- A write keeps the canonical form. -/
theorem tput_wf (d : α) (t : Tbl α) (k : Nat) (v : α) (w : Tbl.wf d t = true) : Tbl.wf d (tput d t k v) = true := by
  unfold tput
  split
  · exact tblOk_tdel d t w
  · rename_i h; exact tblOk_tins d v t (Nat.zero_le k) h w

/-- A change of one entry keeps the canonical form. -/
theorem tmod_wf (d : α) (t : Tbl α) (k : Nat) (f : α → α) (w : Tbl.wf d t = true) : Tbl.wf d (tmod d t k f) = true :=
  tput_wf d t k _ w

/-- A run of writes keeps the canonical form. -/
theorem tputs_wf (d : α) (t : Tbl α) (k : Nat) (vs : List α) (w : Tbl.wf d t = true) : Tbl.wf d (tputs d t k vs) = true := by
  induction vs generalizing t k with
  | nil => exact w
  | cons v vs ih => exact ih _ _ (tput_wf d t k v w)

end Sys2Proof.Machine
end

