-- ==== Sys2Proof/Laws/Headers.lean ====
section
/-!
SUPPORT. What the reporting operations do to the block headers: cause bits, captured errors, and the admission of records, which touches
EVTR's header alone.
-/
namespace Sys2Proof.Machine

@[simp] theorem modHdr_hdr_same (s : State) (b : Block) (f : Hdr → Hdr) : (s.modHdr b f).hdr b = f (s.hdr b) := by
  simp [State.modHdr, State.hdr]

theorem modHdr_hdr_other (s : State) {b c : Block} (f : Hdr → Hdr) (h : c.page ≠ b.page) : (s.modHdr b f).hdr c = s.hdr c :=
  tget_tmod_other _ _ f h

@[simp] theorem send_hall (s : State) (o : Out) : (s.send o).hall = s.hall := rfl
@[simp] theorem message_hall (s : State) (v : Nat) : (s.message v).hall = s.hall := by unfold State.message; split <;> rfl
@[simp] theorem raise_hall (s : State) (c v r p q w : Nat) : (s.raise c v r p q w).hall = s.hall := by
  unfold State.raise; (repeat' split) <;> rfl
@[simp] theorem causeRecord_hall (s : State) (b : Block) (i v : Nat) : (s.causeRecord b i v).hall = s.hall := by
  unfold State.causeRecord; split <;> simp
@[simp] theorem errorRecord_hall (s : State) (b : Block) (c a v : Nat) : (s.errorRecord b c a v).hall = s.hall := by
  unfold State.errorRecord; split <;> simp
@[simp] theorem changeRecord_hall (s : State) (b : Block) (r o n v : Nat) : (s.changeRecord b r o n v).hall = s.hall := raise_hall ..
@[simp] theorem namedRecord_hall (s : State) (b : Block) (p q r v : Nat) : (s.namedRecord b p q r v).hall = s.hall := raise_hall ..
@[simp] theorem modRecord_hall (s : State) (t : Nat) (f : RecSlot → RecSlot) : (s.modRecord t f).hall = s.hall := rfl
@[simp] theorem queuePage_hall (s : State) (w : PageWrite) : (s.queuePage w).hall = s.hall := rfl
@[simp] theorem setRecord_hall (s : State) (t : Nat) (b : Rec) : (s.setRecord t b).hall = s.hall := rfl

theorem foldl_hall {α : Type} {f : State → α → State} (h : ∀ s a, (f s a).hall = s.hall) (s : State) (l : List α) :
    (l.foldl f s).hall = s.hall := by
  induction l generalizing s with
  | nil => rfl
  | cons a l ih => exact (ih _).trans (h s a)

@[simp] theorem startRecord_hall (s : State) (t : Nat) : (s.startRecord t).hall = s.hall := by
  simp only [State.startRecord]; rw [foldl_hall (fun _ _ => by rfl)]; rfl
@[simp] theorem writeRecord_hall (s : State) (t : Nat) : (s.writeRecord t).hall = s.hall := by
  simp only [State.writeRecord]; (repeat' split) <;> simp
@[simp] theorem hostRecord_hall (s : State) (t : Nat) : (s.hostRecord t).hall = s.hall := by
  simp only [State.hostRecord]; (repeat' split) <;> simp

/-- A header is read through HALL's table alone. -/
theorem hdr_of_hall {s t : State} (h : s.hall = t.hall) (b : Block) : s.hdr b = t.hdr b := by unfold State.hdr; rw [h]

@[simp] theorem send_hdr (s : State) (o : Out) (b : Block) : (s.send o).hdr b = s.hdr b := rfl
@[simp] theorem raise_hdr (s : State) (c v r p q w : Nat) (b : Block) : (s.raise c v r p q w).hdr b = s.hdr b := hdr_of_hall (by simp) b
@[simp] theorem changeRecord_hdr (s : State) (b : Block) (r o n v : Nat) (c : Block) : (s.changeRecord b r o n v).hdr c = s.hdr c :=
  hdr_of_hall (by simp) c
@[simp] theorem namedRecord_hdr (s : State) (b : Block) (p q r v : Nat) (c : Block) : (s.namedRecord b p q r v).hdr c = s.hdr c :=
  hdr_of_hall (by simp) c
@[simp] theorem writeRecord_hdr (s : State) (t : Nat) (b : Block) : (s.writeRecord t).hdr b = s.hdr b := hdr_of_hall (by simp) b
@[simp] theorem hostRecord_hdr (s : State) (t : Nat) (b : Block) : (s.hostRecord t).hdr b = s.hdr b := hdr_of_hall (by simp) b
@[simp] theorem setRecord_hdr (s : State) (t : Nat) (r : Rec) (b : Block) : (s.setRecord t r).hdr b = s.hdr b := rfl

@[simp] theorem signal_hdr_same (s : State) (b : Block) (w : Bool) (f : Hdr → Hdr) : (s.signal b w f).hdr b = f (s.hdr b) := by
  simp only [State.signal]
  split
  · rw [hdr_of_hall (message_hall _ _), modHdr_hdr_same]
  · exact modHdr_hdr_same s b f

theorem signal_hdr_other (s : State) {b c : Block} (w : Bool) (f : Hdr → Hdr) (h : c.page ≠ b.page) : (s.signal b w f).hdr c = s.hdr c := by
  simp only [State.signal]
  split
  · rw [hdr_of_hall (message_hall _ _), modHdr_hdr_other s f h]
  · exact modHdr_hdr_other s f h

/-- A unit that cannot be retired alone is never silent. -/
theorem silent_of_fixed (s : State) {b : Block} (h : b.retirable = false) : s.silent b = false := by simp [State.silent, h]

/-- A unit in service is not silent (R114). -/
theorem silent_of_serving {s : State} {b : Block} (h : (s.hdr b).outsvc = false) : s.silent b = false := by simp [State.silent, h]

@[simp] theorem reportCause_hdr_same (s : State) (b : Block) (n : Nat) :
    (s.reportCause b n).hdr b = { s.hdr b with istat := (s.hdr b).istat ||| n } := signal_hdr_same ..

/-- A cause bit is set unless the unit is out of service (R114). -/
@[simp] theorem setCause_hdr_same (s : State) (b : Block) (n : Nat) :
    (s.setCause b n).hdr b = if s.silent b then s.hdr b else { s.hdr b with istat := (s.hdr b).istat ||| n } := by
  unfold State.setCause
  split
  · rfl
  · exact signal_hdr_same ..

theorem setCause_hdr_other (s : State) {b c : Block} (n : Nat) (h : c.page ≠ b.page) : (s.setCause b n).hdr c = s.hdr c := by
  unfold State.setCause
  split
  · rfl
  · exact signal_hdr_other s _ _ h

/-- Setting causes of a block leaves alone whether it is silent. -/
@[simp] theorem setCause_silent (s : State) (b : Block) (n : Nat) : (s.setCause b n).silent b = s.silent b := by
  unfold State.silent
  rw [setCause_hdr_same]
  cases s.silent b <;> rfl

/-- A cause sets its bit and nothing else of its header. -/
@[simp] theorem cause_hdr_same (s : State) (b : Block) (i v : Nat) :
    (s.cause b i v).hdr b = if s.silent b then s.hdr b else { s.hdr b with istat := (s.hdr b).istat ||| 2 ^ i } := by
  unfold State.cause
  split
  · rfl
  · rename_i h
    rw [hdr_of_hall (causeRecord_hall ..), setCause_hdr_same, if_neg h]

theorem cause_hdr_other (s : State) {b c : Block} (i v : Nat) (h : c.page ≠ b.page) : (s.cause b i v).hdr c = s.hdr c := by
  unfold State.cause
  split
  · rfl
  · rw [hdr_of_hall (causeRecord_hall ..), setCause_hdr_other s _ h]

/-- An error captured in an empty ERRSTAT fills it and sets ISTAT.ERR, unless the unit is out of service; a later one sets MULTI (R118, R114). -/
theorem captureAs_hdr_same (s : State) (b : Block) (c a : Nat) (q : Bool) :
    (s.captureAs b c a q).hdr b =
      if (s.hdr b).evalid then { s.hdr b with emulti := true }
      else { s.hdr b with ecode := c % 256, eaddr := a % 2 ^ 28, evalid := true, istat := (s.hdr b).istat ||| (if q then 0 else 1) } := by
  unfold State.captureAs
  split
  · exact modHdr_hdr_same ..
  · exact signal_hdr_same ..

theorem captureAs_hdr_other (s : State) {b d : Block} (c a : Nat) (q : Bool) (h : d.page ≠ b.page) :
    (s.captureAs b c a q).hdr d = s.hdr d := by
  unfold State.captureAs
  split
  · exact modHdr_hdr_other s _ h
  · exact signal_hdr_other s _ _ h

/-- The header after an error of a unit in service, with the cause bits of the same occurrence. -/
theorem error_hdr_same (s : State) {b : Block} (c a n v : Nat) (h : s.silent b = false) :
    (s.error b c a n v).hdr b =
      if (s.hdr b).evalid then { s.hdr b with emulti := true, istat := (s.hdr b).istat ||| n }
      else { s.hdr b with ecode := c % 256, eaddr := a % 2 ^ 28, evalid := true, istat := (s.hdr b).istat ||| n ||| 1 } := by
  unfold State.error State.capture
  rw [hdr_of_hall (errorRecord_hall ..), captureAs_hdr_same]
  by_cases hn : n = 0
  · simp [hn, h]
  · simp [hn, h]

theorem error_hdr_other (s : State) {b d : Block} (c a n v : Nat) (h : d.page ≠ b.page) : (s.error b c a n v).hdr d = s.hdr d := by
  unfold State.error State.capture
  rw [hdr_of_hall (errorRecord_hall ..), captureAs_hdr_other _ _ _ _ h]
  split
  · rfl
  · exact setCause_hdr_other s _ h

/-! ### The admission of records -/

/-- Of the headers, at most EVTR's differs, and HALL's generation stays. -/
def QuietHdr (s t : State) : Prop :=
  (∀ b : Block, b.page ≠ 5 → t.hdr b = s.hdr b) ∧ t.hall.gen = s.hall.gen ∧ t.hall.view = s.hall.view

theorem QuietHdr.of_hall {s t : State} (h : t.hall = s.hall) : QuietHdr s t := ⟨fun b _ => hdr_of_hall h b, by rw [h], by rw [h]⟩
theorem QuietHdr.trans {s t u : State} (h : QuietHdr s t) (g : QuietHdr t u) : QuietHdr s u :=
  ⟨fun b hb => (g.1 b hb).trans (h.1 b hb), g.2.1.trans h.2.1, g.2.2.trans h.2.2⟩
theorem QuietHdr.when {s t : State} (c : Prop) [Decidable c] (h : QuietHdr s t) : QuietHdr s (if c then t else s) := by
  split
  · exact h
  · exact .of_hall rfl

theorem quiet_evtrCause (s : State) (n : Nat) : QuietHdr s (s.setCause .evtr n) := by
  refine ⟨fun b hb => setCause_hdr_other s n hb, ?_, ?_⟩ <;>
  · simp only [State.setCause, silent_of_fixed s (b := .evtr) rfl, State.reportCause, State.signal, Bool.false_eq_true, if_false]
    split
    · rw [message_hall]; rfl
    · rfl

theorem quiet_setNewrec (s : State) : QuietHdr s s.setNewrec := by
  unfold State.setNewrec
  split
  · exact .of_hall rfl
  · exact (quiet_evtrCause s _).trans (.of_hall rfl)

theorem ite_hall {c : Prop} [Decidable c] {x : Hall} {a b : State} (h : a.hall = x) (g : b.hall = x) : (if c then a else b).hall = x := by
  split
  · exact h
  · exact g
theorem ite_raised {c : Prop} [Decidable c] {x : List EvRec} {a b : State} (h : a.raised = x) (g : b.raised = x) :
    (if c then a else b).raised = x := by
  split
  · exact h
  · exact g

theorem critPage1_hall (s : State) : s.critPage1.hall = s.hall := by
  simp only [State.critPage1]; exact ite_hall rfl (queuePage_hall ..)
theorem critPut_hall (s : State) (r : EvRec) : (s.critPut r).hall = s.hall := by
  simp only [State.critPut]; exact ite_hall (critPage1_hall _) rfl
theorem flushLog_hall (s : State) : s.flushLog.hall = s.hall := by
  simp only [State.flushLog]; exact ite_hall rfl rfl
theorem logPut_hall (s : State) (r : EvRec) : (s.logPut r).hall = s.hall := by
  simp only [State.logPut]; exact ite_hall (flushLog_hall _) rfl
theorem quiet_mainPut (s : State) (r : EvRec) : QuietHdr s (s.mainPut r) := by
  simp only [State.mainPut]
  exact QuietHdr.trans (t := { s with evtr := _ }) (.of_hall rfl) (QuietHdr.when _ (quiet_evtrCause _ _))

theorem quiet_storeRecord (s : State) (r : EvRec) : QuietHdr s (s.storeRecord r) := by
  simp only [State.storeRecord]
  refine (QuietHdr.when (s := s) (t := s.aonPut r) ((decide (3 ≤ r.sev) || r.ofFault || !s.evtr.mainRun) = true) (.of_hall rfl)).trans ?_
  generalize (if (decide (3 ≤ r.sev) || r.ofFault || !s.evtr.mainRun) = true then s.aonPut r else s) = a
  refine (QuietHdr.when (a.evtr.mainRun = true) (quiet_mainPut a r)).trans ?_
  generalize (if a.evtr.mainRun = true then a.mainPut r else a) = b
  refine (QuietHdr.when ((b.evtr.mainRun && decide (b.evtr.logsev ≤ r.sev)) = true) (.of_hall (logPut_hall b r))).trans ?_
  generalize (if (b.evtr.mainRun && decide (b.evtr.logsev ≤ r.sev)) = true then b.logPut r else b) = c
  refine (QuietHdr.when ((c.evtr.mainRun && decide (r.sev = 5)) = true) (.of_hall (critPut_hall c r))).trans ?_
  generalize (if (c.evtr.mainRun && decide (r.sev = 5)) = true then c.critPut r else c) = d
  refine (QuietHdr.when (r.sev = 5) (quiet_evtrCause d (2 ^ 2))).trans ?_
  exact QuietHdr.when _ (quiet_setNewrec _)

theorem takeSeq_hall (s : State) : s.takeSeq.hall = s.hall := by
  simp only [State.takeSeq]; exact ite_hall (writeRecord_hall ..) rfl

theorem quiet_enrol (s : State) (r : EvRec) : QuietHdr s (s.enrol r) := by
  simp only [State.enrol]
  split
  · exact .of_hall rfl
  · have ite {c : Prop} [Decidable c] {a b : State} (h : QuietHdr s a) (g : QuietHdr s b) : QuietHdr s (if c then a else b) := by
      split
      · exact h
      · exact g
    have seq (e : Evtr) : QuietHdr s (State.takeSeq { s with evtr := e }) := .of_hall (takeSeq_hall { s with evtr := e })
    have shed (t : State) (e : Evtr) (h : QuietHdr s t) : QuietHdr s { t with evtr := e } := h.trans (.of_hall rfl)
    exact ite (shed _ _ (seq _)) ((seq _).trans (quiet_storeRecord _ _))

theorem quiet_enrols (l : List EvRec) (s : State) : QuietHdr s (l.foldl State.enrol s) := by
  induction l generalizing s with
  | nil => exact .of_hall rfl
  | cons r l ih => exact (quiet_enrol s r).trans (ih _)

/-- The end of a command changes no header but EVTR's. -/
theorem settle_hdr (s : State) {b : Block} (h : b.page ≠ 5) : s.settle.hdr b = s.hdr b :=
  (quiet_enrols _ { s with raised := [] }).1 b h

@[simp] theorem settle_gen (s : State) : s.settle.hall.gen = s.hall.gen := (quiet_enrols _ { s with raised := [] }).2.1

/-! ### No record is left behind -/

@[simp] theorem setCause_raised (s : State) (b : Block) (n : Nat) : (s.setCause b n).raised = s.raised := by
  simp only [State.setCause, State.reportCause, State.signal, State.message]
  (repeat' split) <;> rfl

theorem critPage1_raised (s : State) : s.critPage1.raised = s.raised := by
  simp only [State.critPage1]; exact ite_raised rfl rfl
theorem flushLog_raised (s : State) : s.flushLog.raised = s.raised := by
  simp only [State.flushLog]; exact ite_raised rfl rfl
theorem foldl_raised {α : Type} {f : State → α → State} (h : ∀ s a, (f s a).raised = s.raised) (s : State) (l : List α) :
    (l.foldl f s).raised = s.raised := by
  induction l generalizing s with
  | nil => rfl
  | cons a l ih => exact (ih _).trans (h s a)
theorem startRecord_raised (s : State) (t : Nat) : (s.startRecord t).raised = s.raised := by
  simp only [State.startRecord]; rw [foldl_raised (fun _ _ => by rfl)]; rfl
theorem writeRecord_raised (s : State) (t : Nat) : (s.writeRecord t).raised = s.raised := by
  simp only [State.writeRecord]
  (repeat' split) <;> (try rw [startRecord_raised]) <;> rfl
theorem takeSeq_raised (s : State) : s.takeSeq.raised = s.raised := by
  simp only [State.takeSeq]; exact ite_raised (writeRecord_raised ..) rfl
theorem setNewrec_raised (s : State) : s.setNewrec.raised = s.raised := by
  unfold State.setNewrec; exact ite_raised rfl (setCause_raised ..)
theorem mainPut_raised (s : State) (r : EvRec) : (s.mainPut r).raised = s.raised := by
  simp only [State.mainPut]; exact ite_raised (setCause_raised ..) rfl
theorem logPut_raised (s : State) (r : EvRec) : (s.logPut r).raised = s.raised := by
  simp only [State.logPut]; exact ite_raised (flushLog_raised _) rfl
theorem critPut_raised (s : State) (r : EvRec) : (s.critPut r).raised = s.raised := by
  simp only [State.critPut]; exact ite_raised (critPage1_raised _) rfl
theorem storeRecord_raised (s : State) (r : EvRec) : (s.storeRecord r).raised = s.raised := by
  have when {c : Prop} [Decidable c] {a b : State} (h : b.raised = a.raised) : (if c then b else a).raised = a.raised := by
    split
    · exact h
    · rfl
  simp only [State.storeRecord]
  rw [when (setNewrec_raised _), when (setCause_raised ..), when (critPut_raised ..), when (logPut_raised ..), when (mainPut_raised ..),
    when (by rfl)]
theorem enrol_raised (s : State) (r : EvRec) : (s.enrol r).raised = s.raised := by
  simp only [State.enrol]
  split
  · rfl
  · have seq (e : Evtr) : (State.takeSeq { s with evtr := e }).raised = s.raised := takeSeq_raised { s with evtr := e }
    exact ite_raised (seq _) ((storeRecord_raised ..).trans (seq _))

/-- The end of a command leaves no record raised. -/
@[simp] theorem settle_raised (s : State) : s.settle.raised = [] :=
  foldl_raised enrol_raised { s with raised := [] } _

end Sys2Proof.Machine
end

