-- ==== Sys2Proof/Laws/Ends.lean ====
section
/-!
SUPPORT. The end of a command: with no record raised it changes nothing, and what was sent stays sent.
-/
namespace Sys2Proof.Machine

/-- With no record raised the end of a command changes nothing. -/
theorem settle_quiet {s : State} (h : s.raised = []) : s.settle = s := by
  obtain ⟨⟩ := s
  simp only at h
  subst h
  rfl

/-- A command whose effect raises no record answers that effect. -/
theorem finish_quiet {s : State} (h : s.raised = []) : finish s = .next s := congrArg Host.Outcome.next (settle_quiet h)

/-- What was sent in `s` was sent in `t`. -/
structure Sent (s t : State) : Prop where
  kept : ∀ x, x ∈ s.out → x ∈ t.out

theorem Sent.rfl {s : State} : Sent s s := ⟨fun _ => id⟩

theorem Sent.of_out {s t : State} (h : t.out = s.out) : Sent s t := ⟨fun _ hx => by rw [h]; exact hx⟩
theorem Sent.trans {s t u : State} (h : Sent s t) (g : Sent t u) : Sent s u := ⟨fun x hx => g.kept x (h.kept x hx)⟩
theorem Sent.after {s t u : State} (g : Sent t u) (h : Sent s t) : Sent s u := h.trans g
theorem Sent.ite {s t u : State} {c : Prop} [Decidable c] (h : Sent s t) (g : Sent s u) : Sent s (if c then t else u) := by
  split
  · exact h
  · exact g
theorem Sent.foldl {α : Type} {f : State → α → State} (h : ∀ s a, Sent s (f s a)) (s : State) (l : List α) : Sent s (l.foldl f s) := by
  induction l generalizing s with
  | nil => exact .rfl
  | cons a l ih => exact (h s a).trans (ih _)

theorem sent_send (s : State) (o : Out) : Sent s (s.send o) := ⟨fun _ => List.mem_cons_of_mem _⟩
theorem sent_modHdr (s : State) (b : Block) (f : Hdr → Hdr) : Sent s (s.modHdr b f) := .of_out rfl
theorem sent_message (s : State) (v : Nat) : Sent s (s.message v) := by
  unfold State.message; exact .ite (.of_out rfl) (sent_send ..)
theorem sent_signal (s : State) (b : Block) (w : Bool) (f : Hdr → Hdr) : Sent s (s.signal b w f) := by
  simp only [State.signal]
  exact .ite ((sent_modHdr s b f).trans (sent_message ..)) (sent_modHdr s b f)
theorem sent_setCause (s : State) (b : Block) (n : Nat) : Sent s (s.setCause b n) := by
  unfold State.setCause; exact .ite .rfl (sent_signal ..)
theorem sent_captureAs (s : State) (b : Block) (c a : Nat) (q : Bool) : Sent s (s.captureAs b c a q) := by
  unfold State.captureAs; exact .ite (sent_modHdr ..) (sent_signal ..)
theorem sent_capture (s : State) (b : Block) (c a : Nat) : Sent s (s.capture b c a) := sent_captureAs ..
theorem raise_out (s : State) (c v r p q w : Nat) : (s.raise c v r p q w).out = s.out := by
  unfold State.raise; (repeat' split) <;> rfl
theorem sent_cause (s : State) (b : Block) (i v : Nat) : Sent s (s.cause b i v) := by
  simp only [State.cause, State.causeRecord]
  exact .ite .rfl (.ite (sent_setCause ..) (.after (.of_out (raise_out ..)) (sent_setCause ..)))
theorem sent_error (s : State) (b : Block) (c a n v : Nat) : Sent s (s.error b c a n v) := by
  have h : Sent s (if n = 0 then s else s.setCause b n) := .ite .rfl (sent_setCause ..)
  simp only [State.error, State.errorRecord]
  exact .ite (.after (.of_out (raise_out ..)) (.after (sent_capture ..) h)) (.after (.of_out (raise_out ..)) (.after (sent_capture ..) h))
theorem pumped_out (s : State) (w : PageWrite) : (s.queuePage w).out = s.out := rfl
theorem startRecord_out (s : State) (t : Nat) : (s.startRecord t).out = s.out := by
  have h : ∀ (l : List PageWrite) (s : State), (l.foldl State.queuePage s).out = s.out := fun l => by
    induction l with
    | nil => intro _; rfl
    | cons a l ih => intro s; exact (ih _).trans (pumped_out s a)
  have g : ∀ {α : Type} (f : α → PageWrite) (l : List α) (s : State), (l.foldl (fun s a => s.queuePage (f a)) s).out = s.out := fun f l => by
    induction l with
    | nil => intro _; rfl
    | cons a l ih => intro s; exact (ih _).trans (pumped_out s (f a))
  simp only [State.startRecord]
  exact (g _ _ _).trans rfl
theorem writeRecord_out (s : State) (t : Nat) : (s.writeRecord t).out = s.out := by
  simp only [State.writeRecord]
  (repeat' split) <;> (try rw [startRecord_out]) <;> rfl
theorem hostRecord_out (s : State) (t : Nat) : (s.hostRecord t).out = s.out := by
  simp only [State.hostRecord]
  (repeat' split) <;> (try rw [startRecord_out]) <;> rfl
theorem flushLog_out (s : State) : s.flushLog.out = s.out := by simp only [State.flushLog]; split <;> rfl
theorem critPage1_out (s : State) : s.critPage1.out = s.out := by simp only [State.critPage1]; split <;> rfl
theorem sent_setNewrec (s : State) : Sent s s.setNewrec := by
  unfold State.setNewrec
  exact .ite (.rfl) (Sent.trans (sent_setCause s .evtr (2 ^ 1)) (.of_out rfl))
theorem sent_mainPut (s : State) (r : EvRec) : Sent s (s.mainPut r) := by
  simp only [State.mainPut]
  exact .ite (.after (sent_setCause ..) (.of_out rfl)) (.of_out rfl)
theorem logPut_out (s : State) (r : EvRec) : (s.logPut r).out = s.out := by
  have h {c : Prop} [Decidable c] (t : State) : (if c then t.flushLog else t).out = t.out := by
    split
    · exact flushLog_out t
    · rfl
  exact (h _).trans rfl
theorem critPut_out (s : State) (r : EvRec) : (s.critPut r).out = s.out := by
  have h {c : Prop} [Decidable c] (t : State) : (if c then t.critPage1 else t).out = t.out := by
    split
    · exact critPage1_out t
    · rfl
  exact (h _).trans rfl
theorem sent_aonPut (s : State) (r : EvRec) : Sent s (s.aonPut r) := .of_out rfl
theorem sent_when {s : State} (c : Prop) [Decidable c] (t : State) (h : Sent s t) : Sent s (if c then t else s) := .ite h .rfl
theorem sent_storeRecord (s : State) (r : EvRec) : Sent s (s.storeRecord r) := by
  simp only [State.storeRecord]
  refine (sent_when (decide (3 ≤ r.sev) || r.ofFault || !s.evtr.mainRun) _ (sent_aonPut s r)).trans ?_
  generalize (if (decide (3 ≤ r.sev) || r.ofFault || !s.evtr.mainRun) = true then s.aonPut r else s) = a
  refine (sent_when (a.evtr.mainRun = true) _ (sent_mainPut a r)).trans ?_
  generalize (if a.evtr.mainRun = true then a.mainPut r else a) = b
  refine (sent_when ((b.evtr.mainRun && decide (b.evtr.logsev ≤ r.sev)) = true) _ (.of_out (logPut_out b r))).trans ?_
  generalize (if (b.evtr.mainRun && decide (b.evtr.logsev ≤ r.sev)) = true then b.logPut r else b) = c
  refine (sent_when ((c.evtr.mainRun && decide (r.sev = 5)) = true) _ (.of_out (critPut_out c r))).trans ?_
  generalize (if (c.evtr.mainRun && decide (r.sev = 5)) = true then c.critPut r else c) = d
  exact (sent_when (r.sev = 5) _ (sent_setCause d .evtr (2 ^ 2))).trans (sent_when _ _ (sent_setNewrec _))
theorem takeSeq_out (s : State) : s.takeSeq.out = s.out := by
  simp only [State.takeSeq]; split
  · exact writeRecord_out ..
  · rfl
theorem sent_enrol (s : State) (r : EvRec) : Sent s (s.enrol r) := by
  simp only [State.enrol]
  split
  · exact .of_out rfl
  · have seq (e : Evtr) : Sent s (State.takeSeq { s with evtr := e }) := .of_out (takeSeq_out { s with evtr := e })
    have shed (t : State) (e : Evtr) (h : Sent s t) : Sent s { t with evtr := e } := h.trans (.of_out rfl)
    exact .ite (shed _ _ (seq _)) (.after (sent_storeRecord ..) (seq _))

/-- What was sent before the end of a command stays sent. -/
theorem sent_settle (s : State) : Sent s s.settle :=
  Sent.trans (t := { s with raised := [] }) (.of_out rfl) (.foldl sent_enrol _ _)

end Sys2Proof.Machine
end

