-- ==== Sys2Proof/Laws/State.lean ====
section
/-!
SUPPORT. Each update of one entry of a table of the state leaves every other block as it was.
-/
namespace Sys2Proof.Machine

@[simp] theorem State.modSlice_fuse (s : State) (i : Nat) (f : Slice → Slice) : (s.modSlice i f).fuse = s.fuse := rfl
@[simp] theorem State.modSlice_sysc (s : State) (i : Nat) (f : Slice → Slice) : (s.modSlice i f).sysc = s.sysc := rfl
@[simp] theorem State.modSlice_rest (s : State) (i : Nat) (f : Slice → Slice) : (s.modSlice i f).rest = s.rest := rfl
@[simp] theorem State.modSlice_hall (s : State) (i : Nat) (f : Slice → Slice) : (s.modSlice i f).hall = s.hall := rfl
@[simp] theorem State.modSlice_cxlp (s : State) (i : Nat) (f : Slice → Slice) : (s.modSlice i f).cxlp = s.cxlp := rfl
@[simp] theorem State.modSlice_mbox (s : State) (i : Nat) (f : Slice → Slice) : (s.modSlice i f).mbox = s.mbox := rfl
@[simp] theorem State.modSlice_sram (s : State) (i : Nat) (f : Slice → Slice) : (s.modSlice i f).sram = s.sram := rfl
@[simp] theorem State.modSlice_drmc (s : State) (i : Nat) (f : Slice → Slice) : (s.modSlice i f).drmc = s.drmc := rfl
@[simp] theorem State.modSlice_tier (s : State) (i : Nat) (f : Slice → Slice) : (s.modSlice i f).tier = s.tier := rfl
@[simp] theorem State.modSlice_ftlm (s : State) (i : Nat) (f : Slice → Slice) : (s.modSlice i f).ftlm = s.ftlm := rfl
@[simp] theorem State.modSlice_media (s : State) (i : Nat) (f : Slice → Slice) : (s.modSlice i f).media = s.media := rfl
@[simp] theorem State.modSlice_clus (s : State) (i : Nat) (f : Slice → Slice) : (s.modSlice i f).clus = s.clus := rfl
@[simp] theorem State.modSlice_plan (s : State) (i : Nat) (f : Slice → Slice) : (s.modSlice i f).plan = s.plan := rfl
@[simp] theorem State.modSlice_pers (s : State) (i : Nat) (f : Slice → Slice) : (s.modSlice i f).pers = s.pers := rfl
@[simp] theorem State.modSlice_aon (s : State) (i : Nat) (f : Slice → Slice) : (s.modSlice i f).aon = s.aon := rfl
@[simp] theorem State.modSlice_ilkn (s : State) (i : Nat) (f : Slice → Slice) : (s.modSlice i f).ilkn = s.ilkn := rfl
@[simp] theorem State.modSlice_kspe (s : State) (i : Nat) (f : Slice → Slice) : (s.modSlice i f).kspe = s.kspe := rfl
@[simp] theorem State.modSlice_ingp (s : State) (i : Nat) (f : Slice → Slice) : (s.modSlice i f).ingp = s.ingp := rfl
@[simp] theorem State.modSlice_strd (s : State) (i : Nat) (f : Slice → Slice) : (s.modSlice i f).strd = s.strd := rfl
@[simp] theorem State.modSlice_rple (s : State) (i : Nat) (f : Slice → Slice) : (s.modSlice i f).rple = s.rple := rfl
@[simp] theorem State.modSlice_qrye (s : State) (i : Nat) (f : Slice → Slice) : (s.modSlice i f).qrye = s.qrye := rfl
@[simp] theorem State.modSlice_mprt (s : State) (i : Nat) (f : Slice → Slice) : (s.modSlice i f).mprt = s.mprt := rfl
@[simp] theorem State.modSlice_pseq (s : State) (i : Nat) (f : Slice → Slice) : (s.modSlice i f).pseq = s.pseq := rfl
@[simp] theorem State.modSlice_thrm (s : State) (i : Nat) (f : Slice → Slice) : (s.modSlice i f).thrm = s.thrm := rfl
@[simp] theorem State.modSlice_evtr (s : State) (i : Nat) (f : Slice → Slice) : (s.modSlice i f).evtr = s.evtr := rfl
@[simp] theorem State.modSlice_psto (s : State) (i : Nat) (f : Slice → Slice) : (s.modSlice i f).psto = s.psto := rfl
@[simp] theorem State.modSlice_boot (s : State) (i : Nat) (f : Slice → Slice) : (s.modSlice i f).boot = s.boot := rfl
@[simp] theorem State.modSlice_idnt (s : State) (i : Nat) (f : Slice → Slice) : (s.modSlice i f).idnt = s.idnt := rfl
@[simp] theorem State.modSlice_coht (s : State) (i : Nat) (f : Slice → Slice) : (s.modSlice i f).coht = s.coht := rfl
@[simp] theorem State.modSlice_raised (s : State) (i : Nat) (f : Slice → Slice) : (s.modSlice i f).raised = s.raised := rfl
@[simp] theorem State.modSlice_out (s : State) (i : Nat) (f : Slice → Slice) : (s.modSlice i f).out = s.out := rfl
@[simp] theorem State.modSlice_free (s : State) (i : Nat) (f : Slice → Slice) : (s.modSlice i f).free = s.free := rfl
@[simp] theorem State.modSlice_pending (s : State) (i : Nat) (f : Slice → Slice) : (s.modSlice i f).pending = s.pending := rfl

@[simp] theorem State.modStrand_fuse (s : State) (n : Nat) (f : Strand → Strand) : (s.modStrand n f).fuse = s.fuse := rfl
@[simp] theorem State.modStrand_sysc (s : State) (n : Nat) (f : Strand → Strand) : (s.modStrand n f).sysc = s.sysc := rfl
@[simp] theorem State.modStrand_rest (s : State) (n : Nat) (f : Strand → Strand) : (s.modStrand n f).rest = s.rest := rfl
@[simp] theorem State.modStrand_hall (s : State) (n : Nat) (f : Strand → Strand) : (s.modStrand n f).hall = s.hall := rfl
@[simp] theorem State.modStrand_cxlp (s : State) (n : Nat) (f : Strand → Strand) : (s.modStrand n f).cxlp = s.cxlp := rfl
@[simp] theorem State.modStrand_mbox (s : State) (n : Nat) (f : Strand → Strand) : (s.modStrand n f).mbox = s.mbox := rfl
@[simp] theorem State.modStrand_ncch (s : State) (n : Nat) (f : Strand → Strand) : (s.modStrand n f).ncch = s.ncch := rfl
@[simp] theorem State.modStrand_sram (s : State) (n : Nat) (f : Strand → Strand) : (s.modStrand n f).sram = s.sram := rfl
@[simp] theorem State.modStrand_drmc (s : State) (n : Nat) (f : Strand → Strand) : (s.modStrand n f).drmc = s.drmc := rfl
@[simp] theorem State.modStrand_tier (s : State) (n : Nat) (f : Strand → Strand) : (s.modStrand n f).tier = s.tier := rfl
@[simp] theorem State.modStrand_ftlm (s : State) (n : Nat) (f : Strand → Strand) : (s.modStrand n f).ftlm = s.ftlm := rfl
@[simp] theorem State.modStrand_media (s : State) (n : Nat) (f : Strand → Strand) : (s.modStrand n f).media = s.media := rfl
@[simp] theorem State.modStrand_clus (s : State) (n : Nat) (f : Strand → Strand) : (s.modStrand n f).clus = s.clus := rfl
@[simp] theorem State.modStrand_plan (s : State) (n : Nat) (f : Strand → Strand) : (s.modStrand n f).plan = s.plan := rfl
@[simp] theorem State.modStrand_pers (s : State) (n : Nat) (f : Strand → Strand) : (s.modStrand n f).pers = s.pers := rfl
@[simp] theorem State.modStrand_aon (s : State) (n : Nat) (f : Strand → Strand) : (s.modStrand n f).aon = s.aon := rfl
@[simp] theorem State.modStrand_ilkn (s : State) (n : Nat) (f : Strand → Strand) : (s.modStrand n f).ilkn = s.ilkn := rfl
@[simp] theorem State.modStrand_kspe (s : State) (n : Nat) (f : Strand → Strand) : (s.modStrand n f).kspe = s.kspe := rfl
@[simp] theorem State.modStrand_ingp (s : State) (n : Nat) (f : Strand → Strand) : (s.modStrand n f).ingp = s.ingp := rfl
@[simp] theorem State.modStrand_rple (s : State) (n : Nat) (f : Strand → Strand) : (s.modStrand n f).rple = s.rple := rfl
@[simp] theorem State.modStrand_qrye (s : State) (n : Nat) (f : Strand → Strand) : (s.modStrand n f).qrye = s.qrye := rfl
@[simp] theorem State.modStrand_mprt (s : State) (n : Nat) (f : Strand → Strand) : (s.modStrand n f).mprt = s.mprt := rfl
@[simp] theorem State.modStrand_pseq (s : State) (n : Nat) (f : Strand → Strand) : (s.modStrand n f).pseq = s.pseq := rfl
@[simp] theorem State.modStrand_thrm (s : State) (n : Nat) (f : Strand → Strand) : (s.modStrand n f).thrm = s.thrm := rfl
@[simp] theorem State.modStrand_evtr (s : State) (n : Nat) (f : Strand → Strand) : (s.modStrand n f).evtr = s.evtr := rfl
@[simp] theorem State.modStrand_psto (s : State) (n : Nat) (f : Strand → Strand) : (s.modStrand n f).psto = s.psto := rfl
@[simp] theorem State.modStrand_boot (s : State) (n : Nat) (f : Strand → Strand) : (s.modStrand n f).boot = s.boot := rfl
@[simp] theorem State.modStrand_idnt (s : State) (n : Nat) (f : Strand → Strand) : (s.modStrand n f).idnt = s.idnt := rfl
@[simp] theorem State.modStrand_coht (s : State) (n : Nat) (f : Strand → Strand) : (s.modStrand n f).coht = s.coht := rfl
@[simp] theorem State.modStrand_raised (s : State) (n : Nat) (f : Strand → Strand) : (s.modStrand n f).raised = s.raised := rfl
@[simp] theorem State.modStrand_out (s : State) (n : Nat) (f : Strand → Strand) : (s.modStrand n f).out = s.out := rfl
@[simp] theorem State.modStrand_free (s : State) (n : Nat) (f : Strand → Strand) : (s.modStrand n f).free = s.free := rfl
@[simp] theorem State.modStrand_pending (s : State) (n : Nat) (f : Strand → Strand) : (s.modStrand n f).pending = s.pending := rfl

@[simp] theorem State.modPipe_fuse (s : State) (p : Nat) (f : Pipe → Pipe) : (s.modPipe p f).fuse = s.fuse := rfl
@[simp] theorem State.modPipe_sysc (s : State) (p : Nat) (f : Pipe → Pipe) : (s.modPipe p f).sysc = s.sysc := rfl
@[simp] theorem State.modPipe_rest (s : State) (p : Nat) (f : Pipe → Pipe) : (s.modPipe p f).rest = s.rest := rfl
@[simp] theorem State.modPipe_hall (s : State) (p : Nat) (f : Pipe → Pipe) : (s.modPipe p f).hall = s.hall := rfl
@[simp] theorem State.modPipe_cxlp (s : State) (p : Nat) (f : Pipe → Pipe) : (s.modPipe p f).cxlp = s.cxlp := rfl
@[simp] theorem State.modPipe_mbox (s : State) (p : Nat) (f : Pipe → Pipe) : (s.modPipe p f).mbox = s.mbox := rfl
@[simp] theorem State.modPipe_ncch (s : State) (p : Nat) (f : Pipe → Pipe) : (s.modPipe p f).ncch = s.ncch := rfl
@[simp] theorem State.modPipe_sram (s : State) (p : Nat) (f : Pipe → Pipe) : (s.modPipe p f).sram = s.sram := rfl
@[simp] theorem State.modPipe_drmc (s : State) (p : Nat) (f : Pipe → Pipe) : (s.modPipe p f).drmc = s.drmc := rfl
@[simp] theorem State.modPipe_tier (s : State) (p : Nat) (f : Pipe → Pipe) : (s.modPipe p f).tier = s.tier := rfl
@[simp] theorem State.modPipe_ftlm (s : State) (p : Nat) (f : Pipe → Pipe) : (s.modPipe p f).ftlm = s.ftlm := rfl
@[simp] theorem State.modPipe_media (s : State) (p : Nat) (f : Pipe → Pipe) : (s.modPipe p f).media = s.media := rfl
@[simp] theorem State.modPipe_clus (s : State) (p : Nat) (f : Pipe → Pipe) : (s.modPipe p f).clus = s.clus := rfl
@[simp] theorem State.modPipe_plan (s : State) (p : Nat) (f : Pipe → Pipe) : (s.modPipe p f).plan = s.plan := rfl
@[simp] theorem State.modPipe_pers (s : State) (p : Nat) (f : Pipe → Pipe) : (s.modPipe p f).pers = s.pers := rfl
@[simp] theorem State.modPipe_aon (s : State) (p : Nat) (f : Pipe → Pipe) : (s.modPipe p f).aon = s.aon := rfl
@[simp] theorem State.modPipe_ilkn (s : State) (p : Nat) (f : Pipe → Pipe) : (s.modPipe p f).ilkn = s.ilkn := rfl
@[simp] theorem State.modPipe_kspe (s : State) (p : Nat) (f : Pipe → Pipe) : (s.modPipe p f).kspe = s.kspe := rfl
@[simp] theorem State.modPipe_strd (s : State) (p : Nat) (f : Pipe → Pipe) : (s.modPipe p f).strd = s.strd := rfl
@[simp] theorem State.modPipe_rple (s : State) (p : Nat) (f : Pipe → Pipe) : (s.modPipe p f).rple = s.rple := rfl
@[simp] theorem State.modPipe_qrye (s : State) (p : Nat) (f : Pipe → Pipe) : (s.modPipe p f).qrye = s.qrye := rfl
@[simp] theorem State.modPipe_mprt (s : State) (p : Nat) (f : Pipe → Pipe) : (s.modPipe p f).mprt = s.mprt := rfl
@[simp] theorem State.modPipe_pseq (s : State) (p : Nat) (f : Pipe → Pipe) : (s.modPipe p f).pseq = s.pseq := rfl
@[simp] theorem State.modPipe_thrm (s : State) (p : Nat) (f : Pipe → Pipe) : (s.modPipe p f).thrm = s.thrm := rfl
@[simp] theorem State.modPipe_evtr (s : State) (p : Nat) (f : Pipe → Pipe) : (s.modPipe p f).evtr = s.evtr := rfl
@[simp] theorem State.modPipe_psto (s : State) (p : Nat) (f : Pipe → Pipe) : (s.modPipe p f).psto = s.psto := rfl
@[simp] theorem State.modPipe_boot (s : State) (p : Nat) (f : Pipe → Pipe) : (s.modPipe p f).boot = s.boot := rfl
@[simp] theorem State.modPipe_idnt (s : State) (p : Nat) (f : Pipe → Pipe) : (s.modPipe p f).idnt = s.idnt := rfl
@[simp] theorem State.modPipe_coht (s : State) (p : Nat) (f : Pipe → Pipe) : (s.modPipe p f).coht = s.coht := rfl
@[simp] theorem State.modPipe_raised (s : State) (p : Nat) (f : Pipe → Pipe) : (s.modPipe p f).raised = s.raised := rfl
@[simp] theorem State.modPipe_out (s : State) (p : Nat) (f : Pipe → Pipe) : (s.modPipe p f).out = s.out := rfl
@[simp] theorem State.modPipe_free (s : State) (p : Nat) (f : Pipe → Pipe) : (s.modPipe p f).free = s.free := rfl
@[simp] theorem State.modPipe_pending (s : State) (p : Nat) (f : Pipe → Pipe) : (s.modPipe p f).pending = s.pending := rfl

@[simp] theorem State.modDram_fuse (s : State) (m : Nat) (f : Drmc → Drmc) : (s.modDram m f).fuse = s.fuse := rfl
@[simp] theorem State.modDram_sysc (s : State) (m : Nat) (f : Drmc → Drmc) : (s.modDram m f).sysc = s.sysc := rfl
@[simp] theorem State.modDram_rest (s : State) (m : Nat) (f : Drmc → Drmc) : (s.modDram m f).rest = s.rest := rfl
@[simp] theorem State.modDram_hall (s : State) (m : Nat) (f : Drmc → Drmc) : (s.modDram m f).hall = s.hall := rfl
@[simp] theorem State.modDram_cxlp (s : State) (m : Nat) (f : Drmc → Drmc) : (s.modDram m f).cxlp = s.cxlp := rfl
@[simp] theorem State.modDram_mbox (s : State) (m : Nat) (f : Drmc → Drmc) : (s.modDram m f).mbox = s.mbox := rfl
@[simp] theorem State.modDram_ncch (s : State) (m : Nat) (f : Drmc → Drmc) : (s.modDram m f).ncch = s.ncch := rfl
@[simp] theorem State.modDram_sram (s : State) (m : Nat) (f : Drmc → Drmc) : (s.modDram m f).sram = s.sram := rfl
@[simp] theorem State.modDram_tier (s : State) (m : Nat) (f : Drmc → Drmc) : (s.modDram m f).tier = s.tier := rfl
@[simp] theorem State.modDram_ftlm (s : State) (m : Nat) (f : Drmc → Drmc) : (s.modDram m f).ftlm = s.ftlm := rfl
@[simp] theorem State.modDram_media (s : State) (m : Nat) (f : Drmc → Drmc) : (s.modDram m f).media = s.media := rfl
@[simp] theorem State.modDram_clus (s : State) (m : Nat) (f : Drmc → Drmc) : (s.modDram m f).clus = s.clus := rfl
@[simp] theorem State.modDram_plan (s : State) (m : Nat) (f : Drmc → Drmc) : (s.modDram m f).plan = s.plan := rfl
@[simp] theorem State.modDram_pers (s : State) (m : Nat) (f : Drmc → Drmc) : (s.modDram m f).pers = s.pers := rfl
@[simp] theorem State.modDram_aon (s : State) (m : Nat) (f : Drmc → Drmc) : (s.modDram m f).aon = s.aon := rfl
@[simp] theorem State.modDram_ilkn (s : State) (m : Nat) (f : Drmc → Drmc) : (s.modDram m f).ilkn = s.ilkn := rfl
@[simp] theorem State.modDram_kspe (s : State) (m : Nat) (f : Drmc → Drmc) : (s.modDram m f).kspe = s.kspe := rfl
@[simp] theorem State.modDram_ingp (s : State) (m : Nat) (f : Drmc → Drmc) : (s.modDram m f).ingp = s.ingp := rfl
@[simp] theorem State.modDram_strd (s : State) (m : Nat) (f : Drmc → Drmc) : (s.modDram m f).strd = s.strd := rfl
@[simp] theorem State.modDram_rple (s : State) (m : Nat) (f : Drmc → Drmc) : (s.modDram m f).rple = s.rple := rfl
@[simp] theorem State.modDram_qrye (s : State) (m : Nat) (f : Drmc → Drmc) : (s.modDram m f).qrye = s.qrye := rfl
@[simp] theorem State.modDram_mprt (s : State) (m : Nat) (f : Drmc → Drmc) : (s.modDram m f).mprt = s.mprt := rfl
@[simp] theorem State.modDram_pseq (s : State) (m : Nat) (f : Drmc → Drmc) : (s.modDram m f).pseq = s.pseq := rfl
@[simp] theorem State.modDram_thrm (s : State) (m : Nat) (f : Drmc → Drmc) : (s.modDram m f).thrm = s.thrm := rfl
@[simp] theorem State.modDram_evtr (s : State) (m : Nat) (f : Drmc → Drmc) : (s.modDram m f).evtr = s.evtr := rfl
@[simp] theorem State.modDram_psto (s : State) (m : Nat) (f : Drmc → Drmc) : (s.modDram m f).psto = s.psto := rfl
@[simp] theorem State.modDram_boot (s : State) (m : Nat) (f : Drmc → Drmc) : (s.modDram m f).boot = s.boot := rfl
@[simp] theorem State.modDram_idnt (s : State) (m : Nat) (f : Drmc → Drmc) : (s.modDram m f).idnt = s.idnt := rfl
@[simp] theorem State.modDram_coht (s : State) (m : Nat) (f : Drmc → Drmc) : (s.modDram m f).coht = s.coht := rfl
@[simp] theorem State.modDram_raised (s : State) (m : Nat) (f : Drmc → Drmc) : (s.modDram m f).raised = s.raised := rfl
@[simp] theorem State.modDram_out (s : State) (m : Nat) (f : Drmc → Drmc) : (s.modDram m f).out = s.out := rfl
@[simp] theorem State.modDram_free (s : State) (m : Nat) (f : Drmc → Drmc) : (s.modDram m f).free = s.free := rfl
@[simp] theorem State.modDram_pending (s : State) (m : Nat) (f : Drmc → Drmc) : (s.modDram m f).pending = s.pending := rfl

@[simp] theorem State.modBand_fuse (s : State) (b : Nat) (f : Band → Band) : (s.modBand b f).fuse = s.fuse := rfl
@[simp] theorem State.modBand_sysc (s : State) (b : Nat) (f : Band → Band) : (s.modBand b f).sysc = s.sysc := rfl
@[simp] theorem State.modBand_rest (s : State) (b : Nat) (f : Band → Band) : (s.modBand b f).rest = s.rest := rfl
@[simp] theorem State.modBand_hall (s : State) (b : Nat) (f : Band → Band) : (s.modBand b f).hall = s.hall := rfl
@[simp] theorem State.modBand_cxlp (s : State) (b : Nat) (f : Band → Band) : (s.modBand b f).cxlp = s.cxlp := rfl
@[simp] theorem State.modBand_mbox (s : State) (b : Nat) (f : Band → Band) : (s.modBand b f).mbox = s.mbox := rfl
@[simp] theorem State.modBand_ncch (s : State) (b : Nat) (f : Band → Band) : (s.modBand b f).ncch = s.ncch := rfl
@[simp] theorem State.modBand_sram (s : State) (b : Nat) (f : Band → Band) : (s.modBand b f).sram = s.sram := rfl
@[simp] theorem State.modBand_drmc (s : State) (b : Nat) (f : Band → Band) : (s.modBand b f).drmc = s.drmc := rfl
@[simp] theorem State.modBand_tier (s : State) (b : Nat) (f : Band → Band) : (s.modBand b f).tier = s.tier := rfl
@[simp] theorem State.modBand_media (s : State) (b : Nat) (f : Band → Band) : (s.modBand b f).media = s.media := rfl
@[simp] theorem State.modBand_clus (s : State) (b : Nat) (f : Band → Band) : (s.modBand b f).clus = s.clus := rfl
@[simp] theorem State.modBand_plan (s : State) (b : Nat) (f : Band → Band) : (s.modBand b f).plan = s.plan := rfl
@[simp] theorem State.modBand_pers (s : State) (b : Nat) (f : Band → Band) : (s.modBand b f).pers = s.pers := rfl
@[simp] theorem State.modBand_aon (s : State) (b : Nat) (f : Band → Band) : (s.modBand b f).aon = s.aon := rfl
@[simp] theorem State.modBand_ilkn (s : State) (b : Nat) (f : Band → Band) : (s.modBand b f).ilkn = s.ilkn := rfl
@[simp] theorem State.modBand_kspe (s : State) (b : Nat) (f : Band → Band) : (s.modBand b f).kspe = s.kspe := rfl
@[simp] theorem State.modBand_ingp (s : State) (b : Nat) (f : Band → Band) : (s.modBand b f).ingp = s.ingp := rfl
@[simp] theorem State.modBand_strd (s : State) (b : Nat) (f : Band → Band) : (s.modBand b f).strd = s.strd := rfl
@[simp] theorem State.modBand_rple (s : State) (b : Nat) (f : Band → Band) : (s.modBand b f).rple = s.rple := rfl
@[simp] theorem State.modBand_qrye (s : State) (b : Nat) (f : Band → Band) : (s.modBand b f).qrye = s.qrye := rfl
@[simp] theorem State.modBand_mprt (s : State) (b : Nat) (f : Band → Band) : (s.modBand b f).mprt = s.mprt := rfl
@[simp] theorem State.modBand_pseq (s : State) (b : Nat) (f : Band → Band) : (s.modBand b f).pseq = s.pseq := rfl
@[simp] theorem State.modBand_thrm (s : State) (b : Nat) (f : Band → Band) : (s.modBand b f).thrm = s.thrm := rfl
@[simp] theorem State.modBand_evtr (s : State) (b : Nat) (f : Band → Band) : (s.modBand b f).evtr = s.evtr := rfl
@[simp] theorem State.modBand_psto (s : State) (b : Nat) (f : Band → Band) : (s.modBand b f).psto = s.psto := rfl
@[simp] theorem State.modBand_boot (s : State) (b : Nat) (f : Band → Band) : (s.modBand b f).boot = s.boot := rfl
@[simp] theorem State.modBand_idnt (s : State) (b : Nat) (f : Band → Band) : (s.modBand b f).idnt = s.idnt := rfl
@[simp] theorem State.modBand_coht (s : State) (b : Nat) (f : Band → Band) : (s.modBand b f).coht = s.coht := rfl
@[simp] theorem State.modBand_raised (s : State) (b : Nat) (f : Band → Band) : (s.modBand b f).raised = s.raised := rfl
@[simp] theorem State.modBand_out (s : State) (b : Nat) (f : Band → Band) : (s.modBand b f).out = s.out := rfl
@[simp] theorem State.modBand_free (s : State) (b : Nat) (f : Band → Band) : (s.modBand b f).free = s.free := rfl
@[simp] theorem State.modBand_pending (s : State) (b : Nat) (f : Band → Band) : (s.modBand b f).pending = s.pending := rfl

@[simp] theorem State.modBlk_fuse (s : State) (d k : Nat) (f : Blk → Blk) : (s.modBlk d k f).fuse = s.fuse := rfl
@[simp] theorem State.modBlk_sysc (s : State) (d k : Nat) (f : Blk → Blk) : (s.modBlk d k f).sysc = s.sysc := rfl
@[simp] theorem State.modBlk_rest (s : State) (d k : Nat) (f : Blk → Blk) : (s.modBlk d k f).rest = s.rest := rfl
@[simp] theorem State.modBlk_hall (s : State) (d k : Nat) (f : Blk → Blk) : (s.modBlk d k f).hall = s.hall := rfl
@[simp] theorem State.modBlk_cxlp (s : State) (d k : Nat) (f : Blk → Blk) : (s.modBlk d k f).cxlp = s.cxlp := rfl
@[simp] theorem State.modBlk_mbox (s : State) (d k : Nat) (f : Blk → Blk) : (s.modBlk d k f).mbox = s.mbox := rfl
@[simp] theorem State.modBlk_ncch (s : State) (d k : Nat) (f : Blk → Blk) : (s.modBlk d k f).ncch = s.ncch := rfl
@[simp] theorem State.modBlk_sram (s : State) (d k : Nat) (f : Blk → Blk) : (s.modBlk d k f).sram = s.sram := rfl
@[simp] theorem State.modBlk_drmc (s : State) (d k : Nat) (f : Blk → Blk) : (s.modBlk d k f).drmc = s.drmc := rfl
@[simp] theorem State.modBlk_tier (s : State) (d k : Nat) (f : Blk → Blk) : (s.modBlk d k f).tier = s.tier := rfl
@[simp] theorem State.modBlk_ftlm (s : State) (d k : Nat) (f : Blk → Blk) : (s.modBlk d k f).ftlm = s.ftlm := rfl
@[simp] theorem State.modBlk_clus (s : State) (d k : Nat) (f : Blk → Blk) : (s.modBlk d k f).clus = s.clus := rfl
@[simp] theorem State.modBlk_plan (s : State) (d k : Nat) (f : Blk → Blk) : (s.modBlk d k f).plan = s.plan := rfl
@[simp] theorem State.modBlk_pers (s : State) (d k : Nat) (f : Blk → Blk) : (s.modBlk d k f).pers = s.pers := rfl
@[simp] theorem State.modBlk_aon (s : State) (d k : Nat) (f : Blk → Blk) : (s.modBlk d k f).aon = s.aon := rfl
@[simp] theorem State.modBlk_ilkn (s : State) (d k : Nat) (f : Blk → Blk) : (s.modBlk d k f).ilkn = s.ilkn := rfl
@[simp] theorem State.modBlk_kspe (s : State) (d k : Nat) (f : Blk → Blk) : (s.modBlk d k f).kspe = s.kspe := rfl
@[simp] theorem State.modBlk_ingp (s : State) (d k : Nat) (f : Blk → Blk) : (s.modBlk d k f).ingp = s.ingp := rfl
@[simp] theorem State.modBlk_strd (s : State) (d k : Nat) (f : Blk → Blk) : (s.modBlk d k f).strd = s.strd := rfl
@[simp] theorem State.modBlk_rple (s : State) (d k : Nat) (f : Blk → Blk) : (s.modBlk d k f).rple = s.rple := rfl
@[simp] theorem State.modBlk_qrye (s : State) (d k : Nat) (f : Blk → Blk) : (s.modBlk d k f).qrye = s.qrye := rfl
@[simp] theorem State.modBlk_mprt (s : State) (d k : Nat) (f : Blk → Blk) : (s.modBlk d k f).mprt = s.mprt := rfl
@[simp] theorem State.modBlk_pseq (s : State) (d k : Nat) (f : Blk → Blk) : (s.modBlk d k f).pseq = s.pseq := rfl
@[simp] theorem State.modBlk_thrm (s : State) (d k : Nat) (f : Blk → Blk) : (s.modBlk d k f).thrm = s.thrm := rfl
@[simp] theorem State.modBlk_evtr (s : State) (d k : Nat) (f : Blk → Blk) : (s.modBlk d k f).evtr = s.evtr := rfl
@[simp] theorem State.modBlk_psto (s : State) (d k : Nat) (f : Blk → Blk) : (s.modBlk d k f).psto = s.psto := rfl
@[simp] theorem State.modBlk_boot (s : State) (d k : Nat) (f : Blk → Blk) : (s.modBlk d k f).boot = s.boot := rfl
@[simp] theorem State.modBlk_idnt (s : State) (d k : Nat) (f : Blk → Blk) : (s.modBlk d k f).idnt = s.idnt := rfl
@[simp] theorem State.modBlk_coht (s : State) (d k : Nat) (f : Blk → Blk) : (s.modBlk d k f).coht = s.coht := rfl
@[simp] theorem State.modBlk_raised (s : State) (d k : Nat) (f : Blk → Blk) : (s.modBlk d k f).raised = s.raised := rfl
@[simp] theorem State.modBlk_out (s : State) (d k : Nat) (f : Blk → Blk) : (s.modBlk d k f).out = s.out := rfl
@[simp] theorem State.modBlk_free (s : State) (d k : Nat) (f : Blk → Blk) : (s.modBlk d k f).free = s.free := rfl
@[simp] theorem State.modBlk_pending (s : State) (d k : Nat) (f : Blk → Blk) : (s.modBlk d k f).pending = s.pending := rfl

@[simp] theorem State.modDie_fuse (s : State) (d : Nat) (f : Die → Die) : (s.modDie d f).fuse = s.fuse := rfl
@[simp] theorem State.modDie_sysc (s : State) (d : Nat) (f : Die → Die) : (s.modDie d f).sysc = s.sysc := rfl
@[simp] theorem State.modDie_rest (s : State) (d : Nat) (f : Die → Die) : (s.modDie d f).rest = s.rest := rfl
@[simp] theorem State.modDie_hall (s : State) (d : Nat) (f : Die → Die) : (s.modDie d f).hall = s.hall := rfl
@[simp] theorem State.modDie_cxlp (s : State) (d : Nat) (f : Die → Die) : (s.modDie d f).cxlp = s.cxlp := rfl
@[simp] theorem State.modDie_mbox (s : State) (d : Nat) (f : Die → Die) : (s.modDie d f).mbox = s.mbox := rfl
@[simp] theorem State.modDie_ncch (s : State) (d : Nat) (f : Die → Die) : (s.modDie d f).ncch = s.ncch := rfl
@[simp] theorem State.modDie_sram (s : State) (d : Nat) (f : Die → Die) : (s.modDie d f).sram = s.sram := rfl
@[simp] theorem State.modDie_drmc (s : State) (d : Nat) (f : Die → Die) : (s.modDie d f).drmc = s.drmc := rfl
@[simp] theorem State.modDie_tier (s : State) (d : Nat) (f : Die → Die) : (s.modDie d f).tier = s.tier := rfl
@[simp] theorem State.modDie_ftlm (s : State) (d : Nat) (f : Die → Die) : (s.modDie d f).ftlm = s.ftlm := rfl
@[simp] theorem State.modDie_media (s : State) (d : Nat) (f : Die → Die) : (s.modDie d f).media = s.media := rfl
@[simp] theorem State.modDie_plan (s : State) (d : Nat) (f : Die → Die) : (s.modDie d f).plan = s.plan := rfl
@[simp] theorem State.modDie_pers (s : State) (d : Nat) (f : Die → Die) : (s.modDie d f).pers = s.pers := rfl
@[simp] theorem State.modDie_aon (s : State) (d : Nat) (f : Die → Die) : (s.modDie d f).aon = s.aon := rfl
@[simp] theorem State.modDie_ilkn (s : State) (d : Nat) (f : Die → Die) : (s.modDie d f).ilkn = s.ilkn := rfl
@[simp] theorem State.modDie_kspe (s : State) (d : Nat) (f : Die → Die) : (s.modDie d f).kspe = s.kspe := rfl
@[simp] theorem State.modDie_ingp (s : State) (d : Nat) (f : Die → Die) : (s.modDie d f).ingp = s.ingp := rfl
@[simp] theorem State.modDie_strd (s : State) (d : Nat) (f : Die → Die) : (s.modDie d f).strd = s.strd := rfl
@[simp] theorem State.modDie_rple (s : State) (d : Nat) (f : Die → Die) : (s.modDie d f).rple = s.rple := rfl
@[simp] theorem State.modDie_qrye (s : State) (d : Nat) (f : Die → Die) : (s.modDie d f).qrye = s.qrye := rfl
@[simp] theorem State.modDie_mprt (s : State) (d : Nat) (f : Die → Die) : (s.modDie d f).mprt = s.mprt := rfl
@[simp] theorem State.modDie_pseq (s : State) (d : Nat) (f : Die → Die) : (s.modDie d f).pseq = s.pseq := rfl
@[simp] theorem State.modDie_thrm (s : State) (d : Nat) (f : Die → Die) : (s.modDie d f).thrm = s.thrm := rfl
@[simp] theorem State.modDie_evtr (s : State) (d : Nat) (f : Die → Die) : (s.modDie d f).evtr = s.evtr := rfl
@[simp] theorem State.modDie_psto (s : State) (d : Nat) (f : Die → Die) : (s.modDie d f).psto = s.psto := rfl
@[simp] theorem State.modDie_boot (s : State) (d : Nat) (f : Die → Die) : (s.modDie d f).boot = s.boot := rfl
@[simp] theorem State.modDie_idnt (s : State) (d : Nat) (f : Die → Die) : (s.modDie d f).idnt = s.idnt := rfl
@[simp] theorem State.modDie_coht (s : State) (d : Nat) (f : Die → Die) : (s.modDie d f).coht = s.coht := rfl
@[simp] theorem State.modDie_raised (s : State) (d : Nat) (f : Die → Die) : (s.modDie d f).raised = s.raised := rfl
@[simp] theorem State.modDie_out (s : State) (d : Nat) (f : Die → Die) : (s.modDie d f).out = s.out := rfl
@[simp] theorem State.modDie_free (s : State) (d : Nat) (f : Die → Die) : (s.modDie d f).free = s.free := rfl
@[simp] theorem State.modDie_pending (s : State) (d : Nat) (f : Die → Die) : (s.modDie d f).pending = s.pending := rfl

@[simp] theorem State.modChan_fuse (s : State) (n : Nat) (f : Onfc → Onfc) : (s.modChan n f).fuse = s.fuse := rfl
@[simp] theorem State.modChan_sysc (s : State) (n : Nat) (f : Onfc → Onfc) : (s.modChan n f).sysc = s.sysc := rfl
@[simp] theorem State.modChan_rest (s : State) (n : Nat) (f : Onfc → Onfc) : (s.modChan n f).rest = s.rest := rfl
@[simp] theorem State.modChan_hall (s : State) (n : Nat) (f : Onfc → Onfc) : (s.modChan n f).hall = s.hall := rfl
@[simp] theorem State.modChan_cxlp (s : State) (n : Nat) (f : Onfc → Onfc) : (s.modChan n f).cxlp = s.cxlp := rfl
@[simp] theorem State.modChan_mbox (s : State) (n : Nat) (f : Onfc → Onfc) : (s.modChan n f).mbox = s.mbox := rfl
@[simp] theorem State.modChan_ncch (s : State) (n : Nat) (f : Onfc → Onfc) : (s.modChan n f).ncch = s.ncch := rfl
@[simp] theorem State.modChan_sram (s : State) (n : Nat) (f : Onfc → Onfc) : (s.modChan n f).sram = s.sram := rfl
@[simp] theorem State.modChan_drmc (s : State) (n : Nat) (f : Onfc → Onfc) : (s.modChan n f).drmc = s.drmc := rfl
@[simp] theorem State.modChan_tier (s : State) (n : Nat) (f : Onfc → Onfc) : (s.modChan n f).tier = s.tier := rfl
@[simp] theorem State.modChan_ftlm (s : State) (n : Nat) (f : Onfc → Onfc) : (s.modChan n f).ftlm = s.ftlm := rfl
@[simp] theorem State.modChan_media (s : State) (n : Nat) (f : Onfc → Onfc) : (s.modChan n f).media = s.media := rfl
@[simp] theorem State.modChan_plan (s : State) (n : Nat) (f : Onfc → Onfc) : (s.modChan n f).plan = s.plan := rfl
@[simp] theorem State.modChan_pers (s : State) (n : Nat) (f : Onfc → Onfc) : (s.modChan n f).pers = s.pers := rfl
@[simp] theorem State.modChan_aon (s : State) (n : Nat) (f : Onfc → Onfc) : (s.modChan n f).aon = s.aon := rfl
@[simp] theorem State.modChan_ilkn (s : State) (n : Nat) (f : Onfc → Onfc) : (s.modChan n f).ilkn = s.ilkn := rfl
@[simp] theorem State.modChan_kspe (s : State) (n : Nat) (f : Onfc → Onfc) : (s.modChan n f).kspe = s.kspe := rfl
@[simp] theorem State.modChan_ingp (s : State) (n : Nat) (f : Onfc → Onfc) : (s.modChan n f).ingp = s.ingp := rfl
@[simp] theorem State.modChan_strd (s : State) (n : Nat) (f : Onfc → Onfc) : (s.modChan n f).strd = s.strd := rfl
@[simp] theorem State.modChan_rple (s : State) (n : Nat) (f : Onfc → Onfc) : (s.modChan n f).rple = s.rple := rfl
@[simp] theorem State.modChan_qrye (s : State) (n : Nat) (f : Onfc → Onfc) : (s.modChan n f).qrye = s.qrye := rfl
@[simp] theorem State.modChan_mprt (s : State) (n : Nat) (f : Onfc → Onfc) : (s.modChan n f).mprt = s.mprt := rfl
@[simp] theorem State.modChan_pseq (s : State) (n : Nat) (f : Onfc → Onfc) : (s.modChan n f).pseq = s.pseq := rfl
@[simp] theorem State.modChan_thrm (s : State) (n : Nat) (f : Onfc → Onfc) : (s.modChan n f).thrm = s.thrm := rfl
@[simp] theorem State.modChan_evtr (s : State) (n : Nat) (f : Onfc → Onfc) : (s.modChan n f).evtr = s.evtr := rfl
@[simp] theorem State.modChan_psto (s : State) (n : Nat) (f : Onfc → Onfc) : (s.modChan n f).psto = s.psto := rfl
@[simp] theorem State.modChan_boot (s : State) (n : Nat) (f : Onfc → Onfc) : (s.modChan n f).boot = s.boot := rfl
@[simp] theorem State.modChan_idnt (s : State) (n : Nat) (f : Onfc → Onfc) : (s.modChan n f).idnt = s.idnt := rfl
@[simp] theorem State.modChan_coht (s : State) (n : Nat) (f : Onfc → Onfc) : (s.modChan n f).coht = s.coht := rfl
@[simp] theorem State.modChan_raised (s : State) (n : Nat) (f : Onfc → Onfc) : (s.modChan n f).raised = s.raised := rfl
@[simp] theorem State.modChan_out (s : State) (n : Nat) (f : Onfc → Onfc) : (s.modChan n f).out = s.out := rfl
@[simp] theorem State.modChan_free (s : State) (n : Nat) (f : Onfc → Onfc) : (s.modChan n f).free = s.free := rfl
@[simp] theorem State.modChan_pending (s : State) (n : Nat) (f : Onfc → Onfc) : (s.modChan n f).pending = s.pending := rfl

@[simp] theorem State.modClu_fuse (s : State) (c : Nat) (f : Mclu → Mclu) : (s.modClu c f).fuse = s.fuse := rfl
@[simp] theorem State.modClu_sysc (s : State) (c : Nat) (f : Mclu → Mclu) : (s.modClu c f).sysc = s.sysc := rfl
@[simp] theorem State.modClu_rest (s : State) (c : Nat) (f : Mclu → Mclu) : (s.modClu c f).rest = s.rest := rfl
@[simp] theorem State.modClu_hall (s : State) (c : Nat) (f : Mclu → Mclu) : (s.modClu c f).hall = s.hall := rfl
@[simp] theorem State.modClu_cxlp (s : State) (c : Nat) (f : Mclu → Mclu) : (s.modClu c f).cxlp = s.cxlp := rfl
@[simp] theorem State.modClu_mbox (s : State) (c : Nat) (f : Mclu → Mclu) : (s.modClu c f).mbox = s.mbox := rfl
@[simp] theorem State.modClu_ncch (s : State) (c : Nat) (f : Mclu → Mclu) : (s.modClu c f).ncch = s.ncch := rfl
@[simp] theorem State.modClu_sram (s : State) (c : Nat) (f : Mclu → Mclu) : (s.modClu c f).sram = s.sram := rfl
@[simp] theorem State.modClu_drmc (s : State) (c : Nat) (f : Mclu → Mclu) : (s.modClu c f).drmc = s.drmc := rfl
@[simp] theorem State.modClu_tier (s : State) (c : Nat) (f : Mclu → Mclu) : (s.modClu c f).tier = s.tier := rfl
@[simp] theorem State.modClu_ftlm (s : State) (c : Nat) (f : Mclu → Mclu) : (s.modClu c f).ftlm = s.ftlm := rfl
@[simp] theorem State.modClu_media (s : State) (c : Nat) (f : Mclu → Mclu) : (s.modClu c f).media = s.media := rfl
@[simp] theorem State.modClu_plan (s : State) (c : Nat) (f : Mclu → Mclu) : (s.modClu c f).plan = s.plan := rfl
@[simp] theorem State.modClu_pers (s : State) (c : Nat) (f : Mclu → Mclu) : (s.modClu c f).pers = s.pers := rfl
@[simp] theorem State.modClu_aon (s : State) (c : Nat) (f : Mclu → Mclu) : (s.modClu c f).aon = s.aon := rfl
@[simp] theorem State.modClu_ilkn (s : State) (c : Nat) (f : Mclu → Mclu) : (s.modClu c f).ilkn = s.ilkn := rfl
@[simp] theorem State.modClu_kspe (s : State) (c : Nat) (f : Mclu → Mclu) : (s.modClu c f).kspe = s.kspe := rfl
@[simp] theorem State.modClu_ingp (s : State) (c : Nat) (f : Mclu → Mclu) : (s.modClu c f).ingp = s.ingp := rfl
@[simp] theorem State.modClu_strd (s : State) (c : Nat) (f : Mclu → Mclu) : (s.modClu c f).strd = s.strd := rfl
@[simp] theorem State.modClu_rple (s : State) (c : Nat) (f : Mclu → Mclu) : (s.modClu c f).rple = s.rple := rfl
@[simp] theorem State.modClu_qrye (s : State) (c : Nat) (f : Mclu → Mclu) : (s.modClu c f).qrye = s.qrye := rfl
@[simp] theorem State.modClu_mprt (s : State) (c : Nat) (f : Mclu → Mclu) : (s.modClu c f).mprt = s.mprt := rfl
@[simp] theorem State.modClu_pseq (s : State) (c : Nat) (f : Mclu → Mclu) : (s.modClu c f).pseq = s.pseq := rfl
@[simp] theorem State.modClu_thrm (s : State) (c : Nat) (f : Mclu → Mclu) : (s.modClu c f).thrm = s.thrm := rfl
@[simp] theorem State.modClu_evtr (s : State) (c : Nat) (f : Mclu → Mclu) : (s.modClu c f).evtr = s.evtr := rfl
@[simp] theorem State.modClu_psto (s : State) (c : Nat) (f : Mclu → Mclu) : (s.modClu c f).psto = s.psto := rfl
@[simp] theorem State.modClu_boot (s : State) (c : Nat) (f : Mclu → Mclu) : (s.modClu c f).boot = s.boot := rfl
@[simp] theorem State.modClu_idnt (s : State) (c : Nat) (f : Mclu → Mclu) : (s.modClu c f).idnt = s.idnt := rfl
@[simp] theorem State.modClu_coht (s : State) (c : Nat) (f : Mclu → Mclu) : (s.modClu c f).coht = s.coht := rfl
@[simp] theorem State.modClu_raised (s : State) (c : Nat) (f : Mclu → Mclu) : (s.modClu c f).raised = s.raised := rfl
@[simp] theorem State.modClu_out (s : State) (c : Nat) (f : Mclu → Mclu) : (s.modClu c f).out = s.out := rfl
@[simp] theorem State.modClu_free (s : State) (c : Nat) (f : Mclu → Mclu) : (s.modClu c f).free = s.free := rfl
@[simp] theorem State.modClu_pending (s : State) (c : Nat) (f : Mclu → Mclu) : (s.modClu c f).pending = s.pending := rfl

@[simp] theorem State.modRead_fuse (s : State) (i : Nat) (f : MRead → MRead) : (s.modRead i f).fuse = s.fuse := rfl
@[simp] theorem State.modRead_sysc (s : State) (i : Nat) (f : MRead → MRead) : (s.modRead i f).sysc = s.sysc := rfl
@[simp] theorem State.modRead_rest (s : State) (i : Nat) (f : MRead → MRead) : (s.modRead i f).rest = s.rest := rfl
@[simp] theorem State.modRead_hall (s : State) (i : Nat) (f : MRead → MRead) : (s.modRead i f).hall = s.hall := rfl
@[simp] theorem State.modRead_cxlp (s : State) (i : Nat) (f : MRead → MRead) : (s.modRead i f).cxlp = s.cxlp := rfl
@[simp] theorem State.modRead_mbox (s : State) (i : Nat) (f : MRead → MRead) : (s.modRead i f).mbox = s.mbox := rfl
@[simp] theorem State.modRead_ncch (s : State) (i : Nat) (f : MRead → MRead) : (s.modRead i f).ncch = s.ncch := rfl
@[simp] theorem State.modRead_sram (s : State) (i : Nat) (f : MRead → MRead) : (s.modRead i f).sram = s.sram := rfl
@[simp] theorem State.modRead_drmc (s : State) (i : Nat) (f : MRead → MRead) : (s.modRead i f).drmc = s.drmc := rfl
@[simp] theorem State.modRead_tier (s : State) (i : Nat) (f : MRead → MRead) : (s.modRead i f).tier = s.tier := rfl
@[simp] theorem State.modRead_ftlm (s : State) (i : Nat) (f : MRead → MRead) : (s.modRead i f).ftlm = s.ftlm := rfl
@[simp] theorem State.modRead_media (s : State) (i : Nat) (f : MRead → MRead) : (s.modRead i f).media = s.media := rfl
@[simp] theorem State.modRead_plan (s : State) (i : Nat) (f : MRead → MRead) : (s.modRead i f).plan = s.plan := rfl
@[simp] theorem State.modRead_pers (s : State) (i : Nat) (f : MRead → MRead) : (s.modRead i f).pers = s.pers := rfl
@[simp] theorem State.modRead_aon (s : State) (i : Nat) (f : MRead → MRead) : (s.modRead i f).aon = s.aon := rfl
@[simp] theorem State.modRead_ilkn (s : State) (i : Nat) (f : MRead → MRead) : (s.modRead i f).ilkn = s.ilkn := rfl
@[simp] theorem State.modRead_kspe (s : State) (i : Nat) (f : MRead → MRead) : (s.modRead i f).kspe = s.kspe := rfl
@[simp] theorem State.modRead_ingp (s : State) (i : Nat) (f : MRead → MRead) : (s.modRead i f).ingp = s.ingp := rfl
@[simp] theorem State.modRead_strd (s : State) (i : Nat) (f : MRead → MRead) : (s.modRead i f).strd = s.strd := rfl
@[simp] theorem State.modRead_rple (s : State) (i : Nat) (f : MRead → MRead) : (s.modRead i f).rple = s.rple := rfl
@[simp] theorem State.modRead_qrye (s : State) (i : Nat) (f : MRead → MRead) : (s.modRead i f).qrye = s.qrye := rfl
@[simp] theorem State.modRead_mprt (s : State) (i : Nat) (f : MRead → MRead) : (s.modRead i f).mprt = s.mprt := rfl
@[simp] theorem State.modRead_pseq (s : State) (i : Nat) (f : MRead → MRead) : (s.modRead i f).pseq = s.pseq := rfl
@[simp] theorem State.modRead_thrm (s : State) (i : Nat) (f : MRead → MRead) : (s.modRead i f).thrm = s.thrm := rfl
@[simp] theorem State.modRead_evtr (s : State) (i : Nat) (f : MRead → MRead) : (s.modRead i f).evtr = s.evtr := rfl
@[simp] theorem State.modRead_psto (s : State) (i : Nat) (f : MRead → MRead) : (s.modRead i f).psto = s.psto := rfl
@[simp] theorem State.modRead_boot (s : State) (i : Nat) (f : MRead → MRead) : (s.modRead i f).boot = s.boot := rfl
@[simp] theorem State.modRead_idnt (s : State) (i : Nat) (f : MRead → MRead) : (s.modRead i f).idnt = s.idnt := rfl
@[simp] theorem State.modRead_coht (s : State) (i : Nat) (f : MRead → MRead) : (s.modRead i f).coht = s.coht := rfl
@[simp] theorem State.modRead_raised (s : State) (i : Nat) (f : MRead → MRead) : (s.modRead i f).raised = s.raised := rfl
@[simp] theorem State.modRead_out (s : State) (i : Nat) (f : MRead → MRead) : (s.modRead i f).out = s.out := rfl
@[simp] theorem State.modRead_free (s : State) (i : Nat) (f : MRead → MRead) : (s.modRead i f).free = s.free := rfl
@[simp] theorem State.modRead_pending (s : State) (i : Nat) (f : MRead → MRead) : (s.modRead i f).pending = s.pending := rfl

@[simp] theorem State.modIdx_fuse (s : State) (c : Nat) (f : IdxLine → IdxLine) : (s.modIdx c f).fuse = s.fuse := rfl
@[simp] theorem State.modIdx_sysc (s : State) (c : Nat) (f : IdxLine → IdxLine) : (s.modIdx c f).sysc = s.sysc := rfl
@[simp] theorem State.modIdx_rest (s : State) (c : Nat) (f : IdxLine → IdxLine) : (s.modIdx c f).rest = s.rest := rfl
@[simp] theorem State.modIdx_hall (s : State) (c : Nat) (f : IdxLine → IdxLine) : (s.modIdx c f).hall = s.hall := rfl
@[simp] theorem State.modIdx_cxlp (s : State) (c : Nat) (f : IdxLine → IdxLine) : (s.modIdx c f).cxlp = s.cxlp := rfl
@[simp] theorem State.modIdx_mbox (s : State) (c : Nat) (f : IdxLine → IdxLine) : (s.modIdx c f).mbox = s.mbox := rfl
@[simp] theorem State.modIdx_ncch (s : State) (c : Nat) (f : IdxLine → IdxLine) : (s.modIdx c f).ncch = s.ncch := rfl
@[simp] theorem State.modIdx_sram (s : State) (c : Nat) (f : IdxLine → IdxLine) : (s.modIdx c f).sram = s.sram := rfl
@[simp] theorem State.modIdx_drmc (s : State) (c : Nat) (f : IdxLine → IdxLine) : (s.modIdx c f).drmc = s.drmc := rfl
@[simp] theorem State.modIdx_tier (s : State) (c : Nat) (f : IdxLine → IdxLine) : (s.modIdx c f).tier = s.tier := rfl
@[simp] theorem State.modIdx_ftlm (s : State) (c : Nat) (f : IdxLine → IdxLine) : (s.modIdx c f).ftlm = s.ftlm := rfl
@[simp] theorem State.modIdx_media (s : State) (c : Nat) (f : IdxLine → IdxLine) : (s.modIdx c f).media = s.media := rfl
@[simp] theorem State.modIdx_clus (s : State) (c : Nat) (f : IdxLine → IdxLine) : (s.modIdx c f).clus = s.clus := rfl
@[simp] theorem State.modIdx_plan (s : State) (c : Nat) (f : IdxLine → IdxLine) : (s.modIdx c f).plan = s.plan := rfl
@[simp] theorem State.modIdx_pers (s : State) (c : Nat) (f : IdxLine → IdxLine) : (s.modIdx c f).pers = s.pers := rfl
@[simp] theorem State.modIdx_aon (s : State) (c : Nat) (f : IdxLine → IdxLine) : (s.modIdx c f).aon = s.aon := rfl
@[simp] theorem State.modIdx_ilkn (s : State) (c : Nat) (f : IdxLine → IdxLine) : (s.modIdx c f).ilkn = s.ilkn := rfl
@[simp] theorem State.modIdx_kspe (s : State) (c : Nat) (f : IdxLine → IdxLine) : (s.modIdx c f).kspe = s.kspe := rfl
@[simp] theorem State.modIdx_ingp (s : State) (c : Nat) (f : IdxLine → IdxLine) : (s.modIdx c f).ingp = s.ingp := rfl
@[simp] theorem State.modIdx_rple (s : State) (c : Nat) (f : IdxLine → IdxLine) : (s.modIdx c f).rple = s.rple := rfl
@[simp] theorem State.modIdx_qrye (s : State) (c : Nat) (f : IdxLine → IdxLine) : (s.modIdx c f).qrye = s.qrye := rfl
@[simp] theorem State.modIdx_mprt (s : State) (c : Nat) (f : IdxLine → IdxLine) : (s.modIdx c f).mprt = s.mprt := rfl
@[simp] theorem State.modIdx_pseq (s : State) (c : Nat) (f : IdxLine → IdxLine) : (s.modIdx c f).pseq = s.pseq := rfl
@[simp] theorem State.modIdx_thrm (s : State) (c : Nat) (f : IdxLine → IdxLine) : (s.modIdx c f).thrm = s.thrm := rfl
@[simp] theorem State.modIdx_evtr (s : State) (c : Nat) (f : IdxLine → IdxLine) : (s.modIdx c f).evtr = s.evtr := rfl
@[simp] theorem State.modIdx_psto (s : State) (c : Nat) (f : IdxLine → IdxLine) : (s.modIdx c f).psto = s.psto := rfl
@[simp] theorem State.modIdx_boot (s : State) (c : Nat) (f : IdxLine → IdxLine) : (s.modIdx c f).boot = s.boot := rfl
@[simp] theorem State.modIdx_idnt (s : State) (c : Nat) (f : IdxLine → IdxLine) : (s.modIdx c f).idnt = s.idnt := rfl
@[simp] theorem State.modIdx_coht (s : State) (c : Nat) (f : IdxLine → IdxLine) : (s.modIdx c f).coht = s.coht := rfl
@[simp] theorem State.modIdx_raised (s : State) (c : Nat) (f : IdxLine → IdxLine) : (s.modIdx c f).raised = s.raised := rfl
@[simp] theorem State.modIdx_out (s : State) (c : Nat) (f : IdxLine → IdxLine) : (s.modIdx c f).out = s.out := rfl
@[simp] theorem State.modIdx_free (s : State) (c : Nat) (f : IdxLine → IdxLine) : (s.modIdx c f).free = s.free := rfl
@[simp] theorem State.modIdx_pending (s : State) (c : Nat) (f : IdxLine → IdxLine) : (s.modIdx c f).pending = s.pending := rfl

@[simp] theorem State.modReplay_fuse (s : State) (k : Nat) (f : Slot → Slot) : (s.modReplay k f).fuse = s.fuse := rfl
@[simp] theorem State.modReplay_sysc (s : State) (k : Nat) (f : Slot → Slot) : (s.modReplay k f).sysc = s.sysc := rfl
@[simp] theorem State.modReplay_rest (s : State) (k : Nat) (f : Slot → Slot) : (s.modReplay k f).rest = s.rest := rfl
@[simp] theorem State.modReplay_hall (s : State) (k : Nat) (f : Slot → Slot) : (s.modReplay k f).hall = s.hall := rfl
@[simp] theorem State.modReplay_cxlp (s : State) (k : Nat) (f : Slot → Slot) : (s.modReplay k f).cxlp = s.cxlp := rfl
@[simp] theorem State.modReplay_mbox (s : State) (k : Nat) (f : Slot → Slot) : (s.modReplay k f).mbox = s.mbox := rfl
@[simp] theorem State.modReplay_ncch (s : State) (k : Nat) (f : Slot → Slot) : (s.modReplay k f).ncch = s.ncch := rfl
@[simp] theorem State.modReplay_sram (s : State) (k : Nat) (f : Slot → Slot) : (s.modReplay k f).sram = s.sram := rfl
@[simp] theorem State.modReplay_drmc (s : State) (k : Nat) (f : Slot → Slot) : (s.modReplay k f).drmc = s.drmc := rfl
@[simp] theorem State.modReplay_tier (s : State) (k : Nat) (f : Slot → Slot) : (s.modReplay k f).tier = s.tier := rfl
@[simp] theorem State.modReplay_ftlm (s : State) (k : Nat) (f : Slot → Slot) : (s.modReplay k f).ftlm = s.ftlm := rfl
@[simp] theorem State.modReplay_media (s : State) (k : Nat) (f : Slot → Slot) : (s.modReplay k f).media = s.media := rfl
@[simp] theorem State.modReplay_clus (s : State) (k : Nat) (f : Slot → Slot) : (s.modReplay k f).clus = s.clus := rfl
@[simp] theorem State.modReplay_plan (s : State) (k : Nat) (f : Slot → Slot) : (s.modReplay k f).plan = s.plan := rfl
@[simp] theorem State.modReplay_pers (s : State) (k : Nat) (f : Slot → Slot) : (s.modReplay k f).pers = s.pers := rfl
@[simp] theorem State.modReplay_aon (s : State) (k : Nat) (f : Slot → Slot) : (s.modReplay k f).aon = s.aon := rfl
@[simp] theorem State.modReplay_ilkn (s : State) (k : Nat) (f : Slot → Slot) : (s.modReplay k f).ilkn = s.ilkn := rfl
@[simp] theorem State.modReplay_kspe (s : State) (k : Nat) (f : Slot → Slot) : (s.modReplay k f).kspe = s.kspe := rfl
@[simp] theorem State.modReplay_ingp (s : State) (k : Nat) (f : Slot → Slot) : (s.modReplay k f).ingp = s.ingp := rfl
@[simp] theorem State.modReplay_strd (s : State) (k : Nat) (f : Slot → Slot) : (s.modReplay k f).strd = s.strd := rfl
@[simp] theorem State.modReplay_qrye (s : State) (k : Nat) (f : Slot → Slot) : (s.modReplay k f).qrye = s.qrye := rfl
@[simp] theorem State.modReplay_mprt (s : State) (k : Nat) (f : Slot → Slot) : (s.modReplay k f).mprt = s.mprt := rfl
@[simp] theorem State.modReplay_pseq (s : State) (k : Nat) (f : Slot → Slot) : (s.modReplay k f).pseq = s.pseq := rfl
@[simp] theorem State.modReplay_thrm (s : State) (k : Nat) (f : Slot → Slot) : (s.modReplay k f).thrm = s.thrm := rfl
@[simp] theorem State.modReplay_evtr (s : State) (k : Nat) (f : Slot → Slot) : (s.modReplay k f).evtr = s.evtr := rfl
@[simp] theorem State.modReplay_psto (s : State) (k : Nat) (f : Slot → Slot) : (s.modReplay k f).psto = s.psto := rfl
@[simp] theorem State.modReplay_boot (s : State) (k : Nat) (f : Slot → Slot) : (s.modReplay k f).boot = s.boot := rfl
@[simp] theorem State.modReplay_idnt (s : State) (k : Nat) (f : Slot → Slot) : (s.modReplay k f).idnt = s.idnt := rfl
@[simp] theorem State.modReplay_coht (s : State) (k : Nat) (f : Slot → Slot) : (s.modReplay k f).coht = s.coht := rfl
@[simp] theorem State.modReplay_raised (s : State) (k : Nat) (f : Slot → Slot) : (s.modReplay k f).raised = s.raised := rfl
@[simp] theorem State.modReplay_out (s : State) (k : Nat) (f : Slot → Slot) : (s.modReplay k f).out = s.out := rfl
@[simp] theorem State.modReplay_free (s : State) (k : Nat) (f : Slot → Slot) : (s.modReplay k f).free = s.free := rfl
@[simp] theorem State.modReplay_pending (s : State) (k : Nat) (f : Slot → Slot) : (s.modReplay k f).pending = s.pending := rfl

@[simp] theorem State.modSpdm_fuse (s : State) (c : Nat) (f : Spdm → Spdm) : (s.modSpdm c f).fuse = s.fuse := rfl
@[simp] theorem State.modSpdm_sysc (s : State) (c : Nat) (f : Spdm → Spdm) : (s.modSpdm c f).sysc = s.sysc := rfl
@[simp] theorem State.modSpdm_rest (s : State) (c : Nat) (f : Spdm → Spdm) : (s.modSpdm c f).rest = s.rest := rfl
@[simp] theorem State.modSpdm_hall (s : State) (c : Nat) (f : Spdm → Spdm) : (s.modSpdm c f).hall = s.hall := rfl
@[simp] theorem State.modSpdm_cxlp (s : State) (c : Nat) (f : Spdm → Spdm) : (s.modSpdm c f).cxlp = s.cxlp := rfl
@[simp] theorem State.modSpdm_mbox (s : State) (c : Nat) (f : Spdm → Spdm) : (s.modSpdm c f).mbox = s.mbox := rfl
@[simp] theorem State.modSpdm_ncch (s : State) (c : Nat) (f : Spdm → Spdm) : (s.modSpdm c f).ncch = s.ncch := rfl
@[simp] theorem State.modSpdm_sram (s : State) (c : Nat) (f : Spdm → Spdm) : (s.modSpdm c f).sram = s.sram := rfl
@[simp] theorem State.modSpdm_drmc (s : State) (c : Nat) (f : Spdm → Spdm) : (s.modSpdm c f).drmc = s.drmc := rfl
@[simp] theorem State.modSpdm_tier (s : State) (c : Nat) (f : Spdm → Spdm) : (s.modSpdm c f).tier = s.tier := rfl
@[simp] theorem State.modSpdm_ftlm (s : State) (c : Nat) (f : Spdm → Spdm) : (s.modSpdm c f).ftlm = s.ftlm := rfl
@[simp] theorem State.modSpdm_media (s : State) (c : Nat) (f : Spdm → Spdm) : (s.modSpdm c f).media = s.media := rfl
@[simp] theorem State.modSpdm_clus (s : State) (c : Nat) (f : Spdm → Spdm) : (s.modSpdm c f).clus = s.clus := rfl
@[simp] theorem State.modSpdm_plan (s : State) (c : Nat) (f : Spdm → Spdm) : (s.modSpdm c f).plan = s.plan := rfl
@[simp] theorem State.modSpdm_pers (s : State) (c : Nat) (f : Spdm → Spdm) : (s.modSpdm c f).pers = s.pers := rfl
@[simp] theorem State.modSpdm_aon (s : State) (c : Nat) (f : Spdm → Spdm) : (s.modSpdm c f).aon = s.aon := rfl
@[simp] theorem State.modSpdm_ilkn (s : State) (c : Nat) (f : Spdm → Spdm) : (s.modSpdm c f).ilkn = s.ilkn := rfl
@[simp] theorem State.modSpdm_kspe (s : State) (c : Nat) (f : Spdm → Spdm) : (s.modSpdm c f).kspe = s.kspe := rfl
@[simp] theorem State.modSpdm_ingp (s : State) (c : Nat) (f : Spdm → Spdm) : (s.modSpdm c f).ingp = s.ingp := rfl
@[simp] theorem State.modSpdm_strd (s : State) (c : Nat) (f : Spdm → Spdm) : (s.modSpdm c f).strd = s.strd := rfl
@[simp] theorem State.modSpdm_rple (s : State) (c : Nat) (f : Spdm → Spdm) : (s.modSpdm c f).rple = s.rple := rfl
@[simp] theorem State.modSpdm_qrye (s : State) (c : Nat) (f : Spdm → Spdm) : (s.modSpdm c f).qrye = s.qrye := rfl
@[simp] theorem State.modSpdm_mprt (s : State) (c : Nat) (f : Spdm → Spdm) : (s.modSpdm c f).mprt = s.mprt := rfl
@[simp] theorem State.modSpdm_pseq (s : State) (c : Nat) (f : Spdm → Spdm) : (s.modSpdm c f).pseq = s.pseq := rfl
@[simp] theorem State.modSpdm_thrm (s : State) (c : Nat) (f : Spdm → Spdm) : (s.modSpdm c f).thrm = s.thrm := rfl
@[simp] theorem State.modSpdm_evtr (s : State) (c : Nat) (f : Spdm → Spdm) : (s.modSpdm c f).evtr = s.evtr := rfl
@[simp] theorem State.modSpdm_psto (s : State) (c : Nat) (f : Spdm → Spdm) : (s.modSpdm c f).psto = s.psto := rfl
@[simp] theorem State.modSpdm_boot (s : State) (c : Nat) (f : Spdm → Spdm) : (s.modSpdm c f).boot = s.boot := rfl
@[simp] theorem State.modSpdm_coht (s : State) (c : Nat) (f : Spdm → Spdm) : (s.modSpdm c f).coht = s.coht := rfl
@[simp] theorem State.modSpdm_raised (s : State) (c : Nat) (f : Spdm → Spdm) : (s.modSpdm c f).raised = s.raised := rfl
@[simp] theorem State.modSpdm_out (s : State) (c : Nat) (f : Spdm → Spdm) : (s.modSpdm c f).out = s.out := rfl
@[simp] theorem State.modSpdm_free (s : State) (c : Nat) (f : Spdm → Spdm) : (s.modSpdm c f).free = s.free := rfl
@[simp] theorem State.modSpdm_pending (s : State) (c : Nat) (f : Spdm → Spdm) : (s.modSpdm c f).pending = s.pending := rfl

@[simp] theorem State.modRange_fuse (s : State) (r : Nat) (f : Range → Range) : (s.modRange r f).fuse = s.fuse := rfl
@[simp] theorem State.modRange_sysc (s : State) (r : Nat) (f : Range → Range) : (s.modRange r f).sysc = s.sysc := rfl
@[simp] theorem State.modRange_rest (s : State) (r : Nat) (f : Range → Range) : (s.modRange r f).rest = s.rest := rfl
@[simp] theorem State.modRange_hall (s : State) (r : Nat) (f : Range → Range) : (s.modRange r f).hall = s.hall := rfl
@[simp] theorem State.modRange_cxlp (s : State) (r : Nat) (f : Range → Range) : (s.modRange r f).cxlp = s.cxlp := rfl
@[simp] theorem State.modRange_mbox (s : State) (r : Nat) (f : Range → Range) : (s.modRange r f).mbox = s.mbox := rfl
@[simp] theorem State.modRange_ncch (s : State) (r : Nat) (f : Range → Range) : (s.modRange r f).ncch = s.ncch := rfl
@[simp] theorem State.modRange_sram (s : State) (r : Nat) (f : Range → Range) : (s.modRange r f).sram = s.sram := rfl
@[simp] theorem State.modRange_drmc (s : State) (r : Nat) (f : Range → Range) : (s.modRange r f).drmc = s.drmc := rfl
@[simp] theorem State.modRange_tier (s : State) (r : Nat) (f : Range → Range) : (s.modRange r f).tier = s.tier := rfl
@[simp] theorem State.modRange_ftlm (s : State) (r : Nat) (f : Range → Range) : (s.modRange r f).ftlm = s.ftlm := rfl
@[simp] theorem State.modRange_media (s : State) (r : Nat) (f : Range → Range) : (s.modRange r f).media = s.media := rfl
@[simp] theorem State.modRange_clus (s : State) (r : Nat) (f : Range → Range) : (s.modRange r f).clus = s.clus := rfl
@[simp] theorem State.modRange_plan (s : State) (r : Nat) (f : Range → Range) : (s.modRange r f).plan = s.plan := rfl
@[simp] theorem State.modRange_pers (s : State) (r : Nat) (f : Range → Range) : (s.modRange r f).pers = s.pers := rfl
@[simp] theorem State.modRange_aon (s : State) (r : Nat) (f : Range → Range) : (s.modRange r f).aon = s.aon := rfl
@[simp] theorem State.modRange_ilkn (s : State) (r : Nat) (f : Range → Range) : (s.modRange r f).ilkn = s.ilkn := rfl
@[simp] theorem State.modRange_kspe (s : State) (r : Nat) (f : Range → Range) : (s.modRange r f).kspe = s.kspe := rfl
@[simp] theorem State.modRange_ingp (s : State) (r : Nat) (f : Range → Range) : (s.modRange r f).ingp = s.ingp := rfl
@[simp] theorem State.modRange_strd (s : State) (r : Nat) (f : Range → Range) : (s.modRange r f).strd = s.strd := rfl
@[simp] theorem State.modRange_rple (s : State) (r : Nat) (f : Range → Range) : (s.modRange r f).rple = s.rple := rfl
@[simp] theorem State.modRange_qrye (s : State) (r : Nat) (f : Range → Range) : (s.modRange r f).qrye = s.qrye := rfl
@[simp] theorem State.modRange_pseq (s : State) (r : Nat) (f : Range → Range) : (s.modRange r f).pseq = s.pseq := rfl
@[simp] theorem State.modRange_thrm (s : State) (r : Nat) (f : Range → Range) : (s.modRange r f).thrm = s.thrm := rfl
@[simp] theorem State.modRange_evtr (s : State) (r : Nat) (f : Range → Range) : (s.modRange r f).evtr = s.evtr := rfl
@[simp] theorem State.modRange_psto (s : State) (r : Nat) (f : Range → Range) : (s.modRange r f).psto = s.psto := rfl
@[simp] theorem State.modRange_boot (s : State) (r : Nat) (f : Range → Range) : (s.modRange r f).boot = s.boot := rfl
@[simp] theorem State.modRange_idnt (s : State) (r : Nat) (f : Range → Range) : (s.modRange r f).idnt = s.idnt := rfl
@[simp] theorem State.modRange_coht (s : State) (r : Nat) (f : Range → Range) : (s.modRange r f).coht = s.coht := rfl
@[simp] theorem State.modRange_raised (s : State) (r : Nat) (f : Range → Range) : (s.modRange r f).raised = s.raised := rfl
@[simp] theorem State.modRange_out (s : State) (r : Nat) (f : Range → Range) : (s.modRange r f).out = s.out := rfl
@[simp] theorem State.modRange_free (s : State) (r : Nat) (f : Range → Range) : (s.modRange r f).free = s.free := rfl
@[simp] theorem State.modRange_pending (s : State) (r : Nat) (f : Range → Range) : (s.modRange r f).pending = s.pending := rfl

@[simp] theorem State.setPresence_fuse (s : State) (k l : Nat) : (s.setPresence k l).fuse = s.fuse := rfl
@[simp] theorem State.setPresence_sysc (s : State) (k l : Nat) : (s.setPresence k l).sysc = s.sysc := rfl
@[simp] theorem State.setPresence_rest (s : State) (k l : Nat) : (s.setPresence k l).rest = s.rest := rfl
@[simp] theorem State.setPresence_hall (s : State) (k l : Nat) : (s.setPresence k l).hall = s.hall := rfl
@[simp] theorem State.setPresence_mbox (s : State) (k l : Nat) : (s.setPresence k l).mbox = s.mbox := rfl
@[simp] theorem State.setPresence_ncch (s : State) (k l : Nat) : (s.setPresence k l).ncch = s.ncch := rfl
@[simp] theorem State.setPresence_sram (s : State) (k l : Nat) : (s.setPresence k l).sram = s.sram := rfl
@[simp] theorem State.setPresence_drmc (s : State) (k l : Nat) : (s.setPresence k l).drmc = s.drmc := rfl
@[simp] theorem State.setPresence_tier (s : State) (k l : Nat) : (s.setPresence k l).tier = s.tier := rfl
@[simp] theorem State.setPresence_ftlm (s : State) (k l : Nat) : (s.setPresence k l).ftlm = s.ftlm := rfl
@[simp] theorem State.setPresence_media (s : State) (k l : Nat) : (s.setPresence k l).media = s.media := rfl
@[simp] theorem State.setPresence_clus (s : State) (k l : Nat) : (s.setPresence k l).clus = s.clus := rfl
@[simp] theorem State.setPresence_plan (s : State) (k l : Nat) : (s.setPresence k l).plan = s.plan := rfl
@[simp] theorem State.setPresence_pers (s : State) (k l : Nat) : (s.setPresence k l).pers = s.pers := rfl
@[simp] theorem State.setPresence_aon (s : State) (k l : Nat) : (s.setPresence k l).aon = s.aon := rfl
@[simp] theorem State.setPresence_ilkn (s : State) (k l : Nat) : (s.setPresence k l).ilkn = s.ilkn := rfl
@[simp] theorem State.setPresence_kspe (s : State) (k l : Nat) : (s.setPresence k l).kspe = s.kspe := rfl
@[simp] theorem State.setPresence_ingp (s : State) (k l : Nat) : (s.setPresence k l).ingp = s.ingp := rfl
@[simp] theorem State.setPresence_strd (s : State) (k l : Nat) : (s.setPresence k l).strd = s.strd := rfl
@[simp] theorem State.setPresence_rple (s : State) (k l : Nat) : (s.setPresence k l).rple = s.rple := rfl
@[simp] theorem State.setPresence_qrye (s : State) (k l : Nat) : (s.setPresence k l).qrye = s.qrye := rfl
@[simp] theorem State.setPresence_mprt (s : State) (k l : Nat) : (s.setPresence k l).mprt = s.mprt := rfl
@[simp] theorem State.setPresence_pseq (s : State) (k l : Nat) : (s.setPresence k l).pseq = s.pseq := rfl
@[simp] theorem State.setPresence_thrm (s : State) (k l : Nat) : (s.setPresence k l).thrm = s.thrm := rfl
@[simp] theorem State.setPresence_evtr (s : State) (k l : Nat) : (s.setPresence k l).evtr = s.evtr := rfl
@[simp] theorem State.setPresence_psto (s : State) (k l : Nat) : (s.setPresence k l).psto = s.psto := rfl
@[simp] theorem State.setPresence_boot (s : State) (k l : Nat) : (s.setPresence k l).boot = s.boot := rfl
@[simp] theorem State.setPresence_idnt (s : State) (k l : Nat) : (s.setPresence k l).idnt = s.idnt := rfl
@[simp] theorem State.setPresence_coht (s : State) (k l : Nat) : (s.setPresence k l).coht = s.coht := rfl
@[simp] theorem State.setPresence_raised (s : State) (k l : Nat) : (s.setPresence k l).raised = s.raised := rfl
@[simp] theorem State.setPresence_out (s : State) (k l : Nat) : (s.setPresence k l).out = s.out := rfl
@[simp] theorem State.setPresence_free (s : State) (k l : Nat) : (s.setPresence k l).free = s.free := rfl
@[simp] theorem State.setPresence_pending (s : State) (k l : Nat) : (s.setPresence k l).pending = s.pending := rfl

@[simp] theorem State.putTier_fuse (s : State) (l : Nat) (d : BitVec 512) (p : Bool) : (s.putTier l d p).fuse = s.fuse := rfl
@[simp] theorem State.putTier_sysc (s : State) (l : Nat) (d : BitVec 512) (p : Bool) : (s.putTier l d p).sysc = s.sysc := rfl
@[simp] theorem State.putTier_rest (s : State) (l : Nat) (d : BitVec 512) (p : Bool) : (s.putTier l d p).rest = s.rest := rfl
@[simp] theorem State.putTier_hall (s : State) (l : Nat) (d : BitVec 512) (p : Bool) : (s.putTier l d p).hall = s.hall := rfl
@[simp] theorem State.putTier_cxlp (s : State) (l : Nat) (d : BitVec 512) (p : Bool) : (s.putTier l d p).cxlp = s.cxlp := rfl
@[simp] theorem State.putTier_mbox (s : State) (l : Nat) (d : BitVec 512) (p : Bool) : (s.putTier l d p).mbox = s.mbox := rfl
@[simp] theorem State.putTier_ncch (s : State) (l : Nat) (d : BitVec 512) (p : Bool) : (s.putTier l d p).ncch = s.ncch := rfl
@[simp] theorem State.putTier_sram (s : State) (l : Nat) (d : BitVec 512) (p : Bool) : (s.putTier l d p).sram = s.sram := rfl
@[simp] theorem State.putTier_drmc (s : State) (l : Nat) (d : BitVec 512) (p : Bool) : (s.putTier l d p).drmc = s.drmc := rfl
@[simp] theorem State.putTier_ftlm (s : State) (l : Nat) (d : BitVec 512) (p : Bool) : (s.putTier l d p).ftlm = s.ftlm := rfl
@[simp] theorem State.putTier_media (s : State) (l : Nat) (d : BitVec 512) (p : Bool) : (s.putTier l d p).media = s.media := rfl
@[simp] theorem State.putTier_clus (s : State) (l : Nat) (d : BitVec 512) (p : Bool) : (s.putTier l d p).clus = s.clus := rfl
@[simp] theorem State.putTier_plan (s : State) (l : Nat) (d : BitVec 512) (p : Bool) : (s.putTier l d p).plan = s.plan := rfl
@[simp] theorem State.putTier_pers (s : State) (l : Nat) (d : BitVec 512) (p : Bool) : (s.putTier l d p).pers = s.pers := rfl
@[simp] theorem State.putTier_aon (s : State) (l : Nat) (d : BitVec 512) (p : Bool) : (s.putTier l d p).aon = s.aon := rfl
@[simp] theorem State.putTier_ilkn (s : State) (l : Nat) (d : BitVec 512) (p : Bool) : (s.putTier l d p).ilkn = s.ilkn := rfl
@[simp] theorem State.putTier_kspe (s : State) (l : Nat) (d : BitVec 512) (p : Bool) : (s.putTier l d p).kspe = s.kspe := rfl
@[simp] theorem State.putTier_ingp (s : State) (l : Nat) (d : BitVec 512) (p : Bool) : (s.putTier l d p).ingp = s.ingp := rfl
@[simp] theorem State.putTier_strd (s : State) (l : Nat) (d : BitVec 512) (p : Bool) : (s.putTier l d p).strd = s.strd := rfl
@[simp] theorem State.putTier_rple (s : State) (l : Nat) (d : BitVec 512) (p : Bool) : (s.putTier l d p).rple = s.rple := rfl
@[simp] theorem State.putTier_qrye (s : State) (l : Nat) (d : BitVec 512) (p : Bool) : (s.putTier l d p).qrye = s.qrye := rfl
@[simp] theorem State.putTier_mprt (s : State) (l : Nat) (d : BitVec 512) (p : Bool) : (s.putTier l d p).mprt = s.mprt := rfl
@[simp] theorem State.putTier_pseq (s : State) (l : Nat) (d : BitVec 512) (p : Bool) : (s.putTier l d p).pseq = s.pseq := rfl
@[simp] theorem State.putTier_thrm (s : State) (l : Nat) (d : BitVec 512) (p : Bool) : (s.putTier l d p).thrm = s.thrm := rfl
@[simp] theorem State.putTier_evtr (s : State) (l : Nat) (d : BitVec 512) (p : Bool) : (s.putTier l d p).evtr = s.evtr := rfl
@[simp] theorem State.putTier_psto (s : State) (l : Nat) (d : BitVec 512) (p : Bool) : (s.putTier l d p).psto = s.psto := rfl
@[simp] theorem State.putTier_boot (s : State) (l : Nat) (d : BitVec 512) (p : Bool) : (s.putTier l d p).boot = s.boot := rfl
@[simp] theorem State.putTier_idnt (s : State) (l : Nat) (d : BitVec 512) (p : Bool) : (s.putTier l d p).idnt = s.idnt := rfl
@[simp] theorem State.putTier_coht (s : State) (l : Nat) (d : BitVec 512) (p : Bool) : (s.putTier l d p).coht = s.coht := rfl
@[simp] theorem State.putTier_raised (s : State) (l : Nat) (d : BitVec 512) (p : Bool) : (s.putTier l d p).raised = s.raised := rfl
@[simp] theorem State.putTier_out (s : State) (l : Nat) (d : BitVec 512) (p : Bool) : (s.putTier l d p).out = s.out := rfl
@[simp] theorem State.putTier_free (s : State) (l : Nat) (d : BitVec 512) (p : Bool) : (s.putTier l d p).free = s.free := rfl
@[simp] theorem State.putTier_pending (s : State) (l : Nat) (d : BitVec 512) (p : Bool) : (s.putTier l d p).pending = s.pending := rfl

end Sys2Proof.Machine
end

