-- ==== Sys2Proof/Machine/Sealed.lean ====
section
/-!
DEFINITION. What is stored outside the die, as every other master sees it: the lines and counter lines of the DRAM tier, tree nodes, and
media pages (14_memory_protection.md R594 to R600, R604 to R608, R630; 06_dram_tier.md R252).
-/
namespace Sys2Proof.Machine

/-- A number as so many bytes, least significant first (R10). -/
def leBytes (n v : Nat) : List (BitVec 8) := (bytesLE n v).map (BitVec.ofNat 8 ·)

/-- Bytes combined by exclusive or. -/
def xorBytes (a b : List (BitVec 8)) : List (BitVec 8) := a.zipWith (· ^^^ ·) b

/-! ### Lines (R595 to R597) -/

/-- The tier line number of a line: tier address / 64. -/
def tierLineNumber (line : Nat) : Nat := 64 * tierPageOf line + line % 64

/-- The slot that a line of the tier is encrypted under: its page's (R592). -/
def State.lineSlot (s : State) (line : Nat) : KSlot := s.kslot ((s.cline (tierPageOf line)).slot.getD s.mprt.devslot)

/-- The counter block of an operation on a line (R595). -/
def State.counterBlock (s : State) (line block : Nat) (mac poison : Bool) : BitVec 128 :=
  let c := s.cline (tierPageOf line)
  BitVec.ofNat 128 (pack [(34, tierLineNumber line), (40, c.major), (6, tget 0 c.minors (line % 64)), (32, s.mprt.epoch), (2, block), (1, b2n mac),
    (1, b2n poison)])

/-- The ciphertext of a line: each 16 bytes with the keystream of their block (R596). -/
def State.cipherLine (s : State) (line : Nat) (x : BitVec 512 × Bool) : List (BitVec 8) :=
  xorBytes (leBytes 64 x.1.toNat)
    ((List.range 4).flatMap fun b => leBytes 16 (Config.aes256 (s.lineSlot line).kD (s.counterBlock line b false x.2)).toNat)

/-- The line MAC: bits [63:0] of GHASH of the ciphertext and the 64-bit tier line number, with the MAC pad (R597). -/
def State.lineMac (s : State) (line : Nat) (x : BitVec 512 × Bool) : BitVec 64 :=
  let k := s.lineSlot line
  (Config.ghash k.hL (s.cipherLine line x ++ leBytes 8 (tierLineNumber line)) ^^^ Config.aes256 k.kL (s.counterBlock line 0 true x.2)).setWidth 64

/-- A line as its 16 beats carry it: ciphertext, MAC, check symbols (06_dram_tier.md R252, R253). -/
def State.storedLine (s : State) (line : Nat) : List (BitVec 40) :=
  let x := s.lineData line
  dramBeats (rsCodeword ((s.cipherLine line x).map (·.toNat)) (bytesLE 8 (s.lineMac line x).toNat))

/-! ### Nodes (R594, R599, R600) -/

/-- Bytes 0 to 55 of a node: a counter line's MAJOR, minors and SLOT, or the counters of the 8 nodes below it (R594, R599). -/
def State.nodeBytes (s : State) (level node : Nat) : List (BitVec 8) :=
  if level = 0 then
    let c := s.cline node
    leBytes 56 (pack ([(40, c.major)] ++ (List.range 64).map (fun i => (6, tget 0 c.minors i)) ++ [(5, c.slot.getD s.mprt.devslot)]))
  else leBytes 56 (pack ((List.range 8).map fun i => (56, s.mprt.counterOf (level - 1) (8 * node + i))))

/-- A node's MAC, under the device slot, at one of its copies (R600). -/
def State.nodeMac (s : State) (level node : Nat) (mirror : Bool) : BitVec 64 :=
  let k := s.kslot s.mprt.devslot
  let n := s.nodeLine level node mirror
  (Config.ghash k.hL (s.nodeBytes level node ++ leBytes 8 n ++ leBytes 1 level) ^^^
    Config.aes256 k.kL (BitVec.ofNat 128 (pack [(56, s.mprt.counterOf level node), (34, n), (38, level)]))).setWidth 64

/-- A copy of a node as it is stored, in plaintext (R587, R594). -/
def State.storedNode (s : State) (level node : Nat) (mirror : Bool) : List (BitVec 8) :=
  s.nodeBytes level node ++ leBytes 8 (s.nodeMac level node mirror).toNat

/-! ### Media pages (R604 to R607) -/

/-- The out-of-band record of a quarter, but for its check value, which comes last (07_translation.md R331). -/
def Oob.bytes (o : Oob) : List (BitVec 8) :=
  let b := leBytes 28 (pack [(1, b2n o.coarse), (2, o.cls), (6, o.cpage), (1, b2n o.qres), (6, 0), (36, o.lunit), (12, 0), (64, o.seq), (64, o.pmask)])
  b ++ leBytes 4 (crc32c b)

/-- The program sequence of a page: the write sequence of its slot 0 (R605). -/
def MPage.sequence (p : MPage) : Nat := (p.rec_ 0).seq

/-- The 16,384 data bytes of a page: its lines, or its words and its hank page counter (00_scope.md R13; 08_media_reliability.md R349). -/
def MPage.plain (p : MPage) : List (BitVec 8) :=
  if (p.rec_ 0).coarse then (List.range pageWords).flatMap (fun j => leBytes 5 (tget 0 p.words j).toNat) ++ leBytes 4 p.counter
  else (List.range 256).flatMap fun i => leBytes 64 (tget 0 p.lines i).toNat

/-- The physical page number (R606). -/
def physicalPage (die block page : Nat) : Nat := die * 2 ^ 26 + block * 2 ^ 13 + page

/-- The IV of a quarter, or of the page tag as quarter 15 (R606, R607). -/
def MPage.iv (p : MPage) (at_ quarter : Nat) : BitVec 128 := BitVec.ofNat 128 (pack [(48, at_), (64, p.sequence), (4, quarter)])

/-- A quarter encrypted: its ciphertext and its tag (R606). -/
def State.sealQuarter (s : State) (p : MPage) (at_ q : Nat) : List (BitVec 8) × BitVec 64 :=
  let o := p.rec_ q
  let x := Config.gcm (s.kslot o.slot).kM (p.iv at_ q) ((p.plain.drop (4096 * q)).take 4096) (o.bytes ++ leBytes 1 o.slot)
  (x.1, x.2.setWidth 64)

/-- A page field, the quarter tag first; `tag` is the page tag (R604). -/
def State.pageField (s : State) (p : MPage) (at_ q tag : Nat) : List (BitVec 8) :=
  leBytes 8 (s.sealQuarter p at_ q).2.toNat ++ leBytes 1 (p.rec_ q).slot ++
  match q with
  | 0 => leBytes 7 p.sequence
  | 1 => leBytes 1 (p.sequence / 2 ^ 56) ++ leBytes 6 tag
  | 2 => leBytes 6 (tag / 2 ^ 48) ++ leBytes 1 0
  | _ => leBytes 7 0

/-- The page tag: the GMAC under the device slot of the four ciphertexts, the four records, and the page-field bytes other than itself
(R607; log 99). -/
def State.pageTag (s : State) (p : MPage) (at_ : Nat) : BitVec 96 :=
  let four (f : Nat → List (BitVec 8)) : List (BitVec 8) := (List.range 4).flatMap f
  let own (q : Nat) : List (BitVec 8) :=
    let f := s.pageField p at_ q 0
    if q = 1 then f.take 10 else if q = 2 then f.take 9 ++ f.drop 15 else f
  ((Config.gcm (s.kslot s.mprt.devslot).kM (p.iv at_ 15) []
    (four (fun q => (s.sealQuarter p at_ q).1) ++ four (fun q => (p.rec_ q).bytes) ++ four own)).2).setWidth 96

/-- A codeword of a data page of a band, but for its parity: a quarter's ciphertext, its out-of-band record, its page field
(08_media_reliability.md R349). -/
def State.storedQuarter (s : State) (band dpage q : Nat) : List (BitVec 8) :=
  let p := s.mpage band dpage
  let (die, block, page) := (s.band band).place dpage
  let at_ := physicalPage die block page
  (s.sealQuarter p at_ q).1 ++ (p.rec_ q).bytes ++ s.pageField p at_ q (s.pageTag p at_).toNat

/-- A map line: 12 entries of 5 bytes (07_translation.md R294). -/
def State.mapLine (s : State) (coarse : Bool) (n : Nat) : BitVec 512 :=
  BitVec.ofNat 512 (pack ((List.range 12).map fun i => (40, (s.mapEntry coarse (12 * n + i)).toNat)))

/-- A quench reserve page of dirty lines as it is programmed: the lines, their directory in lines 236 to 255, and its out-of-band records
(10_persistence.md R433). -/
def Qpage.stored (p : Qpage) : MPage :=
  let entry (x : Nat × BitVec 512 × Bool) : Nat := pack [(33, x.1 / 64), (6, x.1 % 64), (1, 1)]
  let dir (k : Nat) : BitVec 512 := BitVec.ofNat 512 (pack (((p.lines.drop (12 * k)).take 12).map fun x => (40, entry x)))
  let mask (q : Nat) : Nat := bitsOf ((List.range 64).filter fun i => (p.lines[64 * q + i]?).any (·.2.2))
  { MPage.reset with
    oob := (List.range 4).map fun q => { Oob.reset with cls := 1, qres := true, seq := p.seq, pmask := mask q }
    lines := tputs 0 (tputs 0 [] 0 (p.lines.map (·.2.1))) 236 ((List.range 20).map dir) }

/-- The parity die, block and page of a stripe row (07_translation.md R300). -/
def Band.parityPlace (b : Band) (row : Nat) : Nat × Nat × Nat :=
  let x := b.members.getD (row % b.members.length) (0, 0)
  (x.1, x.2, row)

/-- A codeword of a row's parity page, but for its own parity: the exclusive or of the row's data pages, missing ones as zeros
(07_translation.md R300, R302; 10_persistence.md R428). -/
def State.storedParity (s : State) (band row q : Nat) : List (BitVec 8) :=
  let w := (s.band band).members.length - 1
  (((List.range w).map (row * w + ·)).filter fun d => s.media.pages.any fun e => e.1 = pageKey band d).foldl
    (fun x d => xorBytes x (s.storedQuarter band d q)) (List.replicate 4144 0)

end Sys2Proof.Machine
end

