-- ==== Sys2Proof/Tests/Slice0.lean ====
section
/-! SUPPORT. The model's own tests: a machine out of reset to run commands on, the premises of each obligation met clause
by clause, one ill-formed term for each check of WellFormed, and small one-command tests whose expected values are the
spec's. -/

namespace Sys2Proof.Tests

open Sys2Proof Sys2Proof.Machine

set_option maxRecDepth 16000
set_option exponentiation.threshold 1024

/-- The machine out of reset with VAON in range, in MEMORY mode, every block's registers served, and nothing in flight. -/
def base : State :=
  { State.reset with
    pseq.vaon := true
    sysc.mode := .memory
    hall.hdrs := State.reset.blocks.map fun b => (b.page, { Hdr.reset with ready := true })
    evtr.mainRun := true
    ftlm.hdrMib := 1024
    pers.limit := 1024
    ncch.slices := [(0, { Slice.reset with live := true, serves := 0xFFFF })] }
/-- The same in another mode. -/
def baseIn (m : Mode) : State := { base with sysc.mode := m }
/-- The same with the table sequencer in a phase. -/
def baseSeq (p : Phase) (e : EntryState) : State := { base with pseq.seq.phase := p, pseq.seq.entryState := e }
/-- The same in a start, its power good, with the step in progress. -/
def baseStart (cur : Nat) : State :=
  { base with sysc.mode := .starting, sysc.start.running := true, sysc.start.cur := cur, pseq.seq.phase := .complete }
/-- The same with line 0 in way 0 of slice 0, in a state. -/
def baseWay (st : LineState) : State :=
  { base with ncch.slices := [(0, { Slice.reset with live := true, serves := 0xFFFF, ways := [(0, { Way.reset with st := st })] })] }
/-- A slice in service, and what waits in it. -/
def oneSlice (miss : List Miss) (inWait : List MemReq) (victims : List Vict) : Tbl Slice :=
  [(0, { Slice.reset with live := true, serves := 0xFFFF, miss := miss, inWait := inWait, victims := victims, ways := [(0, { Way.reset with st := .modified })] })]
/-- A boot flash whose slot B holds an image's header. -/
def baseFlash : Tbl (BitVec 8) :=
  tputs 0xFF [] (slotBase 1) [0x52, 0x4C, 0x54, 0x52, 0x53, 0x49, 0x4D, 0x47, 0, 1, 2, 0, 0, 0, 0, 0, 0, 0, 0, 0, 0, 0, 0, 0, 0, 0]
/-- The same with a transfer into slot B open on interface 1. -/
def baseXfer : State :=
  { base with boot.flash := baseFlash, boot.xfer := { active := true, slot := 2, blocks := 0, iface := 1, next := 0, lastPart := 0 } }
/-- An open band of a class with room, and a closed one. -/
def openBand (cls : Nat) : Band := { Band.reset with cls := cls, phase := .opened, size := 100 }
/-- A closed band with valid units. -/
def shutBand (slc : Bool) : Band := { Band.reset with slc := slc, phase := .closed, size := 100, next := 100, valid := 1 }
/-- The same with a band 1 that holds one mapped unit, number 7, and an open band 2 of a class. -/
def baseMoves (slc : Bool) (cls : Nat) : State :=
  { base with ftlm.bands := [(1, shutBand slc), (2, openBand cls)], ftlm.fine := [(7, mapped (mkPua 1 3 0))], ftlm.gc := true }
/-- The same with erase block 0 of die 0 in a closed pseudo-SLC band 1 with valid data. -/
def basePlanish : State :=
  { base with media.blocks := [(0, { Blk.reset with use := .band 1 })], ftlm.bands := [(1, { shutBand true with members := [(0, 0)] })] }
/-- The same with an operation in the array of die 0. -/
def baseDie (o : DieOp) : State := { base with clus.dies := [(0, { Die.reset with array := some o })] }
/-- The same with one media read in flight. -/
def baseRead (r : MRead) : State := { base with clus.reads := [r] }
/-- A control frame for strand 0 with a body. -/
def ctl (cop : Nat) (body : List Word) : Segment :=
  { chan := 0, words := [0x4000000000, BitVec.ofNat 40 (body.length - 1 + cop * 256)] ++ body, bytes := 5 * (2 + body.length) }
/-- A data segment for strand 0 on channel 4: neither S nor E. -/
def data (body : List Word) : Segment :=
  { chan := 4, words := [0, BitVec.ofNat 40 (body.length - 1)] ++ body, bytes := 5 * (2 + body.length) }
/-- The same in STREAM mode with the link up, version 1 agreed or none, and strand 0 as given. -/
def baseStrand (agreed : Nat) (x : Strand) : State :=
  { base with sysc.mode := .stream, ilkn.up := true, kspe.agreed := agreed, kspe.vstate := 1, kspe.vmin := 1, kspe.vmax := 2, kspe.ctrl := 7,
              ftlm.exported := 4096, strd.stage2 := 2, strd.strands := [(0, x)] }
/-- A strand in a state with every trigger source enabled and a hank of two units. -/
def strandIn (st : SState) : Strand := { Strand.reset with st := st, srcen := 31, hsize := 2 }
/-- The same with time running, disciplined, in a state of the discipline. -/
def baseDisc (d : DiscState) (phase : Nat) : State :=
  { base with coht.running := true, coht.disc := 0xFA0002843, coht.dstate := d, coht.phase := phase * 2 ^ 32 }
/-- Strand 0 idle with one record of one word in a staged page, with flags in its slot. -/
def baseRecord (flags : Word) : State :=
  { baseStrand 1 { strandIn .idle with wpword := 4 } with
    ingp := [(0, { Pipe.reset with cruc0 := [{ Frame.reset with words := [(0, 4 ||| flags), (1, 5), (3, 77)] }] })] }
/-- A running replay slot over that record, its page buffered or not. -/
def slotAt (buffered : Bool) : Slot :=
  { Slot.reset with st := .running, app0 := 0x8100000, window := [0], base := 5, buffered := if buffered then [0] else [] }
/-- The same with slot 0 as given. -/
def withSlot (s : State) (x : Slot) : State := { s with rple.slots := [(0, x)], tier.poolGib := 1 }
/-- The link of that record. -/
def linkOf (flags : Word) : List HSlot := [{ h := 0, len := 4, ts := 5, slot := 4 ||| flags }]
/-- The same with an SPDM connection 0. -/
def baseSpdm (c : Spdm) : State := { base with idnt.spdm := [(0, c)], idnt.certA := true, psto.recs := [(11, { RecSlot.reset with winner := .identity 5 6 })] }
/-- A connection past its opening exchanges. -/
def opened : Spdm := { Spdm.reset with version := true, caps := true, algs := true }
/-- A request of a code, with parameters, padded to a length. -/
def req (code p1 p2 n : Nat) : List (BitVec 8) := [0x13, b8 code, b8 p1, b8 p2] ++ List.replicate (n - 4) 0
/-- A vendor-defined request around a payload. -/
def vendorReq (p : List (BitVec 8)) : List (BitVec 8) :=
  [0x13, 0xFE, 0, 0] ++ le 2 3 ++ [2] ++ le 2 Config.vendorId.toNat ++ le 2 p.length ++ p

/-- A certificate chain of the base machine is held and is longer than its fixed head. -/
theorem base_chain (k : Nat) : ∃ c, (baseSpdm opened).chain k = some c ∧ 68 ≤ c.length := by
  refine ⟨_, rfl, ?_⟩
  rw [List.length_append, List.length_append]
  have h4 : ∀ n, (le 4 n).length = 4 := fun _ => rfl
  have h64 : ∀ n, (le 64 n).length = 64 := fun _ => rfl
  rw [h4, h64]
  omega

/-- A vendor-defined request carries its payload, whatever the part's vendor number is. -/
theorem vendorReq_payload (p : List (BitVec 8)) (h : p.length < 65536) : vendorPayload (vendorReq p) = some p := by
  have two : ∀ n, n < 65536 → ofBytesLE ((le 2 n).map (·.toNat)) = n := by
    intro n hn
    simp [le, bytesLE, ofBytesLE, b8]
    omega
  have hv := two _ Config.vendorId.isLt
  have hp := two _ h
  simp [vendorPayload, vendorReq, leAt, le, bytesLE] at *
  rw [hv, hp]
  exact ⟨⟨by decide, by decide, rfl, by omega⟩, by simp⟩

/-- The premises of `Obligations.IdleStep`, clause by clause, are met. -/
theorem test_met_IdleStep :
    (∃ (s : State), s.pending = []) :=
  ⟨base, by decide⟩
/-- The premises of `Obligations.SupplyRiseAndFall`, clause by clause, are met. -/
theorem test_met_SupplyRiseAndFall :
    (∃ (s : State), s.settled ∧ s.pseq.vaon = false) ∧
    (∃ (s : State), s.pseq.vaon = true) ∧
    (∃ (s : State), s.psto.recalling = some .vaonRise) ∧
    (∃ (s : State), s.psto.recalling = some .startStep ∧ s.settled) :=
  ⟨⟨.reset, by decide⟩,
   ⟨base, by decide⟩,
   ⟨{base with psto.recalling := some .vaonRise}, by decide⟩,
   ⟨{base with psto.recalling := some .startStep}, by decide⟩⟩
/-- The premises of `Obligations.SupervisorSettings`, clause by clause, are met. -/
theorem test_met_SupervisorSettings :
    (∃ (s : State) (upper : Bool) (v : Word) (i : Nat) (x : SnsIn), s.settled ∧ s.up .pseq ∧ s.pseq.sequencing = false ∧ i = min 27 (fld s.pseq.sel 0 5) ∧ x = s.pseq.input i ∧ thresholdsOk (if upper then x.uvth else keep v 0xFFFFFF) (if upper then keep v 0xFFFFFF else x.ovth) = true) ∧
    (∃ (s : State) (upper : Bool) (v : Word) (i : Nat) (x : SnsIn), s.up .pseq ∧ s.pseq.sequencing = false ∧ i = min 27 (fld s.pseq.sel 0 5) ∧ x = s.pseq.input i ∧ thresholdsOk (if upper then x.uvth else keep v 0xFFFFFF) (if upper then keep v 0xFFFFFF else x.ovth) = false ∧ (s.hdr .pseq).evalid = false) ∧
    (∃ (s : State) (upper : Bool) (v : Word) (c : Instr), s.up .pseq ∧ s.pseq.sequencing = true ∧ (s.hdr .pseq).evalid = false ∧ (c = .thresholdWrite upper v ∨ c = .tableEntryWrite v ∨ c = .seqcfgWrite v)) :=
  ⟨⟨base, false, 0x002001, 0, .reset, by decide⟩,
   ⟨base, false, 0x001001, 0, .reset, by decide⟩,
   ⟨baseSeq .powerUp .delay, false, 0, .seqcfgWrite 0, by decide⟩⟩
/-- The premises of `Obligations.HoldupSettings`, clause by clause, are met. -/
theorem test_met_HoldupSettings :
    (∃ (s : State) (v : Word), s.syscUp ∧ fld v 0 13 ≤ fld v 13 13 ∧ (s.hdr .sysc).evalid = false) ∧
    (∃ (s : State) (v : Word), s.syscUp ∧ fld v 13 13 < fld v 0 13 ∧ fld v 26 9 ≠ 0) ∧
    (∃ (s : State), s.syscUp ∧ s.pseq.cap.running = false ∧ fld s.pseq.capcfg 9 13 ≠ 0 ∧ s.bankAt (s.pseq.input 1).code (max 1 (fld s.pseq.capcfg 29 8) * 10) = true) ∧
    (∃ (s : State), s.pseq.cap.due.isSome = true ∧ s.sysc.mode ≠ .dormant ∧ s.sysc.mode ≠ .quench ∧ s.pseq.cap.running = false ∧ fld s.pseq.capcfg 9 13 ≠ 0) :=
  ⟨⟨base, 0, by decide⟩,
   ⟨base, 0x4004005, by decide⟩,
   ⟨{base with pers.holdupcfg := 0, pseq.capcfg := 0xC82800300, pseq.inputs := [(1, { defaultInput 1 with code := 4095 })]}, by decide⟩,
   ⟨{base with pseq.cap.due := some 5, pseq.capcfg := 0xC82800300}, by decide⟩⟩
/-- The premises of `Obligations.Sampling`, clause by clause, are met. -/
theorem test_met_Sampling :
    (∃ (s : State) (code : Nat), s.pseq.vaon = true ∧ s.psto.recalling ≠ some .vaonRise ∧ s.pseq.slot < 45 ∧ adcTarget s.pseq.slot = 28 ∧ code ≤ 8) ∧
    (∃ (s : State) (code : Nat) (i : Nat), s.pseq.vaon = true ∧ s.psto.recalling ≠ some .vaonRise ∧ code < 4096 ∧ i = adcTarget s.pseq.slot ∧ 2 ≤ i ∧ i < 28 ∧ s.pseq.kind i ≠ .monitor ∧ s.sysc.mode = .dormant ∧ s.pseq.sequencing = false) :=
  ⟨⟨{base with pseq.slot := 41}, 0, by decide⟩,
   ⟨{baseIn .dormant with pseq.slot := 2}, 7, 2, by decide⟩⟩
/-- The premises of `Obligations.SequencerSteps`, clause by clause, are met. -/
theorem test_met_SequencerSteps :
    (∃ (s : State), s.settled ∧ s.pseq.vaon = true ∧ s.pseq.joined = true ∧ s.pseq.seq.holding = false ∧ (s.pseq.seq.phase = .powerUp ∨ s.pseq.seq.phase = .shutJoint) ∧ s.pseq.seq.step < 31) ∧
    (∃ (s : State), s.settled ∧ s.pseq.vaon = true ∧ s.pseq.seq.holding = false ∧ s.pseq.sequencing = false ∧ s.pseq.seq.restart = .armed ∧ s.sysc.mode = .dormant) ∧
    (∃ (s : State), s.pseq.joined = true ∧ s.pseq.seq.phase = .powerUp) ∧
    (∃ (s : State) (i : Nat), s.settled ∧ s.pseq.seq.phase = .powerUp ∧ s.pseq.seq.entryState = .delay ∧ (s.pseq.entry false s.pseq.seq.entry).wait = some i ∧ (s.pseq.input i).pg = false) ∧
    (∃ (s : State) (k : Nat), s.settled ∧ s.pseq.seq.phase = .powerUp ∧ s.pseq.seq.entryState = .waiting ∧ k = s.pseq.seq.entry ∧ tget 0 s.pseq.seq.retries k < 2) ∧
    (∃ (s : State), s.settled ∧ s.pseq.seq.phase = .powerUp ∧ s.pseq.seq.entryState = .offTime) ∧
    (∃ (s : State), s.pseq.seq.phase = .faultHold) :=
  ⟨⟨{baseSeq .powerUp .stepDone with pseq.seqcfg := 0x40000}, by decide⟩,
   ⟨{baseIn .dormant with pseq.seq.restart := .armed}, by decide⟩,
   ⟨{baseSeq .powerUp .waiting with pseq.seqcfg := 0x40000}, by decide⟩,
   ⟨baseSeq .powerUp .delay, 0, by decide⟩,
   ⟨baseSeq .powerUp .waiting, 0, by decide⟩,
   ⟨baseSeq .powerUp .offTime, by decide⟩,
   ⟨baseSeq .faultHold .idle, by decide⟩⟩
/-- The premises of `Obligations.StartsBegin`, clause by clause, are met. -/
theorem test_met_StartsBegin :
    (∃ (s : State) (c : Instr), s.sysc.mode = .dormant ∧ s.aon.testLow = false ∧ ((c = .vinPowerGood ∧ s.pseq.sequencing = false ∧ s.pseq.seq.vinGood = true) ∨ (c = .restartTimerExpired ∧ s.pseq.seq.restart = .running ∧ (s.pseq.input 0).pg = true))) :=
  ⟨{baseIn .dormant with pseq.seq.vinGood := true}, .vinPowerGood, by decide⟩
/-- The premises of `Obligations.StartStepsEnd`, clause by clause, are met. -/
theorem test_met_StartStepsEnd :
    (∃ (s : State), s.settled ∧ s.sysc.mode = .starting ∧ s.sysc.start.running = true ∧ s.pseq.seq.phase = .complete ∧ s.sysc.start.cur = 1) ∧
    (∃ (s : State) (r : StepRep), s.settled ∧ s.sysc.mode = .starting ∧ s.sysc.start.running = true ∧ s.pseq.seq.down = false ∧ s.sysc.start.cur = 2 ∧ r.fail = false ∧ s.psto.recalling = none) ∧
    (∃ (s : State) (r : StepRep), s.sysc.mode = .starting ∧ s.sysc.start.running = true ∧ s.pseq.seq.down = false ∧ s.sysc.start.cur = 8 ∧ r.fail = false ∧ s.sysc.warm = false) ∧
    (∃ (s : State) (r : StepRep), s.sysc.mode = .starting ∧ s.sysc.start.running = true ∧ s.pseq.seq.down = false ∧ s.sysc.start.cur = 9 ∧ r.fail = false ∧ s.cxlp.up = true ∧ s.sysc.perst = false ∧ s.sysc.start.boundService = false ∧ s.sysc.start.safeFound = false) ∧
    (∃ (s : State) (r : StepRep) (c : Instr), s.sysc.mode = .starting ∧ s.sysc.start.running = true ∧ s.pseq.seq.down = false ∧ 2 ≤ s.sysc.start.cur ∧ ((c = .startStepComplete r ∧ r.fail = true) ∨ (c = .startStepTimeout ∧ ¬(s.sysc.start.cur = 9 ∧ s.sysc.perst = true) ∧ s.stepOverdue = true))) :=
  ⟨⟨baseStart 1, by decide⟩,
   ⟨baseStart 2, {}, by decide⟩,
   ⟨baseStart 8, {}, by decide⟩,
   ⟨{baseStart 9 with cxlp.up := true}, {}, by decide⟩,
   ⟨{baseStart 2 with aon.uptime := 10 ^ 10}, {}, .startStepTimeout, by decide⟩⟩
/-- The premises of `Obligations.ResetRequests`, clause by clause, are met. -/
theorem test_met_ResetRequests :
    (∃ (s : State) (c : Instr), (s.sysc.mode = .service ∨ s.sysc.mode = .memory ∨ s.sysc.mode = .stream ∨ s.sysc.mode = .safe) ∧ s.sysc.trans = none ∧ ((c = .warmResetRequest ∧ s.syscServed = true) ∨ c = .perstNAssert)) ∧
    (∃ (s : State), (s.sysc.mode = .service ∨ s.sysc.mode = .memory ∨ s.sysc.mode = .stream ∨ s.sysc.mode = .safe) ∧ s.sysc.trans = none ∧ s.syscServed = true ∧ (s.pseq.startDown false .coldStart).2 = false) ∧
    (∃ (s : State), s.settled ∧ s.sysc.mode = .rest ∧ s.syscServed = true) ∧
    (∃ (s : State), s.settled ∧ s.sysc.mode = .starting ∧ 4 ≤ s.sysc.step) ∧
    (∃ (s : State), s.sysc.trans = some .warmEntry ∧ (s.pseq.startDown false .coldStart).2 = false ∧ s.sysc.transSince + 5 * 10 ^ 8 ≤ s.now) :=
  ⟨⟨base, .perstNAssert, by decide⟩,
   ⟨{base with pseq.seqcfg := 0x40000}, by decide⟩,
   ⟨baseIn .rest, by decide⟩,
   ⟨{baseStart 5 with sysc.step := 4}, by decide⟩,
   ⟨{base with pseq.seqcfg := 0x40000, sysc.trans := some .warmEntry, aon.uptime := 10 ^ 10}, by decide⟩⟩
/-- The premises of `Obligations.ModeRequests`, clause by clause, are met. -/
theorem test_met_ModeRequests :
    (∃ (s : State), s.syscServed = true ∧ s.sysc.mode = .memory ∧ s.sysc.trans = none ∧ s.rest.entering = none ∧ s.settled) ∧
    (∃ (s : State), s.syscServed = true ∧ s.sysc.mode = .stream ∧ s.sysc.trans = none ∧ s.rest.entering = none) ∧
    (∃ (s : State) (n : Nat), s.syscServed = true ∧ (s.sysc.mode = .memory ∨ s.sysc.mode = .stream) ∧ n % 8 ∉ [2, 3, 4, 7] ∧ s.sysc.trans = none ∧ s.rest.entering = none) ∧
    (∃ (s : State) (c : Instr), (c = .modereqService ∨ c = .modereqMemory ∨ c = .modereqStream ∨ c = .modereqSafe) ∧ s.syscServed = true ∧ (s.sysc.mode = .memory ∨ s.sysc.mode = .stream) ∧ s.sysc.trans.isSome = true) ∧
    (∃ (s : State) (u : State), s.sysc.trans = some .toService ∧ s.sysc.mode = .memory ∧ s.sysc.resetWait = none ∧ u = (s.completeHost (some State.destageAll)).destageAll.zeroDone) :=
  ⟨⟨base, by decide⟩,
   ⟨baseIn .stream, by decide⟩,
   ⟨base, 0, by decide⟩,
   ⟨{base with sysc.trans := some .toService}, .modereqSafe, by decide⟩,
   ⟨{base with sysc.trans := some .toService}, (({base with sysc.trans := some .toService} : State).completeHost (some State.destageAll)).destageAll.zeroDone, by decide⟩⟩
/-- The premises of `Obligations.QuenchBeginsAndEnds`, clause by clause, are met. -/
theorem test_met_QuenchBeginsAndEnds :
    (∃ (s : State) (c : Instr) (k : QuenchCause), (c = .quenchTrigger k ∨ (c = .pfwNAssert ∧ k = .pfw ∧ s.pseq.vaon = true)) ∧ (s.sysc.mode = .service ∨ s.sysc.mode = .memory ∨ s.sysc.mode = .stream ∨ s.sysc.mode = .safe ∨ s.sysc.mode = .rest ∨ (s.sysc.mode = .starting ∧ 4 ≤ s.sysc.step))) ∧
    (∃ (s : State), s.sysc.mode = .starting ∧ s.sysc.step < 4 ∧ s.sysc.start.running = true ∧ s.pseq.seq.down = true) ∧
    (∃ (s : State), s.sysc.mode = .starting ∧ s.sysc.step < 4 ∧ s.sysc.start.running = true ∧ s.pseq.seq.down = false ∧ (s.pseq.startDown (decide (s.pseq.seq.phase = .powerUp)) .dormant).2 = false) ∧
    (∃ (s : State), s.settled ∧ s.pseq.vaon = true ∧ s.sysc.mode = .dormant) ∧
    (∃ (s : State) (k : QuenchCause), s.settled ∧ (s.sysc.mode = .dormant ∨ (s.sysc.mode = .quench ∧ k ≠ .vin))) ∧
    (∃ (s : State), s.sysc.mode = .quench ∧ s.pers.quench.isSome = true ∧ s.rest.io = [] ∧ s.pseq.seq.down = true) ∧
    (∃ (s : State), s.sysc.mode = .quench ∧ s.pers.quench.isSome = true ∧ s.rest.io = [] ∧ s.pseq.seq.down = false ∧ (s.pseq.startDown false .dormant).2 = false) :=
  ⟨⟨base, .quenchTrigger .pfw, .pfw, by decide⟩,
   ⟨{baseStart 2 with pseq.seq.phase := .shutJoint}, by decide⟩,
   ⟨{baseStart 1 with pseq.seq.phase := .powerUp, pseq.seqcfg := 0, pseq.seq.enables := 1, pseq.downTable := [(0, 0x10)]}, by decide⟩,
   ⟨baseIn .dormant, by decide⟩,
   ⟨baseIn .dormant, .pfw, by decide⟩,
   ⟨{baseIn .quench with pers.quench := some 0, pseq.seq.phase := .shutJoint}, by decide⟩,
   ⟨{baseIn .quench with pers.quench := some 0, pseq.seqcfg := 0x40000}, by decide⟩⟩
/-- The premises of `Obligations.RestGovernor`, clause by clause, are met. -/
theorem test_met_RestGovernor :
    (∃ (s : State) (l : Level), s.settled ∧ (s.sysc.mode = .memory ∨ s.sysc.mode = .stream) ∧ s.rest.entering = none ∧ s.idle = true ∧ fld s.rest.policy 0 16 ≠ 0 ∧ [Level.slumber, .nap, .doze].find? s.eligible = some l) ∧
    (∃ (s : State) (l : Level), (s.sysc.mode = .memory ∨ s.sysc.mode = .stream) ∧ s.sysc.trans = none ∧ s.rest.entering = some l ∧ (s.clus.dies.any fun e => e.2.array.isSome || e.2.paused.isSome) = false) ∧
    (∃ (s : State) (d : _), s.settled ∧ s.sysc.mode = .rest ∧ s.rest.entering = none ∧ s.nextEvent = some d) ∧
    (∃ (s : State) (w : WakeSource), s.settled ∧ s.sysc.mode = .rest ∧ s.rest.entering = none ∧ w ≠ .pfw) ∧
    (∃ (s : State) (m : Mode), s.sysc.mode = .rest ∧ s.rest.waking = true ∧ s.sysc.ret = some m ∧ (m = .memory ∨ m = .stream) ∧ s.sysc.reqGo = false ∧ s.sysc.resetWait = none ∧ s.rest.io = []) ∧
    (∃ (s : State) (n : Nat), s.settled ∧ s.up .rest ∧ n < 8) ∧
    (∃ (s : State) (n : Nat), n < 8 ∧ (tget none s.rest.timers n).isSome = true) :=
  ⟨⟨{base with aon.uptime := 10000000, rest.policy := 0x3140FFF}, .doze, by decide⟩,
   ⟨{base with rest.entering := some .doze}, .doze, by decide⟩,
   ⟨{baseIn .rest with rest.timers := [(0, some 5)]}, 5, by decide⟩,
   ⟨baseIn .rest, .host, by decide⟩,
   ⟨{baseIn .rest with rest.waking := true, sysc.ret := some .memory}, .memory, by decide⟩,
   ⟨base, 0, by decide⟩,
   ⟨{base with rest.timers := [(0, some 5)]}, 0, by decide⟩⟩
/-- The premises of `Obligations.HeaderWrites`, clause by clause, are met. -/
theorem test_met_HeaderWrites :
    (∃ (s : State) (page : Nat) (b : Block), blockAt s.fuse.part page = some b ∧ b.page ≠ 5 ∧ s.awake) ∧
    (∃ (s : State) (page : Nat) (v : Word) (b : Block), blockAt s.fuse.part page = some b ∧ b ∈ s.blocks ∧ b.vec ∉ s.cxlp.msixMask ∧ s.awake ∧ ((s.hdr b).istat ||| fld v 20 20) &&& fld v 0 20 ≠ 0) ∧
    (∃ (s : State) (page : Nat) (v : Word) (c : Instr), blockAt s.fuse.part page = none ∧ page < 1024 ∧ (s.hdr .hall).evalid = false ∧ s.awake ∧ c = .istatW1c page v 0) ∧
    (∃ (s : State) (page : Nat) (v : Word) (c : Instr), blockAt s.fuse.part page = none ∧ page < 1024 ∧ (s.hdr .hall).evalid = false ∧ s.awake ∧ (c = .ienWrite page v ∨ c = .interruptForce page v)) ∧
    (∃ (s : State) (page : Nat) (v : Word) (c : Instr), blockAt s.fuse.part page = none ∧ page < 1024 ∧ (s.hdr .hall).evalid = false ∧ s.awake ∧ c = .errstatClear page v) :=
  ⟨⟨base, 1, .sysc, by decide⟩,
   ⟨base, 1, 0x200002, .sysc, by decide⟩,
   ⟨base, 1000, 0, .istatW1c 1000 0 0, by decide⟩,
   ⟨base, 1000, 0, .interruptForce 1000 0, by decide⟩,
   ⟨base, 1000, 0, .errstatClear 1000 0, by decide⟩⟩
/-- The premises of `Obligations.RegisterAccesses`, clause by clause, are met. -/
theorem test_met_RegisterAccesses :
    (∃ (s : State), s.up .coht) ∧
    (∃ (s : State), s.up .kspe) ∧
    (∃ (s : State) (off : Nat) (bytes : Nat) (b : Block), s.awake ∧ off < 2 ^ 22 ∧ blockAt s.fuse.part (off / 8 * 8 / 4096) = some b ∧ b.page ≠ 5 ∧ bytes < 255 ∧ bytes ≠ 0x0F ∧ s.inService b ∧ (s.hdr b).evalid = false) ∧
    (∃ (s : State) (off : Nat) (bytes : Nat), s.awake ∧ off < 2 ^ 22 ∧ bytes < 256 ∧ blockAt s.fuse.part (off / 8 * 8 / 4096) = none ∧ (s.hdr .hall).evalid = false) ∧
    (∃ (s : State) (off : Nat) (enables : Nat) (b : Block), s.awake ∧ off < 2 ^ 22 ∧ blockAt s.fuse.part (off / 8 * 8 / 4096) = some b ∧ b.page ≠ 5 ∧ enables % 256 ≠ 0 ∧ enables % 256 ≠ 0xFF ∧ s.inService b ∧ (s.hdr b).evalid = false) ∧
    (∃ (s : State) (off : Nat) (b : Block) (c : Block), s.awake ∧ blockAt s.fuse.part (off / 8 * 8 / 4096) = some b ∧ blockAt s.fuse.part ((off + 8) / 8 * 8 / 4096) = some c) ∧
    (∃ (s : State) (v : BitVec 64) (x : Word), s.settled ∧ s.up .rest ∧ x = keep (v.setWidth 40) 0x3FFFFFF) ∧
    (∃ (s : State) (w : Word) (x : Word), s.settled ∧ s.up .rest ∧ x = keep w 0x3FFFFFF) ∧
    (∃ (s : State), s.settled ∧ s.up .cxlp) ∧
    (∃ (s : State) (i : Nat) (j : Nat), s.settled ∧ s.ncchUp ∧ s.fuse.part = .p4860 ∧ s.ncch.busy = [] ∧ i < j ∧ j ∈ s.liveSlices ∧ j < 16 ∧ s.on (.ncch j)) ∧
    (∃ (s : State) (i : Nat) (base : Nat) (size : Nat) (ways : Nat) (gran : Nat) (db : Bool) (d : Decoder), s.settled ∧ s.awake ∧ i < 8 ∧ d = { base := base, size := size, db := db, ways := ways, gran := gran, committed := true, err := false } ∧ 0 < size ∧ dpaRegion base = dpaRegion (base + size - 1) ∧ dpaRegion base < 3 ∧ ((db = true → dpaRegion base ≠ 0)) ∧ ways ∈ [1, 2, 4, 8] ∧ gran ∈ [256, 512, 1024, 2048, 4096, 8192, 16384]) ∧
    (∃ (s : State) (i : Nat) (base : Nat) (size : Nat) (ways : Nat) (gran : Nat) (db : Bool) (d : Decoder), s.settled ∧ s.awake ∧ i < 8 ∧ d = { base := base, size := size, db := db, ways := ways, gran := gran, committed := true, err := false } ∧ (size = 0 ∨ dpaRegion base ≠ dpaRegion (base + size - 1) ∨ (db = true ∧ dpaRegion base = 0) ∨ ways ∉ [1, 2, 4, 8])) ∧
    (∃ (s : State) (n : Nat), s.awake ∧ n < 64 ∧ s.settled ∧ n ∈ s.cxlp.msixPend) ∧
    (∃ (s : State) (c : Instr), wakes c = true ∧ s.settled ∧ s.sysc.mode = .rest ∧ s.rest.entering = none ∧ s.boot.recoveryHold = false) :=
  ⟨⟨base, by decide⟩,
   ⟨base, by decide⟩,
   ⟨base, 4096, 3, .sysc, by decide⟩,
   ⟨base, 4096000, 0, by decide⟩,
   ⟨base, 4096, 0x0F, .sysc, by decide⟩,
   ⟨base, 4096, .sysc, .sysc, by decide⟩,
   ⟨base, 0, 0, by decide⟩,
   ⟨base, 0, 0, by decide⟩,
   ⟨base, by decide⟩,
   ⟨{base with ncch.slices := [(0, { Slice.reset with live := true, serves := 0xFF }), (1, { Slice.reset with live := true, serves := 0xFF00 })]}, 0, 1, by decide⟩,
   ⟨base, 0, 0, 4096, 1, 256, false, { base := 0, size := 4096, db := false, ways := 1, gran := 256, committed := true, err := false }, by decide⟩,
   ⟨base, 0, 0, 0, 0, 0, false, { base := 0, size := 0, db := false, ways := 0, gran := 0, committed := true, err := false }, by decide⟩,
   ⟨{base with cxlp.msixPend := [0]}, 0, by decide⟩,
   ⟨baseIn .rest, .ienWrite 0 0, by decide⟩⟩
/-- The premises of `Obligations.Sideband`, clause by clause, are met. -/
theorem test_met_Sideband :
    (∃ (s : State) (off : Nat) (count : Nat), s.sysc.mode ≠ .rest ∧ sidebandOk off count = false) ∧
    (∃ (s : State) (off : Nat) (vals : List (BitVec 64)), s.sysc.mode ≠ .rest ∧ sidebandOk off vals.length = false) ∧
    (∃ (s : State) (off : Nat) (b : Block), off % 8 = 0 ∧ s.boot.recoveryHold = false ∧ blockAt s.fuse.part (off / 4096) = some b ∧ s.sysc.mode ≠ .rest) ∧
    (∃ (s : State), s.up .rest ∧ s.boot.recoveryHold = false) ∧
    (∃ (s : State) (off : Nat), s.sysc.mode ≠ .rest ∧ off % 8 = 0 ∧ s.boot.recoveryHold = true ∧ off / 4096 ∉ [0, 1, 7]) :=
  ⟨⟨base, 0, 0, by decide⟩,
   ⟨base, 0, [], by decide⟩,
   ⟨base, 4096, .sysc, by decide⟩,
   ⟨base, by decide⟩,
   ⟨{base with boot.recoveryHold := true}, 8192, by decide⟩⟩
/-- The premises of `Obligations.HostReads`, clause by clause, are met. -/
theorem test_met_HostReads :
    (∃ (s : State) (dpa : Nat) (tag : Nat) (line : Nat) (i : Nat) (key : Nat) (w : Way), (s.sysc.mode = .memory ∨ s.sysc.mode = .stream ∨ s.sysc.mode = .safe) ∧ s.cxlp.stopped = false ∧ s.rest.entering = none ∧ line = dpa % 2 ^ 48 / 64 ∧ s.backed line = true ∧ s.lockedLine line = false ∧ s.snooped line = false ∧ line ∉ s.media.refused ∧ (s.ncch.bypass.any fun m => m.line = line) = false ∧ s.sliceOf line = some i ∧ (s.slice i).passed = false ∧ ((s.slice i).inWait.any fun x => x.line = line) = false ∧ (s.slice i).lookup line = some (key, w) ∧ w.poison = false ∧ s.waitingWrites (s.received (readReq dpa tag false)) = [] ∧ s.ncch.nextq = [] ∧ s.ncch.hints = []) ∧
    (∃ (s : State) (dpa : Nat), (s.sysc.mode = .memory ∨ s.sysc.mode = .stream ∨ s.sysc.mode = .safe) ∧ s.cxlp.stopped = false ∧ s.backed (dpa % 2 ^ 48 / 64) = false ∧ (s.hdr .cxlp).evalid = false) ∧
    (∃ (s : State), (s.sysc.mode = .starting ∨ s.sysc.mode = .service) ∧ (s.hdr .cxlp).evalid = false) ∧
    (∃ (s : State), s.settled ∧ s.sysc.mode = .rest ∧ s.rest.entering = none) ∧
    (∃ (s : State) (dpa : Nat) (tag : Nat) (data : BitVec 512) (en : BitVec 64) (cp : Bool) (l : List Finding) (c : Instr), (c = .cxlMemRead dpa tag cp l ∨ c = .cxlMemWrite dpa tag data cp l ∨ c = .memwrptl dpa tag data en cp l) ∧ (s.sysc.mode = .memory ∨ s.sysc.mode = .stream) ∧ s.cxlp.stopped = false ∧ s.cxlp.writes < 512 ∧ s.rest.entering.isSome = true) ∧
    (∃ (s : State), s.settled ∧ (s.sysc.mode = .memory ∨ s.sysc.mode = .stream ∨ s.sysc.mode = .safe) ∧ s.cxlp.stopped = true) :=
  ⟨⟨baseWay .clean, 0, 0, 0, 0, 0, { Way.reset with st := .clean }, by decide⟩,
   ⟨base, 1099511627776, by decide⟩,
   ⟨baseIn .service, by decide⟩,
   ⟨baseIn .rest, by decide⟩,
   ⟨{ base with rest.entering := some .doze }, 0, 0, 0, 0, false, [], .cxlMemRead 0 0 false [], by decide⟩,
   ⟨{ base with cxlp.stopped := true }, by decide⟩⟩
/-- The premises of `Obligations.HostWrites`, clause by clause, are met. -/
theorem test_met_HostWrites :
    (∃ (s : State) (dpa : Nat) (tag : Nat) (line : Nat) (i : Nat) (key : Nat) (data : BitVec 512) (en : BitVec 64) (w : Way) (c : Instr), (c = .cxlMemWrite dpa tag data false [] ∧ en = BitVec.allOnes 64 ∨ c = .memwrptl dpa tag data en false []) ∧ (s.sysc.mode = .memory ∨ s.sysc.mode = .stream) ∧ s.cxlp.stopped = false ∧ s.cxlp.writes < 512 ∧ s.rest.entering = none ∧ line = dpa % 2 ^ 48 / 64 ∧ hankSide line = false ∧ s.backed line = true ∧ s.lockedLine line = false ∧ s.ftlm.exhausted = false ∧ line ∉ s.media.refused ∧ s.cxlp.dirtyWait = [] ∧ (s.cline (tierPageOf line)).waits = [] ∧ (s.ncch.bypass.any fun m => m.line = line) = false ∧ s.sliceOf line = some i ∧ (s.slice i).cstate = .enabled ∧ ((s.slice i).inWait.any fun x => x.line = line) = false ∧ (s.slice i).lookup line = some (key, w) ∧ ((s.slice i).miss.find? fun m => m.line = line) = none ∧ s.attr line = 0 ∧ w.st = .modified ∧ w.poison = false ∧ s.pers.limit ≠ 0) ∧
    (∃ (s : State) (dpa : Nat) (tag : Nat) (code : Nat) (data : BitVec 512) (en : BitVec 64) (p : Bool) (l : List Finding) (c : Instr), (c = .cxlMemWrite dpa tag data p l ∨ c = .memwrptl dpa tag data en p l) ∧ (s.hdr .cxlp).evalid = false ∧ s.cxlp.writes < 512 ∧ s.rest.entering = none ∧ (((s.sysc.mode = .service ∨ s.sysc.mode = .starting) ∧ code = 0x44) ∨ (s.cxlp.stopped = false ∧ (s.sysc.mode = .memory ∨ s.sysc.mode = .stream ∨ s.sysc.mode = .safe) ∧ ((hankSide (dpa % 2 ^ 48 / 64) = true ∧ code = 0x40) ∨ (hankSide (dpa % 2 ^ 48 / 64) = false ∧ s.backed (dpa % 2 ^ 48 / 64) = false ∧ code = 0x41))))) ∧
    (∃ (s : State) (dpa : Nat) (tag : Nat) (data : BitVec 512) (en : BitVec 64) (p : Bool) (l : List Finding) (c : Instr), (c = .cxlMemWrite dpa tag data p l ∧ en = BitVec.allOnes 64 ∨ c = .memwrptl dpa tag data en p l) ∧ s.settled ∧ s.sysc.mode = .rest ∧ s.rest.entering = none ∧ s.cxlp.writes < 512) ∧
    (∃ (s : State) (dpa : Nat) (tag : Nat) (data : BitVec 512) (en : BitVec 64) (p : Bool) (l : List Finding) (c : Instr), (c = .cxlMemWrite dpa tag data p l ∧ en = BitVec.allOnes 64 ∨ c = .memwrptl dpa tag data en p l) ∧ s.settled ∧ s.sysc.mode = .rest ∧ s.rest.entering = none ∧ 512 ≤ s.cxlp.writes) :=
  ⟨⟨{baseWay .modified with ncch.rgnattr := 0}, 0, 0, 0, 0, 0, 0, BitVec.allOnes 64, { Way.reset with st := .modified }, .cxlMemWrite 0 0 0 false [], by decide⟩,
   ⟨base, 1099511627776, 0, 0x41, 0, 0, false, [], .cxlMemWrite 1099511627776 0 0 false [], by decide⟩,
   ⟨baseIn .rest, 0, 0, 0, BitVec.allOnes 64, false, [], .cxlMemWrite 0 0 0 false [], by decide⟩,
   ⟨{baseIn .rest with cxlp.writes := 512}, 0, 0, 0, 5, false, [], .memwrptl 0 0 0 5 false [], by decide⟩⟩
/-- The premises of `Obligations.HostPortEvents`, clause by clause, are met. -/
theorem test_met_HostPortEvents :
    (∃ (s : State) (width : Nat), s.sysc.perst = false ∧ s.on .cxlp ∧ linkWidth (min width s.fuse.part.cxlWidth) ≠ 0) ∧
    (∃ (s : State), s.cxlp.up = true ∧ s.cxlp.writes ≤ s.cxlp.zeroWait.length) ∧
    (∃ (s : State), s.cxlp.up = true ∧ s.settled ∧ s.cxlp.zeroWait.length < s.cxlp.writes) ∧
    (∃ (s : State) (line : Nat) (b : BiOut), s.cxlp.biOut.find? (fun x => x.line = line) = some b ∧ b.commits = [] ∧ b.evict = none ∧ s.cxlp.biHold = [] ∧ b.since + max 1 (fld s.cxlp.portctl 0 16) * 10 ^ 6 ≤ s.now ∧ (s.hdr .cxlp).evalid = false ∧ line < 2 ^ 42) :=
  ⟨⟨base, 8, by decide⟩,
   ⟨{base with cxlp.up := true}, by decide⟩,
   ⟨{base with cxlp.up := true, cxlp.writes := 1}, by decide⟩,
   ⟨{base with cxlp.biOut := [.reset], aon.uptime := 10000000000000}, 0, .reset, by decide⟩⟩
/-- The premises of `Obligations.NearCacheSettings`, clause by clause, are met. -/
theorem test_met_NearCacheSettings :
    (∃ (s : State), s.settled ∧ s.ncchUp ∧ s.fuse.part = .p4860 ∧ s.ncch.busy = []) ∧
    (∃ (s : State), s.ncchUp ∧ s.fuse.part = .p4860 ∧ s.ncch.busy ≠ [] ∧ (s.hdr (.ncch s.firstSlice)).evalid = false ∧ s.inService (.ncch s.firstSlice) ∧ s.firstSlice < 16) ∧
    (∃ (s : State) (r : Nat), r ∈ s.ncch.busy ∧ (∀ i ∈ s.liveSlices, i < 16 ∧ s.inService (.ncch i))) ∧
    (∃ (s : State), s.ncchUp ∧ 64 ≤ s.ncch.hints.length ∧ s.inService (.ncch s.firstSlice) ∧ s.firstSlice < 16) ∧
    (∃ (s : State) (v : Word) (h : Hint), s.settled ∧ s.ncchUp ∧ s.ncch.hints = [] ∧ s.ncch.nextq = [] ∧ h = { line := 64 * fld v 0 36, left := 64 * (fld v 36 4 + 1) } ∧ State.prefetch { s with ncch := { s.ncch with hints := [h] } } h.line = none) ∧
    (∃ (s : State) (i : Nat), s.settled ∧ i ∈ s.liveSlices ∧ s.up (.ncch i)) ∧
    (∃ (s : State), s.settled ∧ s.ncchUp ∧ (s.ncch.slices.any fun e => e.2.cstate = .draining) = false) :=
  ⟨⟨base, by decide⟩,
   ⟨{base with ncch.busy := [3]}, by decide⟩,
   ⟨{base with ncch.busy := [3]}, 3, by decide⟩,
   ⟨{base with ncch.hints := List.replicate 64 .reset}, by decide⟩,
   ⟨{base with ncch.slices := oneSlice [] [.reset] []}, 0x4000000003, {line := 192, left := 320}, by decide⟩,
   ⟨base, 0, by decide⟩,
   ⟨base, by decide⟩⟩
/-- The premises of `Obligations.NearCacheEvents`, clause by clause, are met. -/
theorem test_met_NearCacheEvents :
    (∃ (s : State) (i : Nat) (line : Nat) (m : Miss) (r : MemReq), (s.slice i).miss = [m] ∧ m.line = line ∧ m.filled = none ∧ m.joined = [r] ∧ m.noInstall = false ∧ r.write = none ∧ r.cacheable = false ∧ r.dpa / 64 = line ∧ s.snooped line = false ∧ s.fillReady line = true ∧ s.tierHas line = true ∧ s.verifyFirst line = false ∧ (s.lineData line).2 = false ∧ s.waitingWrites r = [] ∧ s.ncch.nextq = [] ∧ s.ncch.hints = []) ∧
    (∃ (s : State) (i : Nat) (line : Nat) (m : Miss) (c : Slice), s.ncch.slices = [(i, c)] ∧ c.miss = [m] ∧ m.line = line ∧ m.checking = true ∧ m.filled.isSome = true ∧ m.media = false ∧ m.joined = [] ∧ m.after = [] ∧ m.noInstall = true) ∧
    (∃ (s : State) (i : Nat) (line : Nat) (m : Miss) (c : Slice) (x : _), s.ncch.slices = [(i, c)] ∧ c.miss = [m] ∧ m.line = line ∧ m.checking = true ∧ m.filled.isSome = true ∧ m.media = false ∧ m.joined = [] ∧ m.after = [] ∧ m.noInstall = false ∧ m.filled = some x ∧ c.cstate = .enabled ∧ s.attr line ≠ 3 ∧ c.ways = []) ∧
    (∃ (s : State) (i : Nat) (line : Nat) (v : Vict), (s.slice i).victims = [v] ∧ v.line = line ∧ v.waits = [] ∧ s.pageFree line = true ∧ (s.slice i).miss = [] ∧ s.minorFull line = false ∧ s.tier.order = []) ∧
    (∃ (s : State) (i : Nat) (line : Nat) (key : Nat) (r : MemReq) (w : Way), (s.slice i).inWait = [r] ∧ (s.slice i).miss = [] ∧ r.write = none ∧ r.cacheable = false ∧ r.dpa / 64 = line ∧ s.snooped line = false ∧ line ∉ s.media.refused ∧ (s.ncch.bypass.any fun m => m.line = line) = false ∧ s.sliceOf line = some i ∧ (s.slice i).passed = false ∧ (s.slice i).lookup line = some (key, w) ∧ w.poison = false ∧ s.waitingWrites r = [] ∧ s.ncch.nextq = [] ∧ s.ncch.hints = []) ∧
    (∃ (s : State) (i : Nat), (s.slice i).cstate = .draining ∧ (s.slice i).miss = [] ∧ (s.slice i).inWait = [] ∧ (s.slice i).victims = [] ∧ (s.slice i).viralDrain = false ∧ i < 16 ∧ s.inService (.ncch i)) ∧
    (∃ (s : State) (r : MemReq) (d : BitVec 512), s.cxlp.dirtyWait = [r] ∧ r.write = some (d, BitVec.allOnes 64) ∧ r.poison = false ∧ s.pers.limit ≠ 0 ∧ s.roomFor r.line = true ∧ (s.cline (tierPageOf r.line)).waits = [] ∧ s.pageFree r.line = true ∧ s.minorFull r.line = false ∧ s.sliceOf r.line = none ∧ s.ncch.bypass = [] ∧ s.tier.order = []) ∧
    (∃ (s : State) (page : Nat) (r : MemReq) (d : BitVec 512), (s.cline page).reenc = true ∧ (s.cline page).waits = [r] ∧ r.write = some (d, BitVec.allOnes 64) ∧ r.poison = false ∧ s.pers.limit ≠ 0 ∧ s.tier.order = [] ∧ r.line ∈ s.dirtyLines ∧ s.ncch.slices = []) :=
  ⟨⟨{base with ncch.slices := oneSlice [{ Miss.reset with joined := [.reset] }] [] [], tier.lines := [(0, .reset)]}, 0, 0, { Miss.reset with joined := [.reset] }, { MemReq.reset with cacheable := false }, by decide⟩,
   ⟨{base with ncch.slices := [(0, { Slice.reset with live := true, miss := [{ Miss.reset with checking := true, filled := some (0, false), noInstall := true }] })]}, 0, 0, { Miss.reset with checking := true, filled := some (0, false), noInstall := true }, { Slice.reset with live := true, miss := [{ Miss.reset with checking := true, filled := some (0, false), noInstall := true }] }, by decide⟩,
   ⟨{base with ncch.slices := [(0, { Slice.reset with live := true, miss := [{ Miss.reset with checking := true, filled := some (5, false) }] })]}, 0, 0, { Miss.reset with checking := true, filled := some (5, false) }, { Slice.reset with live := true, miss := [{ Miss.reset with checking := true, filled := some (5, false) }] }, (5, false), by decide⟩,
   ⟨{base with ncch.slices := oneSlice [] [] [.reset]}, 0, 0, .reset, by decide⟩,
   ⟨{base with ncch.slices := oneSlice [] [.reset] []}, 0, 0, 0, .reset, { Way.reset with st := .modified }, by decide⟩,
   ⟨{base with ncch.slices := [(0, { Slice.reset with live := true, cstate := .draining })]}, 0, by decide⟩,
   ⟨{base with ncch.slices := [], cxlp.dirtyWait := [{ MemReq.reset with write := some (7, BitVec.allOnes 64) }]}, { MemReq.reset with write := some (7, BitVec.allOnes 64) }, 7, by decide⟩,
   ⟨{base with ncch.slices := [], tier.lines := [(0, { TLine.reset with dirty := true })], mprt.pages := [(0, { CLine.reset with reenc := true, waits := [{ MemReq.reset with write := some (7, BitVec.allOnes 64) }] })]}, 0, { MemReq.reset with write := some (7, BitVec.allOnes 64) }, 7, by decide⟩⟩
/-- The premises of `Obligations.MailboxQueries`, clause by clause, are met. -/
theorem test_met_MailboxQueries :
    (∃ (s : State) (i : Nat) (log : _), s.mbFree i false ∧ log ≤ 3) ∧
    (∃ (s : State) (i : Nat) (off : _) (len : _), s.mbFree i false ∧ off + len ≤ 4 * effectsLog.length) ∧
    (∃ (s : State) (i : Nat) (n : _), s.mbFree i false ∧ n < s.strandCount ∧ (s.strand n).st ≠ .free ∧ (s.strand n).hbase * 1048320 < 0x3C0000000000) ∧
    (∃ (s : State) (i : Nat) (dpa : _) (len : _), s.mbFree i false ∧ s.mediaOn = true ∧ s.backedSpan dpa len = true) ∧
    (∃ (s : State) (i : Nat) (dpa : _) (len : _), s.mbFree i false ∧ s.mediaOn = true ∧ dpa + len ≤ 65536) :=
  ⟨⟨base, 1, 0, by decide⟩,
   ⟨base, 1, 0, 0, by decide⟩,
   ⟨{base with strd.strands := [(0, { Strand.reset with st := .idle })]}, 1, 0, by decide⟩,
   ⟨base, 1, 0, 0, by decide⟩,
   ⟨base, 1, 0, 0, by decide⟩⟩
/-- The premises of `Obligations.MailboxServing`, clause by clause, are met. -/
theorem test_met_MailboxServing :
    (∃ (s : State) (i : Nat) (a : Nat), s.settled ∧ s.mbReady i false = true ∧ s.sysc.mode ≠ .rest ∧ s.rest.entering = none ∧ s.boot.holder = some a ∧ (i = a ∨ s.mbox.waiting ≠ [])) ∧
    (∃ (s : State) (i : Nat) (a : Nat), s.settled ∧ s.mbReady i false = true ∧ s.sysc.mode ≠ .rest ∧ s.rest.entering = none ∧ s.boot.holder = some a ∧ i ≠ a ∧ s.mbox.waiting = []) ∧
    (∃ (s : State) (i : Nat), s.mbFree i false ∧ s.mediaOn = false) ∧
    (∃ (s : State) (i : Nat) (dpa : Nat) (len : Nat), s.mbFree i false ∧ s.mediaOn = true ∧ s.backedSpan dpa len = true ∧ s.mbox.bg.isSome = true ∧ dpa % 4096 = 0 ∧ len % 4096 = 0 ∧ len ≠ 0) :=
  ⟨⟨{base with boot.activating := some 1}, 1, 1, by decide⟩,
   ⟨{base with boot.activating := some 1}, 2, 1, by decide⟩,
   ⟨baseIn .service, 1, by decide⟩,
   ⟨{base with mbox.bg := some .sanitize}, 1, 0, 4096, by decide⟩⟩
/-- The premises of `Obligations.MailboxSettings`, clause by clause, are met. -/
theorem test_met_MailboxSettings :
    (∃ (s : State) (i : Nat) (log : Nat), s.mbFree i false ∧ log ≤ 3) ∧
    (∃ (s : State) (i : Nat) (v : Nat), s.mbFree i false ∧ v ≤ 1) ∧
    (∃ (s : State) (i : Nat) (off : Nat) (l : List (BitVec 8)), s.mbFree i false ∧ s.mediaOn = true ∧ s.sysc.mode ≠ .safe ∧ off + l.length ≤ 65536) ∧
    (∃ (s : State) (i : Nat) (dpa : Nat), s.mbFree i false ∧ s.mediaOn = true ∧ s.sysc.mode ≠ .safe ∧ dpa % 64 = 0 ∧ s.backedSpan dpa 64 = true ∧ s.cxlp.poisonList.length < 4096) :=
  ⟨⟨base, 1, 0, by decide⟩,
   ⟨base, 1, 0, by decide⟩,
   ⟨base, 1, 0, [], by decide⟩,
   ⟨base, 1, 0, by decide⟩⟩
/-- The premises of `Obligations.MailboxBackground`, clause by clause, are met. -/
theorem test_met_MailboxBackground :
    (∃ (s : State) (i : Nat) (dpa : Nat) (len : Nat), s.mbFree i false ∧ s.mediaOn = true ∧ s.backedSpan dpa len = true ∧ s.mbox.bg = none ∧ dpa % 4096 = 0 ∧ len % 4096 = 0 ∧ len ≠ 0) ∧
    (∃ (s : State) (coarse : Bool) (first : Nat) (count : Nat), s.mbox.bg = some (.discard coarse first count)) ∧
    (∃ (s : State) (i : Nat), s.mbFree i false ∧ s.mediaOn = true ∧ s.allFree = true ∧ s.mbox.bg = none) :=
  ⟨⟨base, 1, 0, 4096, by decide⟩,
   ⟨{base with mbox.bg := some (.discard false 0 1)}, false, 0, 1, by decide⟩,
   ⟨base, 1, by decide⟩⟩
/-- The premises of `Obligations.KeysAndRanges`, clause by clause, are met. -/
theorem test_met_KeysAndRanges :
    (∃ (s : State) (i : Nat) (k : Nat), s.mbFree i false ∧ s.up .mprt ∧ k ≤ 31 ∧ k ≠ s.mprt.devslot ∧ (s.kslot k).st = .empty) ∧
    (∃ (s : State) (i : Nat) (k : Nat), s.mbFree i false ∧ s.up .mprt ∧ k ≤ 31 ∧ (s.kslot k).st = .loaded) ∧
    (∃ (s : State) (i : Nat) (r : Nat) (k : Nat), s.mbFree i false ∧ s.up .mprt ∧ r ≤ 15 ∧ s.badSpan r = false ∧ k ≠ 0xFF ∧ (s.range r).bound = false ∧ (s.kslot k).st = .loaded ∧ k ≠ s.mprt.devslot) ∧
    (∃ (s : State) (i : Nat) (r : Nat) (k : Nat), s.mbFree i false ∧ s.up .mprt ∧ r ≤ 15 ∧ (s.range r).bound = true ∧ (s.range r).locked = false ∧ (s.range r).rekeying = false ∧ (s.kslot k).st = .loaded ∧ k ≠ (s.range r).slot ∧ k ≠ s.mprt.devslot ∧ s.mbox.bg = none ∧ s.mprt.rekey = none) ∧
    (∃ (s : State) (j : RekeyJob) (r : Nat), s.mprt.rekey = some j ∧ j.range = some r ∧ r < 16 ∧ j.step = 1) ∧
    (∃ (s : State) (j : RekeyJob) (r : Nat), s.mprt.rekey = some j ∧ j.range = some r ∧ r < 16 ∧ j.step = 2) ∧
    (∃ (s : State) (r : Nat), s.up .mprt ∧ r = fld s.mprt.rsel 0 4 ∧ (s.range r).bound = false) ∧
    (∃ (s : State) (r : Nat), s.up .mprt ∧ r = fld s.mprt.rsel 0 4 ∧ (s.range r).bound = true ∧ (s.hdr .mprt).evalid = false) :=
  ⟨⟨base, 1, 1, by decide⟩,
   ⟨{base with mprt.slots := [(1, { KSlot.reset with st := .loaded })]}, 1, 1, by decide⟩,
   ⟨{base with mprt.slots := [(1, { KSlot.reset with st := .loaded })], mprt.ranges := [(0, { Range.reset with count := 1 })]}, 1, 0, 1, by decide⟩,
   ⟨{base with mprt.slots := [(1, { KSlot.reset with st := .loaded })], mprt.ranges := [(0, { Range.reset with count := 1, bound := true, slot := 2 })]}, 1, 0, 1, by decide⟩,
   ⟨{base with mprt.rekey := some { RekeyJob.reset with range := some 0, step := 1 }}, { RekeyJob.reset with range := some 0, step := 1 }, 0, by decide⟩,
   ⟨{base with mprt.rekey := some { RekeyJob.reset with range := some 0, step := 2 }}, { RekeyJob.reset with range := some 0, step := 2 }, 0, by decide⟩,
   ⟨base, 0, by decide⟩,
   ⟨{base with mprt.ranges := [(0, { Range.reset with count := 1, bound := true })]}, 0, by decide⟩⟩
/-- The premises of `Obligations.FirmwareTransfer`, clause by clause, are met. -/
theorem test_met_FirmwareTransfer :
    (∃ (s : State) (i : Nat) (r : Nat), s.mbFree i true ∧ s.running = some r) ∧
    (∃ (s : State) (i : Nat) (slot : Nat) (data : List (BitVec 8)) (ok : Bool) (c : Instr) (last : Option Bool), ((c = .transferFwInitiate i slot data ∧ last = none) ∨ (c = .transferFwFull i slot data ok ∧ last = some ok)) ∧ s.mbFree i true ∧ s.fwRefused i slot = none ∧ data.length ≤ 0x1000000 ∧ s.boot.confirming = false) ∧
    (∃ (s : State) (w : PageWrite) (p : FwPart) (x : Xfer) (first : Nat) (c : RecCopy) (u : Tbl (BitVec 8)), s.psto.running = some w ∧ w.copy = some (first, c, true) ∧ c.typ = 10 ∧ (s.record 10).writing = true ∧ (s.record 10).again = false ∧ s.boot.partWait = some p ∧ s.boot.activating = none ∧ s.boot.confirming = false ∧ s.mbox.waiting = [] ∧ x = s.boot.xfer ∧ x.active = true ∧ x.next = 0 ∧ x.blocks = 0 ∧ p.data.length < blockBytes ∧ u = tputs 0xFF s.boot.flash (slotBase (x.slot - 1)) p.data ∧ p.last = none) ∧
    (∃ (s : State) (w : PageWrite) (p : FwPart) (x : Xfer) (first : Nat) (c : RecCopy) (u : Tbl (BitVec 8)), s.psto.running = some w ∧ w.copy = some (first, c, true) ∧ c.typ = 10 ∧ (s.record 10).writing = true ∧ (s.record 10).again = false ∧ s.boot.partWait = some p ∧ s.boot.activating = none ∧ s.boot.confirming = false ∧ s.mbox.waiting = [] ∧ x = s.boot.xfer ∧ x.active = true ∧ x.next = 0 ∧ x.blocks = 0 ∧ p.data.length < blockBytes ∧ u = tputs 0xFF s.boot.flash (slotBase (x.slot - 1)) p.data ∧ p.last = some true ∧ 1 ≤ x.slot ∧ x.slot ≤ 3 ∧ State.headOk { s with boot := { s.boot with flash := u } } (x.slot - 1) = true) ∧
    (∃ (s : State) (i : Nat) (slot : Nat) (off : Nat) (data : List (BitVec 8)), s.mbFree i true ∧ s.fwRefused i slot = none ∧ s.boot.xfer.active = true ∧ off = s.boot.xfer.next ∧ slot = s.boot.xfer.slot ∧ off + data.length ≤ 0x1000000 ∧ (off + data.length) / blockBytes ≤ s.boot.xfer.blocks ∧ (s.hdr .boot).evalid = false) ∧
    (∃ (s : State) (i : Nat) (slot : Nat) (off : Nat) (data : List (BitVec 8)), s.mbFree i true ∧ s.fwRefused i slot = none ∧ s.boot.xfer.active = true ∧ off = s.boot.xfer.next ∧ slot = s.boot.xfer.slot ∧ off + data.length ≤ 0x1000000 ∧ (off + data.length) / blockBytes ≤ s.boot.xfer.blocks ∧ State.headOk { s with boot := { s.boot with flash := tputs 0xFF s.boot.flash (slotBase (slot - 1) + off) data } } (slot - 1) = true) ∧
    (∃ (s : State) (i : Nat) (slot : Nat) (off : Nat), s.mbFree i true ∧ s.fwRefused i slot = none ∧ s.boot.xfer.active = true ∧ off ≠ s.boot.xfer.next) ∧
    (∃ (s : State) (i : Nat), s.mbFree i true ∧ s.boot.xfer.active = true ∧ s.boot.xfer.iface = i) ∧
    (∃ (s : State), s.boot.xfer.active = true ∧ s.boot.xfer.lastPart + 300 * 10 ^ 9 ≤ s.now) ∧
    (∃ (s : State) (i : Nat) (slot : Nat), s.mbFree i true ∧ 1 ≤ slot ∧ slot ≤ 2 ∧ s.boot.img.valid (slot - 1) = true ∧ s.boot.xfer.active = false ∧ s.boot.img.trial = false ∧ s.headOk (slot - 1) = true) :=
  ⟨⟨{base with boot.img.selected := 1}, 1, 0, by decide⟩,
   ⟨base, 1, 2, [], false, .transferFwInitiate 1 2 [], none, by decide⟩,
   ⟨{baseXfer with boot.partWait := some { FwPart.reset with data := [1, 2] }, psto.running := some { PageWrite.reset with copy := some (0, { RecCopy.reset with typ := 10 }, true) }, psto.recs := [(10, { RecSlot.reset with writing := true })]}, { PageWrite.reset with copy := some (0, { RecCopy.reset with typ := 10 }, true) }, { FwPart.reset with data := [1, 2] }, { active := true, slot := 2, blocks := 0, iface := 1, next := 0, lastPart := 0 }, 0, { RecCopy.reset with typ := 10 }, tputs 0xFF ({baseXfer with boot.partWait := some { FwPart.reset with data := [1, 2] }, psto.running := some { PageWrite.reset with copy := some (0, { RecCopy.reset with typ := 10 }, true) }, psto.recs := [(10, { RecSlot.reset with writing := true })]} : State).boot.flash (slotBase (({ active := true, slot := 2, blocks := 0, iface := 1, next := 0, lastPart := 0 } : Xfer).slot - 1)) ({ FwPart.reset with data := [1, 2] } : FwPart).data, by decide⟩,
   ⟨{baseXfer with boot.partWait := some { FwPart.reset with data := [0x52], last := some true }, psto.running := some { PageWrite.reset with copy := some (0, { RecCopy.reset with typ := 10 }, true) }, psto.recs := [(10, { RecSlot.reset with writing := true })]}, { PageWrite.reset with copy := some (0, { RecCopy.reset with typ := 10 }, true) }, { FwPart.reset with data := [0x52], last := some true }, { active := true, slot := 2, blocks := 0, iface := 1, next := 0, lastPart := 0 }, 0, { RecCopy.reset with typ := 10 }, tputs 0xFF ({baseXfer with boot.partWait := some { FwPart.reset with data := [0x52], last := some true }, psto.running := some { PageWrite.reset with copy := some (0, { RecCopy.reset with typ := 10 }, true) }, psto.recs := [(10, { RecSlot.reset with writing := true })]} : State).boot.flash (slotBase (({ active := true, slot := 2, blocks := 0, iface := 1, next := 0, lastPart := 0 } : Xfer).slot - 1)) ({ FwPart.reset with data := [0x52], last := some true } : FwPart).data, by decide⟩,
   ⟨baseXfer, 1, 2, 0, [], by decide⟩,
   ⟨baseXfer, 1, 2, 0, [], by decide⟩,
   ⟨baseXfer, 1, 2, 128, by decide⟩,
   ⟨{baseXfer with aon.uptime := 10 ^ 12}, 1, by decide⟩,
   ⟨{baseXfer with aon.uptime := 10 ^ 12}, by decide⟩,
   ⟨{base with boot.flash := baseFlash, boot.img := base.boot.img.setValid 1 true}, 1, 2, by decide⟩⟩
/-- The premises of `Obligations.FirmwareRunning`, clause by clause, are met. -/
theorem test_met_FirmwareRunning :
    (∃ (s : State), s.up .boot ∧ s.boot.trialExpired = false ∧ s.boot.img.trial = true ∧ s.boot.trialDue.isSome = true ∧ s.boot.confirming = false) ∧
    (∃ (s : State), s.up .boot ∧ s.boot.trialExpired = true ∧ (s.hdr .boot).evalid = false) ∧
    (∃ (s : State) (k : Nat), s.settled ∧ s.boot.mediaCores.testBit k = true) ∧
    (∃ (s : State) (k : Nat), s.settled ∧ k < 2 ∧ s.boot.seqCores.testBit k = true ∧ tget 0 s.boot.reloadAt (8 + k) = 0) ∧
    (∃ (s : State) (k : Nat), k ∈ s.boot.reloading ∧ k < 10) ∧
    (∃ (s : State), s.sysc.mode = .starting) ∧
    (∃ (s : State), (s.sysc.mode = .service ∨ s.sysc.mode = .memory ∨ s.sysc.mode = .stream ∨ s.sysc.mode = .safe) ∧ (s.pseq.startDown false .coldStart).2 = false) :=
  ⟨⟨{base with boot.img.trial := true, boot.trialDue := some 7}, by decide⟩,
   ⟨{base with boot.trialExpired := true}, by decide⟩,
   ⟨{base with boot.mediaCores := 0xFF}, 0, by decide⟩,
   ⟨{base with boot.seqCores := 3}, 0, by decide⟩,
   ⟨{base with boot.reloading := [0]}, 0, by decide⟩,
   ⟨baseStart 3, by decide⟩,
   ⟨{base with pseq.seqcfg := 0x40000}, by decide⟩⟩
/-- The premises of `Obligations.StoreCommands`, clause by clause, are met. -/
theorem test_met_StoreCommands :
    (∃ (s : State) (v : Word), s.up .psto ∧ s.psto.go = false ∧ s.psto.recalling = none ∧ (s.psto.running.any fun w => w.page = fld v 7 10) = false) ∧
    (∃ (s : State) (v : Word), s.settled ∧ s.up .psto ∧ s.psto.go = false ∧ s.psto.recalling = none ∧ protectedPage (fld s.psto.prot 0 2) (fld v 7 10) = false) ∧
    (∃ (s : State) (v : Word), s.up .psto ∧ s.psto.go = false ∧ s.psto.recalling = none ∧ protectedPage (fld s.psto.prot 0 2) (fld v 7 10) = true ∧ (s.hdr .psto).evalid = false) ∧
    (∃ (s : State) (v : Word), s.up .psto ∧ (fld s.psto.prot 0 2 ≤ max 1 (fld v 0 2) ∨ s.sysc.mode = .service)) ∧
    (∃ (s : State) (v : Word), s.up .psto ∧ max 1 (fld v 0 2) < fld s.psto.prot 0 2 ∧ s.sysc.mode ≠ .service ∧ (s.hdr .psto).evalid = false) ∧
    (∃ (s : State) (w : PageWrite), s.psto.running = some w ∧ w.copy = none ∧ w.raw = true ∧ reservedPage w.page = false ∧ s.boot.confirming = false ∧ s.boot.holder = none ∧ s.mbox.waiting = []) ∧
    (∃ (s : State) (typ : Nat), s.settled ∧ (s.record typ).deferred.isSome = true ∧ (s.record typ).writing = true) :=
  ⟨⟨base, 0, by decide⟩,
   ⟨base, 0, by decide⟩,
   ⟨base, 0x18000, by decide⟩,
   ⟨base, 3, by decide⟩,
   ⟨base, 0, by decide⟩,
   ⟨{base with psto.running := some { PageWrite.reset with raw := true }}, { PageWrite.reset with raw := true }, by decide⟩,
   ⟨{base with psto.recs := [(0, { RecSlot.reset with writing := true, deferred := some 5 })]}, 0, by decide⟩⟩
/-- The premises of `Obligations.DramEvents`, clause by clause, are met. -/
theorem test_met_DramEvents :
    (∃ (s : State) (m : Nat), (s.dram m).cstate = .active) ∧
    (∃ (s : State) (m : Nat) (v : Word), s.up (.drmc m) ∧ m < s.fuse.part.dramChannels ∧ fld v 0 7 + fld v 7 7 + fld v 14 7 + fld v 21 7 = 64) ∧
    (∃ (s : State) (m : Nat) (v : Word), s.up (.drmc m) ∧ m < s.fuse.part.dramChannels ∧ fld v 0 7 + fld v 7 7 + fld v 14 7 + fld v 21 7 ≠ 64 ∧ s.inService (.drmc m) ∧ (s.hdr (.drmc m)).evalid = false) :=
  ⟨⟨{base with drmc := [(0, { Drmc.reset with cstate := .active })]}, 0, by decide⟩,
   ⟨base, 0, 64, by decide⟩,
   ⟨base, 0, 0, by decide⟩⟩
/-- The premises of `Obligations.MediaWrites`, clause by clause, are met. -/
theorem test_met_MediaWrites :
    (∃ (s : State) (u : State) (unit : Nat) (b : Nat), s.working = true ∧ s.ftlm.exhausted = false ∧ unit ∈ (s.cleanUnit unit).dirtyUnits ∧ (s.cleanUnit unit).room 1 1 false = (some b, u)) ∧
    (∃ (s : State) (id : Nat) (p : Prog), s.ftlm.progs = [(id, p)] ∧ s.inArray .program id = true ∧ s.ftlm.exhausted = false ∧ p.src = .tier ∧ (s.band p.band).cls ≠ 0 ∧ (s.band p.band).next ≠ (s.band p.band).size ∧ (s.band p.band).phase = .opened) ∧
    (∃ (s : State) (id : Nat) (p : Prog) (c : Nat), (s.ftlm.progs.find? fun e => e.1 = id) = some (id, p) ∧ s.inArray .program id = true ∧ c = ((s.band p.band).place p.dpage).1 / 128 ∧ c < 8 ∧ s.inService (.mclu c) ∧ (s.hdr (.mclu c)).evalid = false) ∧
    (∃ (s : State) (die : Nat) (block : Nat) (b : Nat) (i : Nat) (k : Blk) (nb : _), s.inArray .erase (die * 8192 + block) = true ∧ (s.blk die block).use = .band b ∧ ((s.band b).members.findIdx? fun m => m = (die, block)) = some i ∧ (s.band b).phase = .erasing ∧ i ∈ (s.band b).unerased ∧ k = (if (s.band b).slc then { s.blk die block with slc := (s.blk die block).slc + 1 } else { s.blk die block with qlc := (s.blk die block).qlc + 1 }) ∧ (((s.ftlm.profile.getD {}).endurSlc = 0 ∨ k.slc < (s.ftlm.profile.getD {}).endurSlc)) ∧ (((s.ftlm.profile.getD {}).endurDense = 0 ∨ k.qlc < (s.ftlm.profile.getD {}).endurDense)) ∧ s.ftlm.exhausted = false ∧ s.ingp = [] ∧ block < 8192 ∧ die < 1024 ∧ s.inService (.mclu (die / 128)) ∧ (s.die die).badBlocksAt = [] ∧ (((s.modBlk die block fun _ => k).retireBlk die block).leastWorn die (s.band b).slc).map (·.2) = some nb) :=
  ⟨⟨{base with tier.lines := [(0, { TLine.reset with dirty := true })], ftlm.bands := [(5, openBand 1)]}, ((({base with tier.lines := [(0, { TLine.reset with dirty := true })], ftlm.bands := [(5, openBand 1)]} : State).cleanUnit 0).room 1 1 false).2, 0, 5, by decide⟩,
   ⟨{baseDie { DieOp.reset with kind := .program } with ftlm.bands := [(5, openBand 1)], ftlm.progs := [(0, { Prog.reset with band := 5, src := .tier })]}, 0, { Prog.reset with band := 5, src := .tier }, by decide⟩,
   ⟨{baseDie { DieOp.reset with kind := .program } with ftlm.progs := [(0, .reset)]}, 0, .reset, 0, by decide⟩,
   ⟨{baseDie { DieOp.reset with kind := .erase } with media.blocks := [(0, { Blk.reset with use := .band 1 })], ftlm.profile := some { blocks := 8000 }, ftlm.bands := [(1, { Band.reset with slc := true, members := [(0, 0)], unerased := [0] })]}, 0, 0, 1, 0, { Blk.reset with use := .band 1, slc := 1 }, 4386, by decide⟩⟩
/-- The premises of `Obligations.MediaMoves`, clause by clause, are met. -/
theorem test_met_MediaMoves :
    (∃ (s : State) (c : Instr) (band : Nat) (cls : Nat) (d : Nat) (kind : MoveKind) (us : List (Bool × Nat × Nat)), s.working = true ∧ s.ftlm.exhausted = false ∧ ((c = .anneal band ∧ cls = 2 ∧ kind = .anneal ∧ s.annealPaused = false ∧ s.annealBand = some band ∧ us = s.annealUnits band) ∨ (c = .gcStart band ∧ cls = 3 ∧ kind = .gc ∧ s.ftlm.gc = true ∧ s.gcVictim = some band ∧ us = s.bandUnits band)) ∧ us ≠ [] ∧ us.length ≤ 4 ∧ (∀ u ∈ us, u.1 = false) ∧ s.openWith cls 1 = some d) ∧
    (∃ (s : State) (c : Instr) (band : Nat) (cls : Nat) (d : Nat) (kind : MoveKind) (us : List (Bool × Nat × Nat)) (u : _) (src : _), s.working = true ∧ s.ftlm.exhausted = false ∧ ((c = .anneal band ∧ cls = 2 ∧ kind = .anneal ∧ s.annealPaused = false ∧ s.annealBand = some band ∧ us = s.annealUnits band) ∨ (c = .gcStart band ∧ cls = 3 ∧ kind = .gc ∧ s.ftlm.gc = true ∧ s.gcVictim = some band ∧ us = s.bandUnits band)) ∧ us = [(true, u, src)] ∧ s.openWith cls 64 = some d) ∧
    (∃ (s : State) (src : Nat) (dst : Nat) (m : Move), s.working = true ∧ (s.ftlm.moves.find? fun m => m.src = src && m.dst = dst) = some m ∧ m.coarse = false ∧ s.mapEntry false m.unit = mapped m.src ∧ (s.band (puaBand m.dst)).cls ≠ 0 ∧ (s.band (puaBand m.dst)).next ≠ (s.band (puaBand m.dst)).size ∧ puaBand m.src ≠ puaBand m.dst ∧ (s.band (puaBand m.src)).failedRow = none) :=
  ⟨⟨baseMoves true 2, .anneal 1, 1, 2, 2, .anneal, [(false, 7, mkPua 1 3 0)], by decide⟩,
   ⟨{baseMoves false 3 with ftlm.fine := [], ftlm.coarse := [(7, mapped (mkPua 1 0 0))]}, .gcStart 1, 1, 3, 2, .gc, [(true, 7, mkPua 1 0 0)], 7, mkPua 1 0 0, by decide⟩,
   ⟨{baseMoves false 3 with ftlm.moves := [{ Move.reset with unit := 7, src := mkPua 1 3 0, dst := mkPua 2 0 0 }]}, mkPua 1 3 0, mkPua 2 0 0, { Move.reset with unit := 7, src := mkPua 1 3 0, dst := mkPua 2 0 0 }, by decide⟩⟩
/-- The premises of `Obligations.MapAndCheckpoints`, clause by clause, are met. -/
theorem test_met_MapAndCheckpoints :
    (∃ (s : State) (line : Nat) (u : _), (s.sysc.mode = .memory ∨ s.sysc.mode = .stream ∨ s.sysc.mode = .safe) ∧ (s.hdr .ftlm).evalid = false ∧ line < 2 ^ 28 ∧ u / 12 = line) ∧
    (∃ (s : State) (v : Word), s.up .ftlm ∧ fld v 0 26 ≤ 33554432 ∧ fld v 0 26 ≤ 12 * (s.tier.liveGib * 2 ^ 30 / 128) / 256 ∧ fld v 0 26 + s.hankUse ≤ s.ftlm.exported) ∧
    (∃ (s : State) (v : Word), s.up .ftlm ∧ s.ftlm.exported < fld v 0 26 + s.hankUse ∧ (s.hdr .ftlm).evalid = false) ∧
    (∃ (s : State) (u : State), s.settled ∧ (s.sysc.mode = .memory ∨ s.sysc.mode = .stream ∨ s.sysc.mode = .safe) ∧ u = s.passTicks s.checkpointWait ∧ s.pers.ckptBusy = none) ∧
    (∃ (s : State) (u : State), s.settled ∧ (s.sysc.mode = .memory ∨ s.sysc.mode = .stream ∨ s.sysc.mode = .safe) ∧ u = s.passTicks s.checkpointWait ∧ s.pers.ckptBusy.isSome = true) ∧
    (∃ (s : State) (c : Ckpt), s.pers.ckptBusy = some c ∧ s.pers.ckptWaiting = false ∧ (s.hdr .sysc).evalid = false) :=
  ⟨⟨base, 0, 0, by decide⟩,
   ⟨base, 0, by decide⟩,
   ⟨base, 0x3FFFFFF, by decide⟩,
   ⟨base, (base).passTicks (base).checkpointWait, by decide⟩,
   ⟨{base with pers.ckptBusy := some .reset}, ({base with pers.ckptBusy := some .reset} : State).passTicks ({base with pers.ckptBusy := some .reset} : State).checkpointWait, by decide⟩,
   ⟨{base with pers.ckptBusy := some .reset}, .reset, by decide⟩⟩
/-- The premises of `Obligations.DieOperations`, clause by clause, are met. -/
theorem test_met_DieOperations :
    (∃ (s : State) (d : Nat) (st : DieStatus), (s.die d).array.isSome = true ∧ st ≠ .busy) ∧
    (∃ (s : State) (d : Nat) (o : DieOp), (s.die d).array = some o ∧ (s.die d).wasReset = false ∧ (s.die d).paused = none ∧ (s.die d).queue = [] ∧ d < 1024 ∧ o.cls < 8 ∧ s.resting = false ∧ s.ftlm.exhausted = false ∧ s.inService (.onfc (d / 16)) ∧ (s.hdr (.onfc (d / 16))).evalid = false) ∧
    (∃ (s : State) (d : Nat) (o : DieOp) (r : DieOp), s.settled ∧ s.resting = false ∧ (s.die d).array = some o ∧ (s.die d).suspending = true ∧ (s.die d).arrayDone = false ∧ ((placed (s.die d).queue).find? fun r => r.cls = 1 && r.isRead) = some r) ∧
    (∃ (s : State) (d : Nat) (o : DieOp), s.settled ∧ (s.die d).array = some o ∧ o.kind = .read ∧ o.cls ≠ 1 ∧ o.leg ≠ .recovery ∧ (s.die d).queue = [] ∧ (s.die d).paused = none ∧ (s.chan (d / 16)).xfers = [] ∧ (s.chan (d / 16)).granted = none) ∧
    (∃ (s : State) (n : Nat) (x : Xfer1), s.settled ∧ (s.chan n).granted = some x ∧ (s.chan n).xfers = [] ∧ x.req < 17) ∧
    (∃ (s : State) (u : State) (n : Nat) (temp : Int), s.settled ∧ (s.chan n).live = true ∧ (s.chan n).retraining = false ∧ u = (if 10 ≤ (temp - (s.chan n).trainTemp).natAbs then s else s.passTicks ((s.chan n).trainAt + dayNs - s.now))) ∧
    (∃ (s : State) (n : Nat), s.settled ∧ (s.chan n).retraining = true) ∧
    (∃ (s : State) (n : Nat), n < 64 ∧ (s.chan n).retraining = true ∧ (s.chan n).failAt = [] ∧ s.ftlm.exhausted = false ∧ s.inService (.onfc n)) :=
  ⟨⟨baseDie .reset, 0, .ready, by decide⟩,
   ⟨baseDie .reset, 0, .reset, by decide⟩,
   ⟨{base with clus.dies := [(0, { Die.reset with array := some .reset, suspending := true, queue := [{ DieOp.reset with cls := 1 }] })]}, 0, .reset, { DieOp.reset with cls := 1 }, by decide⟩,
   ⟨baseDie .reset, 0, .reset, by decide⟩,
   ⟨{base with clus.onfc := [(0, { Onfc.reset with granted := some { Xfer1.reset with left := 4 } })]}, 0, { Xfer1.reset with left := 4 }, by decide⟩,
   ⟨{base with clus.onfc := [(0, { Onfc.reset with cstate := .active })]}, ({base with clus.onfc := [(0, { Onfc.reset with cstate := .active })]} : State).passTicks dayNs, 0, 0, by decide⟩,
   ⟨{base with clus.onfc := [(0, { Onfc.reset with retraining := true })]}, 0, by decide⟩,
   ⟨{base with clus.onfc := [(0, { Onfc.reset with retraining := true })]}, 0, by decide⟩⟩
/-- The premises of `Obligations.MediaReads`, clause by clause, are met. -/
theorem test_met_MediaReads :
    (∃ (s : State) (r : MRead) (d : Decoded), (s.clus.reads.find? fun x => x.id = r.id && x.outcome = .pending && s.inRow x r.target) = some r ∧ d.errors < 135 ∧ d.single = false) ∧
    (∃ (s : State) (r : MRead) (errors : Nat) (ok : Bool), (s.clus.reads.find? fun x => x.id = r.id && x.outcome = .pending && decide (r.target ∈ x.soft)) = some r ∧ r.target < 1024 ∧ (ok = true ∨ errors ≤ 330) ∧ s.inService (.mclu (r.target / 128)) ∧ (s.blk r.target (s.memberBlock r.pua r.target)).rewrite = true) ∧
    (∃ (s : State) (r : MRead), (s.clus.reads.find? fun x => x.id = r.id && x.outcome = .pending) = some r ∧ (r.path = .rebuild ∨ r.recovery = true) ∧ r.legs = [] ∧ r.badLegs = [] ∧ r.targetFail = false) :=
  ⟨⟨baseRead .reset, .reset, { ok := true, errors := 0, levels := [], single := false, entryLost := false }, by decide⟩,
   ⟨{baseRead { MRead.reset with soft := [0] } with media.blocks := [(0, { Blk.reset with rewrite := true })]}, { MRead.reset with soft := [0] }, 0, false, by decide⟩,
   ⟨baseRead { MRead.reset with path := .rebuild }, { MRead.reset with path := .rebuild }, by decide⟩⟩
/-- The premises of `Obligations.PlanishAndRetirement`, clause by clause, are met. -/
theorem test_met_PlanishAndRetirement :
    (∃ (s : State) (key : Nat) (n : Nat) (all : Nat) (d : Decoded), (s.blk (key / 8192) (key % 8192)).use = .band n ∧ (s.band n).phase = .closed ∧ (s.band n).valid ≠ 0 ∧ wbit s.plan.ctrl 13 = false ∧ s.planishPaused = false ∧ s.working = true ∧ (s.plan.late = [] ∨ key ∈ s.plan.late) ∧ d.errors < 135 ∧ d.single = false ∧ all = (if (s.band n).slc then s.geometry.2.2 else ceilDiv s.geometry.2.1 4) ∧ tget 0 s.plan.wordline key + 1 < all) ∧
    (∃ (s : State) (key : Nat) (n : Nat) (all : Nat) (d : Decoded), (s.blk (key / 8192) (key % 8192)).use = .band n ∧ (s.band n).phase = .closed ∧ (s.band n).valid ≠ 0 ∧ wbit s.plan.ctrl 13 = false ∧ s.planishPaused = false ∧ s.working = true ∧ (s.plan.late = [] ∨ key ∈ s.plan.late) ∧ d.errors < 135 ∧ d.single = false ∧ all = (if (s.band n).slc then s.geometry.2.2 else ceilDiv s.geometry.2.1 4) ∧ all ≤ tget 0 s.plan.wordline key + 1) ∧
    (∃ (s : State) (key : Nat) (n : Nat), (s.blk (key / 8192) (key % 8192)).use = .band n ∧ (s.band n).phase = .closed ∧ 0 < (s.band n).valid ∧ key ∉ s.plan.late) ∧
    (∃ (s : State) (c : Nat), c < 8 ∧ s.working = true ∧ (s.cluster c).retPhase = 1) ∧
    (∃ (s : State) (c : Nat), c < 8 ∧ s.working = true ∧ (s.cluster c).retPhase = 2 ∧ s.inService (.mclu c)) :=
  ⟨⟨{basePlanish with ftlm.profile := some { slcPpb := 100 }}, 0, 1, 100, { ok := true, errors := 0, levels := [], single := false, entryLost := false }, by decide⟩,
   ⟨basePlanish, 0, 1, 0, { ok := true, errors := 0, levels := [], single := false, entryLost := false }, by decide⟩,
   ⟨basePlanish, 0, 1, by decide⟩,
   ⟨{base with clus.mclu := [(0, { Mclu.reset with retPhase := 1 })]}, 0, by decide⟩,
   ⟨{base with clus.mclu := [(0, { Mclu.reset with retPhase := 2 })]}, 0, by decide⟩⟩
/-- The premises of `Obligations.LinkBringUp`, clause by clause, are met. -/
theorem test_met_LinkBringUp :
    (∃ (s : State), s.sysc.mode.links = true ∧ s.on .ilkn ∧ s.ilkn.up = false ∧ s.ilkn.waitRestart = false ∧ s.settled ∧ s.ilkn.step = 0) ∧
    (∃ (s : State), s.sysc.mode.links = true ∧ s.on .ilkn ∧ s.ilkn.up = false ∧ s.ilkn.waitRestart = false ∧ s.settled ∧ s.ilkn.step = 1) ∧
    (∃ (s : State) (rx : Nat) (peer : Nat) (k : _) (w : _), s.sysc.mode.links = true ∧ s.on .ilkn ∧ s.ilkn.up = false ∧ s.ilkn.waitRestart = false ∧ s.settled ∧ s.ilkn.step = 2 ∧ laneGroup s.fuse.part.lanes (rx % 2 ^ s.fuse.part.lanes &&& peer % 2 ^ s.fuse.part.lanes) = some (k, w)) ∧
    (∃ (s : State), s.sysc.mode.links = true ∧ s.on .ilkn ∧ s.ilkn.up = false ∧ s.ilkn.waitRestart = false ∧ s.ilkn.step = 3) ∧
    (∃ (s : State) (lane : Nat), s.ilkn.up = true ∧ s.ilkn.group * s.ilkn.width ≤ lane ∧ lane < s.ilkn.group * s.ilkn.width + s.ilkn.width ∧ lane < 2 ^ 28 ∧ (s.hdr .ilkn).evalid = false) ∧
    (∃ (s : State), s.ilkn.up = true ∧ (s.kspe.vstate = 1 ∨ s.kspe.vstate = 3)) :=
  ⟨⟨base, by decide⟩,
   ⟨{base with ilkn.step := 1}, by decide⟩,
   ⟨{base with ilkn.step := 2}, 0xFFFFFF, 0xFFFFFF, 0, 16, by decide⟩,
   ⟨{base with ilkn.step := 3}, by decide⟩,
   ⟨{base with ilkn.up := true, ilkn.width := 16, ilkn.group := 0}, 15, by decide⟩,
   ⟨{base with ilkn.up := true, kspe.vstate := 1}, by decide⟩⟩
/-- The premises of `Obligations.ControlFrames`, clause by clause, are met. -/
theorem test_met_ControlFrames :
    (∃ (s : State) (g : Segment), s.hears g 1 ∧ g.body.length = 1 ∧ (s.kspe.vstate = 1 ∨ s.kspe.vstate = 3) ∧ max (fld (g.body.getD 0 0) 0 8) s.kspe.vmin ≤ min (fld (g.body.getD 0 0) 8 8) s.kspe.vmax) ∧
    (∃ (s : State) (g : Segment), s.hears g 1 ∧ g.body.length = 1 ∧ (s.kspe.vstate = 1 ∨ s.kspe.vstate = 3) ∧ min (fld (g.body.getD 0 0) 8 8) s.kspe.vmax < max (fld (g.body.getD 0 0) 0 8) s.kspe.vmin ∧ s.kspe.vstate = 1 ∧ (s.hdr .kspe).evalid = false) ∧
    (∃ (s : State) (g : Segment) (time : Nat), s.hears g 2 ∧ g.body.length = 2 ∧ wbit s.kspe.ctrl 1 = true ∧ wbit (g.body.getD 1 0) 26 = false ∧ s.replayActive = false ∧ time = fld (g.body.getD 1 0) 24 2 + 4 * g.wide 24 ∧ time < 2 ^ 65) ∧
    (∃ (s : State) (g : Segment), s.hears g 3 ∧ g.body.length = 2 ∧ wbit s.kspe.ctrl 0 = true ∧ s.sysc.mode = .stream ∧ s.canArm g.strand (g.wide 24)) ∧
    (∃ (s : State) (g : Segment), s.hears g 4 ∧ g.body.length = 1 ∧ wbit s.kspe.ctrl 0 = true ∧ s.sysc.mode = .stream ∧ ((s.strand g.strand).live = true ∨ (s.strand g.strand).st = .scheduled)) ∧
    (∃ (s : State) (g : Segment), s.hears g 5 ∧ g.body.length = 2 ∧ wbit s.kspe.ctrl 2 = true ∧ s.sysc.mode = .stream ∧ s.kspe.agreed ≠ 1 ∧ wbit (g.head 1) 16 = false ∧ (s.strand g.strand).st = .armed ∧ (s.strand g.strand).srcen.testBit 0 = true) ∧
    (∃ (s : State) (g : Segment) (c : Instr) (len : Nat) (bit : Nat), s.hears g g.cop ∧ ((c = .tod g ∧ g.cop = 2 ∧ len = 2 ∧ bit = 1) ∨ (c = .arm { seg := g, same := none } ∧ g.cop = 3 ∧ len = 2 ∧ bit = 0) ∨ (c = .stop { seg := g, same := none } ∧ g.cop = 4 ∧ len = 1 ∧ bit = 0) ∨ (c = .trig g ∧ g.cop = 5 ∧ len = 2 ∧ bit = 2 ∧ s.kspe.agreed ≠ 1)) ∧ g.body.length ≠ len) ∧
    (∃ (s : State) (g : Segment) (c : Instr) (len : Nat) (bit : Nat), s.hears g g.cop ∧ ((c = .tod g ∧ g.cop = 2 ∧ len = 2 ∧ bit = 1) ∨ (c = .arm { seg := g, same := none } ∧ g.cop = 3 ∧ len = 2 ∧ bit = 0) ∨ (c = .stop { seg := g, same := none } ∧ g.cop = 4 ∧ len = 1 ∧ bit = 0) ∨ (c = .trig g ∧ g.cop = 5 ∧ len = 2 ∧ bit = 2 ∧ s.kspe.agreed ≠ 1)) ∧ g.body.length = len ∧ wbit s.kspe.ctrl bit = false) ∧
    (∃ (s : State) (g : Segment) (c : Instr), s.hears g g.cop ∧ s.sysc.mode ≠ .stream ∧ ((c = .arm { seg := g, same := none } ∧ g.cop = 3 ∧ g.body.length = 2 ∧ wbit s.kspe.ctrl 0 = true) ∨ (c = .stop { seg := g, same := none } ∧ g.cop = 4 ∧ g.body.length = 1 ∧ wbit s.kspe.ctrl 0 = true) ∨ (c = .trig g ∧ g.cop = 5 ∧ g.body.length = 2 ∧ s.kspe.agreed ≠ 1 ∧ wbit s.kspe.ctrl 2 = true))) ∧
    (∃ (s : State) (g : Segment), s.hears g g.cop ∧ g.cop ∉ [1, 2, 3, 4, 5]) :=
  ⟨⟨baseStrand 0 .reset, ctl 1 [0x201], by decide⟩,
   ⟨baseStrand 0 .reset, ctl 1 [0x403], by decide⟩,
   ⟨baseStrand 0 .reset, ctl 2 [100, 0], 400, by decide⟩,
   ⟨baseStrand 0 (strandIn .idle), ctl 3 [0, 0], by decide⟩,
   ⟨baseStrand 0 (strandIn .running), ctl 4 [0], by decide⟩,
   ⟨baseStrand 0 (strandIn .armed), ctl 5 [9, 0], by decide⟩,
   ⟨baseStrand 0 .reset, ctl 2 [0], .tod (ctl 2 [0]), 2, 1, by decide⟩,
   ⟨{baseStrand 0 .reset with kspe.ctrl := 0}, ctl 4 [0], .stop { seg := ctl 4 [0], same := none }, 1, 0, by decide⟩,
   ⟨{baseStrand 0 .reset with sysc.mode := .memory}, ctl 4 [0], .stop { seg := ctl 4 [0], same := none }, by decide⟩,
   ⟨baseStrand 0 .reset, ctl 9 [0], by decide⟩⟩
/-- The premises of `Obligations.DataSegments`, clause by clause, are met. -/
theorem test_met_DataSegments :
    (∃ (s : State) (g : Segment) (k : Nat), s.ilkn.up = true ∧ (g.words.length < 2 ∨ g.typ ≠ 1) ∧ s.failedCheck g = some k ∧ k ≠ 0) ∧
    (∃ (s : State) (g : Segment) (k : Nat), s.ilkn.up = true ∧ (g.words.length < 2 ∨ g.typ ≠ 1) ∧ s.failedCheck g = some k ∧ k = 0) ∧
    (∃ (s : State) (g : Segment), s.takesData g ∧ s.armedFor g.strand = false) ∧
    (∃ (s : State) (g : Segment) (x : Strand), s.takesData g ∧ s.armedFor g.strand = true ∧ x = s.strand g.strand ∧ wbit (g.head 0) 34 = false ∧ wbit (g.head 0) 36 = false ∧ (x.seqany = true ∨ x.expseq = g.seq) ∧ x.discard = true) ∧
    (∃ (s : State) (g : Segment) (x : Strand), s.takesData g ∧ s.armedFor g.strand = true ∧ x = s.strand g.strand ∧ wbit (g.head 0) 34 = false ∧ wbit (g.head 0) 36 = false ∧ (x.seqany = true ∨ x.expseq = g.seq) ∧ x.discard = false ∧ x.opened = true ∧ x.resume = false ∧ x.filterWait = false ∧ 4 ≤ x.recHead.length ∧ wbit (g.head 0) 35 = false ∧ 0 < x.wpword ∧ x.wpword + g.body.length < unitWords ∧ (s.pipe (g.strand % 4)).sealwait = false ∧ ((s.pipe (g.strand % 4)).cruc (s.pipe (g.strand % 4)).filling).length + g.body.length ≤ 256) :=
  ⟨⟨baseStrand 1 (strandIn .armed), { data [1] with bytes := 0 }, 1, by decide⟩,
   ⟨baseStrand 2 (strandIn .armed), data [1], 0, by decide⟩,
   ⟨baseStrand 1 (strandIn .idle), data [1], by decide⟩,
   ⟨baseStrand 1 { strandIn .armed with discard := true }, data [1], { strandIn .armed with discard := true }, by decide⟩,
   ⟨baseStrand 1 { strandIn .armed with opened := true, wpword := 10, rlen := 10, recHead := [0, 0, 0, 0] }, data [1, 2], { strandIn .armed with opened := true, wpword := 10, rlen := 10, recHead := [0, 0, 0, 0] }, by decide⟩⟩
/-- The premises of `Obligations.StrandAllocation`, clause by clause, are met. -/
theorem test_met_StrandAllocation :
    (∃ (s : State) (n : Nat) (adopt : Bool), s.strdTakes [.memory, .stream] n ∧ (s.strand n).st = .free ∧ s.configOk s.staged = true ∧ s.staged.hbase + s.staged.hsize ≤ unitCount ∧ s.hankLocked s.staged.hbase s.staged.hsize = false ∧ s.hankTaken n s.staged = false ∧ (s.modStrand n fun _ => s.staged).hankUse + s.ftlm.hdrMib ≤ s.ftlm.exported ∧ adopt = false) ∧
    (∃ (s : State) (n : Nat) (adopt : Bool), s.strdTakes [.memory, .stream] n ∧ (s.strand n).st = .free ∧ s.configOk s.staged = true ∧ s.staged.hbase + s.staged.hsize ≤ unitCount ∧ s.hankLocked s.staged.hbase s.staged.hsize = false ∧ s.hankTaken n s.staged = false ∧ (s.modStrand n fun _ => s.staged).hankUse + s.ftlm.hdrMib ≤ s.ftlm.exported ∧ adopt = true) ∧
    (∃ (s : State) (n : Nat), s.strdTakes [.memory, .stream] n ∧ (s.hdr .strd).evalid = false ∧ (s.strand n).st ≠ .free) ∧
    (∃ (s : State) (n : Nat), s.strdTakes [.memory, .stream] n ∧ (s.hdr .strd).evalid = false ∧ (s.strand n).st = .free ∧ s.configOk s.staged = false) ∧
    (∃ (s : State) (n : Nat), s.strd.adopting = some n) ∧
    (∃ (s : State) (n : Nat) (y : Strand), s.strdTakes [.memory, .stream] n ∧ ((s.strand n).st = .idle ∨ (s.strand n).st = .done) ∧ s.replayBound n = false ∧ y = (s.strand n).configure s.strd.stage2 s.strd.stage4 s.strd.stage5 ∧ s.configOk y = true) ∧
    (∃ (s : State) (n : Nat), s.strdTakes [.memory, .stream] n ∧ ((s.strand n).st = .idle ∨ (s.strand n).st = .done) ∧ s.replayBound n = false ∧ (∀ e ∈ s.strd.strands, e.2.releasing = none) ∧ s.framesGone n = true) ∧
    (∃ (s : State) (n : Nat), s.strdTakes [.memory, .stream] n ∧ ((s.strand n).st = .idle ∨ (s.strand n).st = .done) ∧ s.replayBound n = false ∧ (∀ e ∈ s.strd.strands, e.2.releasing = none) ∧ s.framesGone n = false) ∧
    (∃ (s : State) (n : Nat), s.strdTakes [.memory, .stream, .safe] n ∧ ((s.strand n).st = .idle ∨ (s.strand n).st = .done) ∧ s.replayBound n = false) ∧
    (∃ (s : State) (n : Nat) (x : Strand), (s.strd.strands.find? fun e => e.2.releasing = some true) = some (n, x) ∧ s.framesGone n = true) ∧
    (∃ (s : State) (op : Nat), s.up .strd ∧ s.strd.go = false ∧ op ∉ [1, 2, 3, 4, 5, 6, 7, 8, 9] ∧ (s.hdr .strd).evalid = false) :=
  ⟨⟨baseStrand 0 .reset, 0, false, by decide⟩,
   ⟨baseStrand 0 .reset, 0, true, by decide⟩,
   ⟨baseStrand 0 (strandIn .idle), 0, by decide⟩,
   ⟨base, 0, by decide⟩,
   ⟨{baseStrand 0 (strandIn .idle) with strd.adopting := some 0}, 0, by decide⟩,
   ⟨baseStrand 0 (strandIn .idle), 0, (strandIn .idle).configure 2 0 0, by decide⟩,
   ⟨baseStrand 0 (strandIn .done), 0, by decide⟩,
   ⟨{baseStrand 0 (strandIn .done) with strd.commits := [.reset]}, 0, by decide⟩,
   ⟨baseStrand 0 (strandIn .done), 0, by decide⟩,
   ⟨baseStrand 0 { strandIn .idle with releasing := some true }, 0, { strandIn .idle with releasing := some true }, by decide⟩,
   ⟨base, 0, by decide⟩⟩
/-- The premises of `Obligations.StrandCommands`, clause by clause, are met. -/
theorem test_met_StrandCommands :
    (∃ (s : State) (n : Nat), s.strdTakes [.stream] n ∧ s.canArm n s.strd.time) ∧
    (∃ (s : State) (n : Nat), s.strdTakes [.stream] n ∧ ((s.strand n).live = true ∨ (s.strand n).st = .scheduled)) ∧
    (∃ (s : State) (n : Nat), s.strdTakes [.stream] n ∧ (s.strand n).st = .armed ∧ (s.strand n).srcen.testBit 4 = true) ∧
    (∃ (s : State) (n : Nat), s.strdTakes [.stream] n ∧ (s.strand n).st ≠ .armed ∧ (s.strand n).st ≠ .free ∧ (s.strand n).srcen.testBit 4 = true) ∧
    (∃ (s : State) (n : Nat), s.strdTakes [.stream] n ∧ (s.strand n).st ≠ .free ∧ ((s.strd.time ≠ 0 → s.coht.running = true)) ∧ s.timedUsed < 4096) ∧
    (∃ (s : State) (n : Nat), s.strdTakes [.stream] n ∧ (s.strand n).live = true) ∧
    (∃ (s : State) (c : Instr) (op : Nat), s.up .strd ∧ fld s.strd.sel 0 18 < 2 ^ 28 ∧ (s.hdr .strd).evalid = false ∧ ((c = .strandArm ∧ op = 3) ∨ (c = .strandStop ∧ op = 4) ∨ (c = .trigger ∧ op = 5) ∨ (c = .timedtrig ∧ op = 6) ∨ (c = .droprem ∧ op = 7)) ∧ s.strd.go = true) ∧
    (∃ (s : State) (c : Instr) (op : Nat), s.up .strd ∧ fld s.strd.sel 0 18 < 2 ^ 28 ∧ (s.hdr .strd).evalid = false ∧ ((c = .strandArm ∧ op = 3) ∨ (c = .strandStop ∧ op = 4) ∨ (c = .trigger ∧ op = 5) ∨ (c = .timedtrig ∧ op = 6) ∨ (c = .droprem ∧ op = 7)) ∧ s.strd.go = false ∧ s.sysc.mode ≠ .stream) :=
  ⟨⟨baseStrand 0 (strandIn .idle), 0, by decide⟩,
   ⟨baseStrand 0 (strandIn .scheduled), 0, by decide⟩,
   ⟨baseStrand 0 (strandIn .armed), 0, by decide⟩,
   ⟨baseStrand 0 (strandIn .running), 0, by decide⟩,
   ⟨baseStrand 0 (strandIn .running), 0, by decide⟩,
   ⟨baseStrand 0 (strandIn .running), 0, by decide⟩,
   ⟨{baseStrand 0 (strandIn .idle) with strd.go := true}, .trigger, 5, by decide⟩,
   ⟨base, .droprem, 7, by decide⟩⟩
/-- The premises of `Obligations.StrandTimers`, clause by clause, are met. -/
theorem test_met_StrandTimers :
    (∃ (s : State) (n : Nat) (u : Nat), s.settled ∧ (s.strand n).st = .scheduled ∧ s.sysc.mode = .stream ∧ (s.strand n).armAt = some u ∧ u ≤ s.cohortNs) ∧
    (∃ (s : State) (u : TimedTrig), s.dueTimed = some u ∧ (s.strand u.strand).st = .armed ∧ (s.strand u.strand).srcen.testBit 2 = true) ∧
    (∃ (s : State) (u : TimedTrig), s.dueTimed = some u ∧ s.settled ∧ (s.strand u.strand).st ≠ .armed) ∧
    (∃ (s : State), s.settled ∧ s.up .strd ∧ fld s.strd.fsel 12 4 < 8) ∧
    (∃ (s : State), s.settled ∧ s.up .strd ∧ 8 ≤ fld s.strd.fsel 12 4) ∧
    (∃ (s : State) (p : Nat) (u : Nat), p < 4 ∧ (s.pipe p).since = some u ∧ u + max 10 (fld (s.pipe p).ctrl 2 14) * 1000 ≤ s.now ∧ (s.pipe p).sealwait = false ∧ ((s.pipe p).cruc (s.pipe p).filling).all (·.sealed) = false) ∧
    (∃ (s : State) (c : Nat), s.on .strd ∧ c < unitCount) :=
  ⟨⟨baseStrand 0 { strandIn .scheduled with armAt := some 0 }, 0, 0, by decide⟩,
   ⟨{baseStrand 0 (strandIn .armed) with strd.timed := [.reset]}, .reset, by decide⟩,
   ⟨{baseStrand 0 (strandIn .running) with strd.timed := [.reset]}, .reset, by decide⟩,
   ⟨base, by decide⟩,
   ⟨{base with strd.fsel := 0x8000}, by decide⟩,
   ⟨{baseStrand 1 (strandIn .armed) with aon.uptime := 20000000, ingp := [(0, { Pipe.reset with since := some 0, cruc0 := [.reset] })]}, 0, 0, by decide⟩,
   ⟨base, 0, by decide⟩⟩
/-- The premises of `Obligations.CohortSets`, clause by clause, are met. -/
theorem test_met_CohortSets :
    (∃ (s : State) (time : Nat), s.up .coht ∧ s.replayActive = false ∧ time < 2 ^ 65 ∧ time = fld s.coht.sethi 24 2 + 4 * (fld s.coht.setlo 0 40 + 2 ^ 40 * fld s.coht.sethi 0 24) ∧ wbit s.coht.sethi 26 = false) ∧
    (∃ (s : State) (time : Nat), s.up .coht ∧ s.replayActive = false ∧ time < 2 ^ 65 ∧ time = fld s.coht.sethi 24 2 + 4 * (fld s.coht.setlo 0 40 + 2 ^ 40 * fld s.coht.sethi 0 24) ∧ wbit s.coht.sethi 26 = true ∧ wbit s.coht.disc 0 = true) ∧
    (∃ (s : State), s.up .coht ∧ (s.hdr .coht).evalid = false ∧ (s.replayActive = true ∨ wbit s.coht.sethi 23 = true ∨ (wbit s.coht.sethi 26 = true ∧ wbit s.coht.disc 0 = false))) ∧
    (∃ (s : State) (w : SetReq), s.coht.setWait = some w ∧ w.at_ + 2500000000 ≤ s.now) :=
  ⟨⟨{base with coht.setlo := 25}, 100, by decide⟩,
   ⟨{base with coht.setlo := 25, coht.sethi := 0x4000000, coht.disc := 1}, 100, by decide⟩,
   ⟨{base with coht.sethi := 0x800000}, by decide⟩,
   ⟨{base with coht.setWait := some .reset, aon.uptime := 2500000000}, .reset, by decide⟩⟩
/-- The premises of `Obligations.PpsDiscipline`, clause by clause, are met. -/
theorem test_met_PpsDiscipline :
    (∃ (s : State) (frac : Nat) (e : Int), s.on .coht ∧ wbit s.coht.disc 0 = true ∧ e = ppsError (s.cohort + frac % 4) ∧ s.settled ∧ s.coht.dstate = .locked ∧ s.coht.window < e.natAbs ∧ s.coht.glitches < 2) ∧
    (∃ (s : State) (frac : Nat) (e : Int), s.on .coht ∧ wbit s.coht.disc 0 = true ∧ e = ppsError (s.cohort + frac % 4) ∧ s.coht.dstate = .locked ∧ s.coht.window < e.natAbs ∧ 2 ≤ s.coht.glitches) ∧
    (∃ (s : State) (frac : Nat) (e : Int), s.on .coht ∧ wbit s.coht.disc 0 = true ∧ e = ppsError (s.cohort + frac % 4) ∧ s.settled ∧ s.coht.dstate = .locked ∧ e.natAbs ≤ s.coht.window ∧ s.coht.setWait = none) ∧
    (∃ (s : State) (frac : Nat) (e : Int), s.on .coht ∧ wbit s.coht.disc 0 = true ∧ e = ppsError (s.cohort + frac % 4) ∧ s.coht.dstate ≠ .locked ∧ s.coht.stepThr < e.natAbs ∧ s.replayActive = false ∧ s.coht.setWait = none) ∧
    (∃ (s : State) (frac : Nat) (e : Int) (w : SetReq), s.on .coht ∧ wbit s.coht.disc 0 = true ∧ e = ppsError (s.cohort + frac % 4) ∧ ¬(s.coht.dstate = .locked ∧ s.coht.window < e.natAbs) ∧ s.replayActive = false ∧ s.coht.setWait = some w ∧ w.time % second = 0) ∧
    (∃ (s : State), s.on .coht ∧ wbit s.coht.disc 0 = true ∧ s.coht.lastEdge + 1500000000 + 1000000000 * s.coht.missed ≤ s.now ∧ s.settled ∧ ¬(s.coht.dstate = .locked ∧ 2 ≤ s.coht.missed)) ∧
    (∃ (s : State), s.on .coht ∧ wbit s.coht.disc 0 = true ∧ s.coht.lastEdge + 1500000000 + 1000000000 * s.coht.missed ≤ s.now ∧ s.coht.dstate = .locked ∧ 2 ≤ s.coht.missed) ∧
    (∃ (s : State) (v : Word) (w : Word), s.up .coht ∧ w = setFld (setFld v 8 16 (max 1 (fld v 8 16))) 24 16 (max 1 (fld v 24 16)) ∧ wbit v 0 = true ∧ wbit s.coht.disc 0 = false) ∧
    (∃ (s : State) (v : Word) (w : Word), s.up .coht ∧ w = setFld (setFld v 8 16 (max 1 (fld v 8 16))) 24 16 (max 1 (fld v 24 16)) ∧ wbit v 0 = false ∧ wbit s.coht.disc 0 = true) ∧
    (∃ (s : State) (v : Word) (w : Word), s.up .coht ∧ w = setFld (setFld v 8 16 (max 1 (fld v 8 16))) 24 16 (max 1 (fld v 24 16)) ∧ s.settled ∧ wbit v 0 = wbit s.coht.disc 0) :=
  ⟨⟨baseDisc .locked 1000000000, 0, 1000000000, by decide⟩,
   ⟨{baseDisc .locked 1000000000 with coht.glitches := 2}, 0, 1000000000, by decide⟩,
   ⟨baseDisc .locked 4000000003, 0, 3, by decide⟩,
   ⟨baseDisc .acquiring 1000000000, 0, 1000000000, by decide⟩,
   ⟨{baseDisc .locked 0 with coht.setWait := some { SetReq.reset with time := 8000000000 }}, 0, 0, { SetReq.reset with time := 8000000000 }, by decide⟩,
   ⟨{baseDisc .acquiring 0 with aon.uptime := 1500000000}, by decide⟩,
   ⟨{baseDisc .locked 0 with aon.uptime := 3500000000, coht.missed := 2}, by decide⟩,
   ⟨{base with coht.disc := 0}, 1, 0x1000101, by decide⟩,
   ⟨{base with coht.disc := 1}, 0, 0x1000100, by decide⟩,
   ⟨{base with coht.disc := 0}, 0, 0x1000100, by decide⟩⟩
/-- The premises of `Obligations.TriggerLines`, clause by clause, are met. -/
theorem test_met_TriggerLines :
    (∃ (s : State) (frac : Nat), s.on .coht ∧ ¬(wbit s.coht.trigcfg 39 = true ∧ s.coht.outHigh = true) ∧ ((∀ u, s.coht.lastIn = some u → u + s.coht.holdoff ≤ 4 * s.now + frac % 4))) ∧
    (∃ (s : State) (frac : Nat) (u : _), s.on .coht ∧ ¬(wbit s.coht.trigcfg 39 = true ∧ s.coht.outHigh = true) ∧ s.settled ∧ s.coht.lastIn = some u ∧ 4 * s.now + frac % 4 < u + s.coht.holdoff) ∧
    (∃ (s : State) (u : Nat) (rest : List Nat), s.settled ∧ s.coht.outRise = u :: rest ∧ u ≤ s.cohort) ∧
    (∃ (s : State), s.settled ∧ s.coht.outHigh = true ∧ s.coht.outStart + s.coht.pulse ≤ s.cohort) :=
  ⟨⟨{base with coht.lastIn := none}, 0, by decide⟩,
   ⟨{base with coht.lastIn := some 0}, 0, 0, by decide⟩,
   ⟨{base with coht.outRise := [0]}, 0, [], by decide⟩,
   ⟨{baseDisc .free 1000000 with coht.outHigh := true}, by decide⟩⟩
/-- The premises of `Obligations.ReplayCommands`, clause by clause, are met. -/
theorem test_met_ReplayCommands :
    (∃ (s : State) (k : Nat) (n : Nat), s.rpleTakes [.memory, .stream] k ∧ n = fld (s.slot k).cfg0 0 18 ∧ (s.slot k).st = .unbound ∧ n < s.strandCount ∧ ((s.strand n).st = .idle ∨ (s.strand n).st = .done) ∧ (s.strand n).releasing = none ∧ s.strd.adopting ≠ some n ∧ s.hankLocked (s.strand n).hbase (s.strand n).hsize = false) ∧
    (∃ (s : State) (k : Nat) (x : Slot), s.rpleTakes [.memory, .stream] k ∧ x = s.slot k ∧ (x.st = .bound ∨ x.st = .done) ∧ fld x.cfg0 18 8 ≠ 0 ∧ fld x.cfg1 0 18 ≠ fld x.cfg1 18 18) ∧
    (∃ (s : State) (k : Nat) (x : Slot), s.rpleTakes [.memory, .stream] k ∧ x = s.slot k ∧ (x.st = .bound ∨ x.st = .done) ∧ x.st = .bound ∧ s.poolHolds x = true) ∧
    (∃ (s : State) (k : Nat) (x : Slot), s.rpleTakes [.memory, .stream] k ∧ x = s.slot k ∧ (x.st = .bound ∨ x.st = .done) ∧ x.st = .bound ∧ s.poolHolds x = false ∧ (s.hdr .rple).evalid = false) ∧
    (∃ (s : State) (k : Nat) (time : Nat) (x : Slot), s.rpleTakes [.stream] k ∧ x = s.slot k ∧ (x.st = .bound ∨ x.st = .loading ∨ x.st = .done) ∧ time = x.startLo.toNat + 2 ^ 40 * fld x.startHi 0 26 ∧ s.kspe.agreed ≠ 0 ∧ ((s.kspe.agreed = 1 → x.outstrand < 65536 ∧ x.gapstrand < 65536)) ∧ ((time ≠ 0 → s.coht.running = true ∧ s.cohort + 40000 ≤ time)) ∧ s.poolHolds x = true) ∧
    (∃ (s : State) (k : Nat), s.up .rple ∧ k = fld s.rple.sel 0 6 ∧ (s.slot k).st ≠ .unbound ∧ s.rple.framer ≠ some k) ∧
    (∃ (s : State) (k : Nat), s.up .rple ∧ k = fld s.rple.sel 0 6 ∧ ((s.slot k).st = .waiting ∨ (s.slot k).st = .running) ∧ s.rple.framer = some k) ∧
    (∃ (s : State) (k : Nat), s.up .rple ∧ k = fld s.rple.sel 0 6 ∧ ((s.slot k).st = .bound ∨ (s.slot k).st = .loading ∨ (s.slot k).st = .done)) ∧
    (∃ (s : State) (k : Nat) (op : _), s.up .rple ∧ k = fld s.rple.sel 0 6 ∧ op ∉ [1, 2, 3, 4, 5, 6] ∧ (s.hdr .rple).evalid = false) ∧
    (∃ (s : State) (c : Instr) (k : Nat), s.up .rple ∧ k = fld s.rple.sel 0 6 ∧ (s.hdr .rple).evalid = false ∧ ((c = .start ∧ s.sysc.mode ≠ .stream) ∨ ((c = .bind ∨ c = .replayConfig ∨ c = .preload) ∧ s.sysc.mode ≠ .memory ∧ s.sysc.mode ≠ .stream))) :=
  ⟨⟨baseStrand 1 (strandIn .idle), 0, 0, by decide⟩,
   ⟨withSlot base { Slot.reset with st := .bound, cfg0 := 0x40000, cfg1 := 1 }, 0, { Slot.reset with st := .bound, cfg0 := 0x40000, cfg1 := 1 }, by decide⟩,
   ⟨withSlot base { Slot.reset with st := .bound }, 0, { Slot.reset with st := .bound }, by decide⟩,
   ⟨{withSlot base { Slot.reset with st := .bound } with tier.poolGib := 0}, 0, { Slot.reset with st := .bound }, by decide⟩,
   ⟨withSlot (baseRecord 0) { Slot.reset with st := .bound }, 0, 0, { Slot.reset with st := .bound }, by decide⟩,
   ⟨withSlot base { Slot.reset with st := .running }, 0, by decide⟩,
   ⟨{withSlot base { Slot.reset with st := .running } with rple.framer := some 0}, 0, by decide⟩,
   ⟨withSlot base { Slot.reset with st := .loading }, 0, by decide⟩,
   ⟨base, 0, 0, by decide⟩,
   ⟨baseIn .safe, .preload, 0, by decide⟩⟩
/-- The premises of `Obligations.ReplayPages`, clause by clause, are met. -/
theorem test_met_ReplayPages :
    (∃ (s : State) (k : Nat) (key : Nat), s.settled ∧ ((s.slot k).preloading = true ∨ (s.slot k).st = .waiting ∨ (s.slot k).st = .running) ∧ s.nextPage (s.slot k) (s.hankRecords (s.slot k).strand) = some key) ∧
    (∃ (s : State) (k : Nat) (page : Nat) (key : Nat), ((s.slot k).reading.find? fun q => q % 2 ^ 32 = page) = some key) :=
  ⟨⟨withSlot (baseRecord 0) (slotAt false), 0, 0, by decide⟩,
   ⟨withSlot (baseRecord 0) { slotAt false with reading := [0] }, 0, 0, 0, by decide⟩⟩
/-- The premises of `Obligations.ReplayDepartures`, clause by clause, are met. -/
theorem test_met_ReplayDepartures :
    (∃ (s : State) (k : Nat) (x : Slot) (r : List HSlot), x = s.slot k ∧ (x.st = .waiting ∨ x.st = .running) ∧ x.startWait = false ∧ x.late = false ∧ x.stopping = false ∧ s.nextRecord x = some r ∧ x.due (s.hankRecords x.strand) x.pass r ≤ s.cohort ∧ x.skipbad = true ∧ recFlag r [21, 22, 23, 25] = true) ∧
    (∃ (s : State) (k : Nat) (x : Slot) (r : List HSlot), x = s.slot k ∧ (x.st = .waiting ∨ x.st = .running) ∧ x.startWait = false ∧ x.late = false ∧ x.stopping = false ∧ s.nextRecord x = some r ∧ x.due (s.hankRecords x.strand) x.pass r ≤ s.cohort ∧ ¬(x.skipbad = true ∧ recFlag r [21, 22, 23, 25] = true) ∧ (s.replayLink = false ∨ x.buffers x.pass r = false ∨ s.recordLost x x.pass r = true)) ∧
    (∃ (s : State) (k : Nat) (x : Slot) (r : List HSlot), x = s.slot k ∧ (x.st = .waiting ∨ x.st = .running) ∧ x.startWait = false ∧ x.late = false ∧ x.stopping = false ∧ s.nextRecord x = some r ∧ x.due (s.hankRecords x.strand) x.pass r ≤ s.cohort ∧ ¬(x.skipbad = true ∧ recFlag r [21, 22, 23, 25] = true) ∧ s.replayLink = true ∧ x.buffers x.pass r = true ∧ s.recordLost x x.pass r = false ∧ s.settled ∧ (s.rple.framer.isSome = true ∨ x.sending = true ∨ x.chan ∈ s.kspe.peerXoff)) ∧
    (∃ (s : State) (k : Nat) (x : Slot) (r : List HSlot), x = s.slot k ∧ (x.st = .waiting ∨ x.st = .running) ∧ x.startWait = false ∧ x.late = false ∧ x.stopping = false ∧ s.nextRecord x = some r ∧ x.due (s.hankRecords x.strand) x.pass r ≤ s.cohort ∧ ¬(x.skipbad = true ∧ recFlag r [21, 22, 23, 25] = true) ∧ s.replayLink = true ∧ x.buffers x.pass r = true ∧ s.recordLost x x.pass r = false ∧ s.rple.framer = none ∧ x.sending = false ∧ x.chan ∉ s.kspe.peerXoff) ∧
    (∃ (s : State) (k : Nat) (x : Slot), x = s.slot k ∧ s.rple.framer = some k ∧ x.stopping = true) ∧
    (∃ (s : State) (k : Nat) (x : Slot), x = s.slot k ∧ s.rple.framer = some k ∧ x.stopping = false ∧ x.segq = []) ∧
    (∃ (s : State) (k : Nat) (x : Slot) (g : _) (l : _), x = s.slot k ∧ s.rple.framer = some k ∧ x.stopping = false ∧ x.segq = g :: l ∧ s.replayLink = true ∧ x.chan ∉ s.kspe.peerXoff) ∧
    (∃ (s : State) (k : Nat) (x : Slot), x = s.slot k ∧ s.rple.framer = some k ∧ x.stopping = false ∧ x.segq ≠ [] ∧ s.replayLink = false) ∧
    (∃ (s : State) (k : Nat) (x : Slot) (r : List HSlot), x = s.slot k ∧ x.run ≠ 0 ∧ x.endSent = false ∧ x.gapen = true ∧ s.replayLink = true ∧ x.st = .running ∧ s.nextRecord x = some r ∧ x.due (s.hankRecords x.strand) x.pass r ≤ s.cohort + s.cycles16 ∧ ¬(x.skipbad = true ∧ recFlag r [21, 22, 23, 25] = true) ∧ x.buffers x.pass r = true ∧ s.recordLost x x.pass r = false) :=
  ⟨⟨withSlot (baseRecord 0x800000) (slotAt true), 0, slotAt true, linkOf 0x800000, by decide⟩,
   ⟨withSlot (baseRecord 0) (slotAt false), 0, slotAt false, linkOf 0, by decide⟩,
   ⟨{withSlot (baseRecord 0) (slotAt true) with rple.framer := some 3}, 0, slotAt true, linkOf 0, by decide⟩,
   ⟨withSlot (baseRecord 0) (slotAt true), 0, slotAt true, linkOf 0, by decide⟩,
   ⟨{withSlot (baseRecord 0) { slotAt true with stopping := true } with rple.framer := some 0}, 0, { slotAt true with stopping := true }, by decide⟩,
   ⟨{withSlot (baseRecord 0) (slotAt true) with rple.framer := some 0}, 0, slotAt true, by decide⟩,
   ⟨{withSlot (baseRecord 0) { slotAt true with segq := [([1], true, true, false)] } with rple.framer := some 0}, 0, { slotAt true with segq := [([1], true, true, false)] }, ([(1 : Word)], true, true, false), ([] : List (List Word × Bool × Bool × Bool)), by decide⟩,
   ⟨{withSlot base { slotAt true with segq := [([1], true, true, false)] } with rple.framer := some 0}, 0, { slotAt true with segq := [([1], true, true, false)] }, by decide⟩,
   ⟨withSlot (baseRecord 0) { slotAt true with run := 1, app0 := 0x28100000 }, 0, { slotAt true with run := 1, app0 := 0x28100000 }, linkOf 0, by decide⟩⟩
/-- The premises of `Obligations.Queries`, clause by clause, are met. -/
theorem test_met_Queries :
    (∃ (s : State) (c : Instr) (op : Nat), s.up .qrye ∧ ((c = .timeSeek ∧ op = 1) ∨ (c = .recordCount ∧ op = 2)) ∧ s.settled ∧ s.qrye.go = false ∧ s.sysc.mode ∈ [Mode.memory, .stream, .safe] ∧ s.qrye.strand < s.strandCount ∧ (s.strand s.qrye.strand).st ≠ .free ∧ ((op = 2 → s.qrye.t1 < s.qrye.t2))) ∧
    (∃ (s : State) (c : Instr) (op : Nat), s.up .qrye ∧ ((c = .timeSeek ∧ op = 1) ∨ (c = .recordCount ∧ op = 2)) ∧ s.qrye.go = false ∧ s.sysc.mode ∉ [Mode.memory, .stream, .safe]) ∧
    (∃ (s : State) (c : Instr) (op : Nat), s.up .qrye ∧ ((c = .timeSeek ∧ op = 1) ∨ (c = .recordCount ∧ op = 2)) ∧ s.qrye.go = false ∧ s.sysc.mode ∈ [Mode.memory, .stream, .safe] ∧ (s.strandCount ≤ s.qrye.strand ∨ (s.strand s.qrye.strand).st = .free)) ∧
    (∃ (s : State) (c : Instr) (op : Nat), s.up .qrye ∧ ((c = .timeSeek ∧ op = 1) ∨ (c = .recordCount ∧ op = 2)) ∧ s.qrye.go = true) ∧
    (∃ (s : State) (op : Nat), s.up .qrye ∧ s.qrye.go = false ∧ op ≠ 1 ∧ op ≠ 2) ∧
    (∃ (s : State) (skipped : List Nat) (l : List HSlot), s.qrye.go = true ∧ (∀ c ∈ s.strd.rebuild, c ∉ s.qrye.used) ∧ l = s.querySlots ((s.hankSlots s.qrye.strand).filter fun a => a.h / 52416 ∉ skipped)) :=
  ⟨⟨{baseStrand 1 (strandIn .idle) with sysc.mode := .memory}, .timeSeek, 1, by decide⟩,
   ⟨baseIn .service, .timeSeek, 1, by decide⟩,
   ⟨base, .recordCount, 2, by decide⟩,
   ⟨{base with qrye.go := true}, .timeSeek, 1, by decide⟩,
   ⟨base, 0, by decide⟩,
   ⟨{baseRecord 0 with qrye.go := true, qrye.op := 1}, [], linkOf 0, by decide⟩⟩
/-- The premises of `Obligations.ThermalFrames`, clause by clause, are met. -/
theorem test_met_ThermalFrames :
    (∃ (s : State), s.on .thrm ∧ (s.thrm.shutdown = true ∨ s.thrm.shutRun = 0)) ∧
    (∃ (s : State) (raw : List (Option Nat)) (temps : List Int) (i : Nat), s.on .thrm ∧ s.thrm.shutdown = false ∧ 0 < s.thrm.shutRun ∧ (s.sysc.mode = .memory ∨ s.sysc.mode = .stream) ∧ s.sysc.svcstrap = false ∧ i < 20 ∧ wbit s.thrm.exclNow i = false ∧ s.thrm.shutAt ≤ ((s.thrm.sensor i).frame (raw.getD i none) (temps.getD i 0)).temp) ∧
    (∃ (s : State) (c : Nat), s.settled ∧ s.thrm.clockTarget = some c) ∧
    (∃ (s : State) (v : Word), s.up .thrm ∧ (onesOf 20 (keep v 0xFFFFF).toNat).length ≤ 4) ∧
    (∃ (s : State) (v : Word), s.up .thrm ∧ 4 < (onesOf 20 (keep v 0xFFFFF).toNat).length ∧ (s.hdr .thrm).evalid = false) ∧
    (∃ (s : State) (v : Word), s.up .thrm ∧ s.settled ∧ fld v 0 8 < fld v 8 8 ∧ fld v 8 8 < fld v 16 8 ∧ fld v 16 8 ≤ 110) :=
  ⟨⟨base, by decide⟩,
   ⟨{base with thrm.shutRun := 1, thrm.exclNow := 0}, List.replicate 24 (some 100), List.replicate 24 120, 0, by decide⟩,
   ⟨{base with thrm.clockTarget := some 1}, 1, by decide⟩,
   ⟨base, 0, by decide⟩,
   ⟨base, 0x1F, by decide⟩,
   ⟨base, 0x6E0201, by decide⟩⟩
/-- The premises of `Obligations.RecorderTimers`, clause by clause, are met. -/
theorem test_met_RecorderTimers :
    (∃ (s : State), s.settled ∧ s.evtr.inc.active = false ∧ s.evtr.thresh < s.evtr.inc.now) ∧
    (∃ (s : State), s.settled ∧ ¬(s.evtr.inc.active = false ∧ s.evtr.thresh < s.evtr.inc.now)) ∧
    (∃ (s : State), s.settled ∧ s.logOpen = true ∧ s.sysc.mode ≠ .rest ∧ s.logDue = true) ∧
    (∃ (s : State), s.settled ∧ s.logOpen = true ∧ s.sysc.mode = .rest ∧ s.logDue = true) ∧
    (∃ (s : State), s.settled ∧ s.evtr.critPend ≠ [] ∧ s.evtr.critSince + 10 ^ 7 ≤ s.now) ∧
    (∃ (s : State), s.settled ∧ 1 ≤ s.afterWindow ∧ s.evtr.inc.active = false) :=
  ⟨⟨{base with evtr.inc.now := 5000}, by decide⟩,
   ⟨base, by decide⟩,
   ⟨{base with evtr.logPage := [.reset], aon.uptime := 10 ^ 10}, by decide⟩,
   ⟨{baseIn .rest with evtr.logPage := [.reset], aon.uptime := 10 ^ 10}, by decide⟩,
   ⟨{base with evtr.critPend := [.reset], aon.uptime := 10 ^ 10}, by decide⟩,
   ⟨{base with evtr.mainRing := [.reset], evtr.mainCount := 1}, by decide⟩⟩
/-- The premises of `Obligations.RecorderCursors`, clause by clause, are met. -/
theorem test_met_RecorderCursors :
    (∃ (s : State) (who : Nat) (k : Nat) (i : Nat) (v : Word) (l : List EvRec) (base : Nat), s.settled ∧ s.up .evtr ∧ k ≤ 2 ∧ ((who = 0 → k = 0)) ∧ ((who = 1 → k = 1)) ∧ s.source (fld v 32 2) = (l, base) ∧ (l.findIdx? fun r => r.seq = fld v 0 32) = some i) ∧
    (∃ (s : State) (who : Nat) (k : Nat) (l : List EvRec) (base : Nat), s.settled ∧ s.up .evtr ∧ k ≤ 2 ∧ ((who = 0 → k = 0)) ∧ ((who = 1 → k = 1)) ∧ s.source (s.cursor k).source = (l, base) ∧ base ≤ (s.cursor k).pos + (s.cursor k).win.length) ∧
    (∃ (s : State) (c : Instr) (who : Nat) (k : Nat) (v : Word), s.settled ∧ s.up .evtr ∧ k ≤ 2 ∧ ((who = 0 ∧ k ≠ 0) ∨ (who = 1 ∧ k ≠ 1)) ∧ (s.hdr .evtr).evalid = false ∧ (c = .cursorPlace who k v ∨ c = .cursorAdvance who k v)) ∧
    (∃ (s : State) (k : Nat) (l : List EvRec) (base : Nat), s.settled ∧ k ≤ 2 ∧ 2 ≤ (s.cursor k).source ∧ (s.cursor k).filling = true ∧ s.source (s.cursor k).source = (l, base)) ∧
    (∃ (s : State) (v : Word) (k : Nat), s.settled ∧ s.up .evtr ∧ k = fld s.evtr.rcsel 0 3 ∧ k ≠ 0 ∧ fld v 0 16 ≠ 0 ∧ fld v 16 12 ≠ 0) ∧
    (∃ (s : State) (v : Word) (k : Nat), s.settled ∧ s.up .evtr ∧ k = fld s.evtr.rcsel 0 3 ∧ k ≠ 0 ∧ (fld v 0 16 = 0 ∨ fld v 16 12 = 0) ∧ (s.hdr .evtr).evalid = false) :=
  ⟨⟨{base with evtr.mainRing := [{ EvRec.reset with seq := 7 }], evtr.mainCount := 1}, 0, 0, 0, 7, [{ EvRec.reset with seq := 7 }], 0, by decide⟩,
   ⟨base, 0, 0, [], 0, by decide⟩,
   ⟨base, .cursorAdvance 1 2 0, 1, 2, 0, by decide⟩,
   ⟨{base with evtr.cursors := [(0, { Cursor.reset with source := 2, filling := true })]}, 0, [], 0, by decide⟩,
   ⟨{base with evtr.rcsel := 1}, 0x10001, 1, by decide⟩,
   ⟨{base with evtr.rcsel := 1}, 0, 1, by decide⟩⟩
/-- The premises of `Obligations.AttestationOpens`, clause by clause, are met. -/
theorem test_met_AttestationOpens :
    (∃ (s : State) (conn : Nat) (m : List (BitVec 8)), conn < 2 ∧ s.up .idnt ∧ codeOf m = 0x84 ∧ leAt m 0 1 = 0x10) ∧
    (∃ (s : State) (conn : Nat) (m : List (BitVec 8)), conn < 2 ∧ s.up .idnt ∧ codeOf m = 0x84 ∧ leAt m 0 1 ≠ 0x10 ∧ (s.hdr .idnt).evalid = false) ∧
    (∃ (s : State) (conn : Nat) (m : List (BitVec 8)), conn < 2 ∧ s.up .idnt ∧ leAt m 0 1 = 0x13 ∧ (s.spdm conn).version = true ∧ codeOf m = 0xE1 ∧ 20 ≤ m.length) ∧
    (∃ (s : State) (conn : Nat) (m : List (BitVec 8)), conn < 2 ∧ s.up .idnt ∧ leAt m 0 1 = 0x13 ∧ (s.spdm conn).version = true ∧ codeOf m = 0xE3 ∧ (s.spdm conn).caps = true ∧ 32 ≤ m.length ∧ leAt m 4 2 = m.length ∧ (BitVec.ofNat 32 (leAt m 8 4)).getLsbD 10 = true ∧ (BitVec.ofNat 32 (leAt m 12 4)).getLsbD 2 = true) ∧
    (∃ (s : State) (conn : Nat) (m : List (BitVec 8)), conn < 2 ∧ s.up .idnt ∧ leAt m 0 1 = 0x13 ∧ (s.spdm conn).version = true ∧ codeOf m = 0xFF ∧ (s.spdm conn).caps = true ∧ (s.spdm conn).algs = true ∧ (s.hdr .idnt).evalid = false) ∧
    (∃ (s : State) (conn : Nat) (m : List (BitVec 8)), conn < 2 ∧ s.up .idnt ∧ leAt m 0 1 = 0x13 ∧ (s.spdm conn).version = true ∧ codeOf m = 0xE3 ∧ (s.spdm conn).caps = false ∧ (s.hdr .idnt).evalid = false) :=
  ⟨⟨base, 0, [0x10, 0x84, 0, 0], by decide⟩,
   ⟨base, 0, req 0x84 0 0 4, by decide⟩,
   ⟨baseSpdm { Spdm.reset with version := true }, 0, req 0xE1 0 0 20, by decide⟩,
   ⟨baseSpdm opened, 0, [0x13, 0xE3, 0, 0, 32, 0, 1, 0, 0, 4, 0, 0, 4, 0, 0, 0] ++ List.replicate 16 0, by decide⟩,
   ⟨baseSpdm opened, 0, req 0xFF 0 0 4, by decide⟩,
   ⟨baseSpdm { Spdm.reset with version := true }, 0, req 0xE3 0 0 32, by decide⟩⟩
/-- The premises of `Obligations.Attestation`, clause by clause, are met. -/
theorem test_met_Attestation :
    (∃ (s : State) (conn : Nat) (m : List (BitVec 8)), conn < 2 ∧ s.up .idnt ∧ leAt m 0 1 = 0x13 ∧ (s.spdm conn).version = true ∧ (s.spdm conn).caps = true ∧ (s.spdm conn).algs = true ∧ codeOf m = 0x81) ∧
    (∃ (s : State) (conn : Nat) (m : List (BitVec 8)) (c : _) (n : _), conn < 2 ∧ s.up .idnt ∧ leAt m 0 1 = 0x13 ∧ (s.spdm conn).version = true ∧ (s.spdm conn).caps = true ∧ (s.spdm conn).algs = true ∧ codeOf m = 0x82 ∧ s.chain 0 = some c ∧ 8 ≤ m.length ∧ leAt m 2 1 % 16 = 0 ∧ leAt m 4 2 < c.length ∧ n = min (min 1016 (leAt m 6 2)) (c.length - leAt m 4 2)) ∧
    (∃ (s : State) (conn : Nat) (m : List (BitVec 8)) (c : _), conn < 2 ∧ s.up .idnt ∧ leAt m 0 1 = 0x13 ∧ (s.spdm conn).version = true ∧ (s.spdm conn).caps = true ∧ (s.spdm conn).algs = true ∧ codeOf m = 0x83 ∧ s.chain 0 = some c ∧ 44 ≤ m.length ∧ leAt m 2 1 = 0 ∧ leAt m 3 1 ∈ [0, 1, 0xFF]) ∧
    (∃ (s : State) (conn : Nat) (m : List (BitVec 8)), conn < 2 ∧ s.up .idnt ∧ leAt m 0 1 = 0x13 ∧ (s.spdm conn).version = true ∧ (s.spdm conn).caps = true ∧ (s.spdm conn).algs = true ∧ codeOf m = 0xE0 ∧ 12 ≤ m.length ∧ leAt m 2 1 % 2 = 0 ∧ leAt m 3 1 = 0) ∧
    (∃ (s : State) (conn : Nat) (m : List (BitVec 8)), conn < 2 ∧ s.up .idnt ∧ leAt m 0 1 = 0x13 ∧ (s.spdm conn).version = true ∧ (s.spdm conn).caps = true ∧ (s.spdm conn).algs = true ∧ codeOf m = 0xE0 ∧ 12 ≤ m.length ∧ leAt m 2 1 % 2 = 0 ∧ 1 ≤ leAt m 3 1 ∧ leAt m 3 1 ≤ 9) ∧
    (∃ (s : State) (conn : Nat) (m : List (BitVec 8)), conn < 2 ∧ s.up .idnt ∧ leAt m 0 1 = 0x13 ∧ (s.spdm conn).version = true ∧ (s.spdm conn).caps = true ∧ (s.spdm conn).algs = true ∧ codeOf m = 0xE0 ∧ 45 ≤ m.length ∧ leAt m 2 1 % 2 = 1 ∧ leAt m 3 1 ≤ 9 ∧ leAt m 36 1 % 16 = 0 ∧ s.certDigest.isSome = true) ∧
    (∃ (s : State) (conn : Nat) (m : List (BitVec 8)) (c : _) (p : _), conn < 2 ∧ s.up .idnt ∧ leAt m 0 1 = 0x13 ∧ (s.spdm conn).version = true ∧ (s.spdm conn).caps = true ∧ (s.spdm conn).algs = true ∧ codeOf m = 0xFE ∧ vendorPayload m = some p ∧ 7 ≤ p.length ∧ leAt p 0 1 = 1 ∧ s.chain 1 = some c ∧ leAt p 1 4 ≤ c.length ∧ leAt p 5 2 ≤ 1000) ∧
    (∃ (s : State) (conn : Nat) (m : List (BitVec 8)) (p : _) (h : _), conn < 2 ∧ s.up .idnt ∧ leAt m 0 1 = 0x13 ∧ (s.spdm conn).version = true ∧ (s.spdm conn).caps = true ∧ (s.spdm conn).algs = true ∧ codeOf m = 0xFE ∧ vendorPayload m = some p ∧ p ≠ [] ∧ leAt p 0 1 = 2 ∧ (s.spdm conn).lastT = some h ∧ (s.spdm conn).signedLast = true) ∧
    (∃ (s : State) (conn : Nat) (m : List (BitVec 8)), conn < 2 ∧ s.up .idnt ∧ leAt m 0 1 = 0x13 ∧ (s.spdm conn).version = true ∧ (s.spdm conn).caps = true ∧ (s.spdm conn).algs = true ∧ 16 ≤ m.length ∧ codeOf m = 0x85 ∧ leAt m 4 2 = 0 ∧ leAt m 8 4 = m.length - 16 ∧ leAt m 8 4 ≠ 0 ∧ leAt m 8 4 ≤ 8192 ∧ leAt m 2 1 % 2 = 0 ∧ (s.spdm conn).inChunks = []) ∧
    (∃ (s : State) (conn : Nat) (m : List (BitVec 8)), conn < 2 ∧ s.up .idnt ∧ leAt m 0 1 = 0x13 ∧ (s.spdm conn).version = true ∧ (s.spdm conn).caps = true ∧ (s.spdm conn).algs = true ∧ 6 ≤ m.length ∧ codeOf m = 0x86 ∧ (s.spdm conn).outChunks ≠ [] ∧ leAt m 3 1 = (s.spdm conn).handle ∧ leAt m 4 2 = (s.spdm conn).chunkSeq ∧ 0 < (s.spdm conn).chunkSeq) :=
  ⟨⟨baseSpdm opened, 0, req 0x81 0 0 4, by decide⟩,
   let ⟨c, hc, hl⟩ := base_chain 0; ⟨baseSpdm opened, 0, [0x13, 0x82, 0, 0, 0, 0, 68, 0], c, 68, by decide, by decide, by decide, by decide, by decide, by decide, by decide, hc, by decide, by decide, Nat.lt_of_lt_of_le (by decide) hl, by change 68 = min 68 (c.length - 0); omega⟩,
   let ⟨c, hc, _⟩ := base_chain 0; ⟨baseSpdm opened, 0, req 0x83 0 0xFF 44, c, by decide, by decide, by decide, by decide, by decide, by decide, by decide, hc, by decide⟩,
   ⟨baseSpdm opened, 0, req 0xE0 0 0 12, by decide⟩,
   ⟨baseSpdm opened, 0, req 0xE0 0 8 12, by decide⟩,
   ⟨baseSpdm opened, 0, req 0xE0 1 9 45, by decide⟩,
   let ⟨c, hc, _⟩ := base_chain 1; ⟨baseSpdm opened, 0, vendorReq (b8 1 :: List.replicate 6 0), c, b8 1 :: List.replicate 6 0, by decide, by decide, by decide, by decide, by decide, by decide, by decide, vendorReq_payload _ (by decide), by decide, by decide, hc, Nat.zero_le _, by decide⟩,
   ⟨baseSpdm { opened with lastT := some 3, signedLast := true }, 0, vendorReq [2], [b8 2], (3 : BitVec 512), by decide, by decide, by decide, by decide, by decide, by decide, by decide, vendorReq_payload _ (by decide), by decide, by decide, by decide, by decide⟩,
   ⟨baseSpdm opened, 0, [0x13, 0x85, 0, 5, 0, 0, 0, 0, 4, 0, 0, 0, 9, 0, 0, 0, 1, 2, 3, 4], by decide⟩,
   ⟨baseSpdm { opened with outChunks := [1, 2, 3], handle := 6, chunkSeq := 1 }, 0, [0x13, 0x86, 0, 6, 1, 0], by decide⟩⟩
/-- The premises of `Obligations.ThresholdOrder`, clause by clause, are met. -/
theorem test_met_ThresholdOrder :
    (∃ (s : State) (v : Word), s.up .thrm ∧ ¬(fld v 0 8 < fld v 8 8 ∧ fld v 8 8 < fld v 16 8 ∧ fld v 16 8 ≤ 110)) :=
  ⟨base, 0, by decide⟩
/-- The premises of `Obligations.FirstErrorKept`, clause by clause, are met. -/
theorem test_met_FirstErrorKept :
    (∃ (code : Nat) (addr : Nat), code < 256 ∧ addr < 2 ^ 28) :=
  ⟨0x41, 0, by decide⟩
/-- An ill-formed number is refused, command by command. -/
theorem test_wf_refuses_number_a : ∀ i ∈ ([.adcSlot 4096, .htimerWrite 8 0, .htimerDue 8, .registerReadError 68161536 0, .rcRead 67108864 0, .istatW1c 4096 0 0, .ienWrite 4096 0, .interruptForce 4096 0, .errstatClear 4096 0, .transferFwFull 1 4 [] false, .transferFwInitiate 1 4 [], .getHankWindows 1 262144, .retirementPhaseComplete 6, .ilknAlignmentLoss 16, .armTimeReached 262144, .sealIntervalExpired 4, .replayPageRead 64 0, .replayPageBuffered 64 0 false, .recordDue 64, .gapMarkerEnd 64, .segmentSent 64, .cursorPlace 3 0 0, .cursorPlace 0 3 0, .cursorAdvance 3 0 0] : List Instr),
    i.wf = false := by decide
/-- An ill-formed number is refused, command by command. -/
theorem test_wf_refuses_number_b : ∀ i ∈ ([.cursorAdvance 0 3 0, .windowFillComplete 3, .recordDeferExpired 0, .recordDeferExpired 12, .sidebandRead 67108864 0, .sidebandWrite 67108864 []] : List Instr),
    i.wf = false := by decide
/-- An ill-formed address is refused, command by command. -/
theorem test_wf_refuses_address : ∀ i ∈ ([.cxlMemRead 281474976710656 0 false [], .cxlMemWrite 281474976710656 0 0 false [], .memwrptl 281474976710656 0 0 0 false [], .getPoisonList 1 281474976710656 0, .injectPoison 1 281474976710656, .clearPoison 1 281474976710656 0, .getScanMediaCapabilities 1 281474976710656 0, .scanMedia 1 281474976710656 0, .discardRange 1 281474976710656 0] : List Instr),
    i.wf = false := by decide
/-- An ill-formed line is refused, command by command. -/
theorem test_wf_refuses_line : ∀ i ∈ ([.birsp 4398046511104, .biTimeout 4398046511104, .lineFillComplete 0 4398046511104 [], .victimWriteComplete 0 4398046511104, .tagCheckComplete 4398046511104 false] : List Instr),
    i.wf = false := by decide
/-- An ill-formed interface is refused, command by command. -/
theorem test_wf_refuses_interface_a : ∀ i ∈ ([.identify 0, .identify 3, .identifyMemoryDevice 0, .identifyMemoryDevice 3, .getPartitionInfo 0, .getPartitionInfo 3, .getEventRecords 0 0, .getEventRecords 3 0, .clearEventRecords 0 0 [] false, .clearEventRecords 3 0 [] false, .getEventInterruptPolicy 0, .getEventInterruptPolicy 3, .setEventInterruptPolicy 0 0, .setEventInterruptPolicy 3 0, .getFwInfo 0, .getFwInfo 3, .transferFwFull 0 0 [] false, .transferFwFull 3 0 [] false, .transferFwInitiate 0 0 [], .transferFwInitiate 3 0 [], .transferFwContinue 0 0 0 [], .transferFwContinue 3 0 0 [], .transferFwEnd 0 0 0 [] false, .transferFwEnd 3 0 0 [] false] : List Instr),
    i.wf = false := by decide
/-- An ill-formed interface is refused, command by command. -/
theorem test_wf_refuses_interface_b : ∀ i ∈ ([.transferFwAbort 0, .transferFwAbort 3, .activateFw 0 false 0 false, .activateFw 3 false 0 false, .getSupportedLogs 0, .getSupportedLogs 3, .getLog 0 0 0 0, .getLog 3 0 0 0, .getHealthInfo 0, .getHealthInfo 3, .getAlertConfiguration 0, .getAlertConfiguration 3, .setAlertConfiguration 0 0, .setAlertConfiguration 3 0, .getShutdownState 0, .getShutdownState 3, .setShutdownState 0 0, .setShutdownState 3 0, .getPoisonList 0 0 0, .getPoisonList 3 0 0, .injectPoison 0 0, .injectPoison 3 0, .clearPoison 0 0 0, .clearPoison 3 0 0] : List Instr),
    i.wf = false := by decide
/-- An ill-formed interface is refused, command by command. -/
theorem test_wf_refuses_interface_c : ∀ i ∈ ([.getScanMediaCapabilities 0 0 0, .getScanMediaCapabilities 3 0 0, .scanMedia 0 0 0, .scanMedia 3 0 0, .getScanMediaResults 0, .getScanMediaResults 3, .sanitize 0, .sanitize 3, .secureErase 0, .secureErase 3, .getLsa 0 0 0, .getLsa 3 0 0, .setLsa 0 0 [], .setLsa 3 0 [], .getTimestamp 0, .getTimestamp 3, .setTimestamp 0 0, .setTimestamp 3 0, .unsupportedOpcode 0 0, .unsupportedOpcode 3 0, .getOwnCommandSetVersion 0, .getOwnCommandSetVersion 3, .getLatencyRecord 0 false, .getLatencyRecord 3 false] : List Instr),
    i.wf = false := by decide
/-- An ill-formed interface is refused, command by command. -/
theorem test_wf_refuses_interface_d : ∀ i ∈ ([.discardRange 0 0 0, .discardRange 3 0 0, .getHankWindows 0 0, .getHankWindows 3 0, .getPersistenceState 0, .getPersistenceState 3, .loadKeySlot 0 0 0 0, .loadKeySlot 3 0 0 0, .bindRange 0 0 0 0, .bindRange 3 0 0 0, .rekeyRange 0 0 0 0, .rekeyRange 3 0 0 0] : List Instr),
    i.wf = false := by decide
/-- An ill-formed slice is refused, command by command. -/
theorem test_wf_refuses_slice : ∀ i ∈ ([.lineFillComplete 16 0 [], .missEntryFreed 16, .victimWriteComplete 16 0, .lfsrWrite 16 0, .sliceDrained 16] : List Instr),
    i.wf = false := by decide
/-- An ill-formed channel is refused, command by command. -/
theorem test_wf_refuses_channel : ∀ i ∈ ([.dramRefreshDue 48 0 false, .actWindowReset 48, .burstWindowEnd 48 0, .drmcShareWrite 48 0, .rbNRise 48, .codewordTransferComplete 48, .retrainDue 48 0, .retrainStepComplete 48 false false] : List Instr),
    i.wf = false := by decide
/-- An ill-formed die is refused, command by command. -/
theorem test_wf_refuses_die : ∀ i ∈ ([.eraseComplete 768 0 false, .dieStatusPoll 768 .ready, .dieCommandTimeout 768, .suspendEffective 768, .arrayReadComplete 768, .decodeComplete 0 768 { ok := true, errors := 0, levels := [], single := false, entryLost := false }, .softDecodeComplete 0 768 { errors := 0, ok := false }] : List Instr),
    i.wf = false := by decide
/-- An ill-formed core is refused, command by command. -/
theorem test_wf_refuses_core : ∀ i ∈ ([.mediaCoreWatchdog 10, .seqCoreWatchdog 10, .coreReloadComplete 10 false] : List Instr),
    i.wf = false := by decide
/-- An ill-formed connection is refused, command by command. -/
theorem test_wf_refuses_connection : ∀ i ∈ ([.getVersion 2 [], .getCapabilities 2 [], .negotiateAlgorithms 2 [], .getDigests 2 [], .getCertificate 2 [], .challenge 2 [], .getMeasurements 2 [], .getPqCert 2 [], .getPqSig 2 [], .chunkSend 2 [], .chunkGet 2 [], .respondIfReady 2 []] : List Instr),
    i.wf = false := by decide
/-- An ill-formed target of a register write is refused. -/
theorem test_wf_refuses_target : ∀ i ∈ ([.registerWrite (.bar0 67108864 0xFF 0 none), .registerWrite (.slots 67108864 []),
    .registerWrite (.cycle [(67108864, 0)]), .registerWrite (.decoder 8 0 0 false 0 0), .registerWrite (.undecoder 8), .registerWrite (.msixMask 64 true),
    .registerWrite (.bar2 1048576 0xFF 0)] : List Instr), i.wf = false := by decide

/-! ### One-command tests against the worked examples of the spec -/

/-- What a command leaves, read by a projection. -/
def said {α : Type} (c : Instr) (s : State) (f : State → α) : Option α := match exec c s with | .next t => some (f t) | _ => none

/-- Finding ONFI channel 29 (03_registers_and_hallmark.md, the example under R126): the entry at 0xB40 reads 0x0017_1D41. -/
theorem test_entry_of_channel_29 : base.readReg false .hall 0xB40 = 0x171D41 := by decide
/-- Vector 45 (03_registers_and_hallmark.md, the example under R136): NENT 9 and FIRST 76. -/
theorem test_vector_45 : base.readReg false .hall (0xE00 + 8 * 45) = 0x4C09 := by decide
/-- A read of that entry as a command answers it on the bus. -/
theorem test_read_entry : said (.registerReadError 0xB40 0xFF) base (·.out) = some [.regRead 0x171D41] := by decide
/-- Slice and set of DPA 0x0000_1234_5640 (05_near_cache.md, the example under R199): slice 4, set 0xD15. -/
theorem test_slice_and_set : sliceHash (0x12345640 / 64) = 4 ∧ lineSet (0x12345640 / 64) = 0xD15 := by decide
/-- The victim sequence of slice 0 (05_near_cache.md, the example under R206). -/
theorem test_victim_sequence : lfsrSeed 0 = 0xACE1 ∧ lfsrStep 0xACE1 = 0x5670 ∧ lfsrStep 0x5670 = 0xAB38 := by decide
/-- PUA 0x4E20_0FA2 (07_translation.md, the example under R300): band 5,000, data page 1,000, slot 2, in member 11 at page 66. -/
theorem test_pua : mkPua 5000 1000 2 = 0x4E200FA2 ∧ puaBand 0x4E200FA2 = 5000 ∧ puaPage 0x4E200FA2 = 1000 ∧ puaSlot 0x4E200FA2 = 2 ∧
    ({ Band.reset with members := (List.range 16).map fun m => (m, 0) } : Band).place 1000 = (11, 0, 66) := by decide
/-- The line that word 1,000 of the packed view starts in, and its word-view line (04_host_port.md, the example under R168). -/
theorem test_word_1000 : 1000 ∈ lineWords (0x800000001380 / 64) ∧ 1000 ∈ lineWords (0x200000001F40 / 64) := by decide
/-- The block page of ONFC 31 (09_media_bus.md, the example of die 500): 0x0013_8000, in media cluster 3. -/
theorem test_die_500 : Block.page (.onfc (500 / 16)) * 4096 = 0x138000 ∧ 500 / 16 / 8 = 3 := by decide
/-- A 4860 with its hold-up bank measured, charged and sampled, 48 channels live, and the profile of the manual's examples. -/
def baseBank (cmeas : Nat) : State :=
  { base with
    fuse.part := .p4860, pseq.cap := { CapTest.reset with cmeas := cmeas, bankReached := true, bankLow := false, bankSampled := true }
    pers.holdupcfg := packW [(13, 3500), (13, 1500), (9, 60)], pers.dirtycfg := 128
    ftlm.profile := some { slcProgTyp := 60000, slcProgMax := 100000 }
    clus.onfc := (List.range 48).map fun n => (n, { Onfc.reset with cstate := .active }) }
/-- A bank of 14.4 mF drains the configured 8 GiB; one of 12.96 mF limits L to 7,296 MiB (10_persistence.md, the example under R424). -/
theorem test_dirty_limit : (baseBank 14400).computeLimit = (8192, 0) ∧ (baseBank 12960).computeLimit = (7296, 1) := by decide
/-- Exported capacity of a 4860 with 768 2 Tbit dies (07_translation.md, the example under R345): 168,099,840 MiB. -/
theorem test_exported :
    ({ baseBank 0 with
       ftlm.width := 16, ftlm.profile := some { blocks := 4096, densePpb := 4096 }
       clus.dies := (List.range 768).map fun d => (d, { Die.reset with found := true, insvc := true }) } : State).exportNow = 168099840 := by
  decide
/-- The staging values of the pre-trigger example (12_capture.md, the example under R541): ALLOC makes the strand they spell. -/
theorem test_alloc_staging :
    let x := State.staged { base with strd.stage1 := 0x100000, strd.stage2 := 0x3000800A, strd.stage4 := 0x780800801, strd.stage5 := 2 }
    x.hbase = 1048576 ∧ x.filtfirst = 0 ∧ x.hsize = 32778 ∧ x.mode = 2 ∧ x.policy = true ∧ x.rearm = false ∧ x.pre = 2049 ∧ x.post = 30728 ∧
      x.srcen = 2 := by decide
/-- A late alarm's record (17_event_recorder.md, the example under R698): code 0x0C20 from the MPRT page. -/
theorem test_alarm_record : (base.error .mprt 0x40 0x123).raised.map (fun r => (r.code, r.src)) = [(0xC20, 0x30)] := by decide
/-- A trigger stamped at an edge less INCOMP (20_cohort_and_time.md, the cross-trigger example): 12 ns of flight and OUTLAT cancel. -/
theorem test_cross_trigger :
    let out := ({ base with coht.running := true } : State).trigOut (4 * 5100000123 + 1)
    out.coht.outRise = [4 * 5100002123 + 1] ∧ 4 * 5100002123 + 1 + 4 * 12 - 8048 = 4 * 5100000123 + 1 := by decide
/-- The ladder rises one step at a frame in throttle and the throttle clears below its hysteresis (16_thermal.md, its example). -/
theorem test_ladder :
    ({ base with thrm.tg := 100 } : State).thrm.throtAt = 100 ∧
    (({ base with thrm.tg := 100 } : State).levels none).thrm.throttle = true ∧
    (({ base with thrm.tg := 96, thrm.throttle := true } : State).levels none).thrm.throttle = false ∧
    (({ base with thrm.tg := 97, thrm.throttle := true } : State).levels none).thrm.throttle = true ∧
    (({ base with thrm.throttle := true, thrm.step := .s2 } : State).ladder).thrm.step = .s3fast := by decide
/-- The generator of the check code, as its roots multiply out (06_dram_tier.md R253), and a line whose codeword is one. -/
theorem test_rs_generator : rsGenerator = [1, 255, 11, 81, 54, 239, 173, 200, 24] := by decide
theorem test_rs_codeword : rsSyndromes (rsCodeword (List.range 64) (List.range 8)) = List.replicate 8 0 := by decide
/-- Four wrong symbols are corrected, a fifth is not unless all lie in one nibble that is marked (06_dram_tier.md R254, R255). -/
theorem test_dram_decode :
    dramDecode none [(0, 0, 1), (1, 2, 7), (2, 3, 9)] = .corrected [(0, 1), (1, 1), (2, 1)] ∧
    dramDecode none ((List.range 5).map fun k => (3, k, 1)) = .lost (some 3) ∧
    dramDecode (some 3) ((List.range 8).map fun k => (3, k, 1)) = .erased := by decide
/-- The tree of a 1 TiB tier has its top DRAM level at 8, with 16 nodes, and that of a 128 GiB tier at 7 (14_memory_protection.md, under R602). -/
theorem test_tree_levels :
    let pages (units : Nat) : Nat := units - 4 * treeGroups units
    topLevel (pages (2 ^ 28)) = 8 ∧ levelNodes (pages (2 ^ 28)) 8 = 16 ∧ levelNodes (pages (2 ^ 28)) 7 = 124 ∧ topLevel (pages (2 ^ 25)) = 7 := by decide
/-- A pool of 4 GiB fits on a 4815 with 32 GiB and the largest host data size (06_dram_tier.md, the example under R265), a fifth one does not. -/
theorem test_pool_fits : tierPool 32 (12 * 2 ^ 20) 4 = some 4 ∧ tierPool 32 (12 * 2 ^ 20) 5 = some 4 := by decide

end Sys2Proof.Tests
end

section
/-!
SUPPORT. What no command writes. `Kept s₀ s` says that a state holds what it held before a command: the commands that wait, and everything
fused but the image key sets that a confirmed image revokes (00_scope.md R1, R4; 19_firmware_and_identity.md R766). Each operation of the model
keeps it. The lemma of an operation takes the proof for the state that it starts from, so that the proof for a composition reads as the
composition does.
-/
namespace Sys2Proof.Machine

/-- `t` holds the queue and the fused identity that `s` holds. -/
structure Kept (s t : State) : Prop where
  queue : t.pending = s.pending
  fused : { t.fuse with keyRevoked := [] } = { s.fuse with keyRevoked := [] }

/-- Where the option holds a state, that state keeps what `s` holds. -/
def KeptIn (s : State) (o : Option State) : Prop := ∀ t, o = some t → Kept s t

/-- Where the outcome is a next state, that state keeps what `s` holds. -/
def Keeps (s : State) (o : Host.Outcome State Fault Refusal) : Prop := ∀ t, o = .next t → Kept s t

/-- The way in which room is made for a held write, where there is one, keeps the queue and the fused identity. -/
def KeepsRoom (room : Option (State → State)) : Prop := ∀ f, room = some f → ∀ {s t : State}, Kept s t → Kept s (f t)

variable {s₀ s t u : State} {α : Type}

theorem Kept.refl (s : State) : Kept s s := ⟨rfl, rfl⟩
theorem Kept.rep (h : Kept s₀ s) (g : Rep s t) : Kept s₀ t := ⟨g.pending.trans h.queue, by rw [g.fuse, h.fused]⟩

/-- Any field but the queue and the fuses may change. -/
theorem Kept.update {sysc rest hall cxlp mbox ncch sram drmc tier ftlm media clus plan pers aon
      ilkn kspe ingp strd rple qrye mprt pseq thrm evtr psto boot idnt coht raised out free} (h : Kept s₀ s) :
    Kept s₀
      { fuse := s.fuse, sysc, rest, hall, cxlp, mbox, ncch, sram, drmc, tier, ftlm, media, clus, plan, pers, aon, ilkn, kspe, ingp, strd,
        rple, qrye, mprt, pseq, thrm, evtr, psto, boot, idnt, coht, raised, out, free, pending := s.pending } :=
  ⟨h.queue, h.fused⟩

/-- Key sets may be revoked as well. -/
theorem Kept.revoke {revoked : List Nat} {sysc rest hall cxlp mbox ncch sram drmc tier ftlm media clus plan pers aon
      ilkn kspe ingp strd rple qrye mprt pseq thrm evtr psto boot idnt coht raised out free} (h : Kept s₀ s) :
    Kept s₀
      { fuse := { s.fuse with keyRevoked := revoked }, sysc, rest, hall, cxlp, mbox, ncch, sram, drmc, tier, ftlm, media, clus, plan, pers,
        aon, ilkn, kspe, ingp, strd, rple, qrye, mprt, pseq, thrm, evtr, psto, boot, idnt, coht, raised, out, free, pending := s.pending } :=
  ⟨h.queue, h.fused⟩

/-- A proof used at several places of the proof that follows it. -/
theorem Kept.next (h : Kept s₀ s) (f : Kept s₀ s → Kept s₀ t) : Kept s₀ t := f h
theorem Kept.ite {c : Prop} {_ : Decidable c} (h : Kept s₀ s) (g : Kept s₀ t) : Kept s₀ (if c then s else t) := by split <;> assumption
theorem Kept.when {c : Prop} {_ : Decidable c} (h : Kept s₀ s) (f : Kept s₀ s → Kept s₀ t) : Kept s₀ (if c then t else s) := .ite (f h) h
theorem Kept.unless {c : Prop} {_ : Decidable c} (h : Kept s₀ s) (f : Kept s₀ s → Kept s₀ t) : Kept s₀ (if c then s else t) := .ite h (f h)
theorem Kept.ite_fst {c : Prop} {_ : Decidable c} {p q : State × α} (h : Kept s₀ p.1) (g : Kept s₀ q.1) : Kept s₀ (if c then p else q).1 := by
  split <;> assumption
theorem Kept.ite_snd {c : Prop} {_ : Decidable c} {p q : α × State} (h : Kept s₀ p.2) (g : Kept s₀ q.2) : Kept s₀ (if c then p else q).2 := by
  split <;> assumption
theorem Kept.pair_fst {a : α} (h : Kept s₀ s) : Kept s₀ (s, a).1 := h
theorem Kept.pair_snd {a : α} (h : Kept s₀ s) : Kept s₀ (a, s).2 := h
theorem Kept.fst {p : State × α} {a : α} (h : Kept s₀ p.1) (e : p = (t, a)) : Kept s₀ t := by rwa [e] at h
theorem Kept.snd {p : α × State} {a : α} (h : Kept s₀ p.2) (e : p = (a, t)) : Kept s₀ t := by rwa [e] at h
theorem Kept.foldl {f : State → α → State} {l : List α} (h : Kept s₀ s) (hf : ∀ {u a}, Kept s₀ u → Kept s₀ (f u a)) :
    Kept s₀ (l.foldl f s) := by
  induction l generalizing s with
  | nil => exact h
  | cons a l ih => exact ih (hf h)
theorem Kept.elim {o : Option α} {f : α → State} (h : Kept s₀ s) (hf : ∀ {a}, Kept s₀ (f a)) : Kept s₀ (o.elim s f) := by
  cases o with
  | none => exact h
  | some a => exact hf

theorem KeptIn.none : KeptIn s₀ none := fun _ e => absurd e.symm (Option.some_ne_none _)
theorem KeptIn.some (h : Kept s₀ s) : KeptIn s₀ (some s) := fun _ e => Option.some.inj e ▸ h
theorem KeptIn.ite {c : Prop} {_ : Decidable c} {o p : Option State} (h : KeptIn s₀ o) (g : KeptIn s₀ p) : KeptIn s₀ (if c then o else p) := by
  split <;> assumption
theorem KeptIn.getD {o : Option State} (h : KeptIn s₀ o) (g : Kept s₀ s) : Kept s₀ (o.getD s) := by
  cases o with
  | none => exact g
  | some t => exact h t rfl

theorem KeepsRoom.none : KeepsRoom none := fun _ e => absurd e.symm (Option.some_ne_none _)
theorem KeepsRoom.some {f : State → State} (h : ∀ {s t : State}, Kept s t → Kept s (f t)) : KeepsRoom (some f) :=
  fun _ e _ _ g => Option.some.inj e ▸ h g

theorem Keeps.next (h : Kept s₀ s) : Keeps s₀ (.next s) := fun _ e => Host.Outcome.next.inj e ▸ h

/-! ### Flags, interrupts and records raised (17_event_recorder.md) -/

theorem Kept.modHdr {b f} (h : Kept s₀ s) : Kept s₀ (s.modHdr b f) := h.rep (rep_modHdr ..)
theorem Kept.send {o} (h : Kept s₀ s) : Kept s₀ (s.send o) := h.rep (rep_send ..)
theorem Kept.fresh1 (h : Kept s₀ s) : Kept s₀ s.fresh1.2 := h.update
theorem Kept.message {v} (h : Kept s₀ s) : Kept s₀ (s.message v) := h.rep (rep_message ..)
theorem Kept.signal {b written f} (h : Kept s₀ s) : Kept s₀ (s.signal b written f) := h.rep (rep_signal ..)
theorem Kept.reportCause {b bits} (h : Kept s₀ s) : Kept s₀ (s.reportCause b bits) := h.rep (rep_reportCause ..)
theorem Kept.setCause {b bits} (h : Kept s₀ s) : Kept s₀ (s.setCause b bits) := h.rep (rep_setCause ..)
theorem Kept.raise {code sev src p0 p1 p2} (h : Kept s₀ s) : Kept s₀ (s.raise code sev src p0 p1 p2) := h.rep (rep_raise ..)
theorem Kept.cause {b bit sev} (h : Kept s₀ s) : Kept s₀ (s.cause b bit sev) := h.rep (rep_cause ..)
theorem Kept.error {b code addr bits sev} (h : Kept s₀ s) : Kept s₀ (s.error b code addr bits sev) := h.rep (rep_error ..)
theorem Kept.reportError {b code addr bits sev} (h : Kept s₀ s) : Kept s₀ (s.reportError b code addr bits sev) := h.rep (rep_reportError ..)
theorem Kept.changeRecord {b reg old new sev} (h : Kept s₀ s) : Kept s₀ (s.changeRecord b reg old new sev) := h.rep (rep_changeRecord ..)
theorem Kept.namedRecord {b p0 p1 p2 sev} (h : Kept s₀ s) : Kept s₀ (s.namedRecord b p0 p1 p2 sev) := h.rep (rep_namedRecord ..)
theorem Kept.hallSync (h : Kept s₀ s) : Kept s₀ s.hallSync := h.rep (rep_hallSync ..)
theorem Kept.retirement {b sev} (h : Kept s₀ s) : Kept s₀ (s.retirement b sev) := h.raise
theorem Kept.retireBlock {b sev} (h : Kept s₀ s) : Kept s₀ (s.retireBlock b sev) := h.rep (rep_retireBlock ..)

/-! ### The Parameter Store's queue (18_parameter_store.md) -/

theorem Kept.modRecord {t f} (h : Kept s₀ s) : Kept s₀ (s.modRecord t f) := h.rep (rep_modRecord ..)
theorem Kept.queuePage {w} (h : Kept s₀ s) : Kept s₀ (s.queuePage w) := h.rep (rep_queuePage ..)
theorem Kept.startRecord {t} (h : Kept s₀ s) : Kept s₀ (s.startRecord t) := h.rep (rep_startRecord ..)
theorem Kept.writeRecord {t} (h : Kept s₀ s) : Kept s₀ (s.writeRecord t) := h.rep (rep_writeRecord ..)
theorem Kept.hostRecord {t} (h : Kept s₀ s) : Kept s₀ (s.hostRecord t) := h.rep (rep_hostRecord ..)
theorem Kept.setRecord {t b} (h : Kept s₀ s) : Kept s₀ (s.setRecord t b) := h.rep (rep_setRecord ..)

/-! ### The admission of records and the end of a command (17_event_recorder.md) -/

theorem Kept.setNewrec (h : Kept s₀ s) : Kept s₀ s.setNewrec := h.rep (rep_setNewrec ..)
theorem Kept.mainPut {r} (h : Kept s₀ s) : Kept s₀ (s.mainPut r) := h.rep (rep_mainPut ..)
theorem Kept.flushLog (h : Kept s₀ s) : Kept s₀ s.flushLog := h.rep (rep_flushLog ..)
theorem Kept.logPut {r} (h : Kept s₀ s) : Kept s₀ (s.logPut r) := h.rep (rep_logPut ..)
theorem Kept.critPage1 (h : Kept s₀ s) : Kept s₀ s.critPage1 := h.rep (rep_critPage1 ..)

theorem Kept.critFlush {n} (h : Kept s₀ s) : Kept s₀ (s.critFlush n) := by
  induction n generalizing s with
  | zero => exact h
  | succ n ih => exact ih h.critPage1

theorem Kept.critPut {r} (h : Kept s₀ s) : Kept s₀ (s.critPut r) := h.rep (rep_critPut ..)
theorem Kept.storeRecord {r} (h : Kept s₀ s) : Kept s₀ (s.storeRecord r) := h.rep (rep_storeRecord ..)
theorem Kept.settle (h : Kept s₀ s) : Kept s₀ s.settle := h.rep (rep_settle ..)
theorem Kept.finish (h : Kept s₀ s) : Keeps s₀ (finish s) := .next h.settle

/-! ### The dirty limit and the modes (10_persistence.md, 02_modes_and_starts.md) -/

theorem Kept.raiseClass {cls pick} (h : Kept s₀ s) : Kept s₀ (s.raiseClass cls pick) := h.update
theorem Kept.raiseDestage (h : Kept s₀ s) : Kept s₀ s.raiseDestage := h.raiseClass
theorem Kept.applyLimit (h : Kept s₀ s) : Kept s₀ s.applyLimit :=
  h.update.update.next fun h => (Kept.ite h.raiseDestage h).when fun h => h.cause
theorem Kept.setMode {m} (h : Kept s₀ s) : Kept s₀ (s.setMode m) := .ite h h.update.cause
theorem Kept.modeDone {result} (h : Kept s₀ s) : Kept s₀ (s.modeDone result) := h.update.cause
theorem Kept.modeDoneTo {m} (h : Kept s₀ s) : Kept s₀ (s.modeDoneTo m) := h.update.modeDone

/-! ### Bands, destaging and moves (07_translation.md) -/

theorem Kept.modBand {b f} (h : Kept s₀ s) : Kept s₀ (s.modBand b f) := h.update
theorem Kept.modBlk {die block f} (h : Kept s₀ s) : Kept s₀ (s.modBlk die block f) := h.update
theorem Kept.modDie {d f} (h : Kept s₀ s) : Kept s₀ (s.modDie d f) := h.update
theorem Kept.freeBand {b} (h : Kept s₀ s) : Kept s₀ (s.freeBand b) := .ite (.ite h.modBand (h.foldl (fun h => h.modBlk)).update) h
theorem Kept.addValid {b n} (h : Kept s₀ s) : Kept s₀ (s.addValid b n) := h.modBand
theorem Kept.subValid {b n} (h : Kept s₀ s) : Kept s₀ (s.subValid b n) := h.modBand.freeBand
theorem Kept.setEntry {coarse u e} (h : Kept s₀ s) : Kept s₀ (s.setEntry coarse u e) :=
  (Kept.ite h.update h.update).next fun h => (Kept.ite h.addValid h).when fun h => h.subValid
theorem Kept.takeSeqs {n} (h : Kept s₀ s) : Kept s₀ (s.takeSeqs n).2 := h.update
theorem Kept.putTier {line data poison} (h : Kept s₀ s) : Kept s₀ (s.putTier line data poison) := h.update
theorem Kept.notePoison {line} (h : Kept s₀ s) : Kept s₀ (s.notePoison line) := .ite h (.ite h.update (.ite h.update h))
theorem Kept.noteUnit {u} (h : Kept s₀ s) : Kept s₀ (s.noteUnit u) := h.foldl (fun h => h.notePoison)
theorem Kept.clearPoison {line} (h : Kept s₀ s) : Kept s₀ (s.clearPoison line) := h.update
theorem Kept.flushNear (h : Kept s₀ s) : Kept s₀ s.flushNear :=
  h.foldl (fun h => ((h.foldl (fun h => .ite h.putTier h)).foldl (fun h => h.putTier)).update)
theorem Kept.spaceSync (h : Kept s₀ s) : Kept s₀ s.spaceSync := (Kept.ite h.update.cause h.update).when fun h => h.update
theorem Kept.landSync (h : Kept s₀ s) : Kept s₀ s.landSync := .ite h.update.cause h.update
theorem Kept.queueOp {d o} (h : Kept s₀ s) : Kept s₀ (s.queueOp d o) := h.modDie
theorem Kept.queueErase {d b cls} (h : Kept s₀ s) : Kept s₀ (s.queueErase d b cls) := h.queueOp
theorem Kept.openBand {cls now} (h : Kept s₀ s) : Kept s₀ (s.openBand cls now) :=
  .ite h (.ite (h.update.foldl (fun h => .ite h.modBlk h.modBlk.queueErase)).spaceSync.landSync (.ite h.update h))
theorem Kept.giveUpBand {b} (h : Kept s₀ s) : Kept s₀ (s.giveUpBand b) := (h.foldl (fun h => h.modBlk)).update

theorem Kept.room {cls n now} (h : Kept s₀ s) : Kept s₀ (s.room cls n now).2 := by
  unfold State.room
  split
  · exact .ite h.update h
  · dsimp only
    split
    · exact .ite h.openBand.update h.openBand
    · exact h.openBand

theorem Kept.closeBand {b} (h : Kept s₀ s) : Kept s₀ (s.closeBand b) := (h.foldl (fun h => h.modBlk)).update.modBand.freeBand
theorem Kept.closeIfFull {b} (h : Kept s₀ s) : Kept s₀ (s.closeIfFull b) := .ite h.closeBand h
theorem Kept.issueProgram {b page src units} (h : Kept s₀ s) : Kept s₀ (s.issueProgram b page src units).2 := h.update.modBand.queueOp
theorem Kept.storePage {b dpage page} (h : Kept s₀ s) : Kept s₀ (s.storePage b dpage page) := h.update
theorem Kept.destaged {b dpage page gens} (h : Kept s₀ s) : Kept s₀ (s.destaged b dpage page gens) :=
  (h.foldl (fun h => .ite h.setEntry h)).update

theorem Kept.destageUnits {us n} (h : Kept s₀ s) : Kept s₀ (s.destageUnits us n) := by
  induction n generalizing s us with
  | zero => cases us <;> exact h
  | succ n ih =>
    cases us with
    | nil => exact h
    | cons u us =>
      unfold State.destageUnits
      dsimp only
      split
      · next e => exact h.room.snd e
      · next e => exact ih (h.room.snd e).takeSeqs.modBand.storePage.destaged.closeIfFull

theorem Kept.destageAll (h : Kept s₀ s) : Kept s₀ s.destageAll :=
  (h.flushNear.foldl (fun h => .ite h.storePage.destaged.update h)).destageUnits.applyLimit
theorem Kept.reservePage {ls} (h : Kept s₀ s) : Kept s₀ (s.reservePage ls) := h.takeSeqs.update

theorem Kept.reservePages {n} (h : Kept s₀ s) : Kept s₀ (s.reservePages n) := by
  induction n generalizing s with
  | zero => exact h
  | succ n ih =>
    unfold State.reservePages
    split
    · exact h
    · exact ih h.reservePage

theorem Kept.reserveDirty (h : Kept s₀ s) : Kept s₀ s.reserveDirty := h.flushNear.reservePages.applyLimit
theorem Kept.reserveSome {k} (h : Kept s₀ s) : Kept s₀ (s.reserveSome k) := h.flushNear.reservePages
theorem Kept.markerPage {kind duration dirty unsealed} (h : Kept s₀ s) : Kept s₀ (s.markerPage kind duration dirty unsealed) :=
  h.takeSeqs.update
theorem Kept.openMarker (h : Kept s₀ s) : Kept s₀ s.openMarker := h.markerPage
theorem Kept.finalRecord {us unsealed} (h : Kept s₀ s) : Kept s₀ (s.finalRecord us unsealed) := h.markerPage.update
theorem Kept.dropQueued (h : Kept s₀ s) : Kept s₀ s.dropQueued := h.update
theorem Kept.resumeAll (h : Kept s₀ s) : Kept s₀ s.resumeAll := h.update

theorem Kept.sealBands (h : Kept s₀ s) : Kept s₀ s.sealBands := by
  unfold State.sealBands
  refine .foldl (.update (.foldl h (fun h => ?_))) (fun h => h.closeBand)
  split
  · exact h.storePage.destaged
  · exact h.storePage
  · exact h

theorem Kept.flushJournal (h : Kept s₀ s) : Kept s₀ s.flushJournal := h.update
theorem Kept.abandonMove {m} (h : Kept s₀ s) : Kept s₀ (s.abandonMove m) := h.takeSeqs.update
theorem Kept.retireBlk {d b} (h : Kept s₀ s) : Kept s₀ (s.retireBlk d b) := h.modBlk.update.next fun h => .ite h.modDie.cause h.modDie
theorem Kept.dropUnit {u} (h : Kept s₀ s) : Kept s₀ (s.dropUnit u) := h.update
theorem Kept.discardUnits {coarse first count seq} (h : Kept s₀ s) : Kept s₀ (s.discardUnits coarse first count seq) :=
  (h.foldl (fun h => h.setEntry.unless fun h => h.dropUnit)).spaceSync.landSync

theorem Kept.startMoves {cls kind now l n} (h : Kept s₀ s) : Kept s₀ (s.startMoves cls kind now l n) := by
  induction n generalizing s l with
  | zero => cases l <;> exact h
  | succ n ih =>
    match l with
    | [] => exact h
    | (true, _, _) :: _ =>
      unfold State.startMoves
      dsimp only
      split
      · exact ih h.takeSeqs.modBand.update
      · exact .ite (ih h.openBand) (ih h.openBand)
    | (false, _, _) :: _ =>
      unfold State.startMoves
      dsimp only
      split
      · exact .ite (ih h.openBand) h.openBand
      · exact ih h.takeSeqs.modBand.update

theorem Kept.copySlot {m} (h : Kept s₀ s) : Kept s₀ (s.copySlot m) := h.storePage
theorem Kept.copyCoarse {m} (h : Kept s₀ s) : Kept s₀ (s.copyCoarse m) := h.foldl (fun h => .ite h h.storePage)
theorem Kept.completeMove {m} (h : Kept s₀ s) : Kept s₀ (s.completeMove m) :=
  (Kept.ite h.update.copyCoarse h.update.copySlot).next fun h => (Kept.ite h.setEntry h.abandonMove).closeIfFull.spaceSync.landSync
theorem Kept.relocate {kind us} (h : Kept s₀ s) : Kept s₀ (s.relocate kind us) := h.startMoves.foldl (fun h => h.completeMove)
theorem Kept.checkpointCut (h : Kept s₀ s) : Kept s₀ s.checkpointCut := h.takeSeqs.update

theorem Kept.checkpointDue (h : Kept s₀ s) : Kept s₀ s.checkpointDue := by
  unfold State.checkpointDue
  refine .ite h.update ?_
  split
  · exact h.checkpointCut
  · exact h.checkpointCut
  · exact h.checkpointCut
  · exact h

theorem Kept.checkpointNext (h : Kept s₀ s) : Kept s₀ s.checkpointNext := .ite h.update.checkpointDue h

/-! ### Crucibles (12_capture.md) -/

theorem Kept.modStrand {n f} (h : Kept s₀ s) : Kept s₀ (s.modStrand n f) := h.update
theorem Kept.modPipe {p f} (h : Kept s₀ s) : Kept s₀ (s.modPipe p f) := h.update
theorem Kept.mapFrames {f} (h : Kept s₀ s) : Kept s₀ (s.mapFrames f) := h.update
theorem Kept.holdSync {p} (h : Kept s₀ s) : Kept s₀ (s.holdSync p) := .ite h.update (.ite h.update h)

theorem Kept.capturePlace {avoid now} (h : Kept s₀ s) : Kept s₀ (s.capturePlace avoid now).2 := by
  unfold State.capturePlace
  dsimp only
  split
  · exact .ite h.openBand h
  · exact (Kept.ite h.openBand h).modBand.update

theorem Kept.issueAt {b dp page src} (h : Kept s₀ s) : Kept s₀ (s.issueAt b dp page src).2 := h.update.queueOp

theorem Kept.copyUnit {c dst} (h : Kept s₀ s) : Kept s₀ (s.copyUnit c dst) := by
  unfold State.copyUnit
  refine .foldl h (fun h => ?_)
  split
  · exact h
  · exact .ite h h.takeSeqs.issueAt

theorem Kept.forgetPrograms {c} (h : Kept s₀ s) : Kept s₀ (s.forgetPrograms c) := h.update

theorem Kept.redriveUnit {c now} (h : Kept s₀ s) : Kept s₀ (s.redriveUnit c now) := by
  unfold State.redriveUnit
  dsimp only
  split
  · exact h.forgetPrograms.mapFrames.capturePlace.update.copyUnit
  · exact h.forgetPrograms.mapFrames.capturePlace.update

theorem Kept.framePlace {f now} (h : Kept s₀ s) : Kept s₀ (s.framePlace f now).2 := by
  unfold State.framePlace
  split
  · exact h
  · refine .ite_snd ?_ ?_
    · split
      · next e => exact h.capturePlace.snd e
      · next e => exact (h.capturePlace.snd e).mapFrames
    · dsimp only
      split
      · exact .ite_snd h h.redriveUnit
      · exact h.redriveUnit
      · refine .ite_snd (.ite_snd h h.redriveUnit) ?_
        split
        · next e => exact h.capturePlace.snd e
        · next e => exact (h.capturePlace.snd e).setEntry

theorem Kept.frameCounter {f} (h : Kept s₀ s) : Kept s₀ (s.frameCounter f).2 := .ite_snd h h.modStrand
theorem Kept.framePage {f} (h : Kept s₀ s) : Kept s₀ (s.framePage f).2 := h.frameCounter.takeSeqs
theorem Kept.modFrame {p i f g} (h : Kept s₀ s) : Kept s₀ (s.modFrame p i f g) := h.modPipe

theorem Kept.driveFrame {p i f} (h : Kept s₀ s) : Kept s₀ (s.driveFrame p i f).1 := by
  unfold State.driveFrame
  refine .ite_fst h ?_
  split
  · next e => exact h.framePlace.snd e
  · next e => exact (h.framePlace.snd e).framePage.issueAt.modFrame

theorem Kept.driveList {p i l} (h : Kept s₀ s) : Kept s₀ (s.driveList p i l) := by
  induction l generalizing s with
  | nil => exact h
  | cons f fs ih =>
    unfold State.driveList
    refine .ite ?_ (ih h)
    split
    · next e => exact ih (h.driveFrame.fst e)
    · next e => exact h.driveFrame.fst e

theorem Kept.drivePipe {p} (h : Kept s₀ s) : Kept s₀ (s.drivePipe p) := h.driveList.driveList
theorem Kept.driveAll (h : Kept s₀ s) : Kept s₀ s.driveAll := h.foldl (fun h => h.drivePipe)
theorem Kept.movePipe {p} (h : Kept s₀ s) : Kept s₀ (s.movePipe p) := .ite h.modPipe h
theorem Kept.releaseFrames {p} (h : Kept s₀ s) : Kept s₀ (s.releaseFrames p) := h.modPipe.movePipe.holdSync

theorem Kept.redriveSync {c} (h : Kept s₀ s) : Kept s₀ (s.redriveSync c) := by
  unfold State.redriveSync
  split
  · exact .ite h h.update.setEntry
  · exact h

theorem Kept.hankProgrammed {id page} (h : Kept s₀ s) : Kept s₀ (s.hankProgrammed id page) :=
  (h.mapFrames.redriveSync.foldl (fun h => h.releaseFrames)).driveAll

theorem Kept.hankFailed {id page copy} (h : Kept s₀ s) : Kept s₀ (s.hankFailed id page copy) := by
  unfold State.hankFailed
  split
  · exact .ite h.redriveUnit.driveAll h
  · exact .ite h.error.mapFrames.driveAll h.error.redriveUnit.driveAll

theorem Kept.reserveHank {c page p} (h : Kept s₀ s) : Kept s₀ (s.reserveHank c page p) := h.update

theorem Kept.drainFrame {quench f} (h : Kept s₀ s) : Kept s₀ (s.drainFrame quench f) := by
  unfold State.drainFrame
  extract_lets _ unwritten
  have cut : Kept s₀ unwritten := by
    unfold unwritten
    split
    · exact h.update
    · exact h
  clear_value unwritten
  split
  next e =>
  replace h := cut.framePage.snd e
  refine .ite ?_ ?_
  · dsimp only
    split
    · exact .ite h.storePage h.reserveHank
    · exact .ite h h.reserveHank
  · split
    · next e => exact (h.framePlace.snd e).storePage
    · next e => exact .ite (h.framePlace.snd e) (h.framePlace.snd e).reserveHank

theorem Kept.drainCrucibles {quench} (h : Kept s₀ s) : Kept s₀ (s.drainCrucibles quench) :=
  ((h.foldl (fun h => (h.foldl (fun h => .ite h h.drainFrame)).modPipe.holdSync)).foldl (fun h => .ite h.storePage.update h)).foldl
    (fun h => h.redriveSync)

/-! ### Dies, reads and programs (08_media_reliability.md) -/

theorem Kept.modChan {n f} (h : Kept s₀ s) : Kept s₀ (s.modChan n f) := h.update
theorem Kept.modClu {c f} (h : Kept s₀ s) : Kept s₀ (s.modClu c f) := h.update

theorem Kept.dieNext {d} (h : Kept s₀ s) : Kept s₀ (s.dieNext d) := by
  unfold State.dieNext
  refine .ite h ?_
  split
  · split
    · exact .ite h.modDie h.modDie
    · exact h.modDie
  · refine .ite h ?_
    split
    · exact h.modDie
    · exact h

theorem Kept.queueRead {d cls ref kind leg shift} (h : Kept s₀ s) : Kept s₀ (s.queueRead d cls ref kind leg shift) := by
  unfold State.queueRead
  dsimp only
  split
  · exact h.modDie.dieNext
  · exact .ite h.modDie.modDie h.modDie

theorem Kept.queueSoft {d id leg} (h : Kept s₀ s) : Kept s₀ (s.queueSoft d id leg) := h.queueRead.queueRead
theorem Kept.cancelRead {id} (h : Kept s₀ s) : Kept s₀ (s.cancelRead id) := h.update
theorem Kept.modRead {id f} (h : Kept s₀ s) : Kept s₀ (s.modRead id f) := h.update

theorem Kept.endRead {id} (h : Kept s₀ s) : Kept s₀ (s.endRead id) := by
  unfold State.endRead
  split
  · exact h
  · exact .ite h.update.modBand.freeBand h.update

theorem Kept.patinaLost {d group} (h : Kept s₀ s) : Kept s₀ (s.patinaLost d group) := h.update.error
theorem Kept.patinaReport {d block r} (h : Kept s₀ s) : Kept s₀ (s.patinaReport d block r) :=
  (Kept.ite h.patinaLost h).next fun h => .ite (h.update.foldl (fun h => h.update.queueRead)) h.update

theorem Kept.scheduleRewrite {d block} (h : Kept s₀ s) : Kept s₀ (s.scheduleRewrite d block) := by
  unfold State.scheduleRewrite
  dsimp only
  split
  · exact .ite h (h.modBlk.cause.unless fun h => h.startMoves)
  · exact h

theorem Kept.redrive {id p} (h : Kept s₀ s) : Kept s₀ (s.redrive id p) := by
  unfold State.redrive
  dsimp only
  split
  · split
    · exact h.openBand
    · exact h.takeSeqs.issueProgram
  · exact h.hankFailed
  · exact h.hankFailed
  · exact h

theorem Kept.failedDone {b} (h : Kept s₀ s) : Kept s₀ (s.failedDone b) := by
  unfold State.failedDone
  split
  · exact h
  · exact .ite h h.retireBlk.modBand.freeBand

theorem Kept.reserveAgain {id p} (h : Kept s₀ s) : Kept s₀ (s.reserveAgain id p) := by
  unfold State.reserveAgain
  split
  · exact (Kept.ite h h.reservePage).unless fun h => h.reservePage
  · exact h.mapFrames.reserveHank
  · exact h

theorem Kept.programFailed {id p} (h : Kept s₀ s) : Kept s₀ (s.programFailed id p) :=
  h.error.closeBand.next fun h => .ite h.modBlk.reserveAgain h.modBand.redrive.startMoves.failedDone

theorem Kept.nextRecovery {c} (h : Kept s₀ s) : Kept s₀ (s.nextRecovery c) := by
  unfold State.nextRecovery
  refine .ite h ?_
  split
  · exact h
  · exact h.modClu

theorem Kept.retireChan {n} (h : Kept s₀ s) : Kept s₀ (s.retireChan n) :=
  .ite h (h.modChan.foldl (fun h => h.modDie)).retireBlock.modClu.error.nextRecovery.applyLimit
theorem Kept.loseCodeword {pua} (h : Kept s₀ s) : Kept s₀ (s.loseCodeword pua) :=
  h.update.error.next fun h => .ite (.ite h.modClu.startMoves h.modClu) (.ite (h.modClu.setEntry.foldl (fun h => h.notePoison)) h.modClu)
theorem Kept.rebuildRead {r} (h : Kept s₀ s) : Kept s₀ (s.rebuildRead r) :=
  .ite (h.modRead.foldl (fun h => h.queueRead)) h.modRead.loseCodeword

theorem Kept.lostIfFailed {id} (h : Kept s₀ s) : Kept s₀ (s.lostIfFailed id) := by
  unfold State.lostIfFailed
  split
  · exact h
  · exact .ite h.modRead.loseCodeword h

theorem Kept.readLoses {r d} (h : Kept s₀ s) : Kept s₀ (s.readLoses r d) :=
  .ite h (.ite (.ite h.modRead.lostIfFailed h.rebuildRead) (Kept.ite h.modRead.queueRead h.modRead).lostIfFailed)

theorem Kept.rehome {d} (h : Kept s₀ s) : Kept s₀ (s.rehome d) := by
  unfold State.rehome
  refine .foldl ((h.foldl (fun h => h.giveUpBand)).foldl (fun h => h.closeBand)).modDie (fun h => ?_)
  split
  · split
    · exact h.update.redrive
    · exact h
  · exact h.retireBlk
  · split
    · exact h.readLoses
    · exact h

theorem Kept.retireDie {d} (h : Kept s₀ s) : Kept s₀ (s.retireDie d) :=
  .ite h (h.modDie.hallSync.error.modClu.rehome.nextRecovery.when fun h => h.retireChan)
theorem Kept.blockDeaths {d} (h : Kept s₀ s) : Kept s₀ (s.blockDeaths d) := .ite h.modDie.retireDie h.modDie
theorem Kept.codewordLost {pua} (h : Kept s₀ s) : Kept s₀ (s.codewordLost pua) :=
  h.loseCodeword.next fun h => .ite h.modDie.retireDie h.modDie
theorem Kept.readEnds {r o rebuilt} (h : Kept s₀ s) : Kept s₀ (s.readEnds r o rebuilt) :=
  h.cancelRead.modRead.next fun h => (Kept.ite h.codewordLost (.ite h.modClu h.modClu)).when fun h => h.modClu.cause

theorem Kept.dispatchRead {line pua} (h : Kept s₀ s) : Kept s₀ (s.dispatchRead line pua) := by
  unfold State.dispatchRead
  refine .ite h.update.modBand.rebuildRead ?_
  split
  · exact h.update.modBand.foldl (fun h => h.queueRead)
  · exact h.update.modBand.queueRead

theorem Kept.programEnds {id} (h : Kept s₀ s) : Kept s₀ (s.programEnds id) := h.update.foldl (fun h => h.dieNext)
theorem Kept.eraseEnds {d block} (h : Kept s₀ s) : Kept s₀ (s.eraseEnds d block) := h.modDie.dieNext

/-! ### The DRAM channels (06_dram_tier.md) -/

theorem Kept.modDram {m f} (h : Kept s₀ s) : Kept s₀ (s.modDram m f) := h.update
theorem Kept.activate {m bank row} (h : Kept s₀ s) : Kept s₀ (s.activate m bank row) := .ite h.modDram.cause h.modDram
theorem Kept.dramIssue {m l r} (h : Kept s₀ s) : Kept s₀ (s.dramIssue m l r) := (Kept.ite h.modDram h.activate.modDram).modDram

theorem Kept.drainStep {m sub entered n} (h : Kept s₀ s) : Kept s₀ (s.drainStep m sub entered n) := by
  induction n generalizing s entered with
  | zero => exact h
  | succ n ih =>
    unfold State.drainStep
    refine .ite h ?_
    split
    · exact h
    · exact ih h.modDram.dramIssue

theorem Kept.dramDrain {m sub} (h : Kept s₀ s) : Kept s₀ (s.dramDrain m sub) := h.drainStep.modDram
theorem Kept.dramRead {line merge} (h : Kept s₀ s) : Kept s₀ (s.dramRead line merge) := .ite h h.modDram

theorem Kept.issueUntil {m sub line n} (h : Kept s₀ s) : Kept s₀ (s.issueUntil m sub line n) := by
  induction n generalizing s with
  | zero => exact h
  | succ n ih =>
    unfold State.issueUntil
    refine .ite h ?_
    split
    · exact h
    · exact ih h.modDram.dramIssue

theorem Kept.dramReadDone {line} (h : Kept s₀ s) : Kept s₀ (s.dramReadDone line) := .ite h h.issueUntil.modDram.dramDrain
theorem Kept.dramWrite {line} (h : Kept s₀ s) : Kept s₀ (s.dramWrite line) := .ite h h.modDram.dramDrain
theorem Kept.tierLost {line} (h : Kept s₀ s) : Kept s₀ (s.tierLost line) := .ite h (.ite h.update.notePoison h.update)
theorem Kept.retireDram {m} (h : Kept s₀ s) : Kept s₀ (s.retireDram m) :=
  .ite h (h.modDram.update.foldl (fun h => h.tierLost)).retireBlock
theorem Kept.markNibble {m place nibble line} (h : Kept s₀ s) : Kept s₀ (s.markNibble m place nibble line) :=
  .ite h (.ite h.modDram.error.writeRecord h.retireDram.reportError)
theorem Kept.dramCorrect {m place line nibbles} (h : Kept s₀ s) : Kept s₀ (s.dramCorrect m place line nibbles) :=
  h.modDram.cause.foldl (fun h => .ite h (h.modDram.when fun h => h.markNibble))
theorem Kept.dramUncorrectable {m line} (h : Kept s₀ s) : Kept s₀ (s.dramUncorrectable m line) :=
  h.modDram.error.tierLost.when fun h => h.retireDram.reportCause

theorem Kept.dramErrors {m place line errs} (h : Kept s₀ s) : Kept s₀ (s.dramErrors m place line errs) := by
  unfold State.dramErrors
  refine .ite h ?_
  dsimp only
  split
  · exact h
  · exact h
  · exact h.dramCorrect
  · exact .ite h.dramUncorrectable h.markNibble
  · exact h.dramUncorrectable

theorem Kept.eyeSample {m lane up taps} (h : Kept s₀ s) : Kept s₀ (s.eyeSample m lane up taps) :=
  .ite h ((Kept.ite h.modDram.cause h.modDram).when fun h => h.retireDram.reportError)
theorem Kept.selfRefreshAll (h : Kept s₀ s) : Kept s₀ s.selfRefreshAll := h.update
theorem Kept.selfRefreshExit (h : Kept s₀ s) : Kept s₀ s.selfRefreshExit := h.update
theorem Kept.restOver (h : Kept s₀ s) : Kept s₀ s.restOver := h.selfRefreshExit.update
theorem Kept.restCancel (h : Kept s₀ s) : Kept s₀ s.restCancel := .ite h (h.update.restOver.foldl (fun h => h.dieNext))
theorem keeps_execDramRefreshDue {chan bank hot} (h : Kept s₀ s) : Keeps s₀ (execDramRefreshDue chan bank hot s) :=
  (Kept.ite h h.modDram).finish
theorem keeps_execActWindowReset {chan} (h : Kept s₀ s) : Keeps s₀ (execActWindowReset chan s) := (Kept.ite h h.modDram).finish
theorem keeps_execBurstWindowEnd {chan sub} (h : Kept s₀ s) : Keeps s₀ (execBurstWindowEnd chan sub s) := (Kept.ite h h.modDram).finish
theorem Kept.regDrmcShareWrite {chan v} (h : Kept s₀ s) : Kept s₀ (s.regDrmcShareWrite chan v) := .ite h (.ite h.modDram h.error)

/-! ### Keys, counters and lines stored (14_memory_protection.md) -/

theorem Kept.modRange {r f} (h : Kept s₀ s) : Kept s₀ (s.modRange r f) := h.update
theorem Kept.modSlot {k f} (h : Kept s₀ s) : Kept s₀ (s.modSlot k f) := h.update
theorem Kept.putKey {k key volatile_ generated} (h : Kept s₀ s) : Kept s₀ (s.putKey k key volatile_ generated) := h.modSlot
theorem Kept.generateKey {k} (h : Kept s₀ s) : Kept s₀ (s.generateKey k) := h.update.putKey
theorem Kept.putCline {p c} (h : Kept s₀ s) : Kept s₀ (s.putCline p c) := h.update
theorem Kept.noteMajor {m} (h : Kept s₀ s) : Kept s₀ (s.noteMajor m) := h.update
theorem Kept.fetchPath {page} (h : Kept s₀ s) : Kept s₀ (s.fetchPath page) := h.update
theorem Kept.touchPage {page} (h : Kept s₀ s) : Kept s₀ (s.touchPage page) := h.fetchPath.update
theorem Kept.flushNodes (h : Kept s₀ s) : Kept s₀ s.flushNodes := h.update
theorem Kept.countLine {line} (h : Kept s₀ s) : Kept s₀ (s.countLine line) := h.touchPage.putCline

theorem Kept.queueRekey {j} (h : Kept s₀ s) : Kept s₀ (s.queueRekey j) := by
  unfold State.queueRekey
  dsimp only
  split
  · exact h.update
  · exact h.update

theorem Kept.reencrypt {line} (h : Kept s₀ s) : Kept s₀ (s.reencrypt line).1 := by
  unfold State.reencrypt
  refine .ite_fst h.touchPage.putCline.noteMajor ?_
  dsimp only
  split
  · exact h.touchPage.putCline
  · split
    · exact .pair_fst h.touchPage.cause
    · exact h.touchPage.generateKey.writeRecord.putCline.queueRekey

theorem Kept.goViral (h : Kept s₀ s) : Kept s₀ s.goViral := h.update.send
theorem Kept.markPoison {line poison} (h : Kept s₀ s) : Kept s₀ (s.markPoison line poison) := .ite h.notePoison h.clearPoison
theorem Kept.storeBack {line data poison} (h : Kept s₀ s) : Kept s₀ (s.storeBack line data poison) :=
  (Kept.ite h.reencrypt h.countLine).putTier.dramWrite.markPoison
theorem Kept.poisonNear {line} (h : Kept s₀ s) : Kept s₀ (s.poisonNear line) := (h.foldl (fun h => h.storeBack)).update
theorem Kept.poisonTier {line} (h : Kept s₀ s) : Kept s₀ (s.poisonTier line) := .ite h.update.notePoison h.update.notePoison
theorem Kept.lateAlarm {line media rewritten} (h : Kept s₀ s) : Kept s₀ (s.lateAlarm line media rewritten) :=
  (Kept.ite h h.poisonTier.poisonNear).update.next fun h => .ite h.error.goViral h.error
theorem Kept.nodeRepaired {level node} (h : Kept s₀ s) : Kept s₀ (s.nodeRepaired level node) := h.update.error
theorem Kept.nodeLost {level node} (h : Kept s₀ s) : Kept s₀ (s.nodeLost level node) :=
  ((h.foldl (fun h => h.poisonTier.poisonNear)).foldl (fun h => h.modRange)).next fun h => (Kept.ite h.error.goViral h.error).update

/-! ### Fills and invalidation (13_replay_and_query.md) -/

theorem Kept.startFill {line} (h : Kept s₀ s) : Kept s₀ (s.startFill line) :=
  .ite (.ite h.fetchPath.dramRead h) (h.foldl (fun h => .ite h h.dispatchRead))
theorem Kept.fillEnds {line} (h : Kept s₀ s) : Kept s₀ (s.fillEnds line) := h.dramReadDone.foldl (fun h => h.endRead)
theorem Kept.invalidate {hit} (h : Kept s₀ s) : Kept s₀ (s.invalidate hit) := h.update

/-! ### The near cache (05_near_cache.md) -/

theorem Kept.logEvent {log e} (h : Kept s₀ s) : Kept s₀ (s.logEvent log e) := .ite h.update.message h.update
theorem Kept.mediaEvent {dpa} {f : State → State} (h : Kept s₀ s) (hf : ∀ {u}, Kept s₀ u → Kept s₀ (f u)) :
    Kept s₀ (s.mediaEvent dpa f) :=
  (hf h.settle).settle.next fun h => (Kept.ite_snd h.fresh1 h).logEvent.logEvent

theorem Kept.sendRead {r x cls err} (h : Kept s₀ s) : Kept s₀ (s.sendRead r x cls err) := by
  unfold State.sendRead
  dsimp only
  split
  · exact h.update.send.mediaEvent (fun h => h.error)
  · exact .ite (h.update.send.mediaEvent (fun h => h.cause)) h.update.send

theorem Kept.gpfCheck (h : Kept s₀ s) : Kept s₀ s.gpfCheck := .ite h.update.send h
theorem Kept.finishWrite {r} (h : Kept s₀ s) : Kept s₀ (s.finishWrite r) := h.update.send.gpfCheck
theorem Kept.refuseWrite {r code} (h : Kept s₀ s) : Kept s₀ (s.refuseWrite r code) := (h.mediaEvent (fun h => h.error)).finishWrite
theorem Kept.recordRefused {dpa} (h : Kept s₀ s) : Kept s₀ (s.recordRefused dpa) := .ite h (.ite h.update.notePoison h.error.goViral)
theorem Kept.refuseSpace {r} (h : Kept s₀ s) : Kept s₀ (s.refuseSpace r) :=
  (h.update.mediaEvent (fun h => h.error)).recordRefused.finishWrite
theorem Kept.refuseLocked {r} (h : Kept s₀ s) : Kept s₀ (s.refuseLocked r) := (h.mediaEvent (fun h => h.changeRecord)).finishWrite
theorem Kept.unrefuse {line} (h : Kept s₀ s) : Kept s₀ (s.unrefuse line) := .ite h h.update
theorem Kept.bisnp {line commit evict} (h : Kept s₀ s) : Kept s₀ (s.bisnp line commit evict) := .ite h.update h.update.send
theorem Kept.setPresence {key line} (h : Kept s₀ s) : Kept s₀ (s.setPresence key line) := h.update
theorem Kept.allocFilt {key line} (h : Kept s₀ s) : Kept s₀ (s.allocFilt key line) := h.update
theorem Kept.holdEvict {r} (h : Kept s₀ s) : Kept s₀ (s.holdEvict r) := h.update.cause

theorem Kept.filterRead {r} (h : Kept s₀ s) : Kept s₀ (s.filterRead r).1 := by
  unfold State.filterRead
  refine .ite_fst h.update.send (.ite_fst h ?_)
  split
  · exact .ite_fst h.holdEvict h.setPresence
  · split
    · exact h.allocFilt
    · split
      · exact h
      · exact .ite_fst h.holdEvict (.ite_fst h.update.update.allocFilt (h.update.foldl (fun h => h.bisnp)).holdEvict)

theorem Kept.finishRead {r x cls} (h : Kept s₀ s) : Kept s₀ (s.finishRead r x cls) := by
  unfold State.finishRead
  split
  · next e => exact h.filterRead.fst e
  · next e => exact (h.filterRead.fst e).sendRead

theorem Kept.modSlice {i f} (h : Kept s₀ s) : Kept s₀ (s.modSlice i f) := h.update
theorem Kept.acknowledge {r} (h : Kept s₀ s) : Kept s₀ (s.acknowledge r) := .ite h.update.gpfCheck h.finishWrite
theorem Kept.waitPage {r} (h : Kept s₀ s) : Kept s₀ (s.waitPage r) := h.putCline
theorem Kept.waitRoom {r} (h : Kept s₀ s) : Kept s₀ (s.waitRoom r) := h.update.raiseDestage
theorem Kept.refill {line x full} (h : Kept s₀ s) : Kept s₀ (s.refill line x full) := h.update

theorem Kept.tierWrite {r old first} (h : Kept s₀ s) : Kept s₀ (s.tierWrite r old first).1 := by
  unfold State.tierWrite
  refine .ite_fst (.pair_fst h.refuseWrite) (.ite_fst (.pair_fst h.waitRoom) (.ite_fst (.pair_fst h.waitPage) (.ite_fst ?_ (.pair_fst ?_))))
  · split
    · next e => exact .pair_fst (h.reencrypt.fst e).waitPage
    · next e => exact .pair_fst (h.reencrypt.fst e).refuseSpace
  · exact (Kept.ite h h.countLine).putTier.dramWrite.markPoison.refill.next fun h => (Kept.ite h.unrefuse h).acknowledge

theorem Kept.hitWrite {i key w r first} (h : Kept s₀ s) : Kept s₀ (s.hitWrite i key w r first) :=
  .ite h.refuseWrite (.ite (.ite h.waitRoom (h.modSlice.markPoison.next fun h => (Kept.ite h.unrefuse h).acknowledge))
    (.ite h.tierWrite.modSlice h.tierWrite))
theorem Kept.behind {r} (h : Kept s₀ s) : KeptIn s₀ (s.behind r) :=
  .ite .none (.ite (.some h.waitRoom) (.ite (.some h.waitPage) .none))

theorem Kept.direct {media r} (h : Kept s₀ s) : Kept s₀ (s.direct media r) := by
  unfold State.direct
  split
  · exact h.finishRead
  · exact h.behind.getD h.tierWrite

theorem Kept.pass {r} (h : Kept s₀ s) : Kept s₀ (s.pass r) := by
  unfold State.pass
  refine .ite h.direct ?_
  split
  · exact h.update
  · exact .ite h.direct h.update.startFill

theorem Kept.newMiss {i m} (h : Kept s₀ s) : Kept s₀ (s.newMiss i m) := .ite h.modSlice.startFill h.modSlice
theorem Kept.modMiss {i line f} (h : Kept s₀ s) : Kept s₀ (s.modMiss i line f) := h.modSlice
theorem Kept.atInput {i r} (h : Kept s₀ s) : Kept s₀ (s.atInput i r) := h.modSlice
theorem Kept.countHit {i r} (h : Kept s₀ s) : Kept s₀ (s.countHit i r) := .ite h h.modSlice

theorem Kept.serveJoined {i line media r} (h : Kept s₀ s) : Kept s₀ (s.serveJoined i line media r) := by
  unfold State.serveJoined
  split
  · exact h.finishRead
  · exact h.behind.getD h.hitWrite
  · exact h.direct

theorem Kept.serveEntry {i line media r} (h : Kept s₀ s) : Kept s₀ (s.serveEntry i line media r) := by
  unfold State.serveEntry
  dsimp only
  split
  · exact h.finishRead
  · exact h.behind.getD h.tierWrite

theorem Kept.settleOpen {i m x} (h : Kept s₀ s) : Kept s₀ (s.settleOpen i m x) := by
  unfold State.settleOpen
  refine .ite (h.modSlice.foldl (fun h => h.direct)) ?_
  split
  · exact h.modSlice.foldl (fun h => h.serveJoined)
  · exact h.modSlice.foldl (fun h => h.serveEntry)

theorem Kept.joinMiss {i m r} (h : Kept s₀ s) : Kept s₀ (s.joinMiss i m r) := by
  unfold State.joinMiss
  refine .ite h.modMiss ?_
  split
  · exact .ite h.modMiss h.atInput
  · exact .ite h.serveEntry (.ite h.finishRead (.ite h.modMiss h.atInput))

theorem Kept.lookup {i r} (h : Kept s₀ s) : Kept s₀ (s.lookup i r) := by
  unfold State.lookup
  refine .ite h.atInput ?_
  split
  · dsimp only
    split
    · exact h.countHit.finishRead
    · exact h.countHit.hitWrite
  · split
    · split
      · exact h.countHit.finishRead
      · exact h.modSlice
    · split
      · exact h.joinMiss
      · dsimp only
        split
        · exact (Kept.ite (Kept.ite h h.modSlice).update (.ite h h.modSlice)).next fun h => .ite h.newMiss h.atInput
        · exact .ite (Kept.ite h h.modSlice).pass (.ite (Kept.ite h h.modSlice).waitRoom
            (.ite (Kept.ite h h.modSlice).atInput (.ite (Kept.ite h h.modSlice).newMiss.settleOpen (Kept.ite h h.modSlice).newMiss)))

theorem Kept.access {r} (h : Kept s₀ s) : Kept s₀ (s.access r) := by
  unfold State.access
  refine .ite h.finishRead ?_
  split
  · next e => exact h.behind _ e
  · refine .ite h.pass ?_
    split
    · exact h.pass
    · exact .ite h.pass h.lookup

theorem Kept.settleMiss {i line} (h : Kept s₀ s) : Kept s₀ (s.settleMiss i line) := by
  unfold State.settleMiss
  split
  · exact h
  · split
    · exact .ite ((h.modSlice.foldl (fun h => h.direct)).foldl (fun h => h.access)) h.settleOpen
    · exact h

theorem Kept.retryInstalls {i} (h : Kept s₀ s) : Kept s₀ (s.retryInstalls i) := h.foldl (fun h => h.settleMiss)
theorem Kept.retryInput {i} (h : Kept s₀ s) : Kept s₀ (s.retryInput i) := h.modSlice.foldl (fun h => h.access)
theorem Kept.fillTier {line x} (h : Kept s₀ s) : Kept s₀ (s.fillTier line x) := .ite (.ite h h.update) (.ite h h.countLine.update)

theorem Kept.prefetch {line} (h : Kept s₀ s) : KeptIn s₀ (s.prefetch line) := by
  unfold State.prefetch
  split
  · exact .some h
  · exact .ite .none (.some h.newMiss)

theorem Kept.pump {n} (h : Kept s₀ s) : Kept s₀ (s.pump n) := by
  induction n generalizing s with
  | zero => exact h
  | succ n ih =>
    unfold State.pump
    split
    · split
      · next e => exact ih (h.update.prefetch _ e)
      · exact h
    · split
      · exact h
      · refine .ite (ih h.update) ?_
        split
        · next e => exact ih (h.prefetch _ e).update
        · exact h

theorem Kept.cleanWays {i pick} (h : Kept s₀ s) : Kept s₀ (s.cleanWays i pick) := (h.foldl (fun h => h.storeBack)).modSlice
theorem Kept.cleanUnit {unit} (h : Kept s₀ s) : Kept s₀ (s.cleanUnit unit) := h.foldl (fun h => h.cleanWays)
theorem Kept.victimDone {i v} (h : Kept s₀ s) : Kept s₀ (s.victimDone i v) :=
  (h.storeBack.modSlice.foldl (fun h => h.access)).retryInstalls
theorem Kept.emptyVictims {i} (h : Kept s₀ s) : Kept s₀ (s.emptyVictims i) := h.foldl (fun h => h.victimDone)

theorem Kept.settleVictim {line} (h : Kept s₀ s) : Kept s₀ (s.settleVictim line) := by
  unfold State.settleVictim
  refine .foldl h (fun h => ?_)
  split
  · exact h.victimDone
  · exact h

theorem Kept.performFirst {r} (h : Kept s₀ s) : Kept s₀ (s.performFirst r) := by
  unfold State.performFirst
  dsimp only
  split
  · exact h.settleVictim.hitWrite
  · exact h.settleVictim.tierWrite

theorem Kept.zeroDone (h : Kept s₀ s) : Kept s₀ s.zeroDone := .ite h (h.update.foldl (fun h => h.send))

/-! ### Requests of the host (04_host_port.md) -/

theorem Kept.hardFault {m row col} (h : Kept s₀ s) : Kept s₀ (s.hardFault m row col) :=
  h.update.cause.unless fun h => .ite h.update.writeRecord h.cause
theorem Kept.lockWay {i key} (h : Kept s₀ s) : Kept s₀ (s.lockWay i key) := .ite h (.ite h.update (Kept.ite h.storeBack h).modSlice.cause)
theorem Kept.tagLost {i key} (h : Kept s₀ s) : Kept s₀ (s.tagLost i key) := .ite h.modSlice.cause.goViral.modSlice h.modSlice.error

theorem Kept.dataLost {i key} (h : Kept s₀ s) : Kept s₀ (s.dataLost i key) := by
  unfold State.dataLost
  dsimp only
  split
  · exact h
  · exact h.storeBack.modSlice.error
  · exact h.modSlice.error

theorem Kept.found {line f} (h : Kept s₀ s) : Kept s₀ (s.found line f) := by
  unfold State.found
  dsimp only
  split
  · exact h.elim h.tagLost
  · exact h.elim h.dataLost
  · exact h.elim h.modSlice.cause
  · exact h.elim h.error
  · exact h.cause
  · split
    · exact h.hardFault.modSlice.cause.lockWay
    · exact h.hardFault.cause
  · exact h.dramErrors
  · exact h.dramErrors
  · exact .ite h.activate h
  · exact .ite h.eyeSample h
  · exact h.nodeRepaired
  · exact h.nodeLost
  · exact h
  · exact .ite h.update (.ite h h.update)

theorem Kept.findings {line l} (h : Kept s₀ s) : Kept s₀ (s.findings line l) := h.foldl (fun h => h.found)

theorem Kept.screen {r} (h : Kept s₀ s) : KeptIn s₀ (s.screen r) := by
  unfold State.screen
  dsimp only
  split
  · exact .ite (.some h.sendRead) (.ite (.some h.sendRead) .none)
  · exact .ite (.some h.refuseWrite) (.ite (.some h.refuseWrite) (.ite (.some h.refuseLocked) (.ite (.some h.refuseSpace) .none)))

theorem Kept.serve {found r} (h : Kept s₀ s) : Kept s₀ (s.serve found r) := by
  unfold State.serve
  dsimp only
  split
  · next e => exact h.screen _ e
  · split
    · next e => exact (h.filterRead.fst e).findings.access.pump
    · next e => exact h.filterRead.fst e
  · exact h.findings.access

theorem Kept.admitMem {found r} (h : Kept s₀ s) : Kept s₀ (s.admitMem found r) := by
  unfold State.admitMem
  refine .ite h ?_
  split
  · exact h
  · exact h
  · exact .ite (Kept.ite h.restCancel.update.update h.restCancel.update.update).sendRead
      (Kept.ite h.restCancel.update.update h.restCancel.update.update).refuseWrite
  · exact .ite (Kept.ite h.restCancel.update.update h.restCancel.update.update).sendRead
      (Kept.ite h.restCancel.update.update h.restCancel.update.update).refuseWrite
  · exact (Kept.ite h.restCancel.update.update h.restCancel.update.update).update
  · exact .ite h (Kept.ite h.restCancel.update.update h.restCancel.update.update).serve

theorem Kept.serveHeld (h : Kept s₀ s) : Kept s₀ s.serveHeld := h.update.foldl (fun h => h.serve)
theorem keeps_execCxlMemRead {dpa tag cacheable found} (h : Kept s₀ s) : Keeps s₀ (execCxlMemRead dpa tag cacheable found s) :=
  h.admitMem.finish
theorem keeps_execCxlMemWrite {dpa tag data poison found} (h : Kept s₀ s) : Keeps s₀ (execCxlMemWrite dpa tag data poison found s) :=
  h.admitMem.finish
theorem keeps_execMemwrptl {dpa tag data enables poison found} (h : Kept s₀ s) : Keeps s₀
  (execMemwrptl dpa tag data enables poison found s) :=
  h.admitMem.finish
theorem Kept.badMac {line merge} (h : Kept s₀ s) : Kept s₀ (s.badMac line merge) :=
  .ite h.error.update (Kept.ite h.error.update h.error).poisonTier.poisonNear
theorem Kept.fillEntry {m found} (h : Kept s₀ s) : Kept s₀ (s.fillEntry m found).1 :=
  .ite_fst h.findings.startFill ((Kept.ite h.findings.badMac h.findings).next fun h => .ite_fst h.startFill
    ((Kept.ite h h.fillTier).fillEnds.next fun h => .ite_fst (h.foldl (fun h => h.finishRead)) h))

theorem Kept.settlePass {line} (h : Kept s₀ s) : Kept s₀ (s.settlePass line) := by
  unfold State.settlePass
  split
  · exact h
  · exact .ite h ((h.update.foldl (fun h => h.direct)).foldl (fun h => h.access))

theorem keeps_execLineFillComplete {slice line found} (h : Kept s₀ s) : Keeps s₀ (execLineFillComplete slice line found s) := by
  unfold execLineFillComplete
  refine .finish ?_
  split
  · split
    · next e => exact (h.fillEntry.fst e).modMiss.settleMiss.retryInstalls.pump
    · next e => exact h.fillEntry.fst e
  · split
    · exact h
    · split
      · next e => exact (h.fillEntry.fst e).update.settlePass
      · next e => exact h.fillEntry.fst e

theorem Kept.checkEnds {m ok} (h : Kept s₀ s) : Kept s₀ (s.checkEnds m ok).1 :=
  .ite_fst (.ite h.fillTier h) (Kept.ite h.update h).lateAlarm

theorem keeps_execTagCheckComplete {line ok} (h : Kept s₀ s) : Keeps s₀ (execTagCheckComplete line ok s) := by
  unfold execTagCheckComplete
  refine .finish ?_
  split
  · split
    · exact h.checkEnds.modMiss.settleMiss
    · exact h
  · split
    · exact h
    · exact h.checkEnds.update.settlePass

theorem keeps_execMissEntryFreed {slice} (h : Kept s₀ s) : Keeps s₀ (execMissEntryFreed slice s) :=
  (Kept.ite h h.retryInput.retryInstalls.pump).finish

theorem keeps_execVictimWriteComplete {slice line} (h : Kept s₀ s) : Keeps s₀ (execVictimWriteComplete slice line s) := by
  unfold execVictimWriteComplete
  refine .finish ?_
  split
  · exact .ite h.victimDone h
  · exact h

theorem keeps_execPageReencryptComplete {page} (h : Kept s₀ s) : Keeps s₀ (execPageReencryptComplete page s) := by
  unfold execPageReencryptComplete
  refine .finish (.ite h ?_)
  dsimp only
  split
  · exact h.putCline
  · exact h.putCline.performFirst.foldl (fun h => h.access)

theorem keeps_execDirtyWaitRelease (h : Kept s₀ s) : Keeps s₀ (execDirtyWaitRelease s) := by
  unfold execDirtyWaitRelease
  refine .finish ?_
  split
  · exact h
  · exact .ite h.update.access h

theorem keeps_execGpfPhase1 (h : Kept s₀ s) : Keeps s₀ (execGpfPhase1 s) := (Kept.ite h h.update.send).finish
theorem keeps_execGpfPhase2 (h : Kept s₀ s) : Keeps s₀ (execGpfPhase2 s) := (Kept.ite h h.update.gpfCheck).finish
theorem keeps_execCxlLinkUp {width rate flit256 lopt} (h : Kept s₀ s) : Keeps s₀ (execCxlLinkUp width rate flit256 lopt s) :=
  (Kept.ite h (h.update.hallSync.next fun h => (Kept.ite h.retirement h).when fun h => h.cause)).finish
theorem keeps_execCxlLinkDown (h : Kept s₀ s) : Keeps s₀ (execCxlLinkDown s) := (Kept.ite h h.update.cause).finish
theorem Kept.regRgnattrWrite {v} (h : Kept s₀ s) : Kept s₀ (s.regRgnattrWrite v) := .ite h (.ite h.error h.update)
theorem keeps_execRgnattrChangeComplete {region} (h : Kept s₀ s) : Keeps s₀ (execRgnattrChangeComplete region s) :=
  (Kept.ite h ((h.foldl (fun h => h.cleanWays.modSlice.modSlice)).update.foldl (fun h => h.cause))).finish
theorem Kept.regPrefetchHint {v} (h : Kept s₀ s) : Kept s₀ (s.regPrefetchHint v) := .ite h (.ite h.update.cause h.update.pump)
theorem Kept.regLfsrWrite {slice v} (h : Kept s₀ s) : Kept s₀ (s.regLfsrWrite slice v) := .ite h h.modSlice
theorem Kept.regNcchDisable (h : Kept s₀ s) : Kept s₀ s.regNcchDisable := .ite h h.update
theorem Kept.regNcchEnable (h : Kept s₀ s) : Kept s₀ s.regNcchEnable := .ite h h.update
theorem Kept.evictMisses {i} (h : Kept s₀ s) : Kept s₀ (s.evictMisses i) :=
  (h.modSlice.update.foldl (fun h => h.settlePass)).foldl (fun h => h.access)
theorem keeps_execSliceDrained {slice} (h : Kept s₀ s) : Keeps s₀ (execSliceDrained slice s) :=
  (Kept.ite h (h.cleanWays.emptyVictims.modSlice.evictMisses.unless fun h => h.cause)).finish

/-! ### Staging, commits and triggers (12_capture.md) -/

theorem Kept.modIdx {c f} (h : Kept s₀ s) : Kept s₀ (s.modIdx c f) := h.update
theorem Kept.snoop {k} (h : Kept s₀ s) : Kept s₀ (s.snoop k) := h.update.foldl (fun h => h.bisnp)
theorem Kept.pushCommit {k} (h : Kept s₀ s) : Kept s₀ (s.pushCommit k) := h.update.snoop
theorem Kept.enterDone {n} (h : Kept s₀ s) : Kept s₀ (s.enterDone n) := h.modStrand.cause
theorem Kept.performCommit {k} (h : Kept s₀ s) : Kept s₀ (s.performCommit k) :=
  .ite h.update (h.update.invalidate.modStrand.next fun h => (Kept.ite h.modPipe h).next fun h => (Kept.ite h.modIdx h).when fun h =>
    h.enterDone)

theorem Kept.commitReady {n fuel} (h : Kept s₀ s) : Kept s₀ (s.commitReady n fuel) := by
  induction fuel generalizing s with
  | zero => exact h
  | succ fuel ih =>
    unfold State.commitReady
    split
    · exact h
    · exact .ite h.snoop (ih h.snoop.performCommit)

theorem Kept.commitSync {n} (h : Kept s₀ s) : Kept s₀ (s.commitSync n) := h.commitReady
theorem Kept.dropHankUnit {c} (h : Kept s₀ s) : Kept s₀ (s.dropHankUnit c) :=
  h.takeSeqs.mapFrames.next fun h => (Kept.ite h.update.setEntry h.update).modIdx.invalidate
theorem Kept.enterUnit {n} (h : Kept s₀ s) : Kept s₀ (s.enterUnit n) :=
  .ite h (h.dropHankUnit.next fun h => (Kept.ite h.update h).pushCommit.commitSync)
theorem Kept.putStaged {n hd w} (h : Kept s₀ s) : Kept s₀ (s.putStaged n hd w) := h.modPipe
theorem Kept.stagePut {n w} (h : Kept s₀ s) : Kept s₀ (s.stagePut n w) := (Kept.ite h.enterUnit h).putStaged.modStrand
theorem Kept.closeRecord {n e} (h : Kept s₀ s) : Kept s₀ (s.closeRecord n e) :=
  .ite h (.ite h.modStrand (h.putStaged.modStrand.next fun h => (Kept.ite h.modPipe h).pushCommit.commitSync))
theorem Kept.countFiltered {n} (h : Kept s₀ s) : Kept s₀ (s.countFiltered n) := h.modPipe
theorem Kept.removeRecord {n} (h : Kept s₀ s) : Kept s₀ (s.removeRecord n) := h.modPipe.modStrand
theorem Kept.judge {n} (h : Kept s₀ s) : Kept s₀ (s.judge n) :=
  .ite h.modStrand (h.modStrand.countFiltered.next fun h => .ite h.removeRecord.modStrand h.closeRecord.modStrand)
theorem Kept.endRecord {n e} (h : Kept s₀ s) : Kept s₀ (s.endRecord n e) :=
  (Kept.ite h.judge.modStrand h).closeRecord.when fun h => h.closeRecord
theorem Kept.padTo {n e} (h : Kept s₀ s) : Kept s₀ (s.padTo n e) := .ite h h.stagePut.modStrand.modPipe.pushCommit.commitSync
theorem Kept.pretrigDone {n} (h : Kept s₀ s) : Kept s₀ (s.pretrigDone n) := (h.foldl (fun h => h.dropHankUnit)).enterDone
theorem Kept.windowDone {n} (h : Kept s₀ s) : Kept s₀ (s.windowDone n) :=
  (h.foldl (fun h => h.modIdx)).modStrand.next fun h => .ite h.modStrand h.pretrigDone

theorem Kept.leaveUnit {n} (h : Kept s₀ s) : Kept s₀ (s.leaveUnit n) := by
  unfold State.leaveUnit
  dsimp only
  split
  · exact .ite h.modStrand.enterDone h.modStrand
  · split
    · exact (Kept.ite (.ite h.windowDone h.modStrand) h).modStrand
    · exact .ite (.ite h.windowDone h.modStrand) h
  · exact h.modStrand

theorem Kept.unitEnd {n last} (h : Kept s₀ s) : Kept s₀ (s.unitEnd n last) :=
  (Kept.ite h.endRecord (.ite h.endRecord h.endRecord)).leaveUnit
theorem Kept.padUnit {n} (h : Kept s₀ s) : Kept s₀ (s.padUnit n) := h.padTo.leaveUnit
theorem Kept.fillTail {n} (h : Kept s₀ s) : Kept s₀ (s.fillTail n) := .ite h.padUnit h
theorem Kept.startLink {n cont ts} (h : Kept s₀ s) : Kept s₀ (s.startLink n cont ts) :=
  (Kept.ite h.padUnit h).unless fun h => h.stagePut.stagePut.stagePut.modStrand
theorem Kept.openLink {n cont ts} (h : Kept s₀ s) : Kept s₀ (s.openLink n cont ts) :=
  .ite (h.startLink.unitEnd.when fun h => h.startLink) h.startLink

theorem Kept.stageBody {n e l} (h : Kept s₀ s) : Kept s₀ (s.stageBody n e l) := by
  induction l generalizing s with
  | nil => exact h
  | cons w ws ih =>
    exact (Kept.ite h.openLink h).next fun h => .ite h <| ih <|
      (Kept.ite h.stagePut.modStrand.judge h.stagePut.modStrand).next fun h => .ite (.ite h.unitEnd h.leaveUnit) h

theorem Kept.stageEnd {n} (h : Kept s₀ s) : Kept s₀ (s.stageEnd n) := h.endRecord.modStrand
theorem Kept.padPage {n} (h : Kept s₀ s) : Kept s₀ (s.padPage n) := .ite h (.ite (Kept.ite h.padTo.endRecord h.padTo).leaveUnit h.padTo)
theorem Kept.sealPipe {p} (h : Kept s₀ s) : Kept s₀ (s.sealPipe p) :=
  .ite h (((h.foldl (fun h => .ite h.endRecord h)).foldl (fun h => h.padPage)).modPipe.movePipe.next fun h =>
    (Kept.ite h.cause h).drivePipe.holdSync)
theorem Kept.sealCrucibles (h : Kept s₀ s) : Kept s₀ s.sealCrucibles := h.foldl (fun h => h.sealPipe)
theorem Kept.countDiscard {key} (h : Kept s₀ s) : Kept s₀ (s.countDiscard key) := h.update.cause
theorem Kept.stageSegment {n first last late ts body} (h : Kept s₀ s) : Kept s₀ (s.stageSegment n first last late ts body) :=
  (Kept.ite h.padUnit h).next fun h => .ite h.countDiscard ((Kept.ite h.modStrand.openLink.modStrand h).stageBody.next fun h =>
    (Kept.ite h.stageEnd h).fillTail)
theorem Kept.overflow {n last} (h : Kept s₀ s) : Kept s₀ (s.overflow n last) :=
  (Kept.ite h.endRecord h.modStrand).modStrand.modPipe.error.update.error
theorem Kept.stage {n first last late ts body} (h : Kept s₀ s) : Kept s₀ (s.stage n first last late ts body) :=
  (Kept.ite h.overflow (.ite h.stageSegment (.ite h.sealPipe.overflow (.ite h.sealPipe.stageSegment h.sealPipe.overflow)))).holdSync
theorem Kept.takeSegment {n first last ts body} (h : Kept s₀ s) : Kept s₀ (s.takeSegment n first last ts body) :=
  .ite (h.endRecord.modStrand.next fun h => .ite h.countFiltered.modStrand h.stage) (.ite (.ite h.modStrand h) h.stage)
theorem Kept.sendControl {o} (h : Kept s₀ s) : Kept s₀ (s.sendControl o) := .ite h.update.send h
theorem Kept.trigOut {ts} (h : Kept s₀ s) : Kept s₀ (s.trigOut ts) := .ite h.update (.ite h.update h.update)
theorem Kept.acceptTrigger {n src ts inRecord} (h : Kept s₀ s) : Kept s₀ (s.acceptTrigger n src ts inRecord) :=
  h.modStrand.update.next fun h => (Kept.ite h.cause.cause h.cause).next fun h => (Kept.ite h.trigOut h).when fun h => h.sendControl
theorem Kept.offer {n src ts inRecord} (h : Kept s₀ s) : Kept s₀ (s.offer n src ts inRecord).1 :=
  .ite_fst h (.ite_fst h.acceptTrigger h.update)

theorem Kept.spread {ts l n} (h : Kept s₀ s) : Kept s₀ (s.spread ts l n) := by
  induction n generalizing s l with
  | zero => unfold State.spread; exact h
  | succ n ih =>
    cases l with
    | nil => exact h
    | cons x l =>
      rw [State.spread]
      split
      · next e => exact ih (h.offer.fst e)
      · next e => exact ih (h.offer.fst e)

theorem Kept.trigger {ns src ts inRecord} (h : Kept s₀ s) : Kept s₀ (s.trigger ns src ts inRecord) := by
  unfold State.trigger
  refine .foldl h (fun h => ?_)
  split
  · next e => exact (h.offer.fst e).spread
  · next e => exact h.offer.fst e

theorem Kept.stopStrand {n} (h : Kept s₀ s) : Kept s₀ (s.stopStrand n) := h.endRecord.modStrand.update
theorem Kept.stopStrands (h : Kept s₀ s) : Kept s₀ s.stopStrands := h.foldl (fun h => h.stopStrand)
theorem Kept.commitAll (h : Kept s₀ s) : Kept s₀ s.commitAll := h.update.foldl (fun h => h.performCommit)

/-! ### The cohort time base (20_cohort_and_time.md) -/

theorem Kept.todStatus {seq result} (h : Kept s₀ s) : Kept s₀ (s.todStatus seq result) := h.sendControl
theorem Kept.refuseRegister (h : Kept s₀ s) : Kept s₀ s.refuseRegister := h.update.error

theorem Kept.todAnswer {result} (h : Kept s₀ s) : Kept s₀ (s.todAnswer result) := by
  unfold State.todAnswer
  split
  · exact h.update.todStatus
  · exact h

theorem Kept.refusePending (h : Kept s₀ s) : Kept s₀ s.refusePending := by
  unfold State.refusePending
  split
  · exact h
  · dsimp only
    split
    · exact h.update.refuseRegister
    · exact h.update.update.todAnswer

theorem Kept.replacePending {register} (h : Kept s₀ s) : Kept s₀ (s.replacePending register) := by
  unfold State.replacePending
  split
  · exact h
  · dsimp only
    split
    · exact .ite h.update h.update.refuseRegister
    · exact h.update.todAnswer

theorem Kept.loadTime {time} (h : Kept s₀ s) : Kept s₀ (s.loadTime time) := h.update.cause
theorem Kept.submitSet {time atPps frame} (h : Kept s₀ s) : Kept s₀ (s.submitSet time atPps frame).1 :=
  .ite_fst (.ite h.refuseRegister h.update) (h.replacePending.next fun h => .ite_fst h.update (h.loadTime.update.when fun h => h.update))
theorem Kept.regTimeSet (h : Kept s₀ s) : Kept s₀ s.regTimeSet := .ite h h.update.submitSet
theorem keeps_execAtppsSetTimeout (h : Kept s₀ s) : Keeps s₀ (execAtppsSetTimeout s) := (Kept.ite h.refusePending h).finish
theorem Kept.latchTime (h : Kept s₀ s) : Kept s₀ s.latchTime := h.update
theorem Kept.regTimeloRead (h : Kept s₀ s) : Kept s₀ s.regTimeloRead := .ite h h.latchTime.send
theorem Kept.setDisc {d} (h : Kept s₀ s) : Kept s₀ (s.setDisc d) := .ite h.update.cause (.ite h.update.cause h.update)
theorem Kept.discipline {e} (h : Kept s₀ s) : Kept s₀ (s.discipline e) := .ite h.update.cause.setDisc (.ite h.update.setDisc h.update)

theorem keeps_execPpsEdge {frac} (h : Kept s₀ s) : Keeps s₀ (execPpsEdge frac s) := by
  unfold execPpsEdge
  refine .finish (.ite h (.ite (h.update.update.when fun h => h.setDisc) ?_))
  extract_lets _ _ _ _ s'
  have h : Kept s₀ s' := .ite h.update.update.update.setDisc h.update.update
  clear_value s'
  split
  · exact h.discipline
  · exact .ite h.refusePending.discipline (h.update.loadTime.next fun h => (Kept.ite h.update h.todAnswer).update.discipline)

theorem keeps_execPpsMissedSecond (h : Kept s₀ s) : Keeps s₀ (execPpsMissedSecond s) :=
  (Kept.ite h (.ite h.update.setDisc h.update)).finish
theorem Kept.regDiscWrite {v} (h : Kept s₀ s) : Kept s₀ (s.regDiscWrite v) :=
  .ite h (.ite h.update.update.setDisc (.ite h.update.update.setDisc.refusePending h.update))
theorem keeps_execTrigInEdge {frac} (h : Kept s₀ s) : Keeps s₀ (execTrigInEdge frac s) :=
  (Kept.ite h (h.update.cause.when fun h => h.trigger)).finish

theorem keeps_execTrigOutRise (h : Kept s₀ s) : Keeps s₀ (execTrigOutRise s) := by
  unfold execTrigOutRise
  refine .finish ?_
  split
  · exact .ite h.update h
  · exact h

theorem keeps_execTrigOutPulseEnd (h : Kept s₀ s) : Keeps s₀ (execTrigOutPulseEnd s) := (Kept.ite h.update h).finish

/-! ### The recorder's windows and ticks (17_event_recorder.md) -/

theorem Kept.windowAt {k src pos seq lost} (h : Kept s₀ s) : Kept s₀ (s.windowAt k src pos seq lost) := h.update

theorem Kept.place {k seq src} (h : Kept s₀ s) : Kept s₀ (s.place k seq src) := by
  unfold State.place
  dsimp only
  split
  · exact h.windowAt
  · split
    · exact h.windowAt
    · refine .ite h.windowAt ?_
      split
      · exact h.windowAt
      · exact h.windowAt

theorem Kept.advance {k} (h : Kept s₀ s) : Kept s₀ (s.advance k) := .ite h.windowAt h.windowAt
theorem Kept.newrecCheck {k} (h : Kept s₀ s) : Kept s₀ (s.newrecCheck k) := .ite h.setNewrec h
theorem Kept.cursorWrite {who k} {f : State → State} (h : Kept s₀ s) (hf : ∀ {u}, Kept s₀ u → Kept s₀ (f u)) :
    Kept s₀ (s.cursorWrite who k f) :=
  .ite h (.ite h.error (hf h).newrecCheck)
theorem Kept.regCursorPlace {who group v} (h : Kept s₀ s) : Kept s₀ (s.regCursorPlace who group v) := h.cursorWrite (fun h => h.place)
theorem Kept.regCursorAdvance {who group _v} (h : Kept s₀ s) : Kept s₀ (s.regCursorAdvance who group _v) :=
  h.cursorWrite (fun h => h.advance)
theorem keeps_execWindowFillComplete {group} (h : Kept s₀ s) : Keeps s₀ (execWindowFillComplete group s) := (Kept.ite h h.update).finish
theorem keeps_execNewrecTimeout (h : Kept s₀ s) : Keeps s₀ (execNewrecTimeout s) := (Kept.ite h.setNewrec h).finish
theorem Kept.incidentTick (h : Kept s₀ s) : Kept s₀ s.incidentTick := .ite h.update.raise.setCause (.ite h.update h.update)
theorem keeps_execRecorderTick (h : Kept s₀ s) : Keeps s₀ (execRecorderTick s) := h.update.incidentTick.finish
theorem Kept.summary (h : Kept s₀ s) : Kept s₀ s.summary := .ite h h.raise.update
theorem Kept.incidentEnd (h : Kept s₀ s) : Kept s₀ s.incidentEnd := .ite (h.update.foldl (fun h => h.storeRecord)).raise h
theorem keeps_execRecorder10msTick (h : Kept s₀ s) : Keeps s₀ (execRecorder10msTick s) :=
  (h.summary.settle.next fun h => (Kept.ite h.setNewrec h).incidentEnd).finish
theorem keeps_execLongLogFlushDue (h : Kept s₀ s) : Keeps s₀ (execLongLogFlushDue s) := (Kept.ite h (.ite h.update h.flushLog)).finish
theorem keeps_execCriticalCopyTimer (h : Kept s₀ s) : Keeps s₀ (execCriticalCopyTimer s) := (Kept.ite h.critPage1 h).finish
theorem Kept.regRecorderSave (h : Kept s₀ s) : Kept s₀ s.regRecorderSave := .ite h h.update.setRecord.hostRecord
theorem Kept.regRateClassWrite {v} (h : Kept s₀ s) : Kept s₀ (s.regRateClassWrite v) := .ite h (.ite h.error h.update)

/-! ### The thermal ladder (16_thermal.md) -/

theorem Kept.clockSync (h : Kept s₀ s) : Kept s₀ s.clockSync := h.update

/-! ### Strand commands (12_capture.md) -/

theorem Kept.strdDone {n result} (h : Kept s₀ s) : Kept s₀ (s.strdDone n result) := .ite h.update.cause h.update.error

theorem Kept.strdCommand {op modes} {f : Nat → State → State × Option Nat} (h : Kept s₀ s)
    (hf : ∀ {n u}, Kept s₀ u → Kept s₀ (f n u).1) : Kept s₀ (s.strdCommand op modes f) := by
  unfold State.strdCommand
  refine .ite h (.ite h.update.error ?_)
  extract_lets _ s'
  have h : Kept s₀ s' := h.update
  split
  next e =>
  replace h := Kept.fst (.ite_fst h (.ite_fst h (hf h))) e
  split
  · exact h.strdDone
  · exact h.update

theorem Kept.alloc {n adopt} (h : Kept s₀ s) : Kept s₀ (s.alloc n adopt).1 :=
  .ite_fst h (.ite_fst h (.ite_fst h (.ite_fst h (.ite_fst h.modStrand.update h.modStrand))))
theorem Kept.regAlloc {adopt} (h : Kept s₀ s) : Kept s₀ (s.regAlloc adopt) := h.update.strdCommand (fun h => h.alloc)

theorem Kept.adoptPoint {n} (h : Kept s₀ s) : Kept s₀ (s.adoptPoint n) := by
  unfold State.adoptPoint
  dsimp only
  split
  · exact h
  · refine .ite ?_ (.ite h.modStrand.leaveUnit h.modStrand)
    split
    · exact h.modStrand.modStrand
    · exact h.modStrand

theorem keeps_execAllocAdoptComplete (h : Kept s₀ s) : Keeps s₀ (execAllocAdoptComplete s) := by
  unfold execAllocAdoptComplete
  refine .finish ?_
  split
  · exact h
  · exact (Kept.ite (h.foldl (fun h => h.modIdx)) h).adoptPoint.modStrand.update.strdDone

theorem Kept.config {n} (h : Kept s₀ s) : Kept s₀ (s.config n).1 := .ite_fst h (.ite_fst h.modStrand h)
theorem Kept.regConfig (h : Kept s₀ s) : Kept s₀ s.regConfig := h.strdCommand (fun h => h.config)
theorem Kept.arm {n time} (h : Kept s₀ s) : Kept s₀ (s.arm n time).1 :=
  .ite_fst h (.ite_fst h (.ite_fst h (.ite_fst h (.ite_fst h (.ite_fst h h.modStrand)))))
theorem Kept.regStrandArm (h : Kept s₀ s) : Kept s₀ s.regStrandArm := h.strdCommand (fun h => h.arm)
theorem Kept.stop {n} (h : Kept s₀ s) : Kept s₀ (s.stop n).1 := .ite_fst h.stopStrand h
theorem Kept.regStrandStop (h : Kept s₀ s) : Kept s₀ s.regStrandStop := h.strdCommand (fun h => h.stop)
theorem Kept.regTrigger (h : Kept s₀ s) : Kept s₀ s.regTrigger := h.strdCommand (fun h => .ite_fst h h.trigger)
theorem Kept.timedTrig {n time} (h : Kept s₀ s) : Kept s₀ (s.timedTrig n time).1 := .ite_fst h (.ite_fst h (.ite_fst h h.update))
theorem Kept.regTimedtrig (h : Kept s₀ s) : Kept s₀ s.regTimedtrig := h.strdCommand (fun h => h.timedTrig)
theorem Kept.regDroprem (h : Kept s₀ s) : Kept s₀ s.regDroprem := h.strdCommand (fun h => .ite_fst h.endRecord.fillTail h)
theorem keeps_execArmTimeReached {strand} (h : Kept s₀ s) : Keeps s₀ (execArmTimeReached strand s) := (Kept.ite h.modStrand h).finish

theorem keeps_execTimedTriggerDue (h : Kept s₀ s) : Keeps s₀ (execTimedTriggerDue s) := by
  unfold execTimedTriggerDue
  refine .finish ?_
  split
  · exact h
  · exact .ite h.update.trigger h.update.update

theorem Kept.regTriggerLogPop (h : Kept s₀ s) : Kept s₀ s.regTriggerLogPop := .ite h.update h
theorem Kept.regFilterWrite {v} (h : Kept s₀ s) : Kept s₀ (s.regFilterWrite v) := .ite h.update h
theorem Kept.dropHank {n} (h : Kept s₀ s) : Kept s₀ (s.dropHank n) := (h.foldl (fun h => h.dropHankUnit)).takeSeqs.update
theorem Kept.rewound {n} (h : Kept s₀ s) : Kept s₀ (s.rewound n) := h.dropHank.modStrand.strdDone
theorem Kept.released {n} (h : Kept s₀ s) : Kept s₀ (s.released n) := by
  unfold State.released
  exact h.dropHank.modStrand.update.strdDone
theorem Kept.clearStrand {n release} (h : Kept s₀ s) : Kept s₀ (s.clearStrand n release).1 := by
  unfold State.clearStrand
  exact .ite_fst h (.pair_fst h.modStrand.raiseClass)

theorem Kept.rewindSync (h : Kept s₀ s) : Kept s₀ s.rewindSync := by
  unfold State.rewindSync
  split
  · exact .ite h.rewound h
  · exact h

theorem Kept.regRewind (h : Kept s₀ s) : Kept s₀ s.regRewind := (h.strdCommand (fun h => h.clearStrand)).rewindSync
theorem Kept.regRelease (h : Kept s₀ s) : Kept s₀ s.regRelease := h.strdCommand (fun h => h.clearStrand)

theorem keeps_execReleaseComplete (h : Kept s₀ s) : Keeps s₀ (execReleaseComplete s) := by
  unfold execReleaseComplete
  refine .finish ?_
  split
  · exact .ite h.released h
  · exact h

theorem Kept.regStrdUnknownOp {op} (h : Kept s₀ s) : Kept s₀ (s.regStrdUnknownOp op) := .ite h (.ite h.update.error h.update.strdDone)
theorem keeps_execSealIntervalExpired {pipe} (h : Kept s₀ s) : Keeps s₀ (execSealIntervalExpired pipe s) := (Kept.ite h.sealPipe h).finish
theorem keeps_execIndexRebuildComplete {unit} (h : Kept s₀ s) : Keeps s₀ (execIndexRebuildComplete unit s) :=
  (Kept.ite h ((Kept.ite h.update h.update.error).when fun h => h.cause)).finish

theorem Kept.snoopEnds {b} (h : Kept s₀ s) : Kept s₀ (s.snoopEnds b) := by
  unfold State.snoopEnds
  refine .foldl (.update ?_) (fun h => .ite h.update h.serve)
  split
  · refine .ite (.foldl ?_ (fun h => ?_)) (.update (.foldl ?_ (fun h => ?_)))
    · split
      · exact h.update.update
      · exact h.update
    · split
      · exact h.commitSync.next fun h => (Kept.ite h.endRecord h).driveAll
      · exact h
    · split
      · exact h.update.update
      · exact h.update
    · split
      · exact h.commitSync.next fun h => (Kept.ite h.endRecord h).driveAll
      · exact h
  · refine .foldl ?_ (fun h => ?_)
    · split
      · exact h.update.update
      · exact h.update
    · split
      · exact h.commitSync.next fun h => (Kept.ite h.endRecord h).driveAll
      · exact h

theorem keeps_execBirsp {line} (h : Kept s₀ s) : Keeps s₀ (execBirsp line s) := by
  unfold execBirsp
  refine .finish ?_
  split
  · exact h.snoopEnds
  · exact h

theorem keeps_execBiTimeout {line} (h : Kept s₀ s) : Keeps s₀ (execBiTimeout line s) := by
  unfold execBiTimeout
  refine .finish ?_
  split
  · exact .ite h (Kept.ite h.error.goViral h.error).snoopEnds
  · exact h

/-! ### Held requests completed (02_modes_and_starts.md) -/

theorem Kept.takeWaiting {pick} (h : Kept s₀ s) : Kept s₀ (s.takeWaiting pick).2 := h.update.foldl (fun h => h.fillEnds)

theorem Kept.forceServe {room r} (h : Kept s₀ s) (hr : KeepsRoom room) : Kept s₀ (State.forceServe room s r) := by
  unfold State.forceServe
  extract_lets _ _ roomy near _ _ _ stored
  have roomy_kept : Kept s₀ roomy := by
    unfold roomy
    split
    · exact .ite (hr _ rfl h.settleVictim) h.settleVictim
    · exact h.settleVictim
  clear_value near
  have stored_kept : Kept s₀ stored := by
    unfold stored
    split
    · exact roomy_kept.storeBack.modSlice
    · exact roomy_kept.storeBack
  split
  · exact roomy_kept.sendRead
  · exact .ite roomy_kept.refuseWrite (.ite roomy_kept.waitRoom (Kept.ite stored_kept.unrefuse stored_kept).acknowledge)

theorem Kept.completeHost {room} (h : Kept s₀ s) (hr : KeepsRoom room) : Kept s₀ (s.completeHost room) := by
  unfold State.completeHost
  extract_lets s'
  have h : Kept s₀ s' := .ite h h.commitAll
  clear_value s'
  split
  next e =>
  refine .foldl (.update (.foldl (h.takeWaiting.snd e) ?_)) ?_
  · exact fun h => h.forceServe hr
  · exact fun h => h.screen.getD (h.forceServe hr)

theorem Kept.completeWrites (h : Kept s₀ s) : Kept s₀ s.completeWrites := by
  unfold State.completeWrites
  dsimp only
  exact .foldl h.takeWaiting fun h => h.forceServe (.some Kept.reserveDirty)

/-! ### Queries (13_replay_and_query.md) -/

theorem Kept.queryDone {result found wrapped incomplete} (h : Kept s₀ s) : Kept s₀ (s.queryDone result found wrapped incomplete) :=
  .ite h.update.error h.update.cause
theorem Kept.query {op} (h : Kept s₀ s) : Kept s₀ (s.query op) :=
  .ite h (.ite h.update.cause (.ite h.update.queryDone (.ite h.update.queryDone (.ite h.update.queryDone h.update.update))))
theorem Kept.regQryeUnknownOp {op} (h : Kept s₀ s) : Kept s₀ (s.regQryeUnknownOp op) := .ite h (.ite h.update.cause h.update.queryDone)

theorem keeps_execQueryComplete {skipped} (h : Kept s₀ s) : Keeps s₀ (execQueryComplete skipped s) := by
  unfold execQueryComplete
  refine .finish (.ite h (.queryDone (.ite ?_ h.update)))
  split
  · exact h.update
  · exact h.update

/-! ### Parameter Store pages and records (18_parameter_store.md) -/

theorem Kept.fresh {n} (h : Kept s₀ s) : Kept s₀ (s.fresh n).2 := h.update

theorem Kept.readRecord {t} (h : Kept s₀ s) : Kept s₀ (s.readRecord t) := by
  unfold State.readRecord
  split
  · exact h.modRecord.error
  · exact .ite h.modRecord.error h.modRecord

theorem Kept.repairRecord {t} (h : Kept s₀ s) : Kept s₀ (s.repairRecord t) := .ite h (h.modRecord.foldl (fun h => h.queuePage)).error
theorem Kept.rawDone {op page result} (h : Kept s₀ s) : Kept s₀ (s.rawDone op page result) := h.update.cause
theorem Kept.regPstoRead {v} (h : Kept s₀ s) : Kept s₀ (s.regPstoRead v) := .ite h (.ite h.rawDone (.ite h.rawDone h.update.rawDone))
theorem Kept.regPstoWrite {v} (h : Kept s₀ s) : Kept s₀ (s.regPstoWrite v) := .ite h (.ite h.rawDone (.ite h.update.error h.update))
theorem Kept.regPstoInvalidOp {v} (h : Kept s₀ s) : Kept s₀ (s.regPstoInvalidOp v) := .ite h (.ite h.rawDone h.rawDone)
theorem Kept.regProtectionWrite {v} (h : Kept s₀ s) : Kept s₀ (s.regProtectionWrite v) := .ite h (.ite h.update h.error)
theorem keeps_execRecordDeferExpired {typ} (h : Kept s₀ s) : Keeps s₀ (execRecordDeferExpired typ s) :=
  (Kept.ite h (.ite h.modRecord.modRecord h.modRecord.startRecord)).finish

theorem Kept.clearSave {t} (h : Kept s₀ s) : Kept s₀ (s.clearSave t) := by
  unfold State.clearSave
  split
  · exact h.update
  · exact h.update
  · exact h.update
  · exact h

theorem Kept.recordDone {first c} (h : Kept s₀ s) : Kept s₀ (s.recordDone first c) := by
  unfold State.recordDone
  refine .ite h (.next ?_ fun h => .ite h.startRecord (.ite h.clearSave h))
  split
  · exact .ite h.modRecord.update h.modRecord
  · exact h.modRecord

theorem Kept.pageDone {w} (h : Kept s₀ s) : Kept s₀ (s.pageDone w) := by
  unfold State.pageDone
  dsimp only
  split
  · refine .recordDone (.ite (.rawDone ?_) ?_)
    · split
      · exact h.update.update
      · exact h.update
    · split
      · exact h.update.update
      · exact h.update
  · refine .ite (.rawDone ?_) ?_
    · split
      · exact h.update.update
      · exact h.update
    · split
      · exact h.update.update
      · exact h.update

/-! ### What a start resets (03_registers_and_hallmark.md) -/

theorem Kept.domainReset {warm} (h : Kept s₀ s) : Kept s₀ (s.domainReset warm) := h.update.update
theorem Kept.readyBlocks {bs} (h : Kept s₀ s) : Kept s₀ (s.readyBlocks bs) := h.foldl (fun h => h.modHdr)

/-! ### The ingest port (11_ingest_port.md) -/

theorem Kept.sendVersion {lo hi} (h : Kept s₀ s) : Kept s₀ (s.sendVersion lo hi) := h.sendControl
theorem Kept.linkIsUp (h : Kept s₀ s) : Kept s₀ s.linkIsUp :=
  h.update.hallSync.cause.next fun h => (Kept.ite h.retirement h).next fun h => (Kept.ite h.error h).sendVersion

theorem keeps_execIlknLinkupStep {rx peer} (h : Kept s₀ s) : Keeps s₀ (execIlknLinkupStep rx peer s) := by
  unfold execIlknLinkupStep
  refine .finish (.ite h ?_)
  split
  · exact h.update
  · exact h.update
  · dsimp only
    split
    · exact h.update.update
    · exact h.update
  · exact h.linkIsUp

theorem keeps_execIlknLinkupTimeout (h : Kept s₀ s) : Keeps s₀ (execIlknLinkupTimeout s) := (Kept.ite h h.update).finish
theorem keeps_execIlknRestartDelay (h : Kept s₀ s) : Keeps s₀ (execIlknRestartDelay s) := h.update.finish
theorem Kept.linkIsDown (h : Kept s₀ s) : Kept s₀ s.linkIsDown := h.update.hallSync
theorem keeps_execIlknAlignmentLoss {lane} (h : Kept s₀ s) : Keeps s₀ (execIlknAlignmentLoss lane s) :=
  (Kept.ite h h.linkIsDown.update.error).finish
theorem Kept.gap {n seq} (h : Kept s₀ s) : Kept s₀ (s.gap n seq) := h.endRecord.modStrand
theorem Kept.discardSegment {g key} (h : Kept s₀ s) : Kept s₀ (s.discardSegment g key) :=
  .ite h.update.error (h.countDiscard.when fun h => h.gap)
theorem Kept.framingErrors {g} (h : Kept s₀ s) : Kept s₀ (s.framingErrors g) := .ite h h.update.cause
theorem Kept.acceptData {g} (h : Kept s₀ s) : Kept s₀ (s.acceptData g) :=
  h.modStrand.update.next fun h => .ite h.takeSegment (.ite h.endRecord.trigger.takeSegment h.trigger.takeSegment)
theorem Kept.strandChecks {g} (h : Kept s₀ s) : Kept s₀ (s.strandChecks g) :=
  .ite h.countDiscard (.ite (.ite h.update.gap.acceptData h.countDiscard.gap) (.ite h.countDiscard.modStrand h.acceptData))

theorem keeps_execDataSegment {seg} (h : Kept s₀ s) : Keeps s₀ (execDataSegment seg s) := by
  unfold execDataSegment
  refine .finish (.ite h ?_)
  dsimp only
  split
  · exact h.framingErrors.discardSegment
  · exact h.framingErrors.strandChecks

theorem Kept.control {g mine} {f : State → State} (h : Kept s₀ s) (hf : ∀ {u}, Kept s₀ u → Kept s₀ (f u)) :
    Kept s₀ (s.control g mine f) := by
  unfold State.control
  refine .ite h ?_
  dsimp only
  split
  · exact h.framingErrors.discardSegment
  · exact hf h.framingErrors

theorem Kept.answer {g result} (h : Kept s₀ s) : Kept s₀ (s.answer g result) := h.sendControl

theorem Kept.answered {g len bit} {f : State → State × Option Nat} (h : Kept s₀ s) (hf : ∀ {u}, Kept s₀ u → Kept s₀ (f u).1) :
    Kept s₀ (s.answered g len bit f) := by
  unfold State.answered
  refine .ite h.answer (.ite h.answer ?_)
  split
  next e =>
  replace h := (hf h.cause).fst e
  split
  · exact h.answer
  · exact h

theorem Kept.negotiate {lo hi} (h : Kept s₀ s) : Kept s₀ (s.negotiate lo hi) := .ite h.update.sendVersion.cause (.ite h h.update.error)
theorem keeps_execVersion {seg} (h : Kept s₀ s) : Keeps s₀ (execVersion seg s) :=
  (h.control (fun h => .ite h (.ite (Kept.ite h.update.error h.update).negotiate (.ite h.update.error h.update)))).finish
theorem keeps_execVersionFrameTimer (h : Kept s₀ s) : Keeps s₀ (execVersionFrameTimer s) := (Kept.ite h.sendVersion h).finish
theorem keeps_execTod {seg} (h : Kept s₀ s) : Keeps s₀ (execTod seg s) :=
  (h.control (fun h => h.answered (fun h => h.submitSet.when fun h => h.update))).finish

theorem Kept.strandAnswer {n} {r : State × Option Nat} (h : Kept s₀ s) (hr : Kept s₀ r.1) : Kept s₀ (s.strandAnswer n r).1 := by
  unfold State.strandAnswer
  split
  · exact hr
  · exact .pair_fst h.error

theorem Kept.armFrame {seg} (h : Kept s₀ s) : Kept s₀ (s.armFrame seg) :=
  h.control (fun h => h.answered (fun h => .ite_fst h (h.strandAnswer h.arm)))
theorem Kept.stopFrame {seg} (h : Kept s₀ s) : Kept s₀ (s.stopFrame seg) :=
  h.control (fun h => h.answered (fun h => .ite_fst h (h.strandAnswer h.stop)))
theorem keeps_execTrig {seg} (h : Kept s₀ s) : Keeps s₀ (execTrig seg s) :=
  (h.control (fun h => .ite h.answer (h.answered (fun h => .ite_fst h (.ite_fst h.trigger (.ite_fst h h.trigger)))))).finish
theorem keeps_execUnknownControlFrame {seg} (h : Kept s₀ s) : Keeps s₀ (execUnknownControlFrame seg s) :=
  (h.control (fun h => h.answer)).finish

/-! ### Ranges and rekeying (14_memory_protection.md) -/

theorem Kept.bgDone (h : Kept s₀ s) : Kept s₀ s.bgDone := h.update.cause
theorem Kept.retireSlot {k} (h : Kept s₀ s) : Kept s₀ (s.retireSlot k) := .ite h h.modSlot.writeRecord
theorem Kept.rekeyPages {j} (h : Kept s₀ s) : Kept s₀ (s.rekeyPages j) := h.foldl (fun h => h.touchPage.putCline.noteMajor)
theorem Kept.rekeyNear {j} (h : Kept s₀ s) : Kept s₀ (s.rekeyNear j) :=
  (h.foldl (fun h => h.cleanWays.emptyVictims)).when fun h => h.flushNodes

theorem Kept.rekeyEnd {j} (h : Kept s₀ s) : Kept s₀ (s.rekeyEnd j) := by
  unfold State.rekeyEnd
  refine .next (.cause (.writeRecord ?_)) fun h => (Kept.ite h.update.retireSlot h.update).when fun h => h.bgDone
  split
  · exact h.modRange
  · exact h.update

theorem keeps_execRekeyStepComplete (h : Kept s₀ s) : Keeps s₀ (execRekeyStepComplete s) := by
  unfold execRekeyStepComplete
  refine .finish ?_
  split
  · exact h
  · dsimp only
    split
    · refine .update (.writeRecord ?_)
      split
      · exact h.modRange
      · exact h
    · exact h.rekeyPages.update.update
    · exact .ite h.relocate.update.update h.relocate
    · exact h.rekeyNear.rekeyEnd

theorem Kept.regRangeDefWrite {size v} (h : Kept s₀ s) : Kept s₀ (s.regRangeDefWrite size v) :=
  .ite h (.ite h.error (h.modRange.hostRecord.unless fun h => h.update))

/-! ### Replay slots (13_replay_and_query.md) -/

theorem Kept.modReplay {k f} (h : Kept s₀ s) : Kept s₀ (s.modReplay k f) := h.update
theorem Kept.releasePages {k} (h : Kept s₀ s) : Kept s₀ (s.releasePages k) := h.modReplay
theorem Kept.slotDone {k} (h : Kept s₀ s) : Kept s₀ (s.slotDone k) := h.modReplay.cause
theorem Kept.preloadSync {k} (h : Kept s₀ s) : Kept s₀ (s.preloadSync k) := .ite h h.modReplay.cause
theorem Kept.rpleDone {k op result} (h : Kept s₀ s) : Kept s₀ (s.rpleDone k op result) := .ite h.modReplay.cause h.modReplay.error
theorem Kept.rpleCommand {op modes} {f : Nat → Slot → State × Nat} (h : Kept s₀ s) (hf : ∀ {k x}, Kept s₀ (f k x).1) :
    Kept s₀ (s.rpleCommand op modes f) :=
  .ite h (.ite h.rpleDone hf.rpleDone)
theorem Kept.bind {k x} (h : Kept s₀ s) : Kept s₀ (s.bind k x).1 := .ite_fst h (.ite_fst h h.modReplay)
theorem Kept.regBind (h : Kept s₀ s) : Kept s₀ s.regBind := h.rpleCommand h.bind
theorem Kept.regReplayConfig (h : Kept s₀ s) : Kept s₀ s.regReplayConfig := h.rpleCommand (.ite_fst h (.ite_fst h h.modReplay))
theorem Kept.fixWindow {k} (h : Kept s₀ s) : Kept s₀ (s.fixWindow k) := h.modReplay
theorem Kept.regPreload (h : Kept s₀ s) : Kept s₀ s.regPreload :=
  h.rpleCommand (.ite_fst h (.ite_fst h h.fixWindow.modReplay.preloadSync))
theorem Kept.startSlot {k x} (h : Kept s₀ s) : Kept s₀ (s.startSlot k x).1 :=
  .ite_fst h (.ite_fst h (.ite_fst h (.ite_fst h (.ite_fst h
    (.ite_fst h (h.fixWindow.modReplay.next fun h => .ite_fst h.slotDone h.preloadSync))))))
theorem Kept.regStart (h : Kept s₀ s) : Kept s₀ s.regStart := h.rpleCommand h.startSlot
theorem Kept.stopSlot {k} (h : Kept s₀ s) : Kept s₀ (s.stopSlot k) := .ite h (.ite h.modReplay h.slotDone)
theorem Kept.regReplayStop (h : Kept s₀ s) : Kept s₀ s.regReplayStop := h.rpleCommand (.ite_fst h h.stopSlot)
theorem Kept.stopSlots (h : Kept s₀ s) : Kept s₀ s.stopSlots := h.update.foldl (fun h => h.slotDone)
theorem Kept.regUnbind (h : Kept s₀ s) : Kept s₀ s.regUnbind := h.rpleCommand (.ite_fst h.modReplay h)
theorem Kept.regRpleUnknownOp {op} (h : Kept s₀ s) : Kept s₀ (s.regRpleUnknownOp op) := .ite h (h.rpleCommand h)

theorem keeps_execReplayPageRead {slot page} (h : Kept s₀ s) : Keeps s₀ (execReplayPageRead slot page s) := by
  unfold execReplayPageRead
  refine .finish (.ite h ?_)
  split
  · exact .ite h.modReplay h
  · exact h

theorem keeps_execReplayPageBuffered {slot page ok} (h : Kept s₀ s) : Keeps s₀ (execReplayPageBuffered slot page ok s) := by
  unfold execReplayPageBuffered
  refine .finish ?_
  dsimp only
  split
  · exact h
  · exact h.modReplay.releasePages.preloadSync

theorem Kept.sendSegment {k strand body first last trig} (h : Kept s₀ s) : Kept s₀ (s.sendSegment k strand body first last trig) :=
  h.modReplay.send
theorem Kept.sendMarker {k isEnd ts skipped} (h : Kept s₀ s) : Kept s₀ (s.sendMarker k isEnd ts skipped) := h.sendSegment

theorem Kept.frameSegment {k} (h : Kept s₀ s) : Kept s₀ (s.frameSegment k) := by
  unfold State.frameSegment
  dsimp only
  split
  · exact h
  · exact h.sendSegment.modReplay.update

theorem Kept.advanceSlot {k} (h : Kept s₀ s) : Kept s₀ (s.advanceSlot k) := h.modReplay.releasePages.when fun h => h.slotDone
theorem Kept.depart {k r due late} (h : Kept s₀ s) : Kept s₀ (s.depart k r due late) := by
  unfold State.depart
  exact (Kept.ite h.sendMarker h).modReplay.frameSegment.advanceSlot
theorem Kept.skipRecord {k r} (h : Kept s₀ s) : Kept s₀ (s.skipRecord k r) := by
  unfold State.skipRecord
  exact h.modReplay.next fun h => (Kept.ite (Kept.ite h.sendMarker h).error h).advanceSlot

theorem keeps_execRecordDue {slot} (h : Kept s₀ s) : Keeps s₀ (execRecordDue slot s) := by
  unfold execRecordDue
  refine .finish (.ite h ?_)
  split
  · exact h
  · exact .ite h (.ite h.modReplay.modReplay.advanceSlot (.ite h.modReplay.skipRecord (.ite h.modReplay.modReplay h.modReplay.depart)))

theorem Kept.framerNext {last} (h : Kept s₀ s) : Kept s₀ (s.framerNext last) := by
  unfold State.framerNext
  refine .ite h ?_
  dsimp only
  split
  · exact h.frameSegment
  · split
    · exact h
    · split
      · exact h
      · exact h.depart

theorem keeps_execSegmentSent {slot} (h : Kept s₀ s) : Keeps s₀ (execSegmentSent slot s) :=
  (Kept.ite h (Kept.ite h.update.slotDone (.ite (h.update.modReplay.when fun h => h.slotDone) h.update)).framerNext).finish

theorem keeps_execGapMarkerEnd {slot} (h : Kept s₀ s) : Keeps s₀ (execGapMarkerEnd slot s) := by
  unfold execGapMarkerEnd
  refine .finish (.ite h ?_)
  split
  · exact h
  · exact .ite h h.sendMarker.modReplay

theorem keeps_execFlowControlWord {first bits} (h : Kept s₀ s) : Keeps s₀ (execFlowControlWord first bits s) :=
  (Kept.ite h h.update.framerNext).finish

/-! ### Time passing -/

theorem Kept.passTicks {n} (h : Kept s₀ s) : Kept s₀ (s.passTicks n) := .ite h.update h.update
theorem Kept.tick (h : Kept s₀ s) : Kept s₀ s.tick := h.passTicks
theorem Kept.reachCohort {due} (h : Kept s₀ s) : Kept s₀ (s.reachCohort due) := h.passTicks
theorem Kept.reachTick {due} (h : Kept s₀ s) : Kept s₀ (s.reachTick due) := h.passTicks

/-! ### Starts, QUENCH and REST (02_modes_and_starts.md) -/

theorem Kept.powerUp (h : Kept s₀ s) : Kept s₀ s.powerUp := h.update
theorem Kept.beginStart {cold failed} (h : Kept s₀ s) : Kept s₀ (s.beginStart cold failed) :=
  h.domainReset.update.setMode.next fun h => .ite h.update (.ite (.ite h.update.update.powerUp h.update.update) h.update.powerUp)
theorem Kept.enterDormant (h : Kept s₀ s) : Kept s₀ s.enterDormant := h.setMode.settle.domainReset.update
theorem Kept.shutDone (h : Kept s₀ s) : Kept s₀ s.shutDone :=
  .ite h.update.update (.ite (.ite h.update.powerUp h.update.beginStart) (Kept.ite h.update.fresh1.reserveSome h.update).enterDormant)
theorem Kept.seqApply {r} (h : Kept s₀ s) : Kept s₀ (s.seqApply r) := .ite h.update (.ite h.update.update h.update.shutDone)
theorem Kept.startOff (h : Kept s₀ s) : Kept s₀ s.startOff := h.update
theorem Kept.setFault {kind input sev event} (h : Kept s₀ s) : Kept s₀ (s.setFault kind input sev event) :=
  .ite h.update.changeRecord h.update
theorem Kept.abortUp {kind input} (h : Kept s₀ s) : Kept s₀ (s.abortUp kind input) := h.setFault.cause.startOff.update.seqApply
theorem Kept.attemptFailed {k} (h : Kept s₀ s) : Kept s₀ (s.attemptFailed k) :=
  .ite h (.ite h.update.abortUp (.ite h.update (.ite h.update h.seqApply)))
theorem Kept.drivePfw {own} (h : Kept s₀ s) : Kept s₀ (s.drivePfw own) := .ite h.update h
theorem Kept.capLoadOff (h : Kept s₀ s) : Kept s₀ s.capLoadOff := h.update
theorem Kept.tableDown {after} (h : Kept s₀ s) : Kept s₀ (s.tableDown after) := h.linkIsDown.seqApply
theorem Kept.stopStreams (h : Kept s₀ s) : Kept s₀ s.stopStreams := h.stopStrands.stopSlots.sealCrucibles.commitAll

theorem Kept.quenchBegin (h : Kept s₀ s) : Kept s₀ s.quenchBegin :=
  (Kept.ite h.modeDone h).setMode.update.restOver.next fun h =>
    ((Kept.ite h.update.capLoadOff.cause h).update.resumeAll.dropQueued.openMarker.completeHost .none).stopStreams.update.when fun h =>
      h.update

theorem Kept.startQuench {c rail} (h : Kept s₀ s) : Kept s₀ (s.startQuench c rail) := by
  unfold State.startQuench
  extract_lets _ _ set
  have hset {u : State} (h : Kept s₀ u) : Kept s₀ (set u) := h.update.setFault.drivePfw
  clear_value set
  split
  · exact h
  · exact h.drivePfw
  · refine .ite (.ite h.drivePfw ?_) (hset h).startOff.quenchBegin
    exact (hset h).startOff.next fun h => .ite h.update (.ite h.update.seqApply h.seqApply)
  · exact (hset h).quenchBegin.when fun h => h.update

theorem Kept.quenchDrain {unsealed} (h : Kept s₀ s) : Kept s₀ (s.quenchDrain unsealed) :=
  h.update.drainCrucibles.reserveDirty.zeroDone.sealBands.settle.flushJournal.flushLog.critFlush.next fun h =>
    (Kept.ite h h.finalRecord).update
theorem keeps_execQuenchTrigger {cause} (h : Kept s₀ s) : Keeps s₀ (execQuenchTrigger cause s) := h.startQuench.finish
theorem Kept.entryStops (h : Kept s₀ s) : Kept s₀ s.entryStops := (h.update.completeHost .none).stopStreams.drainCrucibles
theorem Kept.entryDrain (h : Kept s₀ s) : Kept s₀ s.entryDrain :=
  h.destageAll.next fun h => (Kept.ite h h.reserveDirty).zeroDone.dropQueued.sealBands.settle.flushJournal.flushLog.critFlush.update
theorem Kept.coldEntry (h : Kept s₀ s) : Kept s₀ s.coldEntry := h.restCancel.update.entryStops.entryDrain.tableDown

theorem Kept.resetRequest {k} (h : Kept s₀ s) : Kept s₀ (s.resetRequest k) := by
  unfold State.resetRequest
  split
  · exact h.update
  · exact h
  · exact h
  · exact h
  · refine .ite h.update ?_
    split
    · exact h.coldEntry
    · exact h.restCancel.update.entryStops

theorem Kept.resetPending (h : Kept s₀ s) : Kept s₀ s.resetPending := by
  unfold State.resetPending
  split
  · exact h.update.resetRequest
  · exact h

theorem Kept.regWarmResetRequest (h : Kept s₀ s) : Kept s₀ s.regWarmResetRequest := .ite h.resetRequest h
theorem Kept.regColdResetRequest (h : Kept s₀ s) : Kept s₀ s.regColdResetRequest := .ite h.resetRequest h
theorem keeps_execColdResetRequest (h : Kept s₀ s) : Keeps s₀ (execColdResetRequest s) := h.regColdResetRequest.finish

theorem keeps_execPerstNAssert (h : Kept s₀ s) : Keeps s₀ (execPerstNAssert s) := by
  unfold execPerstNAssert
  refine .finish ?_
  dsimp only
  split
  · exact h.update.update.when fun h => h.cause
  · exact h.update.resetRequest

theorem keeps_execPerstNDeassert (h : Kept s₀ s) : Keeps s₀ (execPerstNDeassert s) := (Kept.ite h.update.update h.update).finish
theorem keeps_execWarmEntryComplete (h : Kept s₀ s) : Keeps s₀ (execWarmEntryComplete s) :=
  (Kept.ite h h.entryDrain.flushNodes.update.update.beginStart).finish
theorem keeps_execWarmEntryTimeout (h : Kept s₀ s) : Keeps s₀ (execWarmEntryTimeout s) :=
  (Kept.ite h h.update.entryDrain.tableDown).finish
theorem Kept.stopWrites (h : Kept s₀ s) : Kept s₀ s.stopWrites := (h.update.foldl (fun h => h.programEnds)).update
theorem Kept.safeEntry (h : Kept s₀ s) : Kept s₀ s.safeEntry :=
  h.completeWrites.stopStrands.sealCrucibles.commitAll.drainCrucibles.reserveDirty.zeroDone.stopWrites

theorem Kept.toSafe (h : Kept s₀ s) : Kept s₀ s.toSafe := by
  unfold State.toSafe
  split
  · exact h.restCancel.safeEntry.setMode
  · exact h.restCancel.safeEntry.setMode
  · exact h.safeEntry.setMode.modeDone.resetPending
  · exact h

theorem Kept.exhaustCheck (h : Kept s₀ s) : Kept s₀ s.exhaustCheck := .ite h.cause.toSafe h

theorem Kept.judgeMode {target} (h : Kept s₀ s) : Kept s₀ (s.judgeMode target) := by
  unfold State.judgeMode
  refine .ite h.modeDone (.ite h.modeDone ?_)
  split
  · exact h.modeDoneTo
  · exact .ite h.modeDoneTo h.modeDone
  · exact h.update
  · exact h.safeEntry.modeDoneTo
  · exact h.safeEntry.modeDoneTo
  · exact h.modeDone

theorem Kept.modeRequest {target} (h : Kept s₀ s) : Kept s₀ (s.modeRequest target) := by
  unfold State.modeRequest
  refine .ite h ?_
  dsimp only
  split
  · exact h.update.modeDone
  · exact h.update.modeDone
  · exact h.update.modeDone
  · exact h.update.update
  · exact .ite h.update.modeDone.restCancel h.update.judgeMode

theorem keeps_execModereqService (h : Kept s₀ s) : Keeps s₀ (execModereqService s) := h.modeRequest.finish
theorem keeps_execModereqMemory (h : Kept s₀ s) : Keeps s₀ (execModereqMemory s) := h.modeRequest.finish
theorem keeps_execModereqStream (h : Kept s₀ s) : Keeps s₀ (execModereqStream s) := h.modeRequest.finish
theorem keeps_execModereqSafe (h : Kept s₀ s) : Keeps s₀ (execModereqSafe s) := h.modeRequest.finish
theorem keeps_execModereqInvalid {target} (h : Kept s₀ s) : Keeps s₀ (execModereqInvalid target s) := h.modeRequest.finish
theorem keeps_execServiceEntryComplete (h : Kept s₀ s) : Keeps s₀ (execServiceEntryComplete s) :=
  (Kept.ite h ((h.completeHost (.some (fun h => h.destageAll))).destageAll.zeroDone.next fun h => .ite h.update.modeDone.resetPending
    h.sealBands.update.update.linkIsDown.modeDoneTo.resetPending)).finish
theorem Kept.planNext (h : Kept s₀ s) : Kept s₀ s.planNext := h.fresh1.update
theorem Kept.annealNext (h : Kept s₀ s) : Kept s₀ s.annealNext := h.fresh1.update

theorem keeps_execRestEntry (h : Kept s₀ s) : Keeps s₀ (execRestEntry s) := by
  unfold execRestEntry
  refine .finish (.ite h ?_)
  split
  · exact h.resumeAll.update
  · exact h

theorem keeps_execRestCommit (h : Kept s₀ s) : Keeps s₀ (execRestCommit s) := by
  unfold execRestCommit
  refine .finish ?_
  split
  · exact h
  · exact .ite h (.ite h ((Kept.ite h h.selfRefreshAll).next fun h => (Kept.ite h.update h).update.setMode.update))

theorem Kept.wake (h : Kept s₀ s) : Kept s₀ s.wake := .ite h.restCancel (.ite h.update h)
theorem Kept.wakeRest (h : Kept s₀ s) : Kept s₀ s.wakeRest := .ite h.update h
theorem Kept.side {c} {f : State → State} (h : Kept s₀ s) (hf : ∀ {u}, Kept s₀ u → Kept s₀ (f u)) : Kept s₀ (s.side c f) :=
  .ite h.update (hf h)
theorem Kept.io {c} {f : State → State} (h : Kept s₀ s) (hf : ∀ {u}, Kept s₀ u → Kept s₀ (f u)) : Kept s₀ (s.io c f) :=
  .ite (hf h.restCancel) (h.side hf)
theorem Kept.reg {c} {f : State → State} (h : Kept s₀ s) (hf : ∀ {u}, Kept s₀ u → Kept s₀ (f u)) : Kept s₀ (s.reg c f) :=
  .ite h (h.io hf)

theorem keeps_execCalendarDue (h : Kept s₀ s) : Keeps s₀ (execCalendarDue s) := by
  unfold execCalendarDue
  refine .finish ?_
  split
  · exact .ite h.reachCohort.wake h
  · exact h

theorem keeps_execWake {source} (h : Kept s₀ s) : Keeps s₀ (execWake source s) := by
  unfold execWake
  refine .finish ?_
  split
  · exact h.startQuench
  · exact h.wake
  · exact h.wakeRest

theorem Kept.regHtimerWrite {n v} (h : Kept s₀ s) : Kept s₀ (s.regHtimerWrite n v) := .ite h h.update

theorem keeps_execHtimerDue {n} (h : Kept s₀ s) : Keeps s₀ (execHtimerDue n s) := by
  unfold execHtimerDue
  refine .finish ?_
  split
  · exact h
  · exact .ite h h.reachCohort.update.cause

theorem keeps_execWarmResetRequest (h : Kept s₀ s) : Keeps s₀ (execWarmResetRequest s) := h.regWarmResetRequest.finish

/-! ### The steps of a start (02_modes_and_starts.md) -/

theorem Kept.stepDone {k next} (h : Kept s₀ s) : Kept s₀ (s.stepDone k next) := h.update
theorem Kept.stepFailed (h : Kept s₀ s) : Kept s₀ s.stepFailed := h.update.beginStart

theorem Kept.stepC3 {r} (h : Kept s₀ s) : Kept s₀ (s.stepC3 r) := by
  unfold State.stepC3
  extract_lets _ a _ b _ c i _ _
  replace h : Kept s₀ a := h.readRecord
  replace h : Kept s₀ b := by
    unfold b
    split <;> exact h.update
  replace h : Kept s₀ c := h.update
  clear_value c
  split
  next e =>
  replace h := Kept.snd (.ite_snd h (.ite_snd h.update (.ite_snd (.pair_snd h.update.writeRecord.cause) h))) e
  refine .ite (Kept.ite h.update h.update.update).stepDone ?_
  exact (Kept.ite h h.error).next fun h => .ite h.update.setMode h.stepFailed

theorem Kept.applySpares (h : Kept s₀ s) : Kept s₀ s.applySpares := h.update.foldl (fun h => h.changeRecord)

theorem Kept.loadRecords (h : Kept s₀ s) : Kept s₀ s.loadRecords := by
  unfold State.loadRecords
  dsimp only
  split
  · refine .update ?_
    split
    · refine .update ?_
      split
      · refine .update ?_
        split
        · refine .update ?_
          split
          · exact (h.foldl (fun h => h.readRecord)).update
          · exact h.foldl (fun h => h.readRecord)
        · split
          · exact (h.foldl (fun h => h.readRecord)).update
          · exact h.foldl (fun h => h.readRecord)
      · refine .update ?_
        split
        · refine .update ?_
          split
          · exact (h.foldl (fun h => h.readRecord)).update
          · exact h.foldl (fun h => h.readRecord)
        · split
          · exact (h.foldl (fun h => h.readRecord)).update
          · exact h.foldl (fun h => h.readRecord)
    · refine .update ?_
      split
      · refine .update ?_
        split
        · refine .update ?_
          split
          · exact (h.foldl (fun h => h.readRecord)).update
          · exact h.foldl (fun h => h.readRecord)
        · split
          · exact (h.foldl (fun h => h.readRecord)).update
          · exact h.foldl (fun h => h.readRecord)
      · refine .update ?_
        split
        · refine .update ?_
          split
          · exact (h.foldl (fun h => h.readRecord)).update
          · exact h.foldl (fun h => h.readRecord)
        · split
          · exact (h.foldl (fun h => h.readRecord)).update
          · exact h.foldl (fun h => h.readRecord)
  · refine .update ?_
    split
    · refine .update ?_
      split
      · refine .update ?_
        split
        · refine .update ?_
          split
          · exact (h.foldl (fun h => h.readRecord)).update
          · exact h.foldl (fun h => h.readRecord)
        · split
          · exact (h.foldl (fun h => h.readRecord)).update
          · exact h.foldl (fun h => h.readRecord)
      · refine .update ?_
        split
        · refine .update ?_
          split
          · exact (h.foldl (fun h => h.readRecord)).update
          · exact h.foldl (fun h => h.readRecord)
        · split
          · exact (h.foldl (fun h => h.readRecord)).update
          · exact h.foldl (fun h => h.readRecord)
    · refine .update ?_
      split
      · refine .update ?_
        split
        · refine .update ?_
          split
          · exact (h.foldl (fun h => h.readRecord)).update
          · exact h.foldl (fun h => h.readRecord)
        · split
          · exact (h.foldl (fun h => h.readRecord)).update
          · exact h.foldl (fun h => h.readRecord)
      · refine .update ?_
        split
        · refine .update ?_
          split
          · exact (h.foldl (fun h => h.readRecord)).update
          · exact h.foldl (fun h => h.readRecord)
        · split
          · exact (h.foldl (fun h => h.readRecord)).update
          · exact h.foldl (fun h => h.readRecord)

theorem Kept.checkCerts {d} (h : Kept s₀ s) : Kept s₀ (s.checkCerts d) := (Kept.ite h.update h.update.error).unless fun h => h.error
theorem Kept.mainRingStarts (h : Kept s₀ s) : Kept s₀ s.mainRingStarts := (h.update.foldl (fun h => h.mainPut)).foldl (fun h => h.critPut)
theorem Kept.migrate {t} (h : Kept s₀ s) : Kept s₀ (s.migrate t) := .ite h.startRecord h

theorem Kept.stepC4 {r} (h : Kept s₀ s) : Kept s₀ (s.stepC4 r) := by
  unfold State.stepC4
  refine .when ?_ fun h => h.update
  refine .stepDone (.applyLimit (.clockSync (.mainRingStarts (.settle (.update ?_)))))
  exact (h.update.loadRecords.foldl fun h => h.migrate).update.applySpares.checkCerts.readyBlocks

theorem Kept.becomeService (h : Kept s₀ s) : Kept s₀ s.becomeService := h.update
theorem Kept.dramOff {m reason} (h : Kept s₀ s) : Kept s₀ (s.dramOff m reason) := h.update.retireBlock.reportError

theorem Kept.dramCold {rs} (h : Kept s₀ s) : Kept s₀ (s.dramCold rs) := by
  unfold State.dramCold
  refine .update (.foldl h (fun h => ?_))
  split
  · exact .ite (.ite h.update h.dramOff) h.dramOff
  · exact h.dramOff

theorem Kept.dramWarm (h : Kept s₀ s) : Kept s₀ s.dramWarm := h.foldl (fun h => .ite h.update h.update.retireBlock)
theorem Kept.startSlices {locks} (h : Kept s₀ s) : Kept s₀ (s.startSlices locks) :=
  (h.update.update.foldl (fun h => h.cause)).foldl (fun h => h.retireBlock)

theorem Kept.divideTier (h : Kept s₀ s) : Kept s₀ s.divideTier := by
  unfold State.divideTier
  refine .ite h.update.namedRecord.becomeService ?_
  split
  · exact h.update.namedRecord.becomeService
  · exact h.update.update.when fun h => h.namedRecord

theorem Kept.stepC5 {r} (h : Kept s₀ s) : Kept s₀ (s.stepC5 r) :=
  .ite h.stepFailed ((Kept.ite h.dramWarm h.dramCold).startSlices.divideTier.next fun h => .ite h.update.hallSync
    h.readyBlocks.stepDone.hallSync)
theorem Kept.dieFound {d insvc} (h : Kept s₀ s) : Kept s₀ (s.dieFound d insvc) := h.modDie
theorem Kept.chanOff {r codes} (h : Kept s₀ s) : Kept s₀ (s.chanOff r codes) :=
  (h.foldl (fun h => h.dieFound)).modChan.retireBlock.foldl (fun h => h.reportError)

theorem Kept.chansCold {rs ps} (h : Kept s₀ s) : Kept s₀ (s.chansCold rs ps) := by
  unfold State.chansCold
  refine .foldl h (fun h => ?_)
  split
  · exact h.chanOff
  · refine .ite h.chanOff ?_
    split
    · exact h.chanOff
    · exact .ite h.chanOff (.ite h.chanOff (h.foldl (fun h => h.dieFound)).modChan)

theorem Kept.chansWarm (h : Kept s₀ s) : Kept s₀ s.chansWarm := h.foldl (fun h => .ite h.modChan h.modChan.retireBlock)
theorem Kept.patinaSaved (h : Kept s₀ s) : Kept s₀ s.patinaSaved := h.update
theorem Kept.stepC6 {r} (h : Kept s₀ s) : Kept s₀ (s.stepC6 r) :=
  .ite h.stepFailed (((Kept.ite h.chansWarm h.chansCold).foldl (fun h => h.retireBlock)).next fun h =>
    (Kept.ite h.update.patinaSaved h.update).readyBlocks.stepDone.hallSync.applyLimit)
theorem Kept.putEntry {coarse u e} (h : Kept s₀ s) : Kept s₀ (s.putEntry coarse u e) := .ite h.update h.update

theorem Kept.replayOne {r} (h : Kept s₀ s) : Kept s₀ (s.replayOne r) := by
  unfold State.replayOne
  split
  · exact h.foldl (fun h => h.putEntry)
  · exact .ite h h.putEntry

theorem Kept.countValid (h : Kept s₀ s) : Kept s₀ s.countValid := h.update
theorem Kept.recoverMaps (h : Kept s₀ s) : Kept s₀ s.recoverMaps := (h.update.foldl (fun h => h.replayOne)).countValid.update
theorem Kept.loadReserve (h : Kept s₀ s) : Kept s₀ s.loadReserve := h.foldl (fun h => h.foldl (fun h => h.update))

theorem Kept.landHank {c pages} (h : Kept s₀ s) : Kept s₀ (s.landHank c pages) := by
  unfold State.landHank
  split
  · next e => exact h.capturePlace.snd e
  · next e => exact ((h.capturePlace.snd e).foldl (fun h => h.takeSeqs.storePage)).setEntry.closeIfFull

theorem Kept.landReserve (h : Kept s₀ s) : Kept s₀ s.landReserve := h.foldl (fun h => h.landHank)

theorem Kept.landStranded (h : Kept s₀ s) : Kept s₀ s.landStranded := by
  unfold State.landStranded
  refine .foldl h.landReserve (fun h => ?_)
  split
  · next e => exact h.capturePlace.snd e
  · next e => exact (h.capturePlace.snd e).takeSeqs.completeMove

theorem Kept.classify (h : Kept s₀ s) : Kept s₀ s.classify := .ite h.update.update.cause h.update
theorem Kept.reserveSync (h : Kept s₀ s) : Kept s₀ s.reserveSync := .ite h h.update
theorem Kept.moveUnsealed (h : Kept s₀ s) : Kept s₀ s.moveUnsealed := h.startMoves.update
theorem Kept.loseUnits {us} (h : Kept s₀ s) : Kept s₀ (s.loseUnits us) := .ite h (h.foldl (fun h => h.putEntry.noteUnit)).changeRecord
theorem Kept.sizeHost (h : Kept s₀ s) : Kept s₀ s.sizeHost := .ite h.namedRecord h.update
theorem Kept.logCatchUp (h : Kept s₀ s) : Kept s₀ s.logCatchUp := h.foldl (fun h => h.logPut)
theorem Kept.newEpoch (h : Kept s₀ s) : KeptIn s₀ s.newEpoch := .ite .none (.some h.update.writeRecord)
theorem Kept.firstKey (h : Kept s₀ s) : Kept s₀ s.firstKey := .ite h.generateKey.writeRecord h
theorem Kept.recover {r} (h : Kept s₀ s) : Kept s₀ (s.recover r) :=
  (Kept.ite h.update h.update.patinaSaved).recoverMaps.loseUnits.loadReserve.landStranded.moveUnsealed.update.countValid

theorem Kept.retireFailed (h : Kept s₀ s) : Kept s₀ s.retireFailed := by
  unfold State.retireFailed
  refine .foldl h (fun h => .modBlk (.retireBlk ?_))
  split
  · exact h.relocate
  · exact h

theorem Kept.stepC7 {r} (h : Kept s₀ s) : Kept s₀ (s.stepC7 r) := by
  unfold State.stepC7
  have opened : KeptIn s₀ (if s.sysc.warm then some s else s.newEpoch) := .ite (.some h) h.newEpoch
  split
  split
  · exact h.changeRecord.becomeService
  · next e =>
    replace h := opened _ e
    exact ((Kept.ite h.landReserve h.firstKey.recover).retireFailed.update.classify.reserveSync.sizeHost.update.update.foldl
      fun h => h.repairRecord).readyBlocks.planNext.annealNext.settle.logCatchUp.stepDone.spaceSync

theorem Kept.lockAbsent (h : Kept s₀ s) : Kept s₀ s.lockAbsent := .ite h.update.cause h.update
theorem Kept.stepC8 {r} (h : Kept s₀ s) : Kept s₀ (s.stepC8 r) := .ite h.stepFailed (Kept.ite h.update h).lockAbsent.readyBlocks.stepDone
theorem Kept.fallbackTaken {count} (h : Kept s₀ s) : Kept s₀ (s.fallbackTaken count) := .ite h h.update.writeRecord.namedRecord
theorem Kept.trialStarts (h : Kept s₀ s) : Kept s₀ s.trialStarts := .ite h.update.writeRecord h
theorem Kept.stepC9 (h : Kept s₀ s) : Kept s₀ s.stepC9 :=
  .ite h (.ite h.update.setMode h.update.setMode.update.trialStarts.fallbackTaken.hallSync)

theorem keeps_execStartStepComplete {r} (h : Kept s₀ s) : Keeps s₀ (execStartStepComplete r s) := by
  unfold execStartStepComplete
  refine .finish (.ite h (.ite (.ite h h.update.stepDone) (.ite h.stepFailed ?_)))
  split
  · exact .ite h h.stepDone
  · exact h.stepC3
  · exact h.stepC4
  · exact h.stepC5
  · exact h.stepC6
  · exact h.stepC7
  · exact h.stepC8
  · exact h.stepC9
  · exact h

theorem keeps_execStartStepTimeout (h : Kept s₀ s) : Keeps s₀ (execStartStepTimeout s) := (Kept.ite h h.stepFailed).finish

/-! ### Media commands (07_translation.md) -/

theorem keeps_execHostDestage {unit} (h : Kept s₀ s) : Keeps s₀ (execHostDestage unit s) := by
  unfold execHostDestage
  refine .finish (.ite h ?_)
  dsimp only
  split
  · next e => exact (h.cleanUnit.room.snd e).exhaustCheck
  · next e => exact (h.cleanUnit.room.snd e).takeSeqs.issueProgram

theorem keeps_execPageProgramComplete {id ok} (h : Kept s₀ s) : Keeps s₀ (execPageProgramComplete id ok s) := by
  unfold execPageProgramComplete
  refine .finish ?_
  split
  · exact h
  · refine .ite (.exhaustCheck (.spaceSync (.reserveSync (.applyLimit (.zeroDone (.closeIfFull ?_))))))
      h.update.programEnds.programFailed.exhaustCheck
    split
    · exact (Kept.ite h.update.programEnds h.update.programEnds.storePage).destaged
    · exact (Kept.ite h.update.programEnds h.update.programEnds.storePage).hankProgrammed.rewindSync
    · exact (Kept.ite h.update.programEnds h.update.programEnds.storePage).hankProgrammed.rewindSync
    · exact .ite h.update.programEnds h.update.programEnds.storePage

theorem keeps_execEraseComplete {die block ok} (h : Kept s₀ s) : Keeps s₀ (execEraseComplete die block ok s) := by
  unfold execEraseComplete
  refine .finish (.ite h ?_)
  dsimp only
  split
  · split
    · exact h.eraseEnds
    · refine .ite h.eraseEnds (.ite h.eraseEnds.modBlk.modBand.driveAll.exhaustCheck ?_)
      split
      · exact (Kept.ite h.eraseEnds.modBlk h.eraseEnds.modBlk.cause).retireBlk.blockDeaths.modBlk.modBand.queueErase.spaceSync.landSync
      · exact (Kept.ite h.eraseEnds.modBlk h.eraseEnds.modBlk.cause).retireBlk.blockDeaths.giveUpBand.openBand.exhaustCheck
  · exact h.eraseEnds

theorem keeps_execAnneal {band} (h : Kept s₀ s) : Keeps s₀ (execAnneal band s) := (Kept.ite h h.startMoves.annealNext.exhaustCheck).finish
theorem keeps_execGcStart {band} (h : Kept s₀ s) : Keeps s₀ (execGcStart band s) :=
  (Kept.ite h h.update.startMoves.spaceSync.exhaustCheck).finish

theorem keeps_execMoveComplete {src dst} (h : Kept s₀ s) : Keeps s₀ (execMoveComplete src dst s) := by
  unfold execMoveComplete
  refine .finish ?_
  split
  · exact h
  · exact h.completeMove.failedDone

theorem Kept.mapError {coarse line code bits sev} (h : Kept s₀ s) : Kept s₀ (s.mapError coarse line code bits sev) :=
  (Kept.ite h.update h).error

theorem keeps_execMapLineRebuilt {coarse line lost} (h : Kept s₀ s) : Keeps s₀ (execMapLineRebuilt coarse line lost s) := by
  unfold execMapLineRebuilt
  refine .finish ?_
  split
  · exact .ite h.mapError (h.foldl (fun h => h.setEntry.unless fun h => h.noteUnit)).mapError
  · exact .ite h.mapError (h.foldl (fun h => h.setEntry.unless fun h => h.noteUnit)).mapError
  · exact .ite h.mapError (h.foldl (fun h => h.setEntry.unless fun h => h.noteUnit)).mapError
  · exact h

theorem Kept.regHdrcfgWrite {v} (h : Kept s₀ s) : Kept s₀ (s.regHdrcfgWrite v) := .ite h (.ite h.error h.update.hostRecord)
theorem keeps_execCheckpointDue (h : Kept s₀ s) : Keeps s₀ (execCheckpointDue s) := h.passTicks.checkpointDue.finish

theorem keeps_execCheckpointComplete {ok} (h : Kept s₀ s) : Keeps s₀ (execCheckpointComplete ok s) := by
  unfold execCheckpointComplete
  refine .finish ?_
  split
  · exact h
  · exact (Kept.ite h.update.update h.update.error).checkpointNext

/-! ### BAR2 and the configuration structures (04_host_port.md) -/

theorem Kept.bar2Slot {o} (h : Kept s₀ s) : Kept s₀ (s.bar2Slot o).1 := by
  unfold State.bar2Slot
  dsimp only
  split
  · split
    · exact h
    · exact h.fresh1
  · split
    · exact h
    · exact h.fresh1
  · exact h
  · exact h
  · exact h
  · exact h

theorem Kept.msixMaskBit {v mask} (h : Kept s₀ s) : Kept s₀ (s.msixMaskBit v mask) :=
  .ite h (.ite h.update (.ite h.update.update.send h.update))

theorem Kept.bar2Write {o enables v} (h : Kept s₀ s) : Kept s₀ (s.bar2Write o enables v) := by
  unfold State.bar2Write
  split
  · exact h.update
  · exact h.update.msixMaskBit
  · exact h

theorem Kept.windowRead {off enables} (h : Kept s₀ s) : Kept s₀ (s.windowRead off enables).1 := by
  unfold State.windowRead
  refine .ite_fst ?_ (.pair_fst h)
  split
  next e => exact .pair_fst (h.bar2Slot.fst e)

/-! ### The mailbox (04_host_port.md) -/

theorem Kept.mbAnswer {iface code payload} (h : Kept s₀ s) : Kept s₀ (s.mbAnswer iface code payload) := h.update.cause.send

theorem Kept.submit {iface opcode c fw} {f : State → State} (h : Kept s₀ s) (hf : ∀ {u}, Kept s₀ u → Kept s₀ (f u)) :
    Kept s₀ (s.submit iface opcode c fw f) := by
  unfold State.submit
  refine .ite h ?_
  split
  · exact .ite h.send h.update
  · exact hf h.update

theorem Kept.mbIdentify {i} (h : Kept s₀ s) : Kept s₀ (s.mbIdentify i) := h.mbAnswer
theorem Kept.mbIdentifyDevice {i} (h : Kept s₀ s) : Kept s₀ (s.mbIdentifyDevice i) := h.mbAnswer
theorem Kept.mbPartition {i} (h : Kept s₀ s) : Kept s₀ (s.mbPartition i) := h.mbAnswer
theorem Kept.mbGetEvents {i log} (h : Kept s₀ s) : Kept s₀ (s.mbGetEvents i log) := .ite h.mbAnswer h.mbAnswer
theorem Kept.mbClearEvents {i log handles all} (h : Kept s₀ s) : Kept s₀ (s.mbClearEvents i log handles all) :=
  .ite h.mbAnswer (.ite h.update.mbAnswer (.ite h.update.mbAnswer h.mbAnswer))
theorem Kept.mbSupportedLogs {i} (h : Kept s₀ s) : Kept s₀ (s.mbSupportedLogs i) := h.mbAnswer
theorem Kept.mbGetLog {i log offset length} (h : Kept s₀ s) : Kept s₀ (s.mbGetLog i log offset length) :=
  .ite h.mbAnswer (.ite h.mbAnswer h.mbAnswer)
theorem Kept.mbHealth {i} (h : Kept s₀ s) : Kept s₀ (s.mbHealth i) := h.fresh1.fresh1.mbAnswer
theorem Kept.mbPoisonList {i dpa len} (h : Kept s₀ s) : Kept s₀ (s.mbPoisonList i dpa len) := .ite h.mbAnswer h.mbAnswer
theorem Kept.replaceLine {line data poison} (h : Kept s₀ s) : Kept s₀ (s.replaceLine line data poison) :=
  h.settleVictim.invalidate.storeBack
theorem Kept.mbInject {i dpa} (h : Kept s₀ s) : Kept s₀ (s.mbInject i dpa) :=
  .ite h.mbAnswer (.ite h.mbAnswer h.settleVictim.replaceLine.mbAnswer)
theorem Kept.mbClear {i dpa data} (h : Kept s₀ s) : Kept s₀ (s.mbClear i dpa data) :=
  .ite h.mbAnswer (.ite h.mbAnswer h.replaceLine.unrefuse.mbAnswer)
theorem Kept.mbScanCaps {i dpa len} (h : Kept s₀ s) : Kept s₀ (s.mbScanCaps i dpa len) :=
  .ite h.mbAnswer (.ite h.mbAnswer h.fresh1.mbAnswer)
theorem Kept.mbScan {i dpa len} (h : Kept s₀ s) : Kept s₀ (s.mbScan i dpa len) :=
  .ite h.mbAnswer (.ite h.mbAnswer (.ite h.mbAnswer h.mbAnswer.update.bgDone))
theorem Kept.mbScanResults {i} (h : Kept s₀ s) : Kept s₀ (s.mbScanResults i) := .ite h.mbAnswer h.mbAnswer
theorem Kept.eraseKeys (h : Kept s₀ s) : Kept s₀ s.eraseKeys :=
  ((h.foldl (fun h => h.emptyVictims)).invalidate.update.generateKey.foldl
    (fun h => h.modBand.freeBand)).writeRecord.writeRecord.applyLimit.spaceSync
theorem Kept.mbSecureErase {i} (h : Kept s₀ s) : Kept s₀ (s.mbSecureErase i) := .ite h.mbAnswer (.ite h.mbAnswer h.eraseKeys.mbAnswer)
theorem Kept.eraseAll (h : Kept s₀ s) : Kept s₀ s.eraseAll := h.update
theorem Kept.mbSanitize {i} (h : Kept s₀ s) : Kept s₀ (s.mbSanitize i) :=
  .ite h.mbAnswer (.ite h.mbAnswer h.update.mbAnswer.eraseKeys.eraseAll.bgDone)
theorem Kept.mbGetLsa {i offset len} (h : Kept s₀ s) : Kept s₀ (s.mbGetLsa i offset len) := .ite h.mbAnswer (.ite h.mbAnswer h.mbAnswer)
theorem Kept.mbSetLsa {i offset data} (h : Kept s₀ s) : Kept s₀ (s.mbSetLsa i offset data) :=
  .ite h.mbAnswer (.ite h.mbAnswer h.update.mbAnswer)
theorem Kept.mbSetTime {i time} (h : Kept s₀ s) : Kept s₀ (s.mbSetTime i time) := h.update.mbAnswer
theorem Kept.mbLatency {i clear} (h : Kept s₀ s) : Kept s₀ (s.mbLatency i clear) := (Kept.ite h.update h).mbAnswer
theorem Kept.mbDiscard {i dpa len} (h : Kept s₀ s) : Kept s₀ (s.mbDiscard i dpa len) :=
  .ite h.mbAnswer (.ite h.mbAnswer (.ite h.mbAnswer h.update.mbAnswer))
theorem Kept.mbHank {i strand} (h : Kept s₀ s) : Kept s₀ (s.mbHank i strand) := .ite h.mbAnswer h.mbAnswer
theorem Kept.mbPersistence {i} (h : Kept s₀ s) : Kept s₀ (s.mbPersistence i) := h.mbAnswer
theorem Kept.mbLoadKey {i key k flags} (h : Kept s₀ s) : Kept s₀ (s.mbLoadKey i key k flags) :=
  .ite h.mbAnswer (.ite h.mbAnswer (.ite h.mbAnswer ((Kept.ite_snd h.update h).next fun h => .ite h.error.mbAnswer
    h.putKey.update.writeRecord.mbAnswer)))
theorem Kept.mbBind {i r k flags} (h : Kept s₀ s) : Kept s₀ (s.mbBind i r k flags) :=
  .ite h.mbAnswer (.ite h.mbAnswer (.ite (.ite h.mbAnswer h.modRange.writeRecord.mbAnswer)
    (.ite h.mbAnswer h.modRange.writeRecord.mbAnswer)))
theorem Kept.mbRekey {i r k flags} (h : Kept s₀ s) : Kept s₀ (s.mbRekey i r k flags) :=
  .ite h.mbAnswer (.ite h.mbAnswer (.ite h.mbAnswer (Kept.ite h.update.update h.update.update).mbAnswer))
theorem Kept.discardVictims {coarse first count} (h : Kept s₀ s) : Kept s₀ (s.discardVictims coarse first count) :=
  .ite h (h.foldl (fun h => h.settleVictim))

theorem keeps_execDiscardRangeComplete (h : Kept s₀ s) : Keeps s₀ (execDiscardRangeComplete s) := by
  unfold execDiscardRangeComplete
  refine .finish ?_
  split
  · exact (h.discardVictims.takeSeqs.update.discardUnits.applyLimit.foldl (fun h => h.retryInstalls)).zeroDone.spaceSync.bgDone
  · exact h

/-! ### Firmware transfer and activation (19_firmware_and_identity.md) -/

theorem Kept.mbFwInfo {i} (h : Kept s₀ s) : Kept s₀ (s.mbFwInfo i) := h.mbAnswer
theorem Kept.endXfer (h : Kept s₀ s) : Kept s₀ s.endXfer := h.update
theorem Kept.fwFailed {i slot bits} (h : Kept s₀ s) : Kept s₀ (s.fwFailed i slot bits) := h.error.mbAnswer
theorem Kept.fwVerify {i slot imageOk} (h : Kept s₀ s) : Kept s₀ (s.fwVerify i slot imageOk) :=
  .ite h.endXfer.update.writeRecord.cause.mbAnswer h.endXfer.fwFailed

theorem Kept.fwBytes {data} (h : Kept s₀ s) : Kept s₀ (s.fwBytes data).1 := by
  unfold State.fwBytes
  dsimp only
  split
  · exact h.update.update
  · exact h.update.update

theorem Kept.fwPart {i data last} (h : Kept s₀ s) : Kept s₀ (s.fwPart i data last) := by
  unfold State.fwPart
  refine .ite h.mbAnswer ?_
  split
  · next e => exact (h.fwBytes.fst e).endXfer.error.mbAnswer
  · next e =>
      split
      · exact (h.fwBytes.fst e).mbAnswer
      · exact (h.fwBytes.fst e).fwVerify

theorem Kept.fwOpen {i slot data last} (h : Kept s₀ s) : Kept s₀ (s.fwOpen i slot data last) :=
  (Kept.ite h.endXfer.cause h).update.writeRecord

theorem Kept.partGo (h : Kept s₀ s) : Kept s₀ s.partGo := by
  unfold State.partGo
  split
  · exact h
  · exact .ite h (.ite h.update.fwPart h.update.mbAnswer)

theorem Kept.mbFwFull {i slot data imageOk} (h : Kept s₀ s) : Kept s₀ (s.mbFwFull i slot data imageOk) := by
  unfold State.mbFwFull
  split
  · exact h.mbAnswer
  · exact .ite h.mbAnswer h.fwOpen

theorem Kept.mbFwInitiate {i slot data} (h : Kept s₀ s) : Kept s₀ (s.mbFwInitiate i slot data) := by
  unfold State.mbFwInitiate
  split
  · exact h.mbAnswer
  · exact .ite h.mbAnswer h.fwOpen

theorem Kept.fwNext {i slot offset data last} (h : Kept s₀ s) : Kept s₀ (s.fwNext i slot offset data last) := by
  unfold State.fwNext
  split
  · exact h.mbAnswer
  · exact .ite h.mbAnswer (.ite h.mbAnswer h.fwPart)

theorem Kept.mbFwAbort {i} (h : Kept s₀ s) : Kept s₀ (s.mbFwAbort i) := .ite h.mbAnswer (.ite h.mbAnswer h.endXfer.cause.mbAnswer)
theorem keeps_execTransferFwTimeout (h : Kept s₀ s) : Keeps s₀ (execTransferFwTimeout s) := (Kept.ite h.endXfer.cause h).finish
theorem Kept.mbActivate {i online slot imageOk} (h : Kept s₀ s) : Kept s₀ (s.mbActivate i online slot imageOk) :=
  .ite h.mbAnswer (.ite h.mbAnswer (.ite h.mbAnswer (.ite h.mbAnswer (.ite h.fwFailed h.update.writeRecord))))

theorem Kept.activated (h : Kept s₀ s) : Kept s₀ s.activated := by
  unfold State.activated
  split
  · exact h
  · exact .ite h h.update.cause.mbAnswer

theorem Kept.confirm (h : Kept s₀ s) : Kept s₀ s.confirm := .ite h (.ite h.error (.ite h.update.writeRecord h))
theorem keeps_execHealthConfirm (h : Kept s₀ s) : Keeps s₀ (execHealthConfirm s) := (h.reg (fun h => h.confirm)).finish
theorem Kept.rewriteOld {t} (h : Kept s₀ s) : Kept s₀ (s.rewriteOld t) := .ite h.writeRecord h
theorem Kept.confirmed (h : Kept s₀ s) : Kept s₀ s.confirmed := .ite h (h.revoke.foldl (fun h => h.rewriteOld)).cause

theorem keeps_execTrialTimerExpired (h : Kept s₀ s) : Keeps s₀ (execTrialTimerExpired s) := by
  unfold execTrialTimerExpired
  refine .finish ?_
  split
  · exact h
  · exact .ite h h.reachTick.update.cause

theorem keeps_execMediaCoreWatchdog {core} (h : Kept s₀ s) : Keeps s₀ (execMediaCoreWatchdog core s) := (Kept.ite h h.update).finish
theorem Kept.seqCoreLost {k} (h : Kept s₀ s) : Kept s₀ (s.seqCoreLost k) := h.update.hallSync.retirement
theorem keeps_execSeqCoreWatchdog {core} (h : Kept s₀ s) : Keeps s₀ (execSeqCoreWatchdog core s) :=
  (Kept.ite h (.ite h.seqCoreLost h.update)).finish
theorem Kept.clusterLost {c} (h : Kept s₀ s) : Kept s₀ (s.clusterLost c) :=
  (h.modClu.retireBlock.foldl (fun h => h.retireDie)).foldl (fun h => h.codewordLost)
theorem keeps_execCoreReloadComplete {core ok} (h : Kept s₀ s) : Keeps s₀ (execCoreReloadComplete core ok s) :=
  (Kept.ite h (.ite (h.update.update.next fun h => (Kept.ite h.update h.update).cause)
    (.ite h.update.clusterLost.error h.update.seqCoreLost.error))).finish

theorem keeps_execMainWatchdog (h : Kept s₀ s) : Keeps s₀ (execMainWatchdog s) := by
  unfold execMainWatchdog
  refine .finish ?_
  split
  · exact h
  · exact h
  · exact h.changeRecord.settle.beginStart
  · exact h.changeRecord.settle.coldEntry

/-! ### Mailbox rows (04_host_port.md) -/

theorem Kept.mbGetPolicy {i} (h : Kept s₀ s) : Kept s₀ (s.mbGetPolicy i) := h.mbAnswer
theorem Kept.mbSetPolicy {i policy} (h : Kept s₀ s) : Kept s₀ (s.mbSetPolicy i policy) := h.update.mbAnswer
theorem Kept.mbGetAlerts {i} (h : Kept s₀ s) : Kept s₀ (s.mbGetAlerts i) := h.mbAnswer
theorem Kept.mbSetAlerts {i config} (h : Kept s₀ s) : Kept s₀ (s.mbSetAlerts i config) := h.update.mbAnswer
theorem Kept.mbGetShut {i} (h : Kept s₀ s) : Kept s₀ (s.mbGetShut i) := h.mbAnswer
theorem Kept.mbSetShut {i st} (h : Kept s₀ s) : Kept s₀ (s.mbSetShut i st) := .ite h.mbAnswer h.update.mbAnswer
theorem Kept.mbGetTime {i} (h : Kept s₀ s) : Kept s₀ (s.mbGetTime i) := h.mbAnswer
theorem Kept.mbUnsupported {i _opcode} (h : Kept s₀ s) : Kept s₀ (s.mbUnsupported i _opcode) := h.mbAnswer
theorem Kept.mbOwnVersion {i} (h : Kept s₀ s) : Kept s₀ (s.mbOwnVersion i) := h.mbAnswer
theorem Kept.mbRow {iface opcode c fw} {f : State → State} (h : Kept s₀ s) (hf : ∀ {u}, Kept s₀ u → Kept s₀ (f u)) :
    Kept s₀ (s.mbRow iface opcode c fw f) :=
  .ite (h.io fun h => h.submit hf) (h.side fun h => h.submit hf)
theorem keeps_execIdentify {iface} (h : Kept s₀ s) : Keeps s₀ (execIdentify iface s) := (h.mbRow (fun h => h.mbIdentify)).finish
theorem keeps_execIdentifyMemoryDevice {iface} (h : Kept s₀ s) : Keeps s₀ (execIdentifyMemoryDevice iface s) :=
  (h.mbRow (fun h => h.mbIdentifyDevice)).finish
theorem keeps_execGetPartitionInfo {iface} (h : Kept s₀ s) : Keeps s₀ (execGetPartitionInfo iface s) :=
  (h.mbRow (fun h => h.mbPartition)).finish
theorem keeps_execGetEventRecords {iface log} (h : Kept s₀ s) : Keeps s₀ (execGetEventRecords iface log s) :=
  (h.mbRow (fun h => h.mbGetEvents)).finish
theorem keeps_execClearEventRecords {iface log handles all} (h : Kept s₀ s) : Keeps s₀ (execClearEventRecords iface log handles all s) :=
  (h.mbRow (fun h => h.mbClearEvents)).finish
theorem keeps_execGetEventInterruptPolicy {iface} (h : Kept s₀ s) : Keeps s₀ (execGetEventInterruptPolicy iface s) :=
  (h.mbRow (fun h => h.mbGetPolicy)).finish
theorem keeps_execSetEventInterruptPolicy {iface policy} (h : Kept s₀ s) : Keeps s₀ (execSetEventInterruptPolicy iface policy s) :=
  (h.mbRow (fun h => h.mbSetPolicy)).finish
theorem keeps_execGetFwInfo {iface} (h : Kept s₀ s) : Keeps s₀ (execGetFwInfo iface s) := (h.mbRow (fun h => h.mbFwInfo)).finish
theorem keeps_execTransferFwFull {iface slot data imageOk} (h : Kept s₀ s) : Keeps s₀ (execTransferFwFull iface slot data imageOk s) :=
  (h.mbRow (fun h => h.mbFwFull)).finish
theorem keeps_execTransferFwInitiate {iface slot data} (h : Kept s₀ s) : Keeps s₀ (execTransferFwInitiate iface slot data s) :=
  (h.mbRow (fun h => h.mbFwInitiate)).finish
theorem keeps_execTransferFwContinue {iface slot offset data} (h : Kept s₀ s) : Keeps s₀
  (execTransferFwContinue iface slot offset data s) :=
  (h.mbRow (fun h => h.fwNext)).finish
theorem keeps_execTransferFwEnd {iface slot offset data imageOk} (h : Kept s₀ s) : Keeps s₀
  (execTransferFwEnd iface slot offset data imageOk s) :=
  (h.mbRow (fun h => h.fwNext)).finish
theorem keeps_execTransferFwAbort {iface} (h : Kept s₀ s) : Keeps s₀ (execTransferFwAbort iface s) :=
  (h.mbRow (fun h => h.mbFwAbort)).finish
theorem keeps_execActivateFw {iface online slot imageOk} (h : Kept s₀ s) : Keeps s₀ (execActivateFw iface online slot imageOk s) :=
  (h.mbRow (fun h => h.mbActivate)).finish
theorem keeps_execGetSupportedLogs {iface} (h : Kept s₀ s) : Keeps s₀ (execGetSupportedLogs iface s) :=
  (h.mbRow (fun h => h.mbSupportedLogs)).finish
theorem keeps_execGetLog {iface log offset length} (h : Kept s₀ s) : Keeps s₀ (execGetLog iface log offset length s) :=
  (h.mbRow (fun h => h.mbGetLog)).finish
theorem keeps_execGetHealthInfo {iface} (h : Kept s₀ s) : Keeps s₀ (execGetHealthInfo iface s) := (h.mbRow (fun h => h.mbHealth)).finish
theorem keeps_execGetAlertConfiguration {iface} (h : Kept s₀ s) : Keeps s₀ (execGetAlertConfiguration iface s) :=
  (h.mbRow (fun h => h.mbGetAlerts)).finish
theorem keeps_execSetAlertConfiguration {iface config} (h : Kept s₀ s) : Keeps s₀ (execSetAlertConfiguration iface config s) :=
  (h.mbRow (fun h => h.mbSetAlerts)).finish
theorem keeps_execGetShutdownState {iface} (h : Kept s₀ s) : Keeps s₀ (execGetShutdownState iface s) :=
  (h.mbRow (fun h => h.mbGetShut)).finish
theorem keeps_execSetShutdownState {iface state} (h : Kept s₀ s) : Keeps s₀ (execSetShutdownState iface state s) :=
  (h.mbRow (fun h => h.mbSetShut)).finish
theorem keeps_execGetPoisonList {iface dpa length} (h : Kept s₀ s) : Keeps s₀ (execGetPoisonList iface dpa length s) :=
  (h.mbRow (fun h => h.mbPoisonList)).finish
theorem keeps_execInjectPoison {iface dpa} (h : Kept s₀ s) : Keeps s₀ (execInjectPoison iface dpa s) :=
  (h.mbRow (fun h => h.mbInject)).finish
theorem keeps_execClearPoison {iface dpa data} (h : Kept s₀ s) : Keeps s₀ (execClearPoison iface dpa data s) :=
  (h.mbRow (fun h => h.mbClear)).finish
theorem keeps_execGetScanMediaCapabilities {iface dpa length} (h : Kept s₀ s) : Keeps s₀
  (execGetScanMediaCapabilities iface dpa length s) :=
  (h.mbRow (fun h => h.mbScanCaps)).finish
theorem keeps_execScanMedia {iface dpa length} (h : Kept s₀ s) : Keeps s₀ (execScanMedia iface dpa length s) :=
  (h.mbRow (fun h => h.mbScan)).finish
theorem keeps_execGetScanMediaResults {iface} (h : Kept s₀ s) : Keeps s₀ (execGetScanMediaResults iface s) :=
  (h.mbRow (fun h => h.mbScanResults)).finish
theorem keeps_execSanitize {iface} (h : Kept s₀ s) : Keeps s₀ (execSanitize iface s) := (h.mbRow (fun h => h.mbSanitize)).finish
theorem keeps_execSecureErase {iface} (h : Kept s₀ s) : Keeps s₀ (execSecureErase iface s) := (h.mbRow (fun h => h.mbSecureErase)).finish
theorem keeps_execGetLsa {iface offset length} (h : Kept s₀ s) : Keeps s₀ (execGetLsa iface offset length s) :=
  (h.mbRow (fun h => h.mbGetLsa)).finish
theorem keeps_execSetLsa {iface offset data} (h : Kept s₀ s) : Keeps s₀ (execSetLsa iface offset data s) :=
  (h.mbRow (fun h => h.mbSetLsa)).finish
theorem keeps_execGetTimestamp {iface} (h : Kept s₀ s) : Keeps s₀ (execGetTimestamp iface s) := (h.mbRow (fun h => h.mbGetTime)).finish
theorem keeps_execSetTimestamp {iface time} (h : Kept s₀ s) : Keeps s₀ (execSetTimestamp iface time s) :=
  (h.mbRow (fun h => h.mbSetTime)).finish
theorem keeps_execUnsupportedOpcode {iface opcode} (h : Kept s₀ s) : Keeps s₀ (execUnsupportedOpcode iface opcode s) :=
  (h.mbRow (fun h => h.mbUnsupported)).finish
theorem keeps_execGetOwnCommandSetVersion {iface} (h : Kept s₀ s) : Keeps s₀ (execGetOwnCommandSetVersion iface s) :=
  (h.mbRow (fun h => h.mbOwnVersion)).finish
theorem keeps_execGetLatencyRecord {iface clear} (h : Kept s₀ s) : Keeps s₀ (execGetLatencyRecord iface clear s) :=
  (h.mbRow (fun h => h.mbLatency)).finish
theorem keeps_execDiscardRange {iface dpa length} (h : Kept s₀ s) : Keeps s₀ (execDiscardRange iface dpa length s) :=
  (h.mbRow (fun h => h.mbDiscard)).finish
theorem keeps_execGetHankWindows {iface strand} (h : Kept s₀ s) : Keeps s₀ (execGetHankWindows iface strand s) :=
  (h.mbRow (fun h => h.mbHank)).finish
theorem keeps_execGetPersistenceState {iface} (h : Kept s₀ s) : Keeps s₀ (execGetPersistenceState iface s) :=
  (h.mbRow (fun h => h.mbPersistence)).finish
theorem keeps_execLoadKeySlot {iface key slot flags} (h : Kept s₀ s) : Keeps s₀ (execLoadKeySlot iface key slot flags s) :=
  (h.mbRow (fun h => h.mbLoadKey)).finish
theorem keeps_execBindRange {iface range slot flags} (h : Kept s₀ s) : Keeps s₀ (execBindRange iface range slot flags s) :=
  (h.mbRow (fun h => h.mbBind)).finish
theorem keeps_execRekeyRange {iface range slot flags} (h : Kept s₀ s) : Keeps s₀ (execRekeyRange iface range slot flags s) :=
  (h.mbRow (fun h => h.mbRekey)).finish

theorem Kept.mbDo {c} (h : Kept s₀ s) : Kept s₀ (s.mbDo c) := by
  unfold State.mbDo
  split
  · exact h.mbIdentify
  · exact h.mbIdentifyDevice
  · exact h.mbPartition
  · exact h.mbGetEvents
  · exact h.mbClearEvents
  · exact h.mbGetPolicy
  · exact h.mbSetPolicy
  · exact h.mbFwInfo
  · exact h.mbFwFull
  · exact h.mbFwInitiate
  · exact h.fwNext
  · exact h.fwNext
  · exact h.mbFwAbort
  · exact h.mbActivate
  · exact h.mbSupportedLogs
  · exact h.mbGetLog
  · exact h.mbHealth
  · exact h.mbGetAlerts
  · exact h.mbSetAlerts
  · exact h.mbGetShut
  · exact h.mbSetShut
  · exact h.mbPoisonList
  · exact h.mbInject
  · exact h.mbClear
  · exact h.mbScanCaps
  · exact h.mbScan
  · exact h.mbScanResults
  · exact h.mbSanitize
  · exact h.mbSecureErase
  · exact h.mbGetLsa
  · exact h.mbSetLsa
  · exact h.mbGetTime
  · exact h.mbSetTime
  · exact h.mbUnsupported
  · exact h.mbOwnVersion
  · exact h.mbLatency
  · exact h.mbDiscard
  · exact h.mbHank
  · exact h.mbPersistence
  · exact h.mbLoadKey
  · exact h.mbBind
  · exact h.mbRekey
  · exact h

theorem Kept.runWaiting (h : Kept s₀ s) : Kept s₀ s.runWaiting := by
  unfold State.runWaiting
  refine .ite h (.foldl h.update (fun h => ?_))
  split
  · exact h.update.mbDo
  · exact h

theorem keeps_execStorePageWriteComplete (h : Kept s₀ s) : Keeps s₀ (execStorePageWriteComplete s) := by
  unfold execStorePageWriteComplete
  refine .finish ?_
  split
  · exact h
  · exact h.pageDone.confirmed.activated.partGo.runWaiting

/-! ### Die and read events (08_media_reliability.md, 09_media_bus.md) -/

theorem keeps_execDieStatusPoll {die status} (h : Kept s₀ s) : Keeps s₀ (execDieStatusPoll die status s) := by
  unfold execDieStatusPoll
  refine .finish (.ite h ?_)
  split
  · exact h
  · exact h.modDie

theorem keeps_execRbNRise {_chan} (h : Kept s₀ s) : Keeps s₀ (execRbNRise _chan s) := h.finish

theorem keeps_execDieCommandTimeout {die} (h : Kept s₀ s) : Keeps s₀ (execDieCommandTimeout die s) := by
  unfold execDieCommandTimeout
  refine .finish ?_
  dsimp only
  split
  · exact h
  · exact h.error.modDie.next fun h => (Kept.ite h.retireDie h.dieNext).exhaustCheck

theorem keeps_execSuspendEffective {die} (h : Kept s₀ s) : Keeps s₀ (execSuspendEffective die s) := by
  unfold execSuspendEffective
  refine .finish ?_
  dsimp only
  split
  · exact h
  · exact .ite h (.ite h.modDie h.modChan.modDie.dieNext)

theorem keeps_execArrayReadComplete {die} (h : Kept s₀ s) : Keeps s₀ (execArrayReadComplete die s) := by
  unfold execArrayReadComplete
  refine .finish ?_
  dsimp only
  split
  · exact h
  · exact .ite h (Kept.ite h.modDie.modChan h.modDie).dieNext

theorem keeps_execCodewordTransferComplete {chan} (h : Kept s₀ s) : Keeps s₀ (execCodewordTransferComplete chan s) := by
  unfold execCodewordTransferComplete
  refine .finish ?_
  split
  · exact h
  · exact h.modChan

theorem keeps_execDecodeComplete {read die d} (h : Kept s₀ s) : Keeps s₀ (execDecodeComplete read die d s) := by
  unfold execDecodeComplete
  refine .finish ?_
  split
  · split
    · exact h
    · exact .ite h.update (h.update.patinaReport.when fun h => h.scheduleRewrite)
  · exact (Kept.ite h.patinaReport h).next fun h => .ite ((Kept.ite h.scheduleRewrite h).next fun h => .ite h.readEnds h.modRead)
      (.ite (h.modRead.queueSoft.when fun h => h.foldl (fun h => h.queueRead))
        (h.modRead.queueSoft.next fun h => .ite h.queueRead (.ite h.modRead h)))

theorem keeps_execSoftDecodeComplete {read die d} (h : Kept s₀ s) : Keeps s₀ (execSoftDecodeComplete read die d s) := by
  unfold execSoftDecodeComplete
  refine .finish ?_
  split
  · exact h
  · exact .ite (h.modRead.modClu.cause.scheduleRewrite.next fun h => .ite h.readEnds h.modRead)
      (.ite h.modRead.readEnds.exhaustCheck h.modRead)

theorem keeps_execRebuildComplete {read ok} (h : Kept s₀ s) : Keeps s₀ (execRebuildComplete read ok s) := by
  unfold execRebuildComplete
  refine .finish ?_
  split
  · exact h
  · exact .ite h (.ite (Kept.ite h.scheduleRewrite h).readEnds (.ite h.modRead.readEnds.exhaustCheck h.modRead))

theorem keeps_execPlanishRead {block d} (h : Kept s₀ s) : Keeps s₀ (execPlanishRead block d s) := by
  unfold execPlanishRead
  refine .finish ?_
  dsimp only
  split
  · exact .ite h ((Kept.ite h.patinaReport h).next fun h => (Kept.ite h.scheduleRewrite h).next fun h => .ite h.update
      (h.modBlk.update.when fun h => h.update.cause.planNext))
  · exact h

theorem keeps_execPlanishDeadlineMissed {block} (h : Kept s₀ s) : Keeps s₀ (execPlanishDeadlineMissed block s) := by
  unfold execPlanishDeadlineMissed
  refine .finish ?_
  dsimp only
  split
  · exact .ite h.passTicks.update.cause h
  · exact h

theorem keeps_execRetirementPhaseComplete {cluster} (h : Kept s₀ s) : Keeps s₀ (execRetirementPhaseComplete cluster s) :=
  (Kept.ite h (.ite h.relocate.modClu h.relocate.modClu.cause.nextRecovery)).finish
theorem keeps_execRetrainDue {chan temp} (h : Kept s₀ s) : Keeps s₀ (execRetrainDue chan temp s) :=
  (Kept.ite h (Kept.ite h h.passTicks).modChan).finish
theorem keeps_execRetrainStepComplete {chan ok last} (h : Kept s₀ s) : Keeps s₀ (execRetrainStepComplete chan ok last s) :=
  (Kept.ite h (.ite (.ite h.modChan h) (h.modChan.cause.next fun h => (Kept.ite h.retireChan h).exhaustCheck))).finish

/-! ### Power supervision (15_power_supervision.md) -/

theorem Kept.capDone {outcome cmeas dt dv critical} (h : Kept s₀ s) : Kept s₀ (s.capDone outcome cmeas dt dv critical) :=
  h.capLoadOff.update.cause.applyLimit
theorem Kept.capStart (h : Kept s₀ s) : Kept s₀ s.capStart := .ite h (.ite h.update.applyLimit (.ite h.update h.update))
theorem Kept.capSample {code} (h : Kept s₀ s) : Kept s₀ (s.capSample code) :=
  .ite h.update (.ite (.ite h.update.capDone h.update.capDone) h.update)
theorem Kept.bankCheck {code} (h : Kept s₀ s) : Kept s₀ (s.bankCheck code) :=
  (Kept.ite h.update.cause h.update).next fun h => (Kept.ite h.applyLimit h).when fun h => h.capStart
theorem Kept.bankSample {code} (h : Kept s₀ s) : Kept s₀ (s.bankSample code) := .ite h.bankCheck.capSample h.bankCheck
theorem Kept.calSample {k code} (h : Kept s₀ s) : Kept s₀ (s.calSample k code) :=
  .ite (.ite h.update.update.cause.applyLimit h.update) (.ite h.update.update.applyLimit h.update)
theorem Kept.vinFilter (h : Kept s₀ s) : Kept s₀ s.vinFilter := h.update
theorem Kept.pgLost {i} (h : Kept s₀ s) : Kept s₀ (s.pgLost i) := .ite h (.ite (h.update.foldl (fun h => h.attemptFailed)) h.update)
theorem Kept.pgGained {i} (h : Kept s₀ s) : Kept s₀ (s.pgGained i) := .ite h.seqApply h
theorem Kept.shutWait {i} (h : Kept s₀ s) : Kept s₀ (s.shutWait i) := .ite h.seqApply h
theorem Kept.shutRail {i} (h : Kept s₀ s) : Kept s₀ (s.shutRail i) := (Kept.ite h h.update.changeRecord.update).shutWait

theorem Kept.conditions {i warn fault} (h : Kept s₀ s) : Kept s₀ (s.conditions i warn fault) := by
  unfold State.conditions
  dsimp only
  split
  · exact h
  · exact h
  · exact .ite h ((Kept.ite h.cause h).when fun h => h.startQuench)
  · exact .ite h ((Kept.ite h.cause h).when fun h => .ite h.shutRail h.startQuench)
  · exact (Kept.ite h.cause h).when fun h => .ite h.cause.shutRail h.cause

theorem Kept.sampleInput {i code} (h : Kept s₀ s) : Kept s₀ (s.sampleInput i code) :=
  .ite h.update.bankSample ((Kept.ite h.update.vinFilter h.update).next fun h => (Kept.ite h.pgGained h).next fun h =>
    (Kept.ite h.pgLost h).conditions.when fun h => h.shutWait)
theorem keeps_execAdcSlot {code} (h : Kept s₀ s) : Keeps s₀ (execAdcSlot code s) :=
  (Kept.ite h (.ite h.update.sampleInput h.update.calSample)).finish
theorem keeps_execVinPowerGood (h : Kept s₀ s) : Keeps s₀ (execVinPowerGood s) := (Kept.ite h.beginStart h).finish
theorem keeps_execPfwNAssert (h : Kept s₀ s) : Keeps s₀ (execPfwNAssert s) := (Kept.ite h h.update.startQuench).finish
theorem keeps_execBelayRise (h : Kept s₀ s) : Keeps s₀ (execBelayRise s) :=
  (Kept.ite h (.ite (.ite h.update.seqApply h.update.seqApply) (.ite h.update.update h.update))).finish

theorem keeps_execBelayTimeout (h : Kept s₀ s) : Keeps s₀ (execBelayTimeout s) := by
  unfold execBelayTimeout
  refine .finish (.ite h ?_)
  split
  · exact h.abortUp
  · exact h.update.changeRecord.seqApply
  · exact h

theorem keeps_execSeqEntryDelayExpired (h : Kept s₀ s) : Keeps s₀ (execSeqEntryDelayExpired s) := (Kept.ite h.seqApply h).finish
theorem keeps_execSeqWaitTimeout (h : Kept s₀ s) : Keeps s₀ (execSeqWaitTimeout s) :=
  (Kept.ite h (.ite h.seqApply.changeRecord h.attemptFailed)).finish
theorem keeps_execRetryOffExpired (h : Kept s₀ s) : Keeps s₀ (execRetryOffExpired s) := (Kept.ite h.update h).finish
theorem keeps_execFaultHoldExpired (h : Kept s₀ s) : Keeps s₀ (execFaultHoldExpired s) := (Kept.ite h.update.enterDormant h.update).finish
theorem keeps_execRestartTimerExpired (h : Kept s₀ s) : Keeps s₀ (execRestartTimerExpired s) :=
  (Kept.ite h (.ite h.update.beginStart h.update)).finish
theorem keeps_execBelayMinHoldExpired (h : Kept s₀ s) : Keeps s₀ (execBelayMinHoldExpired s) := (Kept.ite h h.update).finish
theorem Kept.regSupervisorSave (h : Kept s₀ s) : Kept s₀ s.regSupervisorSave := .ite h h.update.setRecord.hostRecord
theorem Kept.regThresholdWrite {upper v} (h : Kept s₀ s) : Kept s₀ (s.regThresholdWrite upper v) :=
  .ite h (.ite h.error (.ite h.update h.error))
theorem Kept.regTableEntryWrite {v} (h : Kept s₀ s) : Kept s₀ (s.regTableEntryWrite v) := .ite h (.ite h.error (.ite h.update h.update))
theorem Kept.regSeqcfgWrite {v} (h : Kept s₀ s) : Kept s₀ (s.regSeqcfgWrite v) := .ite h (.ite h.error h.update)
theorem Kept.regPfwcfgWrite {v} (h : Kept s₀ s) : Kept s₀ (s.regPfwcfgWrite v) := .ite h h.update.applyLimit
theorem Kept.regHoldupMeasureRequest (h : Kept s₀ s) : Kept s₀ s.regHoldupMeasureRequest := .ite h h.update.capStart
theorem keeps_execHoldupMeasureDue (h : Kept s₀ s) : Keeps s₀ (execHoldupMeasureDue s) := (Kept.ite h.capStart h).finish
theorem Kept.regHoldupcfgWrite {v} (h : Kept s₀ s) : Kept s₀ (s.regHoldupcfgWrite v) :=
  .ite h (.ite h.error (Kept.ite h.update.bankCheck h.update).applyLimit.hostRecord)
theorem Kept.regDirtycfgWrite {v} (h : Kept s₀ s) : Kept s₀ (s.regDirtycfgWrite v) := .ite h h.update.applyLimit.hostRecord
theorem keeps_execVaonRise {vsel testLow} (h : Kept s₀ s) : Keeps s₀ (execVaonRise vsel testLow s) := (Kept.ite h h.update.update).finish

theorem Kept.cutPage {w chunk} (h : Kept s₀ s) : Kept s₀ (s.cutPage w chunk) := by
  unfold State.cutPage
  refine .ite h ?_
  split
  · exact h.fresh.update
  · exact h.fresh.update

theorem keeps_execVaonFall {chunk} (h : Kept s₀ s) : Keeps s₀ (execVaonFall chunk s) := by
  unfold execVaonFall
  refine .finish (.ite h (.update (.domainReset (.update ?_))))
  split
  · exact (Kept.ite h.fresh1.reserveSome h).cutPage
  · exact .ite h.fresh1.reserveSome h

theorem Kept.loadSupervisor (h : Kept s₀ s) : Kept s₀ s.loadSupervisor :=
  h.readRecord.update.update.readyBlocks.unless fun h => h.changeRecord
theorem Kept.loadRecorder (h : Kept s₀ s) : Kept s₀ s.loadRecorder := h.readRecord.update.setRecord.writeRecord

theorem keeps_execRecallComplete (h : Kept s₀ s) : Keeps s₀ (execRecallComplete s) := by
  unfold execRecallComplete
  refine .finish ?_
  split
  · exact h
  · exact h.update
  · exact (Kept.ite h.update h.update.loadRecorder).loadSupervisor

/-! ### Thermal frames (16_thermal.md) -/

theorem Kept.readSensors {raw temps} (h : Kept s₀ s) : Kept s₀ (s.readSensors raw temps) :=
  h.foldl (fun h => .ite h (.ite h.update.cause h.update))
theorem Kept.monitorDiodes (h : Kept s₀ s) : Kept s₀ s.monitorDiodes :=
  h.foldl (fun h => .ite h (.ite h.update.namedRecord (.ite h.update h)))
theorem Kept.setStep {l} (h : Kept s₀ s) : Kept s₀ (s.setStep l) := .ite h h.update.cause.clockSync
theorem Kept.ladder (h : Kept s₀ s) : Kept s₀ s.ladder := .ite h (.ite h.setStep (.ite h.setStep h))
theorem Kept.levels {top} (h : Kept s₀ s) : Kept s₀ (s.levels top) :=
  (Kept.ite h.update.cause h.update).next fun h => (Kept.ite h.cause h).when fun h => h.cause
theorem keeps_execThermalFrame {raw temps} (h : Kept s₀ s) : Keeps s₀ (execThermalFrame raw temps s) :=
  (Kept.ite h (h.readSensors.monitorDiodes.update.next fun h =>
    (Kept.ite h.levels.startQuench.setStep (.ite h.levels.wake.ladder h.levels.ladder)).update)).finish
theorem keeps_execXoffDutyPeriod {hold} (h : Kept s₀ s) : Keeps s₀ (execXoffDutyPeriod hold s) := h.update.finish

theorem keeps_execClockChangeComplete (h : Kept s₀ s) : Keeps s₀ (execClockChangeComplete s) := by
  unfold execClockChangeComplete
  refine .finish ?_
  split
  · exact h.update
  · exact h

theorem Kept.regThrmExclWrite {v} (h : Kept s₀ s) : Kept s₀ (s.regThrmExclWrite v) := .ite h (.ite h.error h.update.setCause.changeRecord)
theorem Kept.regThrmThreshWrite {v} (h : Kept s₀ s) : Kept s₀ (s.regThrmThreshWrite v) := .ite h (.ite h.update h.error)
theorem Kept.regPcapWrite {v} (h : Kept s₀ s) : Kept s₀ (s.regPcapWrite v) := .ite h h.update.clockSync
theorem Kept.regThermalSave (h : Kept s₀ s) : Kept s₀ s.regThermalSave := .ite h h.update.setRecord.hostRecord

/-! ### Register reads (03_registers_and_hallmark.md) -/

theorem Kept.readEffect {side b o} (h : Kept s₀ s) : Kept s₀ (s.readEffect side b o) := by
  unfold State.readEffect
  refine .ite h ?_
  split
  · exact h.latchTime
  · exact h.update
  · exact h.update
  · exact h.update
  · exact h.modDram
  · exact h.modClu
  · exact h.modChan
  · exact h.update
  · exact h.update
  · exact h.update
  · exact h.update
  · exact h.update
  · exact h.update
  · exact h.update
  · exact h.modPipe
  · exact h.modPipe
  · exact h.modReplay
  · exact h.modReplay
  · exact h.update
  · exact h.update
  · exact h.update
  · exact .ite h.update h
  · exact h

theorem Kept.readSlot {side off enables} (h : Kept s₀ s) : Kept s₀ (s.readSlot side off enables).1 := by
  unfold State.readSlot
  dsimp only
  split
  · exact .pair_fst h.error
  · exact .ite_fst (.pair_fst h.readEffect) (.pair_fst h.error)

theorem Kept.readSlots {off bytes} (h : Kept s₀ s) : Kept s₀ (s.readSlots off bytes) :=
  h.foldl (fun h => .ite h (Kept.ite_fst h.readSlot h.windowRead).send)
theorem keeps_execRegisterReadError {off bytes} (h : Kept s₀ s) : Keeps s₀ (execRegisterReadError off bytes s) :=
  (h.reg (fun h => h.readSlots)).finish
theorem keeps_execRcRead {off bytes} (h : Kept s₀ s) : Keeps s₀ (execRcRead off bytes s) := (h.reg (fun h => h.readSlots)).finish

/-! ### Register writes (03_registers_and_hallmark.md) -/

theorem Kept.wrIstat {b v together} (h : Kept s₀ s) : Kept s₀ (s.wrIstat b v together) := h.signal
theorem Kept.wrIen {b v} (h : Kept s₀ s) : Kept s₀ (s.wrIen b v) := h.signal
theorem Kept.wrErrstat {b v} (h : Kept s₀ s) : Kept s₀ (s.wrErrstat b v) := .ite (.ite h.modHdr.update h.modHdr) h

theorem Kept.wrCtrl {b v} (h : Kept s₀ s) : Kept s₀ (s.wrCtrl b v) := by
  unfold State.wrCtrl
  split
  · exact .ite h.regSupervisorSave h
  · exact .ite h.regThermalSave h
  · exact .ite h.update.regRecorderSave h.update
  · exact .ite h.update (.ite h.update.regNcchDisable h.update.regNcchEnable)
  · exact h.modPipe
  · exact h

theorem Kept.wrHeader {b o v} (h : Kept s₀ s) : Kept s₀ (s.wrHeader b o v) := by
  unfold State.wrHeader
  split
  · exact h.wrCtrl
  · exact h.wrIstat
  · exact h.wrIen
  · exact h.wrErrstat
  · exact h

theorem Kept.wrSysc {o v} (h : Kept s₀ s) : Kept s₀ (s.wrSysc o v) := by
  unfold State.wrSysc
  split
  · exact .ite h.modeRequest h.update
  · exact .ite h.regColdResetRequest (.ite h.regWarmResetRequest h)
  · exact h.regDirtycfgWrite
  · exact h.regHoldupcfgWrite
  · exact .ite h.regHoldupMeasureRequest h
  · exact h

theorem Kept.wrRest {o v} (h : Kept s₀ s) : Kept s₀ (s.wrRest o v) := .ite h.update (.ite h.regHtimerWrite h)
theorem Kept.wrSnscfg {v} (h : Kept s₀ s) : Kept s₀ (s.wrSnscfg v) := h.update

theorem Kept.wrPseq {o v} (h : Kept s₀ s) : Kept s₀ (s.wrPseq o v) := by
  unfold State.wrPseq
  split
  · exact h.update
  · exact h.wrSnscfg
  · exact h.regThresholdWrite
  · exact h.regThresholdWrite
  · exact h.update
  · exact h.regTableEntryWrite
  · exact h.regSeqcfgWrite
  · exact h.regPfwcfgWrite
  · exact h.update
  · exact h

theorem Kept.wrThrm {o v} (h : Kept s₀ s) : Kept s₀ (s.wrThrm o v) := by
  unfold State.wrThrm
  split
  · exact h.regThrmExclWrite
  · exact h.regThrmThreshWrite
  · exact h.update
  · exact h.update
  · exact h.regPcapWrite
  · exact h

theorem Kept.wrEvtr {who o v} (h : Kept s₀ s) : Kept s₀ (s.wrEvtr who o v) := by
  unfold State.wrEvtr
  split
  · exact h.update
  · exact h.update
  · exact h.update
  · exact h.regRateClassWrite
  · exact .ite h h.update
  · exact .ite (.ite h.regCursorAdvance h.regCursorPlace) h

theorem Kept.wrPsto {o v} (h : Kept s₀ s) : Kept s₀ (s.wrPsto o v) := by
  unfold State.wrPsto
  split
  · exact h.regProtectionWrite
  · refine .ite h (.ite ?_ h.update)
    split
    · exact h.regPstoRead
    · exact h.regPstoWrite
    · exact h.regPstoInvalidOp
  · exact .ite h.update h

theorem Kept.memberCheck (h : Kept s₀ s) : Kept s₀ s.memberCheck := .ite h.error h

theorem Kept.wrCoht {o v} (h : Kept s₀ s) : Kept s₀ (s.wrCoht o v) := by
  unfold State.wrCoht
  split
  · exact h.update
  · exact .ite h.update.regTimeSet h.update
  · exact h.regDiscWrite
  · exact h.update.memberCheck
  · exact h.update
  · exact h.update
  · exact h

theorem Kept.wrKspe {o v} (h : Kept s₀ s) : Kept s₀ (s.wrKspe o v) := by
  unfold State.wrKspe
  split
  · exact h.update
  · exact .ite h h.update
  · exact h.update.foldl (fun h => h.holdSync)
  · exact h

theorem Kept.wrStrdCmd {v} (h : Kept s₀ s) : Kept s₀ (s.wrStrdCmd v) := by
  unfold State.wrStrdCmd
  refine .ite ?_ (.ite h h.update)
  dsimp only
  split
  · exact (Kept.ite h h.update).regAlloc
  · exact (Kept.ite h h.update).regConfig
  · exact (Kept.ite h h.update).regStrandArm
  · exact (Kept.ite h h.update).regStrandStop
  · exact (Kept.ite h h.update).regTrigger
  · exact (Kept.ite h h.update).regTimedtrig
  · exact (Kept.ite h h.update).regDroprem
  · exact (Kept.ite h h.update).regRewind
  · exact (Kept.ite h h.update).regRelease
  · exact (Kept.ite h h.update).regStrdUnknownOp

theorem Kept.wrStrd {o v} (h : Kept s₀ s) : Kept s₀ (s.wrStrd o v) := by
  unfold State.wrStrd
  split
  · exact h.update
  · exact h.wrStrdCmd
  · exact h.update
  · exact h.update
  · exact h.update
  · exact h.update
  · exact h.update
  · exact h.update
  · exact h.update
  · exact h.regFilterWrite
  · exact .ite h.regTriggerLogPop h
  · exact h

theorem Kept.wrRple {o v} (h : Kept s₀ s) : Kept s₀ (s.wrRple o v) := by
  unfold State.wrRple
  dsimp only
  split
  · exact h.update
  · refine .ite ?_ h.modReplay
    split
    · exact h.regBind
    · exact h.regReplayConfig
    · exact h.regPreload
    · exact h.regStart
    · exact h.regReplayStop
    · exact h.regUnbind
    · exact h.regRpleUnknownOp
  · exact h.modReplay
  · exact h.modReplay
  · exact h.modReplay
  · exact h.modReplay
  · exact h.modReplay
  · exact h.modReplay
  · exact h.modReplay
  · exact h.modReplay
  · exact h.modReplay
  · exact h.modReplay
  · exact h.update.hostRecord
  · exact h

theorem Kept.wrQrye {o v} (h : Kept s₀ s) : Kept s₀ (s.wrQrye o v) := by
  unfold State.wrQrye
  split
  · refine .ite ?_ (.ite h h.update)
    split
    · exact (Kept.ite h h.update).query
    · exact (Kept.ite h h.update).query
    · exact (Kept.ite h h.update).regQryeUnknownOp
  · exact h.update
  · exact h.update
  · exact h.update
  · exact h.update
  · exact h

theorem Kept.wrMprt {o v} (h : Kept s₀ s) : Kept s₀ (s.wrMprt o v) := by
  unfold State.wrMprt
  split
  · exact h.update
  · exact h.regRangeDefWrite
  · exact h.regRangeDefWrite
  · exact h.modRange.hostRecord
  · exact h.update
  · exact h

theorem Kept.wrFtlm {o v} (h : Kept s₀ s) : Kept s₀ (s.wrFtlm o v) := by
  unfold State.wrFtlm
  split
  · exact h.regHdrcfgWrite
  · exact h.update.spaceSync
  · exact h.update.landSync
  · exact h.update
  · exact h

theorem Kept.wrDrmc {m o v} (h : Kept s₀ s) : Kept s₀ (s.wrDrmc m o v) := by
  unfold State.wrDrmc
  split
  · exact h.modDram.hostRecord
  · exact h.regDrmcShareWrite
  · exact h.modDram
  · exact h.modDram
  · exact h.modDram
  · exact h

theorem Kept.wrMclu {c o v} (h : Kept s₀ s) : Kept s₀ (s.wrMclu c o v) := by
  unfold State.wrMclu
  split
  · exact h.modClu
  · exact h.modClu
  · exact h.modClu
  · exact h

theorem Kept.wrBlock {who b o v} (h : Kept s₀ s) : Kept s₀ (s.wrBlock who b o v) := by
  unfold State.wrBlock
  split
  · exact h.wrSysc
  · exact h.wrRest
  · exact h.wrPseq
  · exact h.wrThrm
  · exact h.wrEvtr
  · exact h.wrPsto
  · exact .ite h.confirm h
  · exact h.wrCoht
  · exact .ite h.update h
  · exact .ite h.update h
  · exact h.wrKspe
  · exact h.wrStrd
  · exact h.wrRple
  · exact h.wrQrye
  · exact h.wrMprt
  · exact h.wrFtlm
  · exact .ite h.update h
  · exact h.wrDrmc
  · split
    · exact h.regRgnattrWrite
    · exact h.regPrefetchHint
    · exact h.regLfsrWrite
    · exact h
  · exact h.wrMclu
  · exact h

theorem Kept.writeReg {who b o v} (h : Kept s₀ s) : Kept s₀ (s.writeReg who b o v) := .ite h.wrHeader (.ite h.wrBlock h)

theorem Kept.writeSlot {who off enables v} (h : Kept s₀ s) : Kept s₀ (s.writeSlot who off enables v) := by
  unfold State.writeSlot
  dsimp only
  split
  · exact h.error
  · exact .ite h.writeReg h.error

theorem Kept.coreWrite {off v} (h : Kept s₀ s) : Kept s₀ (s.coreWrite off v) := by
  unfold State.coreWrite
  split
  · exact h
  · exact h.writeReg.raise

theorem Kept.commitDecoder {i base size db ways gran} (h : Kept s₀ s) : Kept s₀ (s.commitDecoder i base size db ways gran) :=
  .ite h.update h

theorem Kept.writeSlots {off l} (h : Kept s₀ s) : Kept s₀ (s.writeSlots off l) := by
  induction l generalizing s off with
  | nil => exact h
  | cons x l ih => exact ih (.ite h h.writeSlot)

theorem Kept.registerWrite {t} (h : Kept s₀ s) : Kept s₀ (s.registerWrite t) := by
  unfold State.registerWrite
  split
  · dsimp only
    split
    · exact h.writeSlots.coreWrite
    · exact h.writeSlots
  · exact h.writeSlots
  · exact h.foldl (fun h => h.writeSlot)
  · exact h.commitDecoder
  · exact .ite h.update h
  · exact h.msixMaskBit
  · exact h.bar2Write
  · exact h.update

theorem keeps_execRegisterWrite {t} (h : Kept s₀ s) : Keeps s₀ (execRegisterWrite t s) := (h.reg (fun h => h.registerWrite)).finish

theorem Kept.headerWrite {page slot} {f : State → Block → State} (h : Kept s₀ s) (hf : ∀ {u b}, Kept s₀ u → Kept s₀ (f u b)) :
    Kept s₀ (s.headerWrite page slot f) := by
  unfold State.headerWrite
  split
  · exact hf h
  · exact h.error

theorem Kept.istatW1c {page v together} (h : Kept s₀ s) : Kept s₀ (s.istatW1c page v together) :=
  h.headerWrite (fun h => h.setCause.wrIstat)
theorem Kept.ienWrite {page v} (h : Kept s₀ s) : Kept s₀ (s.ienWrite page v) := h.headerWrite (fun h => h.wrIen)
theorem Kept.errstatClear {page v} (h : Kept s₀ s) : Kept s₀ (s.errstatClear page v) := h.headerWrite (fun h => h.wrErrstat)
theorem keeps_execIstatW1c {page v together} (h : Kept s₀ s) : Keeps s₀ (execIstatW1c page v together s) :=
  (h.reg (fun h => h.istatW1c)).finish
theorem keeps_execIenWrite {page v} (h : Kept s₀ s) : Keeps s₀ (execIenWrite page v s) := (h.reg (fun h => h.ienWrite)).finish
theorem keeps_execInterruptForce {page v} (h : Kept s₀ s) : Keeps s₀ (execInterruptForce page v s) := (h.reg (fun h => h.ienWrite)).finish
theorem keeps_execErrstatClear {page v} (h : Kept s₀ s) : Keeps s₀ (execErrstatClear page v s) := (h.reg (fun h => h.errstatClear)).finish

theorem Kept.sidebandRead {off n} (h : Kept s₀ s) : Kept s₀ (s.sidebandRead off n).1 := by
  induction n generalizing s off with
  | zero => exact h
  | succ n ih => exact .ite_fst (ih h.readSlot) h

theorem Kept.sidebandWrite {off l} (h : Kept s₀ s) : Kept s₀ (s.sidebandWrite off l).1 := by
  induction l generalizing s off with
  | nil => exact h
  | cons v l ih => exact .ite_fst (ih h.writeSlot) h

theorem Kept.sidebandReads {off count} (h : Kept s₀ s) : Kept s₀ (s.sidebandReads off count) := .ite h.send h.sidebandRead.send
theorem Kept.sidebandWrites {off vals} (h : Kept s₀ s) : Kept s₀ (s.sidebandWrites off vals) := .ite h.send h.sidebandWrite.send
theorem keeps_execSidebandRead {off count} (h : Kept s₀ s) : Keeps s₀ (execSidebandRead off count s) :=
  (h.side (fun h => h.sidebandReads)).finish
theorem keeps_execSidebandWrite {off vals} (h : Kept s₀ s) : Keeps s₀ (execSidebandWrite off vals s) :=
  (h.side (fun h => h.sidebandWrites)).finish

/-! ### Rows of registers (03_registers_and_hallmark.md) -/

theorem keeps_execTimeSet (h : Kept s₀ s) : Keeps s₀ (execTimeSet s) := (h.reg (fun h => h.regTimeSet)).finish
theorem keeps_execTimeloRead (h : Kept s₀ s) : Keeps s₀ (execTimeloRead s) := (h.reg (fun h => h.regTimeloRead)).finish
theorem keeps_execDiscWrite {v} (h : Kept s₀ s) : Keeps s₀ (execDiscWrite v s) := (h.reg (fun h => h.regDiscWrite)).finish
theorem keeps_execDrmcShareWrite {chan v} (h : Kept s₀ s) : Keeps s₀ (execDrmcShareWrite chan v s) :=
  (h.reg (fun h => h.regDrmcShareWrite)).finish
theorem keeps_execCursorPlace {who group v} (h : Kept s₀ s) : Keeps s₀ (execCursorPlace who group v s) :=
  (h.reg (fun h => h.regCursorPlace)).finish
theorem keeps_execCursorAdvance {who group v} (h : Kept s₀ s) : Keeps s₀ (execCursorAdvance who group v s) :=
  (h.reg (fun h => h.regCursorAdvance)).finish
theorem keeps_execRecorderSave (h : Kept s₀ s) : Keeps s₀ (execRecorderSave s) := (h.reg (fun h => h.regRecorderSave)).finish
theorem keeps_execRateClassWrite {v} (h : Kept s₀ s) : Keeps s₀ (execRateClassWrite v s) := (h.reg (fun h => h.regRateClassWrite)).finish
theorem keeps_execRgnattrWrite {v} (h : Kept s₀ s) : Keeps s₀ (execRgnattrWrite v s) := (h.reg (fun h => h.regRgnattrWrite)).finish
theorem keeps_execPrefetchHint {v} (h : Kept s₀ s) : Keeps s₀ (execPrefetchHint v s) := (h.reg (fun h => h.regPrefetchHint)).finish
theorem keeps_execLfsrWrite {slice v} (h : Kept s₀ s) : Keeps s₀ (execLfsrWrite slice v s) := (h.reg (fun h => h.regLfsrWrite)).finish
theorem keeps_execNcchDisable (h : Kept s₀ s) : Keeps s₀ (execNcchDisable s) := (h.reg (fun h => h.regNcchDisable)).finish
theorem keeps_execNcchEnable (h : Kept s₀ s) : Keeps s₀ (execNcchEnable s) := (h.reg (fun h => h.regNcchEnable)).finish
theorem keeps_execHdrcfgWrite {v} (h : Kept s₀ s) : Keeps s₀ (execHdrcfgWrite v s) := (h.reg (fun h => h.regHdrcfgWrite)).finish
theorem keeps_execSupervisorSave (h : Kept s₀ s) : Keeps s₀ (execSupervisorSave s) := (h.reg (fun h => h.regSupervisorSave)).finish
theorem keeps_execThresholdWrite {upper v} (h : Kept s₀ s) : Keeps s₀ (execThresholdWrite upper v s) :=
  (h.reg (fun h => h.regThresholdWrite)).finish
theorem keeps_execTableEntryWrite {v} (h : Kept s₀ s) : Keeps s₀ (execTableEntryWrite v s) :=
  (h.reg (fun h => h.regTableEntryWrite)).finish
theorem keeps_execSeqcfgWrite {v} (h : Kept s₀ s) : Keeps s₀ (execSeqcfgWrite v s) := (h.reg (fun h => h.regSeqcfgWrite)).finish
theorem keeps_execPfwcfgWrite {v} (h : Kept s₀ s) : Keeps s₀ (execPfwcfgWrite v s) := (h.reg (fun h => h.regPfwcfgWrite)).finish
theorem keeps_execHoldupMeasureRequest (h : Kept s₀ s) : Keeps s₀ (execHoldupMeasureRequest s) :=
  (h.reg (fun h => h.regHoldupMeasureRequest)).finish
theorem keeps_execHoldupcfgWrite {v} (h : Kept s₀ s) : Keeps s₀ (execHoldupcfgWrite v s) := (h.reg (fun h => h.regHoldupcfgWrite)).finish
theorem keeps_execDirtycfgWrite {v} (h : Kept s₀ s) : Keeps s₀ (execDirtycfgWrite v s) := (h.reg (fun h => h.regDirtycfgWrite)).finish
theorem keeps_execRangeDefWrite {size v} (h : Kept s₀ s) : Keeps s₀ (execRangeDefWrite size v s) :=
  (h.reg (fun h => h.regRangeDefWrite)).finish
theorem keeps_execTimeSeek (h : Kept s₀ s) : Keeps s₀ (execTimeSeek s) := (h.reg (fun h => h.query)).finish
theorem keeps_execRecordCount (h : Kept s₀ s) : Keeps s₀ (execRecordCount s) := (h.reg (fun h => h.query)).finish
theorem keeps_execQryeUnknownOp {op} (h : Kept s₀ s) : Keeps s₀ (execQryeUnknownOp op s) := (h.reg (fun h => h.regQryeUnknownOp)).finish
theorem keeps_execBind (h : Kept s₀ s) : Keeps s₀ (execBind s) := (h.reg (fun h => h.regBind)).finish
theorem keeps_execReplayConfig (h : Kept s₀ s) : Keeps s₀ (execReplayConfig s) := (h.reg (fun h => h.regReplayConfig)).finish
theorem keeps_execPreload (h : Kept s₀ s) : Keeps s₀ (execPreload s) := (h.reg (fun h => h.regPreload)).finish
theorem keeps_execStart (h : Kept s₀ s) : Keeps s₀ (execStart s) := (h.reg (fun h => h.regStart)).finish
theorem keeps_execReplayStop (h : Kept s₀ s) : Keeps s₀ (execReplayStop s) := (h.reg (fun h => h.regReplayStop)).finish
theorem keeps_execUnbind (h : Kept s₀ s) : Keeps s₀ (execUnbind s) := (h.reg (fun h => h.regUnbind)).finish
theorem keeps_execRpleUnknownOp {op} (h : Kept s₀ s) : Keeps s₀ (execRpleUnknownOp op s) := (h.reg (fun h => h.regRpleUnknownOp)).finish
theorem keeps_execHtimerWrite {n v} (h : Kept s₀ s) : Keeps s₀ (execHtimerWrite n v s) := (h.reg (fun h => h.regHtimerWrite)).finish
theorem keeps_execPstoRead {v} (h : Kept s₀ s) : Keeps s₀ (execPstoRead v s) := (h.reg (fun h => h.regPstoRead)).finish
theorem keeps_execPstoWrite {v} (h : Kept s₀ s) : Keeps s₀ (execPstoWrite v s) := (h.reg (fun h => h.regPstoWrite)).finish
theorem keeps_execPstoInvalidOp {v} (h : Kept s₀ s) : Keeps s₀ (execPstoInvalidOp v s) := (h.reg (fun h => h.regPstoInvalidOp)).finish
theorem keeps_execProtectionWrite {v} (h : Kept s₀ s) : Keeps s₀ (execProtectionWrite v s) :=
  (h.reg (fun h => h.regProtectionWrite)).finish
theorem keeps_execAlloc {adopt} (h : Kept s₀ s) : Keeps s₀ (execAlloc adopt s) := (h.reg (fun h => h.regAlloc)).finish
theorem keeps_execConfig (h : Kept s₀ s) : Keeps s₀ (execConfig s) := (h.reg (fun h => h.regConfig)).finish
theorem keeps_execStrandArm (h : Kept s₀ s) : Keeps s₀ (execStrandArm s) := (h.reg (fun h => h.regStrandArm)).finish
theorem keeps_execStrandStop (h : Kept s₀ s) : Keeps s₀ (execStrandStop s) := (h.reg (fun h => h.regStrandStop)).finish
theorem keeps_execTrigger (h : Kept s₀ s) : Keeps s₀ (execTrigger s) := (h.reg (fun h => h.regTrigger)).finish
theorem keeps_execTimedtrig (h : Kept s₀ s) : Keeps s₀ (execTimedtrig s) := (h.reg (fun h => h.regTimedtrig)).finish
theorem keeps_execDroprem (h : Kept s₀ s) : Keeps s₀ (execDroprem s) := (h.reg (fun h => h.regDroprem)).finish
theorem keeps_execTriggerLogPop (h : Kept s₀ s) : Keeps s₀ (execTriggerLogPop s) := (h.reg (fun h => h.regTriggerLogPop)).finish
theorem keeps_execFilterWrite {v} (h : Kept s₀ s) : Keeps s₀ (execFilterWrite v s) := (h.reg (fun h => h.regFilterWrite)).finish
theorem keeps_execRewind (h : Kept s₀ s) : Keeps s₀ (execRewind s) := (h.reg (fun h => h.regRewind)).finish
theorem keeps_execRelease (h : Kept s₀ s) : Keeps s₀ (execRelease s) := (h.reg (fun h => h.regRelease)).finish
theorem keeps_execStrdUnknownOp {op} (h : Kept s₀ s) : Keeps s₀ (execStrdUnknownOp op s) := (h.reg (fun h => h.regStrdUnknownOp)).finish
theorem keeps_execThrmExclWrite {v} (h : Kept s₀ s) : Keeps s₀ (execThrmExclWrite v s) := (h.reg (fun h => h.regThrmExclWrite)).finish
theorem keeps_execThrmThreshWrite {v} (h : Kept s₀ s) : Keeps s₀ (execThrmThreshWrite v s) :=
  (h.reg (fun h => h.regThrmThreshWrite)).finish
theorem keeps_execPcapWrite {v} (h : Kept s₀ s) : Keeps s₀ (execPcapWrite v s) := (h.reg (fun h => h.regPcapWrite)).finish
theorem keeps_execThermalSave (h : Kept s₀ s) : Keeps s₀ (execThermalSave s) := (h.reg (fun h => h.regThermalSave)).finish

theorem Kept.withRequest {same} {f : State → State} (h : Kept s₀ s) (hf : ∀ {u}, Kept s₀ u → Kept s₀ (f u)) :
    Kept s₀ (s.withRequest same f) := by
  unfold State.withRequest
  split
  · exact hf h.writeSlot
  · exact hf h

theorem keeps_execArm {frame} (h : Kept s₀ s) : Keeps s₀ (execArm frame s) := (h.withRequest (fun h => h.armFrame)).finish
theorem keeps_execStop {frame} (h : Kept s₀ s) : Keeps s₀ (execStop frame s) := (h.withRequest (fun h => h.stopFrame)).finish

/-! ### SPDM (19_firmware_and_identity.md) -/

theorem Kept.freshBytes {n} (h : Kept s₀ s) : Kept s₀ (s.freshBytes n).1 := by
  induction n generalizing s with
  | zero => exact h
  | succ n ih => exact ih h.fresh1

theorem Kept.modSpdm {conn f} (h : Kept s₀ s) : Kept s₀ (s.modSpdm conn f) := h.update
theorem Kept.spdmError {req code data ext} (h : Kept s₀ s) : Kept s₀ (s.spdmError req code data ext).1 := .pair_fst h.error
theorem Kept.measSummary {kind} (h : Kept s₀ s) : Kept s₀ (s.measSummary kind).1 := .ite_fst h (.ite_fst h.freshBytes h)
theorem Kept.note {conn drop ms} (h : Kept s₀ s) : Kept s₀ (s.note conn drop ms) := h.modSpdm
theorem Kept.sign {conn req resp other} (h : Kept s₀ s) : Kept s₀ (s.sign conn req resp other).1 :=
  .pair_fst h.note.note.modSpdm.cause
theorem Kept.spdmVersion {conn m} (h : Kept s₀ s) : Kept s₀ (s.spdmVersion conn m).1 := .ite_fst h.spdmError h.modSpdm
theorem Kept.spdmCapabilities {conn m} (h : Kept s₀ s) : Kept s₀ (s.spdmCapabilities conn m).1 := .ite_fst h.spdmError h.note.modSpdm
theorem Kept.spdmAlgorithms {conn m} (h : Kept s₀ s) : Kept s₀ (s.spdmAlgorithms conn m).1 := .ite_fst h.spdmError h.note.modSpdm
theorem Kept.spdmDigests {conn m} (h : Kept s₀ s) : Kept s₀ (s.spdmDigests conn m).1 := h.note

theorem Kept.spdmCertificate {conn m} (h : Kept s₀ s) : Kept s₀ (s.spdmCertificate conn m).1 := by
  unfold State.spdmCertificate
  split
  · exact h.spdmError
  · exact .ite_fst h.spdmError h.note

theorem Kept.spdmChallenge {conn m} (h : Kept s₀ s) : Kept s₀ (s.spdmChallenge conn m).1 := by
  unfold State.spdmChallenge
  split
  · exact h.spdmError
  · refine .ite_fst h.spdmError ?_
    split
    next e =>
    replace h := h.freshBytes.fst e
    split
    next e => exact (h.measSummary.fst e).sign

theorem Kept.spdmMeasurements {conn m} (h : Kept s₀ s) : Kept s₀ (s.spdmMeasurements conn m).1 := by
  unfold State.spdmMeasurements
  refine .ite_fst h.spdmError ?_
  extract_lets
  split
  next e => 
  replace h := h.freshBytes.fst e
  exact .ite_fst h.sign h.note

theorem Kept.spdmPqCert {p} (h : Kept s₀ s) : Kept s₀ (s.spdmPqCert p).1 := by
  unfold State.spdmPqCert
  split
  · exact h.spdmError
  · exact .ite_fst h.spdmError h

theorem Kept.spdmPqSig {signedBefore conn} (h : Kept s₀ s) : Kept s₀ (s.spdmPqSig signedBefore conn).1 := by
  unfold State.spdmPqSig
  split
  · exact .ite_fst h h.spdmError
  · exact h.spdmError

theorem Kept.spdmVendor {signedBefore conn m} (h : Kept s₀ s) : Kept s₀ (s.spdmVendor signedBefore conn m).1 := by
  unfold State.spdmVendor
  dsimp only
  split
  · exact h.note.spdmError
  · refine .ite_fst h.note.spdmError ?_
    split
    · exact h.note.spdmPqCert
    · exact h.note.spdmPqSig
    · exact h.note.spdmError

theorem Kept.spdmAnswer {conn m} (h : Kept s₀ s) : Kept s₀ (s.spdmAnswer conn m).1 := by
  unfold State.spdmAnswer
  refine .ite_fst h.modSpdm.spdmVersion (.ite_fst h.modSpdm.spdmError
    (.ite_fst h.modSpdm.spdmError (.ite_fst h.modSpdm.spdmError
      (.ite_fst h.modSpdm.spdmCapabilities (.ite_fst h.modSpdm.spdmError
        (.ite_fst h.modSpdm.spdmAlgorithms (.ite_fst h.modSpdm.spdmError ?_)))))))
  split
  · exact h.modSpdm.spdmDigests
  · exact h.modSpdm.spdmCertificate
  · exact h.modSpdm.spdmChallenge
  · exact h.modSpdm.spdmMeasurements
  · exact h.modSpdm.spdmVendor
  · exact h.modSpdm.spdmError

theorem Kept.spdmFit {conn req room r} (h : Kept s₀ s) : Kept s₀ (s.spdmFit conn req room r).1 := .ite_fst h h.modSpdm.spdmError
theorem Kept.spdmServe {conn mine} {f : State → State × List (BitVec 8)} (h : Kept s₀ s)
    (hf : ∀ {u}, Kept s₀ u → Kept s₀ (f u).1) : Kept s₀ (s.spdmServe conn mine f) :=
  .ite (hf h).send h
theorem Kept.spdmRequest {conn m} (h : Kept s₀ s) : Kept s₀ (s.spdmRequest conn m).1 := h.spdmAnswer.spdmFit
theorem Kept.spdmChunkGet {conn m} (h : Kept s₀ s) : Kept s₀ (s.spdmChunkGet conn m).1 :=
  .ite_fst h.spdmError (.ite_fst h.modSpdm.spdmError (.ite_fst h.modSpdm.spdmError h.modSpdm))
theorem Kept.spdmChunkSend {conn m} (h : Kept s₀ s) : Kept s₀ (s.spdmChunkSend conn m).1 :=
  .ite_fst h.spdmError (.ite_fst h.modSpdm.spdmError (.ite_fst h.modSpdm.spdmError (.ite_fst h.modSpdm h.modSpdm.spdmAnswer.spdmFit)))
theorem Kept.spdmRow {conn c} {f : State → State} (h : Kept s₀ s) (hf : ∀ {u}, Kept s₀ u → Kept s₀ (f u)) :
    Kept s₀ (s.spdmRow conn c f) :=
  .ite (h.io hf) (h.side hf)
theorem keeps_execGetVersion {conn msg} (h : Kept s₀ s) : Keeps s₀ (execGetVersion conn msg s) :=
  (h.spdmRow (fun h => h.spdmServe (fun h => h.spdmRequest))).finish
theorem keeps_execGetCapabilities {conn msg} (h : Kept s₀ s) : Keeps s₀ (execGetCapabilities conn msg s) :=
  (h.spdmRow (fun h => h.spdmServe (fun h => h.spdmRequest))).finish
theorem keeps_execNegotiateAlgorithms {conn msg} (h : Kept s₀ s) : Keeps s₀ (execNegotiateAlgorithms conn msg s) :=
  (h.spdmRow (fun h => h.spdmServe (fun h => h.spdmRequest))).finish
theorem keeps_execGetDigests {conn msg} (h : Kept s₀ s) : Keeps s₀ (execGetDigests conn msg s) :=
  (h.spdmRow (fun h => h.spdmServe (fun h => h.spdmRequest))).finish
theorem keeps_execGetCertificate {conn msg} (h : Kept s₀ s) : Keeps s₀ (execGetCertificate conn msg s) :=
  (h.spdmRow (fun h => h.spdmServe (fun h => h.spdmRequest))).finish
theorem keeps_execChallenge {conn msg} (h : Kept s₀ s) : Keeps s₀ (execChallenge conn msg s) :=
  (h.spdmRow (fun h => h.spdmServe (fun h => h.spdmRequest))).finish
theorem keeps_execGetMeasurements {conn msg} (h : Kept s₀ s) : Keeps s₀ (execGetMeasurements conn msg s) :=
  (h.spdmRow (fun h => h.spdmServe (fun h => h.spdmRequest))).finish
theorem keeps_execGetPqCert {conn msg} (h : Kept s₀ s) : Keeps s₀ (execGetPqCert conn msg s) :=
  (h.spdmRow (fun h => h.spdmServe (fun h => h.spdmRequest))).finish
theorem keeps_execGetPqSig {conn msg} (h : Kept s₀ s) : Keeps s₀ (execGetPqSig conn msg s) :=
  (h.spdmRow (fun h => h.spdmServe (fun h => h.spdmRequest))).finish
theorem keeps_execChunkSend {conn msg} (h : Kept s₀ s) : Keeps s₀ (execChunkSend conn msg s) :=
  (h.spdmRow (fun h => h.spdmServe (fun h => h.spdmChunkSend))).finish
theorem keeps_execChunkGet {conn msg} (h : Kept s₀ s) : Keeps s₀ (execChunkGet conn msg s) :=
  (h.spdmRow (fun h => h.spdmServe (fun h => h.spdmChunkGet))).finish
theorem keeps_execRespondIfReady {conn msg} (h : Kept s₀ s) : Keeps s₀ (execRespondIfReady conn msg s) :=
  (h.spdmRow (fun h => h.spdmServe (fun h => h.spdmRequest))).finish

/-! ### The wake (02_modes_and_starts.md) -/

/-- A command of the mailbox is submitted; a command that is no request of the host changes nothing. -/
theorem Kept.mailbox {c} (h : Kept s₀ s) :
    Kept s₀ (match mbHead c with | some (iface, opcode, fw) => s.submit iface opcode c fw fun s => s.mbDo c | none => s) := by
  split
  · exact h.submit fun h => h.mbDo
  · exact h
theorem Kept.performIo {c} (h : Kept s₀ s) : Kept s₀ (s.performIo c) := by
  have other := h.mailbox (c := c)
  cases c with
  | registerWrite => exact h.registerWrite
  | registerReadError | rcRead => exact h.readSlots
  | istatW1c => exact h.istatW1c
  | ienWrite | interruptForce => exact h.ienWrite
  | errstatClear => exact h.errstatClear
  | sidebandRead => exact h.sidebandReads
  | sidebandWrite => exact h.sidebandWrites
  | healthConfirm => exact h.confirm
  | timeSet => exact h.regTimeSet
  | timeloRead => exact h.regTimeloRead
  | discWrite => exact h.regDiscWrite
  | drmcShareWrite => exact h.regDrmcShareWrite
  | cursorPlace => exact h.regCursorPlace
  | cursorAdvance _ _ v => exact h.regCursorAdvance (_v := v)
  | recorderSave => exact h.regRecorderSave
  | rateClassWrite => exact h.regRateClassWrite
  | rgnattrWrite => exact h.regRgnattrWrite
  | prefetchHint => exact h.regPrefetchHint
  | lfsrWrite => exact h.regLfsrWrite
  | ncchDisable => exact h.regNcchDisable
  | ncchEnable => exact h.regNcchEnable
  | hdrcfgWrite => exact h.regHdrcfgWrite
  | supervisorSave => exact h.regSupervisorSave
  | thresholdWrite => exact h.regThresholdWrite
  | tableEntryWrite => exact h.regTableEntryWrite
  | seqcfgWrite => exact h.regSeqcfgWrite
  | pfwcfgWrite => exact h.regPfwcfgWrite
  | holdupMeasureRequest => exact h.regHoldupMeasureRequest
  | holdupcfgWrite => exact h.regHoldupcfgWrite
  | dirtycfgWrite => exact h.regDirtycfgWrite
  | rangeDefWrite => exact h.regRangeDefWrite
  | timeSeek | recordCount => exact h.query
  | qryeUnknownOp => exact h.regQryeUnknownOp
  | bind => exact h.regBind
  | replayConfig => exact h.regReplayConfig
  | preload => exact h.regPreload
  | start => exact h.regStart
  | replayStop => exact h.regReplayStop
  | unbind => exact h.regUnbind
  | rpleUnknownOp => exact h.regRpleUnknownOp
  | htimerWrite => exact h.regHtimerWrite
  | pstoRead => exact h.regPstoRead
  | pstoWrite => exact h.regPstoWrite
  | pstoInvalidOp => exact h.regPstoInvalidOp
  | protectionWrite => exact h.regProtectionWrite
  | alloc => exact h.regAlloc
  | config => exact h.regConfig
  | strandArm => exact h.regStrandArm
  | strandStop => exact h.regStrandStop
  | trigger => exact h.regTrigger
  | timedtrig => exact h.regTimedtrig
  | droprem => exact h.regDroprem
  | triggerLogPop => exact h.regTriggerLogPop
  | filterWrite => exact h.regFilterWrite
  | rewind => exact h.regRewind
  | release => exact h.regRelease
  | strdUnknownOp => exact h.regStrdUnknownOp
  | thrmExclWrite => exact h.regThrmExclWrite
  | thrmThreshWrite => exact h.regThrmThreshWrite
  | pcapWrite => exact h.regPcapWrite
  | thermalSave => exact h.regThermalSave
  | chunkSend => exact h.spdmServe fun h => h.spdmChunkSend
  | chunkGet => exact h.spdmServe fun h => h.spdmChunkGet
  | getVersion | getCapabilities | negotiateAlgorithms | getDigests | getCertificate | challenge | getMeasurements | getPqCert | getPqSig
  | respondIfReady => exact h.spdmServe fun h => h.spdmRequest
  | _ => exact other

theorem Kept.serveIo (h : Kept s₀ s) : Kept s₀ s.serveIo := h.update.foldl (fun h => h.performIo)
theorem keeps_execQuenchComplete {unsealed} (h : Kept s₀ s) : Keeps s₀ (execQuenchComplete unsealed s) :=
  (Kept.ite h (h.serveIo.quenchDrain.unless fun h => h.tableDown)).finish
theorem keeps_execQuenchLimitExpired {unsealed} (h : Kept s₀ s) : Keeps s₀ (execQuenchLimitExpired unsealed s) :=
  (Kept.ite h h.update.tableDown).finish
theorem Kept.flushWaited (h : Kept s₀ s) : Kept s₀ s.flushWaited := .ite h.update.flushLog h
theorem keeps_execWakeComplete (h : Kept s₀ s) : Keeps s₀ (execWakeComplete s) :=
  (Kept.ite h ((h.update.restOver.setMode.cause.foldl (fun h => h.dieNext)).serveHeld.serveIo.checkpointNext.flushWaited.next fun h =>
    (Kept.ite h.judgeMode h).resetPending)).finish

/-! ### Every command -/

theorem keeps_exec {c} (h : Kept s₀ s) : Keeps s₀ (exec c s) := by
  cases c with
  | vaonRise => exact keeps_execVaonRise h
  | vaonFall => exact keeps_execVaonFall h
  | adcSlot => exact keeps_execAdcSlot h
  | vinPowerGood => exact keeps_execVinPowerGood h
  | pfwNAssert => exact keeps_execPfwNAssert h
  | belayRise => exact keeps_execBelayRise h
  | belayTimeout => exact keeps_execBelayTimeout h
  | seqEntryDelayExpired => exact keeps_execSeqEntryDelayExpired h
  | seqWaitTimeout => exact keeps_execSeqWaitTimeout h
  | retryOffExpired => exact keeps_execRetryOffExpired h
  | faultHoldExpired => exact keeps_execFaultHoldExpired h
  | restartTimerExpired => exact keeps_execRestartTimerExpired h
  | supervisorSave => exact keeps_execSupervisorSave h
  | thresholdWrite => exact keeps_execThresholdWrite h
  | tableEntryWrite => exact keeps_execTableEntryWrite h
  | seqcfgWrite => exact keeps_execSeqcfgWrite h
  | pfwcfgWrite => exact keeps_execPfwcfgWrite h
  | holdupMeasureRequest => exact keeps_execHoldupMeasureRequest h
  | holdupMeasureDue => exact keeps_execHoldupMeasureDue h
  | holdupcfgWrite => exact keeps_execHoldupcfgWrite h
  | dirtycfgWrite => exact keeps_execDirtycfgWrite h
  | startStepComplete => exact keeps_execStartStepComplete h
  | startStepTimeout => exact keeps_execStartStepTimeout h
  | perstNAssert => exact keeps_execPerstNAssert h
  | perstNDeassert => exact keeps_execPerstNDeassert h
  | warmResetRequest => exact keeps_execWarmResetRequest h
  | coldResetRequest => exact keeps_execColdResetRequest h
  | warmEntryComplete => exact keeps_execWarmEntryComplete h
  | warmEntryTimeout => exact keeps_execWarmEntryTimeout h
  | modereqService => exact keeps_execModereqService h
  | modereqMemory => exact keeps_execModereqMemory h
  | modereqStream => exact keeps_execModereqStream h
  | modereqSafe => exact keeps_execModereqSafe h
  | modereqInvalid => exact keeps_execModereqInvalid h
  | serviceEntryComplete => exact keeps_execServiceEntryComplete h
  | quenchTrigger => exact keeps_execQuenchTrigger h
  | quenchLimitExpired => exact keeps_execQuenchLimitExpired h
  | quenchComplete => exact keeps_execQuenchComplete h
  | restEntry => exact keeps_execRestEntry h
  | restCommit => exact keeps_execRestCommit h
  | calendarDue => exact keeps_execCalendarDue h
  | wake => exact keeps_execWake h
  | wakeComplete => exact keeps_execWakeComplete h
  | htimerWrite => exact keeps_execHtimerWrite h
  | htimerDue => exact keeps_execHtimerDue h
  | registerWrite => exact keeps_execRegisterWrite h
  | registerReadError => exact keeps_execRegisterReadError h
  | rcRead => exact keeps_execRcRead h
  | istatW1c => exact keeps_execIstatW1c h
  | ienWrite => exact keeps_execIenWrite h
  | interruptForce => exact keeps_execInterruptForce h
  | errstatClear => exact keeps_execErrstatClear h
  | cxlMemRead => exact keeps_execCxlMemRead h
  | cxlMemWrite => exact keeps_execCxlMemWrite h
  | memwrptl => exact keeps_execMemwrptl h
  | dirtyWaitRelease => exact keeps_execDirtyWaitRelease h
  | gpfPhase1 => exact keeps_execGpfPhase1 h
  | gpfPhase2 => exact keeps_execGpfPhase2 h
  | cxlLinkUp => exact keeps_execCxlLinkUp h
  | cxlLinkDown => exact keeps_execCxlLinkDown h
  | birsp => exact keeps_execBirsp h
  | biTimeout => exact keeps_execBiTimeout h
  | identify => exact keeps_execIdentify h
  | identifyMemoryDevice => exact keeps_execIdentifyMemoryDevice h
  | getPartitionInfo => exact keeps_execGetPartitionInfo h
  | getEventRecords => exact keeps_execGetEventRecords h
  | clearEventRecords => exact keeps_execClearEventRecords h
  | getEventInterruptPolicy => exact keeps_execGetEventInterruptPolicy h
  | setEventInterruptPolicy => exact keeps_execSetEventInterruptPolicy h
  | getFwInfo => exact keeps_execGetFwInfo h
  | transferFwFull => exact keeps_execTransferFwFull h
  | transferFwInitiate => exact keeps_execTransferFwInitiate h
  | transferFwContinue => exact keeps_execTransferFwContinue h
  | transferFwEnd => exact keeps_execTransferFwEnd h
  | transferFwAbort => exact keeps_execTransferFwAbort h
  | transferFwTimeout => exact keeps_execTransferFwTimeout h
  | activateFw => exact keeps_execActivateFw h
  | getSupportedLogs => exact keeps_execGetSupportedLogs h
  | getLog => exact keeps_execGetLog h
  | getHealthInfo => exact keeps_execGetHealthInfo h
  | getAlertConfiguration => exact keeps_execGetAlertConfiguration h
  | setAlertConfiguration => exact keeps_execSetAlertConfiguration h
  | getShutdownState => exact keeps_execGetShutdownState h
  | setShutdownState => exact keeps_execSetShutdownState h
  | getPoisonList => exact keeps_execGetPoisonList h
  | injectPoison => exact keeps_execInjectPoison h
  | clearPoison => exact keeps_execClearPoison h
  | getScanMediaCapabilities => exact keeps_execGetScanMediaCapabilities h
  | scanMedia => exact keeps_execScanMedia h
  | getScanMediaResults => exact keeps_execGetScanMediaResults h
  | sanitize => exact keeps_execSanitize h
  | secureErase => exact keeps_execSecureErase h
  | getLsa => exact keeps_execGetLsa h
  | setLsa => exact keeps_execSetLsa h
  | getTimestamp => exact keeps_execGetTimestamp h
  | setTimestamp => exact keeps_execSetTimestamp h
  | unsupportedOpcode => exact keeps_execUnsupportedOpcode h
  | getOwnCommandSetVersion => exact keeps_execGetOwnCommandSetVersion h
  | getLatencyRecord => exact keeps_execGetLatencyRecord h
  | discardRange => exact keeps_execDiscardRange h
  | discardRangeComplete => exact keeps_execDiscardRangeComplete h
  | getHankWindows => exact keeps_execGetHankWindows h
  | getPersistenceState => exact keeps_execGetPersistenceState h
  | loadKeySlot => exact keeps_execLoadKeySlot h
  | bindRange => exact keeps_execBindRange h
  | rekeyRange => exact keeps_execRekeyRange h
  | rekeyStepComplete => exact keeps_execRekeyStepComplete h
  | lineFillComplete => exact keeps_execLineFillComplete h
  | missEntryFreed => exact keeps_execMissEntryFreed h
  | victimWriteComplete => exact keeps_execVictimWriteComplete h
  | tagCheckComplete => exact keeps_execTagCheckComplete h
  | rgnattrWrite => exact keeps_execRgnattrWrite h
  | rgnattrChangeComplete => exact keeps_execRgnattrChangeComplete h
  | prefetchHint => exact keeps_execPrefetchHint h
  | lfsrWrite => exact keeps_execLfsrWrite h
  | ncchDisable => exact keeps_execNcchDisable h
  | ncchEnable => exact keeps_execNcchEnable h
  | sliceDrained => exact keeps_execSliceDrained h
  | dramRefreshDue => exact keeps_execDramRefreshDue h
  | actWindowReset => exact keeps_execActWindowReset h
  | burstWindowEnd => exact keeps_execBurstWindowEnd h
  | drmcShareWrite => exact keeps_execDrmcShareWrite h
  | hostDestage => exact keeps_execHostDestage h
  | pageProgramComplete => exact keeps_execPageProgramComplete h
  | eraseComplete => exact keeps_execEraseComplete h
  | anneal => exact keeps_execAnneal h
  | gcStart => exact keeps_execGcStart h
  | moveComplete => exact keeps_execMoveComplete h
  | mapLineRebuilt => exact keeps_execMapLineRebuilt h
  | hdrcfgWrite => exact keeps_execHdrcfgWrite h
  | checkpointDue => exact keeps_execCheckpointDue h
  | checkpointComplete => exact keeps_execCheckpointComplete h
  | dieStatusPoll => exact keeps_execDieStatusPoll h
  | rbNRise chan => exact keeps_execRbNRise (_chan := chan) h
  | dieCommandTimeout => exact keeps_execDieCommandTimeout h
  | suspendEffective => exact keeps_execSuspendEffective h
  | arrayReadComplete => exact keeps_execArrayReadComplete h
  | codewordTransferComplete => exact keeps_execCodewordTransferComplete h
  | decodeComplete => exact keeps_execDecodeComplete h
  | softDecodeComplete => exact keeps_execSoftDecodeComplete h
  | rebuildComplete => exact keeps_execRebuildComplete h
  | planishRead => exact keeps_execPlanishRead h
  | planishDeadlineMissed => exact keeps_execPlanishDeadlineMissed h
  | retirementPhaseComplete => exact keeps_execRetirementPhaseComplete h
  | retrainDue => exact keeps_execRetrainDue h
  | retrainStepComplete => exact keeps_execRetrainStepComplete h
  | mediaCoreWatchdog => exact keeps_execMediaCoreWatchdog h
  | seqCoreWatchdog => exact keeps_execSeqCoreWatchdog h
  | mainWatchdog => exact keeps_execMainWatchdog h
  | ilknLinkupStep => exact keeps_execIlknLinkupStep h
  | ilknLinkupTimeout => exact keeps_execIlknLinkupTimeout h
  | ilknRestartDelay => exact keeps_execIlknRestartDelay h
  | ilknAlignmentLoss => exact keeps_execIlknAlignmentLoss h
  | flowControlWord => exact keeps_execFlowControlWord h
  | dataSegment => exact keeps_execDataSegment h
  | version => exact keeps_execVersion h
  | versionFrameTimer => exact keeps_execVersionFrameTimer h
  | tod => exact keeps_execTod h
  | arm => exact keeps_execArm h
  | stop => exact keeps_execStop h
  | trig => exact keeps_execTrig h
  | unknownControlFrame => exact keeps_execUnknownControlFrame h
  | alloc => exact keeps_execAlloc h
  | allocAdoptComplete => exact keeps_execAllocAdoptComplete h
  | config => exact keeps_execConfig h
  | strandArm => exact keeps_execStrandArm h
  | strandStop => exact keeps_execStrandStop h
  | trigger => exact keeps_execTrigger h
  | timedtrig => exact keeps_execTimedtrig h
  | droprem => exact keeps_execDroprem h
  | rewind => exact keeps_execRewind h
  | release => exact keeps_execRelease h
  | releaseComplete => exact keeps_execReleaseComplete h
  | strdUnknownOp => exact keeps_execStrdUnknownOp h
  | armTimeReached => exact keeps_execArmTimeReached h
  | timedTriggerDue => exact keeps_execTimedTriggerDue h
  | filterWrite => exact keeps_execFilterWrite h
  | triggerLogPop => exact keeps_execTriggerLogPop h
  | sealIntervalExpired => exact keeps_execSealIntervalExpired h
  | indexRebuildComplete => exact keeps_execIndexRebuildComplete h
  | trigInEdge => exact keeps_execTrigInEdge h
  | trigOutRise => exact keeps_execTrigOutRise h
  | trigOutPulseEnd => exact keeps_execTrigOutPulseEnd h
  | bind => exact keeps_execBind h
  | replayConfig => exact keeps_execReplayConfig h
  | preload => exact keeps_execPreload h
  | start => exact keeps_execStart h
  | replayStop => exact keeps_execReplayStop h
  | unbind => exact keeps_execUnbind h
  | rpleUnknownOp => exact keeps_execRpleUnknownOp h
  | replayPageRead => exact keeps_execReplayPageRead h
  | replayPageBuffered => exact keeps_execReplayPageBuffered h
  | recordDue => exact keeps_execRecordDue h
  | gapMarkerEnd => exact keeps_execGapMarkerEnd h
  | segmentSent => exact keeps_execSegmentSent h
  | timeSeek => exact keeps_execTimeSeek h
  | recordCount => exact keeps_execRecordCount h
  | qryeUnknownOp => exact keeps_execQryeUnknownOp h
  | queryComplete => exact keeps_execQueryComplete h
  | pageReencryptComplete => exact keeps_execPageReencryptComplete h
  | rangeDefWrite => exact keeps_execRangeDefWrite h
  | thermalFrame => exact keeps_execThermalFrame h
  | xoffDutyPeriod => exact keeps_execXoffDutyPeriod h
  | clockChangeComplete => exact keeps_execClockChangeComplete h
  | thrmExclWrite => exact keeps_execThrmExclWrite h
  | thrmThreshWrite => exact keeps_execThrmThreshWrite h
  | pcapWrite => exact keeps_execPcapWrite h
  | thermalSave => exact keeps_execThermalSave h
  | recorderTick => exact keeps_execRecorderTick h
  | recorder10msTick => exact keeps_execRecorder10msTick h
  | longLogFlushDue => exact keeps_execLongLogFlushDue h
  | criticalCopyTimer => exact keeps_execCriticalCopyTimer h
  | cursorPlace => exact keeps_execCursorPlace h
  | cursorAdvance => exact keeps_execCursorAdvance h
  | windowFillComplete => exact keeps_execWindowFillComplete h
  | newrecTimeout => exact keeps_execNewrecTimeout h
  | recorderSave => exact keeps_execRecorderSave h
  | rateClassWrite => exact keeps_execRateClassWrite h
  | pstoRead => exact keeps_execPstoRead h
  | pstoWrite => exact keeps_execPstoWrite h
  | pstoInvalidOp => exact keeps_execPstoInvalidOp h
  | protectionWrite => exact keeps_execProtectionWrite h
  | recordDeferExpired => exact keeps_execRecordDeferExpired h
  | getVersion => exact keeps_execGetVersion h
  | getCapabilities => exact keeps_execGetCapabilities h
  | negotiateAlgorithms => exact keeps_execNegotiateAlgorithms h
  | getDigests => exact keeps_execGetDigests h
  | getCertificate => exact keeps_execGetCertificate h
  | challenge => exact keeps_execChallenge h
  | getMeasurements => exact keeps_execGetMeasurements h
  | getPqCert => exact keeps_execGetPqCert h
  | getPqSig => exact keeps_execGetPqSig h
  | chunkSend => exact keeps_execChunkSend h
  | chunkGet => exact keeps_execChunkGet h
  | respondIfReady => exact keeps_execRespondIfReady h
  | sidebandRead => exact keeps_execSidebandRead h
  | sidebandWrite => exact keeps_execSidebandWrite h
  | ppsEdge => exact keeps_execPpsEdge h
  | discWrite => exact keeps_execDiscWrite h
  | coreReloadComplete => exact keeps_execCoreReloadComplete h
  | storePageWriteComplete => exact keeps_execStorePageWriteComplete h
  | recallComplete => exact keeps_execRecallComplete h
  | healthConfirm => exact keeps_execHealthConfirm h
  | trialTimerExpired => exact keeps_execTrialTimerExpired h
  | timeSet => exact keeps_execTimeSet h
  | timeloRead => exact keeps_execTimeloRead h
  | ppsMissedSecond => exact keeps_execPpsMissedSecond h
  | atppsSetTimeout => exact keeps_execAtppsSetTimeout h
  | belayMinHoldExpired => exact keeps_execBelayMinHoldExpired h

/-! ### The step -/

theorem Kept.part (h : Kept s t) : t.fuse.part = s.fuse.part := congrArg (·.part) h.fused
theorem Kept.grade (h : Kept s t) : t.fuse.grade = s.fuse.grade := congrArg (·.grade) h.fused
theorem Kept.stepping (h : Kept s t) : t.fuse.stepping = s.fuse.stepping := congrArg (·.stepping) h.fused
theorem Kept.svcStrap (h : Kept s t) : t.fuse.svcStrap = s.fuse.svcStrap := congrArg (·.svcStrap) h.fused

/-- A step takes the command at the front off the queue, and then keeps the queue and the fused identity as that command does. -/
theorem keeps_step (s : State) : Keeps { s with pending := s.pending.tail } (step s) := by
  unfold step
  split
  · next e => exact .next (Kept.tick ⟨by rw [e]; rfl, rfl⟩)
  · next e => exact keeps_exec ⟨by rw [e]; rfl, rfl⟩

end Sys2Proof.Machine
end

section
namespace Sys2Proof.Machine

/-- Settles O5: every command keeps the queue and the fused identity (`keeps_exec`, a lemma for each operation that it runs), and a step takes
its command off before it performs it (`keeps_step`). -/
theorem fusesAndQueueKept : Obligations.FusesAndQueueKept := by
  unfold Obligations.FusesAndQueueKept
  refine ⟨fun c s t e => ?_, fun s t e => ?_⟩
  · have kept : Kept s t := keeps_exec (.refl s) t e
    exact ⟨kept.queue, kept.part, kept.grade, kept.stepping, kept.svcStrap⟩
  · have kept := keeps_step s t e
    exact ⟨kept.queue, kept.part⟩

end Sys2Proof.Machine
end

section
/-!
SUPPORT. Requests for registers: performed as they arrive, held in REST, and the one slot, or the slots, that each reads or writes
(03_registers_and_hallmark.md R103 to R108; 02_modes_and_starts.md R73, R74).
-/
namespace Sys2Proof.Machine

variable {s t : State} {b : Block} {c : Instr} {p : State → Prop}

/-! ### The end of a command -/

/-- A command that ends in `t` answers what holds of the end of `t`. -/
theorem answers_of_finish (e : exec c s = finish t) (h : p t.settle) : answers c s p := ⟨t.settle, e, h⟩

/-- A command that ends in `t` and has raised no record answers what holds of `t`. -/
theorem answers_of_finish_settled (e : exec c s = finish t) (q : t.settled) (h : p t) : answers c s p :=
  answers_of_finish e (by rwa [settle_quiet q])

/-- What is sent last is sent by the end of the command. -/
theorem mem_out_send_settle (s : State) (o : Out) : o ∈ (s.send o).settle.out := (sent_settle _).kept o (List.mem_cons_self ..)

/-- An error of a unit in service, while its ERRSTAT holds none, is captured (R118). -/
theorem captured_error {code addr : Nat} (hs : s.silent b = false) (hv : (s.hdr b).evalid = false) (hc : code < 256) (ha : addr < 2 ^ 28) :
    captured (s.error b code addr) b code addr := by
  simpa [captured, error_hdr_same s code addr 0 4 hs, hv, Nat.mod_eq_of_lt hc] using ha

/-- What a block other than EVTR has captured stays to the end of the command. -/
theorem captured_settle {code addr : Nat} (hp : b.page ≠ 5) (h : captured t b code addr) : captured t.settle b code addr := by
  unfold captured
  rwa [settle_hdr t hp]

/-! ### Requests as they arrive, and in REST (R73, R74, R99) -/

/-- A request of an awake controller for a register is performed as it arrives. -/
theorem reg_awake (h : s.awake) (c : Instr) (f : State → State) : s.reg c f = f s := by
  obtain ⟨mode, entering, hold⟩ := h
  simp [State.reg, State.io, State.side, mode, entering, hold]

/-- The request waits for the wake that it starts. -/
def State.awaiting (s : State) (c : Instr) : State := { s with rest := { s.rest with io := s.rest.io ++ [c], waking := true } }

section
variable (mode : s.sysc.mode = .rest) (entering : s.rest.entering = none) (hold : s.boot.recoveryHold = false)
  (c : Instr) (f : State → State)
include mode

theorem side_resting : s.side c f = s.awaiting c := if_pos mode

include entering

theorem io_resting : s.io c f = s.awaiting c := by
  simp [State.io, entering, side_resting mode]

theorem mbRow_resting (iface opcode : Nat) (fw : Bool) : s.mbRow iface opcode c fw f = s.awaiting c := by
  unfold State.mbRow
  split
  · exact io_resting mode entering ..
  · exact side_resting mode ..

theorem spdmRow_resting (conn : Nat) : s.spdmRow conn c f = s.awaiting c := by
  unfold State.spdmRow
  split
  · exact io_resting mode entering ..
  · exact side_resting mode ..

include hold

theorem reg_resting : s.reg c f = s.awaiting c := by
  simp [State.reg, hold, io_resting mode entering]

end

/-- In REST each of the commands that are a request waits (R73; log 38). -/
theorem exec_resting (request : wakes c = true) (mode : s.sysc.mode = .rest) (entering : s.rest.entering = none)
    (hold : s.boot.recoveryHold = false) : exec c s = finish (s.awaiting c) := by
  cases c with
  | registerWrite | registerReadError | rcRead | istatW1c | ienWrite | interruptForce | errstatClear | healthConfirm | timeSet | timeloRead
  | discWrite | drmcShareWrite | cursorPlace | cursorAdvance | recorderSave | rateClassWrite | rgnattrWrite | prefetchHint | lfsrWrite
  | ncchDisable | ncchEnable | hdrcfgWrite | supervisorSave | thresholdWrite | tableEntryWrite | seqcfgWrite | pfwcfgWrite
  | holdupMeasureRequest | holdupcfgWrite | dirtycfgWrite | rangeDefWrite | timeSeek | recordCount | qryeUnknownOp | bind | replayConfig
  | preload | start | replayStop | unbind | rpleUnknownOp | htimerWrite | pstoRead | pstoWrite | pstoInvalidOp | protectionWrite | alloc
  | config | strandArm | strandStop | trigger | timedtrig | droprem | triggerLogPop | filterWrite | rewind | release | strdUnknownOp
  | thrmExclWrite | thrmThreshWrite | pcapWrite | thermalSave =>
    exact congrArg finish (reg_resting mode entering hold ..)
  | sidebandRead | sidebandWrite => exact congrArg finish (side_resting mode ..)
  | getVersion | getCapabilities | negotiateAlgorithms | getDigests | getCertificate | challenge | getMeasurements | getPqCert | getPqSig
  | chunkSend | chunkGet | respondIfReady =>
    exact congrArg finish (spdmRow_resting mode entering ..)
  | identify | identifyMemoryDevice | getPartitionInfo | getEventRecords | clearEventRecords | getEventInterruptPolicy
  | setEventInterruptPolicy | getFwInfo | transferFwFull | transferFwInitiate | transferFwContinue | transferFwEnd | transferFwAbort
  | activateFw | getSupportedLogs | getLog | getHealthInfo | getAlertConfiguration | setAlertConfiguration | getShutdownState
  | setShutdownState | getPoisonList | injectPoison | clearPoison | getScanMediaCapabilities | scanMedia | getScanMediaResults | sanitize
  | secureErase | getLsa | setLsa | getTimestamp | setTimestamp | unsupportedOpcode | getOwnCommandSetVersion | getLatencyRecord
  | discardRange | getHankWindows | getPersistenceState | loadKeySlot | bindRange | rekeyRange =>
    exact congrArg finish (mbRow_resting mode entering ..)
  | _ => exact absurd request Bool.false_ne_true

/-! ### The block of a page (R107, R133) -/

theorem page_of_blockAt {q : Part} {page : Nat} (h : blockAt q page = some b) : b.page = page := by simpa using List.find?_some h

theorem page_lt_of_mem {q : Part} (h : b ∈ directory q) : b.page < 512 := by
  revert b
  cases q <;> decide

/-- The register pages end before BAR2. -/
theorem lt_bar2Base_of_blockAt {q : Part} {off : Nat} (h : blockAt q (off / 8 * 8 / 4096) = some b) : off < bar2Base := by
  have page : b.page = off / 8 * 8 / 4096 := page_of_blockAt h
  have bound : b.page < 512 := page_lt_of_mem (List.mem_of_find?_eq_some h)
  unfold bar2Base
  omega

theorem blockAt_rest (q : Part) : blockAt q 2 = some .rest := by cases q <;> rfl
theorem blockAt_coht (q : Part) : blockAt q 9 = some .coht := by cases q <;> rfl
theorem blockAt_cxlp (q : Part) : blockAt q 0x10 = some .cxlp := by cases q <;> rfl
theorem blockAt_kspe (q : Part) : blockAt q 0x21 = some .kspe := by cases q <;> rfl
theorem blockAt_ncch : ∀ i < 16, blockAt .p4860 (Block.ncch i).page = some (.ncch i) := by decide

/-! ### Reads (R103 to R108) -/

section
variable {off : Nat}

theorem slotCount_of_byteMask {bytes : Nat} (h : bytes < 256) : slotCount bytes = 1 := by
  have : bytes.log2 < 8 := by
    by_cases z : bytes = 0
    · simp [z]
    · exact (Nat.log2_lt z).2 h
  unfold slotCount
  omega

/-- A read of bytes of one register slot. -/
theorem readSlots_one {bytes : Nat} (ho : off < bar2Base) (hb : bytes < 256) :
    s.readSlots off bytes = (s.readSlot false off bytes).1.send (.regRead (s.readSlot false off bytes).2) := by
  simp [State.readSlots, slotCount_of_byteMask hb, ho, Nat.mod_eq_of_lt hb]

theorem readSlot_whole (side : Bool) (h : blockAt s.fuse.part (off / 8 * 8 / 4096) = some b) :
    s.readSlot side off 0xFF = (s.readEffect side b (off / 8 * 8 % 4096), BitVec.ofNat 64 (s.readReg side b (off / 8 * 8 % 4096)).toNat) := by
  simp [State.readSlot, h]

theorem readSlot_refused {bytes : Nat} (side : Bool) (h : blockAt s.fuse.part (off / 8 * 8 / 4096) = some b) (hb : bytes < 255)
    (low : bytes ≠ 0x0F) : s.readSlot side off bytes = (s.error b 0x01 (off / 8), BitVec.allOnes 64) := by
  have all : bytes ≠ 0xFF := by omega
  simp [State.readSlot, h, Nat.mod_eq_of_lt (show bytes < 256 by omega), low, all]

theorem readSlot_empty (side : Bool) (bytes : Nat) (h : blockAt s.fuse.part (off / 8 * 8 / 4096) = none) :
    s.readSlot side off bytes = (s.error .hall 0x03 (off / 8), 0) := by
  simp [State.readSlot, h]

/-- RC_READ of a whole slot of a block. -/
theorem exec_rcRead_whole (ha : s.awake) (h : blockAt s.fuse.part (off / 8 * 8 / 4096) = some b) :
    exec (.rcRead off 0xFF) s = finish ((s.readEffect false b (off / 8 * 8 % 4096)).send
      (.regRead (BitVec.ofNat 64 (s.readReg false b (off / 8 * 8 % 4096)).toNat))) := by
  show finish (s.reg _ _) = _
  rw [reg_awake ha, readSlots_one (lt_bar2Base_of_blockAt h) (by decide), readSlot_whole false h]

/-- REGISTER_READ_ERROR of bytes of one slot. -/
theorem exec_registerReadError_one {bytes : Nat} (ha : s.awake) (ho : off < bar2Base) (hb : bytes < 256) :
    exec (.registerReadError off bytes) s =
      finish ((s.readSlot false off bytes).1.send (.regRead (s.readSlot false off bytes).2)) := by
  show finish (s.reg _ _) = _
  rw [reg_awake ha, readSlots_one ho hb]

/-! ### Writes (R103, R107, R111) -/

theorem writeSlot_whole (who : Nat) (v : BitVec 64) (h : blockAt s.fuse.part (off / 8 * 8 / 4096) = some b) :
    s.writeSlot who off 0xFF v = s.writeReg who b (off / 8 * 8 % 4096) (v.setWidth 40) := by
  simp [State.writeSlot, h]

theorem writeSlot_refused {enables : Nat} (who : Nat) (v : BitVec 64) (h : blockAt s.fuse.part (off / 8 * 8 / 4096) = some b)
    (he : enables % 256 ≠ 0xFF) : s.writeSlot who off enables v = s.error b 0x02 (off / 8) := by
  simp [State.writeSlot, h, he]

theorem writeSlots_cons_some {enables : Nat} (v : BitVec 64) (l : List (Nat × BitVec 64)) (h : enables % 256 ≠ 0) :
    s.writeSlots off ((enables, v) :: l) = (s.writeSlot 0 off enables v).writeSlots (off + 8) l := by
  simp [State.writeSlots, h]

theorem exec_registerWrite (ha : s.awake) (x : RegTarget) : exec (.registerWrite x) s = finish (s.registerWrite x) :=
  congrArg finish (reg_awake ha ..)

theorem writeReg_fuse_part (s : State) (who : Nat) (b : Block) (o : Nat) (v : Word) : (s.writeReg who b o v).fuse.part = s.fuse.part :=
  (Kept.refl s).writeReg.part

/-- REGISTER_WRITE of a whole slot of a block. -/
theorem registerWrite_whole (v : BitVec 64) (h : blockAt s.fuse.part (off / 8 * 8 / 4096) = some b) :
    s.registerWrite (.bar0 off 0xFF v none) = s.writeReg 0 b (off / 8 * 8 % 4096) (v.setWidth 40) := by
  show s.writeSlots off [(0xFF, v)] = _
  rw [writeSlots_cons_some _ _ (by decide), writeSlot_whole 0 v h]
  rfl

/-- REGISTER_WRITE of two slots that follow one another. -/
theorem registerWrite_two {d : Block} (v w : BitVec 64) (h : blockAt s.fuse.part (off / 8 * 8 / 4096) = some b)
    (g : blockAt s.fuse.part ((off + 8) / 8 * 8 / 4096) = some d) :
    s.registerWrite (.slots off [(0xFF, v), (0xFF, w)]) =
      (s.writeReg 0 b (off / 8 * 8 % 4096) (v.setWidth 40)).writeReg 0 d ((off + 8) / 8 * 8 % 4096) (w.setWidth 40) := by
  show s.writeSlots off [(0xFF, v), (0xFF, w)] = _
  rw [writeSlots_cons_some _ _ (by decide), writeSlots_cons_some _ _ (by decide), writeSlot_whole 0 v h,
    writeSlot_whole 0 w (by rwa [writeReg_fuse_part])]
  rfl

/-- REGISTER_WRITE of some bytes of a slot (R103). -/
theorem registerWrite_refused {enables : Nat} (v : BitVec 64) (h : blockAt s.fuse.part (off / 8 * 8 / 4096) = some b)
    (touched : enables % 256 ≠ 0) (few : enables % 256 ≠ 0xFF) : s.registerWrite (.bar0 off enables v none) = s.error b 0x02 (off / 8) := by
  show s.writeSlots off [(enables, v)] = _
  rw [writeSlots_cons_some _ _ touched, writeSlot_refused 0 v h few]
  rfl

end

/-! ### Words -/

theorem setFld_fld (w : Word) (lo len : Nat) : setFld w lo len (fld w lo len) = w := by
  have low : fld w lo len * 2 ^ lo ≤ w.toNat :=
    Nat.le_trans (Nat.mul_le_mul_right _ (Nat.mod_le ..)) (Nat.div_mul_le_self ..)
  have kept : fld w lo len % 2 ^ len = fld w lo len := Nat.mod_mod ..
  rw [setFld, kept, Nat.sub_add_cancel low, BitVec.ofNat_toNat, BitVec.setWidth_eq]

/-- A field of 0 is held as 1, and any other as it is (log 35). -/
theorem oneAtLeast_eq (v : Word) (lo len : Nat) : oneAtLeast v lo len = if fld v lo len = 0 then setFld v lo len 1 else v := by
  unfold oneAtLeast
  split
  · next h => rw [h, Nat.max_eq_left (by decide)]
  · next h => rw [Nat.max_eq_right (by omega), setFld_fld]

/-- A slot written with every byte enabled takes the value. -/
theorem mergeSlot_whole (old : Nat) (v : BitVec 64) : mergeSlot old v.toNat 0xFF = v.toNat := by
  have bound : v.toNat < 2 ^ 64 := v.isLt
  simp [mergeSlot, List.range_succ, pack, Nat.testBit]
  omega

end Sys2Proof.Machine
end

section
/-!
SUPPORT. What a write to the common header leaves in it, and the message that it sends (03_registers_and_hallmark.md R114 to R118).
-/
namespace Sys2Proof.Machine

variable {s : State} {b : Block} {page : Nat}

/-! ### Writes to the header (R114 to R118) -/

/-- A write that leaves a request of the block on its vector, which is not masked, sends the vector's message (R117). -/
theorem signal_written_sends {f : Hdr → Hdr} (present : b ∈ s.blocks) (unmasked : b.vec ∉ s.cxlp.msixMask)
    (requests : (f (s.hdr b)).requests = true) : .msix b.vec ∈ (s.signal b true f).out := by
  have request : (s.modHdr b f).vecReq b.vec = true :=
    List.any_eq_true.2 ⟨b, present, by rw [modHdr_hdr_same, requests, decide_eq_true rfl]; rfl⟩
  have sent : (s.signal b true f) = (s.modHdr b f).send (.msix b.vec) := by
    simp only [State.signal, request, Bool.true_or, Bool.and_self, if_true]
    exact if_neg unmasked
  rw [sent]
  exact List.mem_cons_self ..

/-- No cause sets nothing. -/
theorem setCause_zero_hdr (s : State) (b : Block) : (s.setCause b 0).hdr b = s.hdr b := by
  rw [setCause_hdr_same, Nat.or_zero, ite_self]

theorem clrBits_zero (n : Nat) : clrBits n 0 = n := by simp [clrBits]

theorem wrIstat_hdr (s : State) (b : Block) (v : Word) (together : Nat) :
    (s.wrIstat b v together).hdr b = { s.hdr b with istat := clrBits (s.hdr b).istat (clrBits (fld v 0 20) together) } := signal_hdr_same ..

section
variable (h : blockAt s.fuse.part page = some b)
include h

theorem headerWrite_of_block (slot : Nat) (f : State → Block → State) : s.headerWrite page slot f = f s b := by
  simp [State.headerWrite, h]

/-- ISTAT after a write: a retired block has no cause in the same cycle, and the causes of any other stay (R116, R123). -/
theorem istatW1c_hdr (v : Word) (together : Nat) : (s.istatW1c page v together).hdr b = { s.hdr b with
    istat := if (s.hdr b).outsvc then clrBits (s.hdr b).istat (fld v 0 20)
      else clrBits ((s.hdr b).istat ||| together % 2 ^ 20) (clrBits (fld v 0 20) together) } := by
  rw [State.istatW1c, headerWrite_of_block h]
  cases out : (s.hdr b).outsvc with
  | true => simp only [out, if_true, wrIstat_hdr, Nat.zero_mod, setCause_zero_hdr, clrBits_zero]
  | false => simp [out, wrIstat_hdr, silent_of_serving out]

theorem ienWrite_hdr (v : Word) :
    (s.ienWrite page v).hdr b = { s.hdr b with ien := fld v 0 20, istat := (s.hdr b).istat ||| fld v 20 20 } := by
  rw [State.ienWrite, headerWrite_of_block h]
  exact signal_hdr_same ..

theorem errstatClear_hdr (v : Word) : (s.errstatClear page v).hdr b =
    if wbit v 8 then { s.hdr b with ecode := 0, evalid := false, emulti := false, eaddr := 0 } else s.hdr b := by
  rw [State.errstatClear, headerWrite_of_block h, State.wrErrstat]
  split
  · split <;> exact modHdr_hdr_same ..
  · rfl

end

/-- A write to the header of a page that holds no block is captured by HALL (R107). -/
theorem captured_headerWrite {slot : Nat} (f : State → Block → State) (h : blockAt s.fuse.part page = none) (hp : page < 1024) (hs : slot < 512)
    (hv : (s.hdr .hall).evalid = false) : captured (s.headerWrite page slot f).settle .hall 0x03 (page * 512 + slot) := by
  have e : s.headerWrite page slot f = s.error .hall 0x03 (page * 512 + slot) := by simp [State.headerWrite, h]
  rw [e]
  exact captured_settle (by decide) (captured_error (silent_of_fixed s rfl) hv (by decide) (by omega))

theorem exec_istatW1c (ha : s.awake) (v : Word) (together : Nat) :
    exec (.istatW1c page v together) s = finish (s.istatW1c page v together) := congrArg finish (reg_awake ha ..)
theorem exec_ienWrite (ha : s.awake) (v : Word) : exec (.ienWrite page v) s = finish (s.ienWrite page v) := congrArg finish (reg_awake ha ..)
theorem exec_interruptForce (ha : s.awake) (v : Word) : exec (.interruptForce page v) s = finish (s.ienWrite page v) :=
  congrArg finish (reg_awake ha ..)
theorem exec_errstatClear (ha : s.awake) (v : Word) : exec (.errstatClear page v) s = finish (s.errstatClear page v) :=
  congrArg finish (reg_awake ha ..)

end Sys2Proof.Machine
end

section
/-!
SUPPORT. The registers whose accesses the statements name: REST.POLICY, the port's control, counts that a read clears, the near cache's
RGNATTR, the HDM decoders and the MSI-X table.
-/
namespace Sys2Proof.Machine

variable {s : State} {b : Block} {i j : Nat} {x : Word}

/-! ### Single registers -/

/-- REST.POLICY as a write leaves it: a field of 0 is held as 1 (log 35). -/
def heldPolicy (v : Word) : Word := let x := keep v 0x3FFFFFF; if fld x 16 8 = 0 then setFld x 16 8 1 else x

theorem serves_of_ready (side : Bool) (h : s.on b) : s.serves side b = true := by
  unfold State.on at h
  simp [State.serves, h]

theorem writeReg_block {who o : Nat} {v : Word} (h : s.on b) (ho : 0x40 ≤ o) : s.writeReg who b o v = s.wrBlock who b o v := by
  simp [State.writeReg, Nat.not_lt.2 ho, serves_of_ready _ h]

theorem writeReg_policy (who : Nat) (v : Word) (h : s.on .rest) :
    s.writeReg who .rest 0x40 v = { s with rest := { s.rest with policy := heldPolicy v } } := by
  rw [writeReg_block h (by decide), heldPolicy, ← oneAtLeast_eq]
  rfl

theorem registerWrite_policy (v : BitVec 64) (h : s.on .rest) :
    s.registerWrite (.bar0 0x2040 0xFF v none) = { s with rest := { s.rest with policy := heldPolicy (v.setWidth 40) } } :=
  (registerWrite_whole v (blockAt_rest _)).trans (writeReg_policy 0 _ h)

/-- A management core's write to REST.POLICY in the cycle of the host's remains (R111). -/
theorem registerWrite_policy_core (v : BitVec 64) (w : Word) (h : s.on .rest) :
    (s.registerWrite (.bar0 0x2040 0xFF v (some w))).rest = { s.rest with policy := heldPolicy w } := by
  have host : s.writeSlots 0x2040 [(0xFF, v)] = { s with rest := { s.rest with policy := heldPolicy (v.setWidth 40) } } :=
    registerWrite_policy v h
  have core {u : State} (on : u.on .rest) : (u.coreWrite 0x2040 w).rest = { u.rest with policy := heldPolicy w } := by
    simp only [State.coreWrite, Nat.reduceDiv, Nat.reduceMul, Nat.reduceMod, blockAt_rest, writeReg_policy 2 w on, raise_rest]
  show State.rest (State.coreWrite (s.writeSlots 0x2040 [(0xFF, v)]) 0x2040 w) = _
  rw [host, core (by exact h)]

theorem registerWrite_portctl (v : BitVec 64) (h : s.on .cxlp) : s.registerWrite (.bar0 0x10050 0xFF v none) =
    { s with cxlp := { s.cxlp with portctl := oneAtLeast (keep (v.setWidth 40) 0x1FFFF) 0 16 } } :=
  (registerWrite_whole v (blockAt_cxlp _)).trans (writeReg_block h (by decide))

/-! ### Registers that a read clears (R105) -/

theorem readEffect_evict (side : Bool) (h : s.on .cxlp) : s.readEffect side .cxlp 0x58 = { s with cxlp.evict := 0 } := by
  simp [State.readEffect, serves_of_ready side h]

theorem readEffect_triggers (side : Bool) (h : s.on .coht) :
    s.readEffect side .coht 0x88 = { s with coht.trigIn := 0, coht.merged := 0, coht.lateOut := 0 } := by
  simp [State.readEffect, serves_of_ready side h]

theorem readEffect_discards (side : Bool) (h : s.on .kspe) :
    s.readEffect side .kspe 0x60 = { s with kspe.disc := tput 0 (tput 0 s.kspe.disc 0 0) 1 0 } := by
  simp [State.readEffect, serves_of_ready side h]

/-! ### The near cache's global fields (05_near_cache.md R233) -/

/-- The place of RGNATTR in a slice's page. -/
def rgnattrAt (i : Nat) : Nat := (Block.ncch i).page * 4096 + 0x40

theorem rgnattrAt_slot (i : Nat) : rgnattrAt i / 8 * 8 = rgnattrAt i := by unfold rgnattrAt; omega
theorem rgnattrAt_page (i : Nat) : rgnattrAt i / 4096 = (Block.ncch i).page := by unfold rgnattrAt; omega
theorem rgnattrAt_offset (i : Nat) : rgnattrAt i % 4096 = 0x40 := by unfold rgnattrAt; omega

theorem rgnattrAt_lt (h : i < j) : rgnattrAt i < rgnattrAt j := by
  simp only [rgnattrAt, Block.page]
  omega

theorem blockAt_rgnattrAt (part : s.fuse.part = .p4860) (h : i < 16) : blockAt s.fuse.part (rgnattrAt i / 4096) = some (.ncch i) := by
  rw [part, rgnattrAt_page, blockAt_ncch i h]

/-- Of two writes to RGNATTR in one cycle that through the higher page remains, where its slice is live. -/
theorem remaining_rgnattr (v w : BitVec 64) (part : s.fuse.part = .p4860) (h : i < j) (hj : j < 16) (live : j ∈ s.liveSlices) :
    s.remaining (inOrder [(rgnattrAt j, v), (rgnattrAt i, w)]) = [(rgnattrAt j, v)] := by
  have order : inOrder [(rgnattrAt j, v), (rgnattrAt i, w)] = [(rgnattrAt i, w), (rgnattrAt j, v)] := by
    simp [inOrder, Nat.not_le.2 (rgnattrAt_lt h)]
  have same : s.sameGlobal (rgnattrAt i, w) (rgnattrAt j, v) = true := by
    simp [State.sameGlobal, blockAt_rgnattrAt part (Nat.lt_trans h hj), blockAt_rgnattrAt part hj, rgnattrAt_slot, rgnattrAt_offset, live,
      Nat.ne_of_lt h]
  simp [order, State.remaining, same]

theorem registerWrite_rgnattr (v w : BitVec 64) (ready : s.ncchReady = true) (part : s.fuse.part = .p4860) (idle : s.ncch.busy = []) (h : i < j)
    (live : j ∈ s.liveSlices) (hj : j < 16) (on : s.on (.ncch j)) :
    (s.registerWrite (.cycle [(rgnattrAt j, v), (rgnattrAt i, w)])).ncch.rgnattr = keep (v.setWidth 40) 0x3FFFFFFFF := by
  have slot : s.writeSlot 0 (rgnattrAt j) 0xFF v = s.regRgnattrWrite (v.setWidth 40) := by
    rw [writeSlot_whole 0 v (by rw [rgnattrAt_slot]; exact blockAt_rgnattrAt part hj), rgnattrAt_slot, rgnattrAt_offset,
      writeReg_block on (by decide)]
    rfl
  simp [State.registerWrite, remaining_rgnattr v w part h hj live, slot, State.regRgnattrWrite, ready, part, idle]

/-! ### Decoders (04_host_port.md R137, R144, R145) -/

section
variable {base size ways gran : Nat} {db : Bool}

theorem interleaveOk_iff : interleaveOk ways gran = true ↔ ways ∈ [1, 2, 4, 8] ∧ gran ∈ [256, 512, 1024, 2048, 4096, 8192, 16384] := by
  rw [interleaveOk, Bool.and_eq_true, decide_eq_true_iff, decide_eq_true_iff]

/-- What the commit of a decoder requires. -/
def decoderOk (base size : Nat) (db : Bool) (ways gran : Nat) : Bool :=
  decide (dpaRegion base = dpaRegion (base + size - 1) ∧ dpaRegion base < 3 ∧ 0 < size) && !(db && decide (dpaRegion base = 0)) &&
    interleaveOk ways gran

theorem commitDecoder_eq (h : i < 8) : s.commitDecoder i base size db ways gran = { s with
    cxlp.decoders := tput Decoder.reset s.cxlp.decoders i
      { base, size, db, ways, gran, committed := decoderOk base size db ways gran, err := !decoderOk base size db ways gran } } := if_pos h

theorem uncommitDecoder_eq (h : i < 8) : s.registerWrite (.undecoder i) = { s with
    cxlp.decoders := tmod Decoder.reset s.cxlp.decoders i fun d => { d with committed := false, err := false } } := if_pos h

theorem decoderOk_of_supported (nonempty : 0 < size) (one : dpaRegion base = dpaRegion (base + size - 1)) (inside : dpaRegion base < 3)
    (view : db = true → dpaRegion base ≠ 0) (hw : ways ∈ [1, 2, 4, 8]) (hg : gran ∈ [256, 512, 1024, 2048, 4096, 8192, 16384]) :
    decoderOk base size db ways gran = true := by
  rw [decoderOk, Bool.and_eq_true, Bool.and_eq_true, interleaveOk_iff, decide_eq_true_iff]
  refine ⟨⟨⟨one, inside, nonempty⟩, ?_⟩, hw, hg⟩
  cases db with
  | false => rfl
  | true => simpa using view rfl

theorem decoderOk_of_unsupported
    (h : size = 0 ∨ dpaRegion base ≠ dpaRegion (base + size - 1) ∨ (db = true ∧ dpaRegion base = 0) ∨ ways ∉ [1, 2, 4, 8]) :
    decoderOk base size db ways gran = false := by
  rw [← Bool.not_eq_true, decoderOk, Bool.and_eq_true, Bool.and_eq_true, interleaveOk_iff, decide_eq_true_iff]
  rintro ⟨⟨⟨one, -, nonempty⟩, view⟩, hw, -⟩
  obtain rfl | two | ⟨rfl, host⟩ | unsupported := h
  · exact absurd nonempty (Nat.lt_irrefl 0)
  · exact two one
  · simp [host] at view
  · exact unsupported hw

end

/-! ### The MSI-X table (04_host_port.md R139; R117) -/

section
variable {n : Nat} (hn : n < 64)
include hn

theorem msixMaskBit_true : s.msixMaskBit n true = { s with cxlp := { s.cxlp with msixMask := withNew s.cxlp.msixMask n } } := by
  simp [State.msixMaskBit, Nat.not_le.2 hn]

/-- The message that was pending is sent as the mask clears. -/
theorem msixMaskBit_false_of_pending (h : n ∈ s.cxlp.msixPend) : s.msixMaskBit n false =
    State.send { s with cxlp := { s.cxlp with msixMask := without s.cxlp.msixMask n, msixPend := without s.cxlp.msixPend n } } (.msix n) := by
  simp [State.msixMaskBit, Nat.not_le.2 hn, h]

theorem bar2Write_address (v : BitVec 64) : s.registerWrite (.bar2 (0x20000 + 16 * n) 0xFF v) =
    { s with cxlp := { s.cxlp with msixAddr := tput 0 s.cxlp.msixAddr n v.toNat } } := by
  have slot : (0x20000 + 16 * n) / 8 * 8 = 0x20000 + 16 * n := by omega
  have entry : bar2At (0x20000 + 16 * n) = .table n 0 := by
    have vector : (0x20000 + 16 * n - 0x20000) / 16 = n := by omega
    have half : (0x20000 + 16 * n) / 8 % 2 = 0 := by omega
    rw [bar2At, if_neg (by omega), if_neg (by omega), if_pos (by omega), vector, half]
  show s.bar2Write ((0x20000 + 16 * n) / 8 * 8) 0xFF v = _
  simp only [State.bar2Write, slot, entry, mergeSlot_whole]

end

theorem mem_withNew {α : Type} [DecidableEq α] (l : List α) (a : α) : a ∈ withNew l a := by
  unfold withNew
  split <;> simp [*]

theorem not_mem_without {α : Type} [DecidableEq α] (l : List α) (a : α) : a ∉ without l a := by simp [without]

/-! ### Accesses as commands -/

/-- A whole-slot read answers the register's value. -/
theorem rcRead_answers_value (off : Nat) (b : Block) (ha : s.awake) (h : blockAt s.fuse.part (off / 8 * 8 / 4096) = some b) :
    answers (.rcRead off 0xFF) s fun t => .regRead (BitVec.ofNat 64 (s.readReg false b (off / 8 * 8 % 4096)).toNat) ∈ t.out :=
  answers_of_finish (exec_rcRead_whole ha h) (mem_out_send_settle ..)

/-- A whole-slot read leaves its effect, but for reporting. -/
theorem rcRead_answers_effect {p : State → Prop} {t : State} {off : Nat} {b : Block} (ha : s.awake)
    (h : blockAt s.fuse.part (off / 8 * 8 / 4096) = some b) (e : s.readEffect false b (off / 8 * 8 % 4096) = t) (hp : ∀ u, Rep t u → p u) :
    answers (.rcRead off 0xFF) s p :=
  answers_of_finish (exec_rcRead_whole ha h) (hp _ (e ▸ (rep_send ..).trans (rep_settle _)))

/-- Fewer bytes than a slot holds, the low four left out, are refused (R103, R105). -/
theorem registerReadError_refused {off bytes : Nat} {b : Block} (ha : s.awake) (ho : off < 2 ^ 22)
    (h : blockAt s.fuse.part (off / 8 * 8 / 4096) = some b) (other : b.page ≠ 5) (few : bytes < 255) (low : bytes ≠ 0x0F)
    (serving : s.inService b) (empty : (s.hdr b).evalid = false) :
    answers (.registerReadError off bytes) s fun t => captured t b 0x01 (off / 8) ∧ .regRead (BitVec.allOnes 64) ∈ t.out := by
  have value : s.readSlot false off bytes = (s.error b 0x01 (off / 8), BitVec.allOnes 64) := readSlot_refused false h few low
  refine answers_of_finish (exec_registerReadError_one ha (lt_bar2Base_of_blockAt h) (by omega)) ?_
  rw [value]
  exact ⟨captured_settle other (captured_error (silent_of_serving serving) empty (by decide) (by omega)), mem_out_send_settle ..⟩

/-- A page that holds no block (R107). -/
theorem registerReadError_empty {off bytes : Nat} (ha : s.awake) (ho : off < 2 ^ 22) (hb : bytes < 256)
    (h : blockAt s.fuse.part (off / 8 * 8 / 4096) = none) (empty : (s.hdr .hall).evalid = false) :
    answers (.registerReadError off bytes) s fun t => captured t .hall 0x03 (off / 8) ∧ .regRead 0 ∈ t.out := by
  refine answers_of_finish (exec_registerReadError_one ha (by unfold bar2Base; omega) hb) ?_
  rw [readSlot_empty false bytes h]
  exact ⟨captured_settle (by decide) (captured_error (silent_of_fixed s rfl) empty (by decide) (by omega)), mem_out_send_settle ..⟩

/-- A write performed as it arrives, which raises no record. -/
theorem registerWrite_answers {p : State → Prop} {t : State} {x : RegTarget} (ha : s.awake) (e : s.registerWrite x = t) (quiet : t.settled)
    (h : p t) : answers (.registerWrite x) s p :=
  answers_of_finish_settled ((exec_registerWrite ha x).trans (congrArg finish e)) quiet h

end Sys2Proof.Machine
end

section
namespace Sys2Proof.Machine

/-- Settles O6: each value is the one that reset lists, and with no header listed every block's header is that of reset. -/
theorem resetState : Obligations.ResetState := by
  unfold Obligations.ResetState
  refine ⟨rfl, rfl, rfl, rfl, rfl, fun b => ?_, rfl, rfl, rfl, rfl⟩
  have header : State.reset.hdr b = Hdr.reset := rfl
  rw [header]
  decide

/-- Settles O18: what each write leaves in the header (`istatW1c_hdr`, `ienWrite_hdr`, `errstatClear_hdr`), the message of a write that leaves
a request (`signal_written_sends`), and the capture of a write to a page without a block (`captured_headerWrite`). -/
theorem headerWrites : Obligations.HeaderWrites := by
  unfold Obligations.HeaderWrites
  refine ⟨fun s page together v b h other ha => ⟨?istat, ?ien, ?force, ?errstat⟩, fun s page v b h present unmasked ha left => ?message,
    fun s page v c h bound empty ha => ⟨?noIstat, ?noIen, ?noErrstat⟩⟩
  case istat => exact answers_of_finish (exec_istatW1c ha v together) (by simp [settle_hdr _ other, istatW1c_hdr h])
  case ien => exact answers_of_finish (exec_ienWrite ha v) (by simp [settle_hdr _ other, ienWrite_hdr h])
  case force => exact answers_of_finish (exec_interruptForce ha v) (by simp [settle_hdr _ other, ienWrite_hdr h])
  case errstat =>
    refine answers_of_finish (exec_errstatClear ha v) ?_
    rw [settle_hdr _ other, errstatClear_hdr h]
    split <;> simp
  case message =>
    refine answers_of_finish (exec_interruptForce ha v) ((sent_settle _).kept _ ?_)
    rw [State.ienWrite, headerWrite_of_block h]
    exact signal_written_sends present unmasked (bne_iff_ne.2 left)
  case noIstat =>
    rintro rfl
    exact answers_of_finish (exec_istatW1c ha v 0) (captured_headerWrite _ h bound (by decide) empty)
  case noIen =>
    rintro (rfl | rfl)
    · exact answers_of_finish (exec_ienWrite ha v) (captured_headerWrite _ h bound (by decide) empty)
    · exact answers_of_finish (exec_interruptForce ha v) (captured_headerWrite _ h bound (by decide) empty)
  case noErrstat =>
    rintro rfl
    exact answers_of_finish (exec_errstatClear ha v) (captured_headerWrite _ h bound (by decide) empty)

/-- Settles O19: a read or a write of an awake controller is performed as it arrives (`exec_rcRead_whole`, `exec_registerReadError_one`,
`exec_registerWrite`), on the one slot or the slots that it touches, and in REST each request waits (`exec_resting`). -/
theorem registerAccesses : Obligations.RegisterAccesses := by
  unfold Obligations.RegisterAccesses
  refine ⟨fun s off b ha h => rcRead_answers_value off b ha h, ?evict, ?triggers, ?discards,
    fun s off bytes b ha ho h other few low serving empty => registerReadError_refused ha ho h other few low serving empty,
    fun s off bytes ha ho hb h empty => registerReadError_empty ha ho hb h empty, ?refused, ?whole, ?policy, ?portctl, ?rgnattr, ?decoders, ?msix,
    ?links, ?waiting⟩
  case evict =>
    intro s ⟨on, ha⟩
    exact rcRead_answers_effect ha (blockAt_cxlp _) (readEffect_evict false on) fun t rep => congrArg (·.evict) rep.cxlp
  case triggers =>
    intro s ⟨on, ha⟩
    refine rcRead_answers_effect ha (blockAt_coht _) (readEffect_triggers false on) fun t rep => ?_
    rw [rep.coht]
    exact ⟨rfl, rfl, rfl⟩
  case discards =>
    intro s ⟨on, ha⟩
    refine rcRead_answers_effect ha (blockAt_kspe _) (readEffect_discards false on) fun t rep => ?_
    rw [rep.kspe]
    constructor
    · rw [tget_tput_other _ _ _ Nat.zero_ne_one, tget_tput_same]
    · rw [tget_tput_same]
  case refused =>
    intro s off enables v b ha ho h other touched few serving empty
    refine answers_of_finish (exec_registerWrite ha _) ?_
    rw [registerWrite_refused v h touched few]
    exact captured_settle other (captured_error (silent_of_serving serving) empty (by decide) (by omega))
  case whole =>
    intro s off v w b c ha h
    exact ⟨answers_of_finish (exec_registerWrite ha _) (by rw [registerWrite_whole v h]),
      fun g => answers_of_finish (exec_registerWrite ha _) (by rw [registerWrite_two v w h g])⟩
  case policy =>
    intro s v w x quiet ⟨on, ha⟩
    constructor
    · rintro rfl
      exact registerWrite_answers ha (registerWrite_policy v on) quiet rfl
    · rintro rfl
      exact answers_of_finish (exec_registerWrite ha _) ((rep_settle _).rest.trans (registerWrite_policy_core v w on))
  case portctl =>
    intro s v quiet ⟨on, ha⟩
    exact registerWrite_answers ha (registerWrite_portctl v on) quiet rfl
  case rgnattr =>
    intro s i j v w _ ⟨ready, ha⟩ part idle h live hj on
    refine answers_of_finish (exec_registerWrite ha _) ?_
    rw [(rep_settle _).ncch]
    exact registerWrite_rgnattr v w ready part idle h live hj on
  case decoders =>
    intro s i base size ways gran db d quiet ha hi hd
    subst hd
    refine ⟨fun nonempty one inside view hw hg => registerWrite_answers ha (commitDecoder_eq hi) quiet ?_,
      fun unsupported => registerWrite_answers ha (commitDecoder_eq hi) quiet ?_,
      registerWrite_answers ha (uncommitDecoder_eq hi) quiet ⟨?_, fun k hk => ?_⟩⟩
    · rw [decoderOk_of_supported nonempty one inside view hw hg]
      rfl
    · rw [tget_tput_same, decoderOk_of_unsupported unsupported]
      rfl
    · rw [tget_tmod_same]
    · rw [tget_tmod_other _ _ _ hk]
  case msix =>
    intro s n ha hn quiet
    exact ⟨registerWrite_answers ha (msixMaskBit_true hn) quiet ⟨mem_withNew _ n, rfl⟩,
      fun h => registerWrite_answers ha (msixMaskBit_false_of_pending hn h) quiet ⟨not_mem_without _ n, List.mem_cons_self ..⟩,
      fun v => registerWrite_answers ha (bar2Write_address hn v) quiet ⟨tget_tput_same .., rfl⟩⟩
  case links =>
    intro s l1 l12 quiet ha
    exact registerWrite_answers ha rfl quiet rfl
  case waiting =>
    intro s c request quiet mode entering hold
    exact answers_of_finish_settled (exec_resting request mode entering hold) quiet rfl

end Sys2Proof.Machine
end

section
/-!
SUPPORT. What lies below the near cache. `Lower s₀ s` says that a state differs from an earlier one in what serves the reads and writes of
the DRAM tier: the DRAM channels, media, and reports that retire no unit. `Below s₀ s` allows for the lines that are stored there as well: the
tier's lines, their counters and the poison list. The lemma of an operation takes the proof for the state that it starts from.
-/
namespace Sys2Proof.Machine

variable {s₀ s t : State} {m i line : Nat}

/-- The units in service in `s` are those in service in `t`. -/
def SameService (s t : State) : Prop := ∀ b, (t.hdr b).outsvc = (s.hdr b).outsvc

theorem hdr_of_page {b c : Block} (h : c.page = b.page) (s : State) : s.hdr c = s.hdr b := by unfold State.hdr; rw [h]

theorem cause_outsvc (s : State) (b c : Block) (bit sev : Nat) : ((s.cause b bit sev).hdr c).outsvc = (s.hdr c).outsvc := by
  by_cases h : c.page = b.page
  · rw [hdr_of_page h, hdr_of_page h, cause_hdr_same]
    split <;> rfl
  · rw [cause_hdr_other s bit sev h]

/-- `t` holds what `s` holds of the near cache, of the host port's waits and of memory protection, and the same units serve. -/
structure Lower (s t : State) : Prop where
  ncch : t.ncch = s.ncch
  mprt : t.mprt = s.mprt
  biOut : t.cxlp.biOut = s.cxlp.biOut
  dirtyWait : t.cxlp.dirtyWait = s.cxlp.dirtyWait
  serving : SameService s t

theorem Lower.refl (s : State) : Lower s s := ⟨rfl, rfl, rfl, rfl, fun _ => rfl⟩

/-- The DRAM channels, the clusters, translation and media may change. -/
theorem Lower.update {drmc clus ftlm media} (h : Lower s₀ s) : Lower s₀ { s with drmc, clus, ftlm, media } :=
  ⟨h.ncch, h.mprt, h.biOut, h.dirtyWait, h.serving⟩

theorem Lower.ite {c : Prop} {_ : Decidable c} (h : Lower s₀ s) (g : Lower s₀ t) : Lower s₀ (if c then s else t) := by split <;> assumption

theorem Lower.foldl {α : Type} {f : State → α → State} {l : List α} (h : Lower s₀ s) (hf : ∀ {u a}, Lower s₀ u → Lower s₀ (f u a)) :
    Lower s₀ (l.foldl f s) := by
  induction l generalizing s with
  | nil => exact h
  | cons a l ih => exact ih (hf h)

theorem Lower.cause {b bit sev} (h : Lower s₀ s) : Lower s₀ (s.cause b bit sev) := by
  have r := rep_cause s b bit sev
  exact ⟨r.ncch.trans h.ncch, r.mprt.trans h.mprt, (congrArg (·.biOut) r.cxlp).trans h.biOut,
    (congrArg (·.dirtyWait) r.cxlp).trans h.dirtyWait, fun c => (cause_outsvc s b c bit sev).trans (h.serving c)⟩

/-! ### The DRAM channels (06_dram_tier.md R267 to R279) -/

theorem Lower.modDram {f} (h : Lower s₀ s) : Lower s₀ (s.modDram m f) := h.update
theorem Lower.activate {bank row} (h : Lower s₀ s) : Lower s₀ (s.activate m bank row) := .ite h.modDram.cause h.modDram
theorem Lower.dramIssue {l r} (h : Lower s₀ s) : Lower s₀ (s.dramIssue m l r) := (Lower.ite h.modDram h.activate.modDram).modDram

theorem Lower.drainStep {sub entered n} (h : Lower s₀ s) : Lower s₀ (s.drainStep m sub entered n) := by
  induction n generalizing s entered with
  | zero => exact h
  | succ n ih =>
    unfold State.drainStep
    refine .ite h ?_
    split
    · exact h
    · exact ih h.modDram.dramIssue

theorem Lower.issueUntil {sub n} (h : Lower s₀ s) : Lower s₀ (s.issueUntil m sub line n) := by
  induction n generalizing s with
  | zero => exact h
  | succ n ih =>
    unfold State.issueUntil
    refine .ite h ?_
    split
    · exact h
    · exact ih h.modDram.dramIssue

theorem Lower.dramDrain {sub} (h : Lower s₀ s) : Lower s₀ (s.dramDrain m sub) := h.drainStep.modDram
theorem Lower.dramReadDone (h : Lower s₀ s) : Lower s₀ (s.dramReadDone line) := .ite h h.issueUntil.modDram.dramDrain
theorem Lower.dramWrite (h : Lower s₀ s) : Lower s₀ (s.dramWrite line) := .ite h h.modDram.dramDrain

/-- With no channel in the tier's numbering no write is queued. -/
theorem dramWrite_of_no_channel (h : s.tier.order = []) (line : Nat) : s.dramWrite line = s := by simp [State.dramWrite, h]

/-! ### The end of a fill's reads (07_translation.md R327) -/

theorem Lower.freeBand {b} (h : Lower s₀ s) : Lower s₀ (s.freeBand b) := .ite (.ite h.update (h.foldl (fun h => h.update)).update) h

theorem Lower.endRead {id} (h : Lower s₀ s) : Lower s₀ (s.endRead id) := by
  unfold State.endRead
  split
  · exact h
  · exact .ite (Lower.freeBand h.update) h.update

theorem Lower.fillEnds (h : Lower s₀ s) : Lower s₀ (s.fillEnds line) := h.dramReadDone.foldl fun h => h.endRead

/-! ### Lines stored (14_memory_protection.md R592 to R618) -/

/-- `t` holds what `s` holds of the near cache, and the same units serve. -/
structure Below (s t : State) : Prop where
  ncch : t.ncch = s.ncch
  serving : SameService s t

theorem Below.refl (s : State) : Below s s := ⟨rfl, fun _ => rfl⟩
theorem Below.lower (h : Below s₀ s) (g : Lower s t) : Below s₀ t := ⟨g.ncch.trans h.ncch, fun b => (g.serving b).trans (h.serving b)⟩

/-- The tier's lines, the port's lists, memory protection and the free values may change. -/
theorem Below.update {cxlp tier mprt free} (h : Below s₀ s) : Below s₀ { s with cxlp, tier, mprt, free } := ⟨h.ncch, h.serving⟩

theorem Below.ite {c : Prop} {_ : Decidable c} (h : Below s₀ s) (g : Below s₀ t) : Below s₀ (if c then s else t) := by split <;> assumption

theorem Below.ite_fst {α : Type} {c : Prop} {_ : Decidable c} {p q : State × α} (h : Below s₀ p.1) (g : Below s₀ q.1) :
    Below s₀ (if c then p else q).1 := by
  split <;> assumption

theorem Below.foldl {α : Type} {f : State → α → State} {l : List α} (h : Below s₀ s) (hf : ∀ {u a}, Below s₀ u → Below s₀ (f u a)) :
    Below s₀ (l.foldl f s) := by
  induction l generalizing s with
  | nil => exact h
  | cons a l ih => exact ih (hf h)

theorem Below.cause {b bit sev} (h : Below s₀ s) : Below s₀ (s.cause b bit sev) := h.lower (Lower.refl s).cause

theorem Below.touchPage {page} (h : Below s₀ s) : Below s₀ (s.touchPage page) :=
  have fetched : Below s₀ (s.fetchPath page) := h.update
  fetched.update
theorem Below.noteMajor {n} (h : Below s₀ s) : Below s₀ (s.noteMajor n) := h.update
theorem Below.generateKey {k} (h : Below s₀ s) : Below s₀ (s.generateKey k) := h.update
theorem Below.putCline {p c} (h : Below s₀ s) : Below s₀ (s.putCline p c) := h.update
theorem Below.countLine (h : Below s₀ s) : Below s₀ (s.countLine line) := h.touchPage.putCline

theorem Below.writeRecord {n} (h : Below s₀ s) : Below s₀ (s.writeRecord n) := by
  have r := rep_writeRecord s n
  exact ⟨r.ncch.trans h.ncch, fun b => (congrArg (·.outsvc) (writeRecord_hdr s n b)).trans (h.serving b)⟩

theorem Below.queueRekey {j} (h : Below s₀ s) : Below s₀ (s.queueRekey j) := by
  unfold State.queueRekey
  dsimp only
  split
  · exact h.update
  · exact h.update

theorem Below.reencrypt (h : Below s₀ s) : Below s₀ (s.reencrypt line).1 := by
  have touched : Below s₀ (s.touchPage (tierPageOf line)) := h.touchPage
  refine .ite_fst touched.putCline.noteMajor ?_
  generalize s.touchPage (tierPageOf line) = u at touched
  cases u.rekeyOf (u.rangeOf line) with
  | some job => exact touched.putCline
  | none =>
    cases u.emptySlot with
    | none => exact touched.cause (b := .mprt) (bit := 5) (sev := 5)
    | some slot => exact touched.generateKey.writeRecord.putCline.queueRekey

theorem Below.notePoison (h : Below s₀ s) : Below s₀ (s.notePoison line) := .ite h (.ite h.update (.ite h.update h))
theorem Below.markPoison {poison} (h : Below s₀ s) : Below s₀ (s.markPoison line poison) := .ite h.notePoison h.update

theorem Below.storeBack {data poison} (h : Below s₀ s) : Below s₀ (s.storeBack line data poison) := by
  have counted : Below s₀ (if s.pageFree line && s.minorFull line then (s.reencrypt line).1 else s.countLine line) := .ite h.reencrypt h.countLine
  have put : Below s₀ (State.putTier _ line data poison) := counted.update
  exact (put.lower (Lower.refl _).dramWrite).markPoison

end Sys2Proof.Machine
end

section
/-!
SUPPORT. What the operations of the near cache do in the cases that its events name: misses that settle or wait, reads that complete at once,
and full-line writes that find room (05_near_cache.md R199 to R218, 14_memory_protection.md R613 to R616).
-/
namespace Sys2Proof.Machine

variable {s t : State} {i line : Nat} {r w : MemReq} {x : BitVec 512 × Bool} {d : BitVec 512} {m : Miss}

/-! ### Members of tables -/

section
variable {α : Type} {k : Nat} {v : α} {e : Nat × α}

theorem eq_or_mem_of_mem_tins : ∀ {l : Tbl α}, e ∈ tins k v l → e = (k, v) ∨ e ∈ l
  | [], h => .inl (List.mem_singleton.1 h)
  | (j, u) :: l, h => by
    unfold tins at h
    split at h
    · exact List.mem_cons.1 h
    · split at h
      · exact (List.mem_cons.1 h).imp_right (List.mem_cons_of_mem _)
      · obtain rfl | h := List.mem_cons.1 h
        · exact .inr (List.mem_cons_self ..)
        · exact (eq_or_mem_of_mem_tins h).imp_right (List.mem_cons_of_mem _)

theorem mem_of_mem_tdel : ∀ {l : Tbl α}, e ∈ tdel k l → e ∈ l
  | (j, u) :: l, h => by
    unfold tdel at h
    split at h
    · exact List.mem_cons_of_mem _ (mem_of_mem_tdel h)
    · exact (List.mem_cons.1 h).elim (fun h => h ▸ List.mem_cons_self ..) fun h => List.mem_cons_of_mem _ (mem_of_mem_tdel h)

theorem eq_or_mem_of_mem_tput [DecidableEq α] {a : α} {l : Tbl α} (h : e ∈ tput a l k v) : e = (k, v) ∨ e ∈ l := by
  unfold tput at h
  split at h
  · exact .inr (mem_of_mem_tdel h)
  · exact eq_or_mem_of_mem_tins h

/-- What a table gives for a key is listed there, or is the default. -/
theorem tget_eq_or_mem (a : α) (k : Nat) : ∀ l : Tbl α, tget a l k = a ∨ (k, tget a l k) ∈ l
  | [] => .inl rfl
  | (j, u) :: l => by
    unfold tget
    split
    · next h => exact .inr (h ▸ List.mem_cons_self ..)
    · exact (tget_eq_or_mem a k l).imp_right (List.mem_cons_of_mem _)

end

/-! ### Slices -/

theorem slice_modSlice (s : State) (i : Nat) (f : Slice → Slice) : (s.modSlice i f).slice i = f (s.slice i) := tget_tmod_same ..
theorem slice_of_ncch (h : t.ncch = s.ncch) (i : Nat) : t.slice i = s.slice i := by unfold State.slice; rw [h]

/-- A change of one slice that leaves what it serves alone, and is not to the slice of reset, keeps the choice of the slice. -/
theorem sliceOf_modSlice {f : Slice → Slice} (h : s.sliceOf line = some i) (other : f (s.slice i) ≠ Slice.reset)
    (live : (f (s.slice i)).live = (s.slice i).live) (serves : (f (s.slice i)).serves = (s.slice i).serves) :
    (s.modSlice i f).sliceOf line = some i := by
  have find : ∀ l : Tbl Slice, let c := tget Slice.reset l i
      ∀ c' : Slice, c'.live = c.live → c'.serves = c.serves →
      (l.find? fun e => e.2.live && e.2.serves.testBit (sliceHash line)).map (·.1) = some i →
      ((tins i c' l).find? fun e => e.2.live && e.2.serves.testBit (sliceHash line)).map (·.1) = some i := by
    intro l
    induction l with
    | nil => simp
    | cons e l ih =>
      obtain ⟨j, u⟩ := e
      intro c c' hl hs h
      simp only [c, tget] at hl hs
      simp only [tins]
      by_cases hit : u.live && u.serves.testBit (sliceHash line)
      · have key : j = i := by simpa [hit] using h
        subst key
        simp only [if_true] at hl hs
        simp [hl, hs, hit]
      · have rest : (l.find? fun e => e.2.live && e.2.serves.testBit (sliceHash line)).map (·.1) = some i := by simpa [hit] using h
        split
        · rw [List.find?_cons]
          split
          · rfl
          · exact h
        · split
          · next k =>
            subst k
            simp only [if_true] at hl hs
            simpa [hl, hs, hit] using rest
          · next k =>
            rw [if_neg (Ne.symm k)] at hl hs
            simpa [hit] using ih c' hl hs rest
  have put : (s.modSlice i f).ncch.slices = tins i (f (s.slice i)) s.ncch.slices := if_neg other
  unfold State.sliceOf at h ⊢
  rw [put]
  exact find s.ncch.slices _ live serves h

/-! ### Misses -/

/-- A miss entry whose check has not ended is not settled. -/
theorem settleMiss_checking (h : (s.slice i).miss = [m]) (hl : m.line = line) (hc : m.checking = true) : s.settleMiss i line = s := by
  cases hf : m.filled <;> simp [State.settleMiss, h, hl, hc, hf]

theorem retryInstalls_none (h : (s.slice i).miss = []) : s.retryInstalls i = s := by simp [State.retryInstalls, h]

theorem retryInstalls_checking (h : (s.slice i).miss = [m]) (hc : m.checking = true) : s.retryInstalls i = s := by
  simp [State.retryInstalls, h, settleMiss_checking h rfl hc]

/-- No prefetch is queued. -/
structure NoPrefetch (s : State) : Prop where
  nextq : s.ncch.nextq = []
  hints : s.ncch.hints = []

theorem NoPrefetch.of_ncch (h : NoPrefetch s) (e : t.ncch = s.ncch) : NoPrefetch t := ⟨by rw [e, h.nextq], by rw [e, h.hints]⟩

theorem NoPrefetch.pump (h : NoPrefetch s) : ∀ n, s.pump n = s
  | 0 => rfl
  | n + 1 => by simp [State.pump, h.nextq, h.hints]

theorem slice_modMiss (h : (s.slice i).miss = [m]) (hl : m.line = line) (f : Miss → Miss) :
    (s.modMiss i line f).slice i = { s.slice i with miss := [f m] } := by
  simp [State.modMiss, slice_modSlice, h, hl]

/-! ### Reads that complete at once -/

/-- The requests that wait for a victim's write-back, for a re-encryption or for room. -/
def State.heldBack (s : State) : List MemReq :=
  (s.ncch.slices.flatMap fun e => e.2.victims.flatMap (·.waits)) ++ s.mprt.pages.flatMap (fun e => e.2.waits) ++ s.cxlp.dirtyWait

/-- A write that a read of the same line sees: it was received before the read (R146). -/
def MemReq.precedes (w r : MemReq) : Bool := w.write.isSome && w.line = r.line && decide (w.ord < r.ord)

theorem insOrd_ne_nil (r : MemReq) (l : List MemReq) : insOrd r l ≠ [] := by
  cases l with
  | nil => exact List.cons_ne_nil r []
  | cons y l =>
    unfold insOrd
    split
    · exact List.cons_ne_nil r _
    · exact List.cons_ne_nil y _

theorem foldl_insOrd_eq_nil {l : List MemReq} : ∀ {k : List MemReq}, l.foldl (fun l w => insOrd w l) k = [] ↔ l = [] ∧ k = [] := by
  induction l with
  | nil => simp
  | cons w l ih => simp [ih, insOrd_ne_nil]

theorem waitingWrites_eq_nil : s.waitingWrites r = [] ↔ ∀ w ∈ s.heldBack, w.precedes r = false := by
  simp only [State.waitingWrites, foldl_insOrd_eq_nil, and_true, List.filter_eq_nil_iff, Bool.not_eq_true]
  rfl

/-- Where no more requests are held back, no more writes precede a read. -/
theorem waitingWrites_mono (h : s.waitingWrites r = []) (sub : ∀ w ∈ t.heldBack, w ∈ s.heldBack) : t.waitingWrites r = [] :=
  waitingWrites_eq_nil.2 fun w hw => waitingWrites_eq_nil.1 h w (sub w hw)

theorem heldBack_modSlice {f : Slice → Slice} (same : (f (s.slice i)).victims = (s.slice i).victims) :
    ∀ w ∈ (s.modSlice i f).heldBack, w ∈ s.heldBack := by
  have slices : ∀ w ∈ (s.modSlice i f).ncch.slices.flatMap fun e => e.2.victims.flatMap (·.waits),
      w ∈ s.ncch.slices.flatMap fun e => e.2.victims.flatMap (·.waits) := by
    intro w hw
    obtain ⟨e, he, hw⟩ := List.mem_flatMap.1 hw
    obtain rfl | he := eq_or_mem_of_mem_tput he
    · have hw : w ∈ (s.slice i).victims.flatMap (·.waits) := by rw [← same]; exact hw
      obtain none | listed := tget_eq_or_mem Slice.reset i s.ncch.slices
      · rw [State.slice, none] at hw
        cases hw
      · exact List.mem_flatMap.2 ⟨_, listed, hw⟩
    · exact List.mem_flatMap.2 ⟨e, he, hw⟩
  intro w hw
  simp only [State.heldBack, List.mem_append] at hw ⊢
  exact hw.imp_left (.imp_left (slices w))

theorem Lower.heldBack (h : Lower s t) : t.heldBack = s.heldBack := by
  unfold State.heldBack
  rw [h.ncch, h.mprt, h.dirtyWait]

/-- A read that the filter does not hold, and that no waiting write of its line precedes (R146, R175 to R178). -/
structure Unheld (s : State) (r : MemReq) : Prop where
  read : r.write = none
  plain : r.cacheable = false
  free : s.snooped r.line = false
  first : s.waitingWrites r = []

theorem Unheld.mono (h : Unheld s r) (same : t.cxlp.biOut = s.cxlp.biOut) (sub : ∀ w ∈ t.heldBack, w ∈ s.heldBack) : Unheld t r :=
  ⟨h.read, h.plain, by rw [State.snooped, same]; exact h.free, waitingWrites_mono h.first sub⟩

theorem Unheld.seen (h : Unheld s r) : Unheld s { r with seen := true } := ⟨h.read, h.plain, h.free, h.first⟩

/-- Such a read completes with what its stage supplies. -/
theorem Unheld.finishRead (h : Unheld s r) (cls : Nat) : s.finishRead r x cls = s.sendRead r x cls := by
  simp [State.finishRead, State.filterRead, h.free, h.plain, h.first]

theorem sendRead_clean_ncch (s : State) (r : MemReq) (d : BitVec 512) (cls : Nat) : (s.sendRead r (d, false) cls).ncch = s.ncch := rfl

theorem mem_out_sendRead_clean (s : State) (r : MemReq) (d : BitVec 512) (cls : Nat) :
    .readDone r.tag d false ∈ (s.sendRead r (d, false) cls).out := List.mem_cons_self ..

/-! ### Full-line writes in the DRAM tier -/

theorem gpfCheck_sent (s : State) : Sent s s.gpfCheck := by
  unfold State.gpfCheck
  exact .ite ⟨fun _ => List.mem_cons_of_mem _⟩ .rfl
theorem gpfCheck_tier (s : State) : s.gpfCheck.tier = s.tier := by unfold State.gpfCheck; split <;> rfl
theorem gpfCheck_mprt (s : State) : s.gpfCheck.mprt = s.mprt := by unfold State.gpfCheck; split <;> rfl
theorem gpfCheck_dirtyWait (s : State) : s.gpfCheck.cxlp.dirtyWait = s.cxlp.dirtyWait := by unfold State.gpfCheck; split <;> rfl

theorem unrefuse_tier (s : State) (line : Nat) : (s.unrefuse line).tier = s.tier := by unfold State.unrefuse; split <;> rfl
theorem unrefuse_mprt (s : State) (line : Nat) : (s.unrefuse line).mprt = s.mprt := by unfold State.unrefuse; split <;> rfl
theorem unrefuse_pers (s : State) (line : Nat) : (s.unrefuse line).pers = s.pers := by unfold State.unrefuse; split <;> rfl
theorem unrefuse_cxlp (s : State) (line : Nat) : (s.unrefuse line).cxlp = s.cxlp := by unfold State.unrefuse; split <;> rfl

/-- `t` differs from `s` in memory protection at most. -/
def Recounted (s t : State) : Prop := { s with mprt := t.mprt } = t

theorem Recounted.trans {u : State} (h : Recounted s t) (g : Recounted t u) : Recounted s u := by
  unfold Recounted at *
  rw [← g, ← h]

theorem Recounted.tier (h : Recounted s t) : t.tier = s.tier := by rw [← h]
theorem Recounted.pers (h : Recounted s t) : t.pers = s.pers := by rw [← h]
theorem Recounted.cxlp (h : Recounted s t) : t.cxlp = s.cxlp := by rw [← h]

theorem recounted_mprt (s : State) (p : Mprt) : Recounted s { s with mprt := p } := rfl
theorem recounted_fetchPath (s : State) (page : Nat) : Recounted s (s.fetchPath page) := rfl
theorem recounted_touchPage (s : State) (page : Nat) : Recounted s (s.touchPage page) :=
  (recounted_fetchPath s page).trans (recounted_mprt (s.fetchPath page) _)
theorem recounted_countLine (s : State) (line : Nat) : Recounted s (s.countLine line) :=
  (recounted_touchPage s _).trans (recounted_mprt (s.touchPage _) _)

/-- `t` follows from `s` by a write of the line `d`: completed, with the line dirty in the DRAM tier. -/
structure Written (s : State) (r : MemReq) (d : BitVec 512) (t : State) : Prop where
  done : .writeDone r.tag ∈ t.out
  data : (tget TLine.reset t.tier.lines r.line).data = d
  dirty : (tget TLine.reset t.tier.lines r.line).dirty = true
  dirtyWait : t.cxlp.dirtyWait = s.cxlp.dirtyWait

theorem Written.settle (h : Written s r d t) : Written s r d t.settle := by
  have tier := (rep_settle t).tier
  exact ⟨(sent_settle t).kept _ h.done, by rw [tier, h.data], by rw [tier, h.dirty], (congrArg (·.dirtyWait) (rep_settle t).cxlp).trans h.dirtyWait⟩

theorem full_of_write (hw : r.write = some (d, BitVec.allOnes 64)) : r.full = true := by simp [MemReq.full, hw]

theorem applyTo_full (hw : r.write = some (d, BitVec.allOnes 64)) : r.applyTo x = (d, r.poison) := by
  simp [MemReq.applyTo, hw, full_of_write hw]

/-- The line and its state in the tier as a full-line write leaves them. -/
def State.inTier (s : State) (r : MemReq) (d : BitVec 512) : State :=
  ((((s.putTier r.line d false).clearPoison r.line).refill r.line (d, false) true).unrefuse r.line)

section
variable (hw : r.write = some (d, BitVec.allOnes 64)) (clean : r.poison = false) (limit : s.pers.limit ≠ 0) (room : s.roomFor r.line = true)
  (order : s.tier.order = [])
include hw clean room order

theorem tierWrite_first : s.tierWrite r x true = ((s.inTier r d).acknowledge r, true) := by
  have queued := dramWrite_of_no_channel (s := s.putTier r.line d false) order r.line
  simp [State.tierWrite, full_of_write hw, applyTo_full hw, clean, room, queued, State.markPoison, State.inTier]

theorem tierWrite_counted (free : s.pageFree r.line = true) (counts : s.minorFull r.line = false) :
    s.tierWrite r x false = (((s.countLine r.line).inTier r d).acknowledge r, true) := by
  have order : (s.countLine r.line).tier.order = [] := by rw [(recounted_countLine s _).tier, order]
  have queued := dramWrite_of_no_channel (s := (s.countLine r.line).putTier r.line d false) order r.line
  simp [State.tierWrite, full_of_write hw, applyTo_full hw, clean, room, free, counts, queued, State.markPoison, State.inTier]

end

theorem acknowledge_of_limit (h : s.pers.limit ≠ 0) : s.acknowledge r = s.finishWrite r := if_neg h

theorem inTier_tier (s : State) (r : MemReq) (d : BitVec 512) : (s.inTier r d).tier = (s.putTier r.line d false).tier := unrefuse_tier ..

theorem written_inTier (limit : s.pers.limit ≠ 0) : Written s r d ((s.inTier r d).acknowledge r) := by
  have limit' : (s.inTier r d).pers.limit ≠ 0 := by rw [State.inTier, unrefuse_pers]; exact limit
  have tier : ((s.inTier r d).finishWrite r).tier = (s.putTier r.line d false).tier := (gpfCheck_tier _).trans (inTier_tier ..)
  have line : tget TLine.reset ((s.inTier r d).finishWrite r).tier.lines r.line =
      { data := d, poison := false, dirty := true, held := false, gen := (tget TLine.reset s.tier.lines r.line).gen + 1 } := by
    rw [tier]
    exact tget_tins_same ..
  rw [acknowledge_of_limit limit']
  refine ⟨(gpfCheck_sent _).kept _ (List.mem_cons_self ..), by rw [line], by rw [line], ?_⟩
  rw [State.finishWrite, gpfCheck_dirtyWait]
  show (s.inTier r d).cxlp.dirtyWait = _
  rw [State.inTier, unrefuse_cxlp]
  rfl

theorem acknowledged_mprt (limit : s.pers.limit ≠ 0) : ((s.inTier r d).acknowledge r).mprt = s.mprt := by
  have limit' : (s.inTier r d).pers.limit ≠ 0 := by rw [State.inTier, unrefuse_pers]; exact limit
  rw [acknowledge_of_limit limit', State.finishWrite, gpfCheck_mprt]
  show (s.inTier r d).mprt = _
  rw [State.inTier, unrefuse_mprt]
  rfl

end Sys2Proof.Machine
end

section
/-!
SUPPORT. The near cache's own events, each in the case that its statement names: how the command ends, and what holds there
(05_near_cache.md R202, R203, R215, R229, R230; 14_memory_protection.md R613, R616; 04_host_port.md R151).
-/
namespace Sys2Proof.Machine

variable {s t : State} {i line : Nat} {r : MemReq} {x : BitVec 512 × Bool} {d : BitVec 512} {m : Miss} {c : Slice}

theorem settle_slice (s : State) (i : Nat) : s.settle.slice i = s.slice i := slice_of_ncch (rep_settle s).ncch i

/-- A cause of a block other than EVTR that serves is set to the end of the command. -/
theorem hasCause_cause {b : Block} {bit sev : Nat} (serves : s.silent b = false) (other : b.page ≠ 5) : hasCause (s.cause b bit sev).settle b bit := by
  simp [hasCause, settle_hdr _ other, serves]

theorem ncch_page_ne (h : i < 16) : (Block.ncch i).page ≠ 5 := by simp only [Block.page]; omega

/-! ### A fill's data is there (R203, R609, R613) -/

/-- The miss entry of a read whose data has been sent before the check of its line ends. -/
def Miss.sent (m : Miss) (x : BitVec 512 × Bool) : Miss := { m with joined := [], filled := some x, checking := true, rewritten := false }

/-- A fill from the tier for one read: its data is sent and its check goes on. -/
theorem fillEntry_sent (joined : m.joined = [r]) (read : r.write = none) (ready : s.fillReady m.line = true) (has : s.tierHas m.line = true)
    (lazy : s.verifyFirst m.line = false) :
    s.fillEntry m [] = ((s.fillEnds m.line).finishRead r (s.lineData m.line) (if m.media then 2 else 1), some (m.sent (s.lineData m.line))) := by
  simp [State.fillEntry, State.findings, joined, read, ready, has, lazy, splitReads, Miss.sent]

theorem slice_modMiss_of_ncch (near : t.ncch = s.ncch) (miss : (s.slice i).miss = [m]) (f : Miss → Miss) :
    ((t.modMiss i m.line f).slice i).miss = [f m] := by
  rw [slice_modMiss (by rw [slice_of_ncch near, miss]) rfl]

/-- A fill whose data is sent at once leaves its entry to wait for the check. -/
theorem exec_lineFillComplete_sent (miss : (s.slice i).miss = [m]) (unfilled : m.filled = none) (idle : NoPrefetch s) (near : t.ncch = s.ncch)
    (sent : s.fillEntry m [] = (t, some (m.sent x))) :
    exec (.lineFillComplete i m.line []) s = finish (t.modMiss i m.line fun _ => m.sent x) := by
  have entry : ((t.modMiss i m.line fun _ => m.sent x).slice i).miss = [m.sent x] := slice_modMiss_of_ncch near miss _
  have idle : NoPrefetch (t.modMiss i m.line fun _ => m.sent x) := by
    obtain ⟨nextq, hints⟩ := idle.of_ncch near
    exact ⟨nextq, hints⟩
  have quiet : ((((t.modMiss i m.line fun _ => m.sent x).settleMiss i m.line).retryInstalls i).pump pumpFuel) =
      t.modMiss i m.line fun _ => m.sent x := by
    rw [settleMiss_checking (line := m.line) entry rfl rfl, retryInstalls_checking entry rfl, idle.pump]
  show execLineFillComplete i m.line [] s = _
  simp [execLineFillComplete, miss, unfilled, sent, quiet]

theorem lineFillComplete_sends (miss : (s.slice i).miss = [m]) (unfilled : m.filled = none) (joined : m.joined = [r]) (unheld : Unheld s r)
    (ready : s.fillReady m.line = true) (has : s.tierHas m.line = true) (lazy : s.verifyFirst m.line = false)
    (clean : (s.lineData m.line).2 = false) (idle : NoPrefetch s) :
    answers (.lineFillComplete i m.line []) s fun t => .readDone r.tag (s.lineData m.line).1 false ∈ t.out ∧
      (t.slice i).miss = [m.sent ((s.lineData m.line).1, false)] := by
  have lower : Lower s (s.fillEnds m.line) := (Lower.refl s).fillEnds
  have unheld' : Unheld (s.fillEnds m.line) r := unheld.mono lower.biOut fun w hw => lower.heldBack ▸ hw
  have data : s.lineData m.line = ((s.lineData m.line).1, false) := by rw [← clean]
  have sent := fillEntry_sent joined unheld.read ready has lazy
  rw [unheld'.finishRead, data] at sent
  have near := (sendRead_clean_ncch (s.fillEnds m.line) r (s.lineData m.line).1 (if m.media then 2 else 1)).trans lower.ncch
  refine answers_of_finish (exec_lineFillComplete_sent miss unfilled idle near sent) ⟨?_, ?_⟩
  · exact (sent_settle _).kept _ (mem_out_sendRead_clean ..)
  · rw [settle_slice, slice_modMiss_of_ncch near miss]

/-! ### A line's check ends (R203, R227, R613) -/

/-- The check of a line that the tier supplied ends well. -/
theorem exec_tagCheckComplete (slices : s.ncch.slices = [(i, c)]) (miss : c.miss = [m]) (checking : m.checking = true) (near : m.media = false) :
    exec (.tagCheckComplete m.line true) s = finish ((s.modMiss i m.line fun _ => { m with checking := false }).settleMiss i m.line) := by
  show execTagCheckComplete m.line true s = _
  simp [execTagCheckComplete, slices, miss, checking, State.checkEnds, near]

theorem slice_of_one (slices : s.ncch.slices = [(i, c)]) : s.slice i = c := by simp [State.slice, slices, tget]

section
variable (miss : (s.slice i).miss = [m]) (filled : m.filled = some x) (checked : m.checking = false) (joined : m.joined = [])
include miss filled checked joined

/-- A line that a capture invalidation met is not installed. -/
theorem settleMiss_noInstall (no : m.noInstall = true) (after : m.after = []) :
    s.settleMiss i m.line = s.modSlice i fun c => { c with miss := c.miss.filter fun y => y.line ≠ m.line } := by
  simp [State.settleMiss, miss, filled, checked, no, joined, after]

/-- A line goes into the lowest way of a set that holds none (R206). -/
theorem settleMiss_installs (yes : m.noInstall = false) (enabled : (s.slice i).cstate = .enabled) (allocates : s.attr m.line ≠ 3)
    (empty : (s.slice i).ways = []) : s.settleMiss i m.line =
      s.modSlice i fun _ => { s.slice i with miss := [], ways := [(16 * lineSet m.line, s.wayFor m.line x)] } := by
  have install : (s.slice i).install (s.wayFor m.line x) m.stepped =
      ({ s.slice i with ways := [(16 * lineSet m.line, s.wayFor m.line x)] }, true) := by
    simp [Slice.install, Slice.choose, empty, List.range_succ, State.wayFor, Way.reset, tput, tins]
  simp [State.settleMiss, miss, filled, checked, yes, State.settleOpen, allocates, enabled, install, joined]

end

theorem slice_unchecked (slices : s.ncch.slices = [(i, c)]) (miss : c.miss = [m]) :
    (s.modMiss i m.line fun _ => { m with checking := false }).slice i = { c with miss := [{ m with checking := false }] } := by
  have one : s.slice i = c := slice_of_one slices
  rw [slice_modMiss (by rw [one, miss]) rfl, one]

theorem tagCheckComplete_frees (slices : s.ncch.slices = [(i, c)]) (miss : c.miss = [m]) (checking : m.checking = true) (near : m.media = false)
    (filled : m.filled = some x) (joined : m.joined = []) (after : m.after = []) (no : m.noInstall = true) :
    answers (.tagCheckComplete m.line true) s fun t => (t.slice i).miss = [] ∧ (t.slice i).ways = c.ways ∧ t.tier = s.tier := by
  have unchecked := slice_unchecked slices miss
  have settled := settleMiss_noInstall (m := { m with checking := false }) (congrArg (·.miss) unchecked) filled rfl joined no after
  refine answers_of_finish ((exec_tagCheckComplete slices miss checking near).trans (congrArg finish settled)) ⟨?_, ?_, (rep_settle _).tier⟩
  · simp [settle_slice, slice_modSlice, unchecked]
  · simp [settle_slice, slice_modSlice, unchecked]

theorem tagCheckComplete_installs (slices : s.ncch.slices = [(i, c)]) (miss : c.miss = [m]) (checking : m.checking = true) (near : m.media = false)
    (filled : m.filled = some x) (joined : m.joined = []) (yes : m.noInstall = false) (enabled : c.cstate = .enabled)
    (allocates : s.attr m.line ≠ 3) (empty : c.ways = []) :
    answers (.tagCheckComplete m.line true) s fun t => (t.slice i).miss = [] ∧
      (t.slice i).ways = [(16 * lineSet m.line, s.wayFor m.line x)] ∧ t.tier = s.tier := by
  have unchecked := slice_unchecked slices miss
  have settled := settleMiss_installs (s := s.modMiss i m.line fun _ => { m with checking := false }) (m := { m with checking := false })
    (congrArg (·.miss) unchecked) filled rfl joined yes ((congrArg (·.cstate) unchecked).trans enabled) allocates ((congrArg (·.ways) unchecked).trans empty)
  refine answers_of_finish ((exec_tagCheckComplete slices miss checking near).trans (congrArg finish settled)) ⟨?_, ?_, (rep_settle _).tier⟩
  · rw [settle_slice, slice_modSlice]
  · rw [settle_slice, slice_modSlice]
    rfl

/-! ### A victim's write-back (R215) -/

theorem storeBack_counted (free : s.pageFree line = true) (counts : s.minorFull line = false) (order : s.tier.order = []) (poison : Bool) :
    s.storeBack line d poison = ((s.countLine line).putTier line d poison).markPoison line poison := by
  have order : (s.countLine line).tier.order = [] := by rw [(recounted_countLine s _).tier, order]
  have queued := dramWrite_of_no_channel (s := (s.countLine line).putTier line d poison) order line
  simp [State.storeBack, free, counts, queued]

theorem notePoison_tier (s : State) (line : Nat) : (s.notePoison line).tier = s.tier := by
  unfold State.notePoison
  (repeat' split) <;> rfl
theorem markPoison_tier (s : State) (line : Nat) (poison : Bool) : (s.markPoison line poison).tier = s.tier := by
  cases poison
  · rfl
  · exact notePoison_tier ..

theorem victimWriteComplete_stores {v : Vict} (victims : (s.slice i).victims = [v]) (waits : v.waits = []) (free : s.pageFree v.line = true)
    (miss : (s.slice i).miss = []) (counts : s.minorFull v.line = false) (order : s.tier.order = []) :
    answers (.victimWriteComplete i v.line) s fun t => (t.slice i).victims = [] ∧
      (tget TLine.reset t.tier.lines v.line).data = v.data ∧ (tget TLine.reset t.tier.lines v.line).dirty = true ∧
      (tget TLine.reset t.tier.lines v.line).poison = v.poison := by
  have stored := storeBack_counted (d := v.data) free counts order v.poison
  have slice : (s.storeBack v.line v.data v.poison).slice i = s.slice i := slice_of_ncch ((Below.refl s).storeBack).ncch i
  have freed : ((s.storeBack v.line v.data v.poison).modSlice i fun c => { c with victims := c.victims.filter fun x => x.line ≠ v.line }).slice i =
      { s.slice i with victims := [] } := by
    rw [slice_modSlice, slice, victims]
    simp
  have line : tget TLine.reset (s.storeBack v.line v.data v.poison).tier.lines v.line =
      { data := v.data, poison := v.poison, dirty := true, held := false, gen := (tget TLine.reset s.tier.lines v.line).gen + 1 } := by
    rw [stored, markPoison_tier, ← (recounted_countLine s v.line).tier]
    exact tget_tins_same ..
  have e : exec (.victimWriteComplete i v.line) s = finish ((s.storeBack v.line v.data v.poison).modSlice i fun c =>
      { c with victims := c.victims.filter fun x => x.line ≠ v.line }) := by
    show execVictimWriteComplete i v.line s = _
    simp only [execVictimWriteComplete, victims, List.find?_cons, decide_true, free, if_true, State.victimDone, waits, List.foldl_nil]
    rw [retryInstalls_none (by rw [freed, miss])]
  refine answers_of_finish e ⟨by rw [settle_slice, freed], ?_, ?_, ?_⟩
  all_goals
    rw [(rep_settle _).tier, State.modSlice_tier, line]

/-! ### A miss entry is free for a request at the input (R202) -/

theorem access_hit {key : Nat} {w : Way} (read : r.write = none) (kept : r.line ∉ s.media.refused)
    (near : (s.ncch.bypass.any fun m => m.line = r.line) = false) (served : s.sliceOf r.line = some i) (on : (s.slice i).passed = false)
    (input : (s.slice i).inWait = []) (hit : (s.slice i).lookup r.line = some (key, w)) :
    s.access r = (s.countHit i r).finishRead { r with seen := true } (w.data, w.poison) 0 := by
  simp [State.access, State.behind, State.lookup, read, kept, near, served, on, input, hit]

/-- The requests at a slice's input taken off it. -/
def State.takeInput (s : State) (i : Nat) : State := s.modSlice i fun c => { c with inWait := [] }

theorem slice_takeInput (s : State) (i : Nat) : (s.takeInput i).slice i = { s.slice i with inWait := [] } := slice_modSlice ..

theorem retryInput_one (input : (s.slice i).inWait = [r]) : s.retryInput i = (s.takeInput i).access r := by
  simp only [State.retryInput, input, List.foldl_cons, List.foldl_nil, State.takeInput]

/-- The count of a hit leaves alone what the completion of a read and the prefetches look at. -/
structure CountedHit (s : State) (i : Nat) (t : State) : Prop where
  miss : (t.slice i).miss = (s.slice i).miss
  inWait : (t.slice i).inWait = (s.slice i).inWait
  nextq : t.ncch.nextq = s.ncch.nextq
  hints : t.ncch.hints = s.ncch.hints
  biOut : t.cxlp.biOut = s.cxlp.biOut
  heldBack : ∀ w ∈ t.heldBack, w ∈ s.heldBack

theorem countHit_counts (s : State) (i : Nat) (r : MemReq) : CountedHit s i (s.countHit i r) := by
  unfold State.countHit
  split
  · exact ⟨rfl, rfl, rfl, rfl, rfl, fun _ => id⟩
  · exact ⟨by rw [slice_modSlice], by rw [slice_modSlice], rfl, rfl, rfl, heldBack_modSlice rfl⟩

theorem takeInput_ne_reset {key : Nat} {w : Way} (hit : (s.slice i).lookup line = some (key, w)) :
    { s.slice i with inWait := [] } ≠ Slice.reset := fun e => by
  have ways : (s.slice i).ways = [] := congrArg (·.ways) e
  simp [Slice.lookup, ways] at hit

/-- A read at the input that now hits is served, and the input is empty. -/
theorem missEntryFreed_serves {key : Nat} {w : Way} (input : (s.slice i).inWait = [r]) (miss : (s.slice i).miss = []) (unheld : Unheld s r)
    (kept : r.line ∉ s.media.refused) (near : (s.ncch.bypass.any fun m => m.line = r.line) = false) (served : s.sliceOf r.line = some i)
    (on : (s.slice i).passed = false) (hit : (s.slice i).lookup r.line = some (key, w)) (clean : w.poison = false) (idle : NoPrefetch s) :
    answers (.missEntryFreed i) s fun t => .readDone r.tag w.data false ∈ t.out ∧ (t.slice i).inWait = [] := by
  have slice := slice_takeInput s i
  have counted := countHit_counts (s.takeInput i) i r
  have unheld' : Unheld ((s.takeInput i).countHit i r) r := unheld.mono counted.biOut fun w hw => heldBack_modSlice rfl w (counted.heldBack w hw)
  have access : (s.takeInput i).access r = ((s.takeInput i).countHit i r).finishRead { r with seen := true } (w.data, w.poison) 0 :=
    access_hit unheld.read kept near (sliceOf_modSlice served (takeInput_ne_reset hit) rfl rfl) (by rw [slice]; exact on) (by rw [slice])
      (by rw [slice]; exact hit)
  rw [unheld'.seen.finishRead, clean] at access
  have near := sendRead_clean_ncch ((s.takeInput i).countHit i r) { r with seen := true } w.data 0
  have idle : NoPrefetch (((s.takeInput i).countHit i r).sendRead { r with seen := true } (w.data, false) 0) :=
    NoPrefetch.of_ncch ⟨counted.nextq.trans idle.nextq, counted.hints.trans idle.hints⟩ near
  have e : exec (.missEntryFreed i) s = finish (((s.takeInput i).countHit i r).sendRead { r with seen := true } (w.data, false) 0) := by
    show execMissEntryFreed i s = _
    simp only [execMissEntryFreed, input, List.isEmpty_cons, Bool.false_eq_true, if_false, retryInput_one input, access]
    rw [retryInstalls_none (by rw [slice_of_ncch near, counted.miss, slice, miss]), idle.pump]
  refine answers_of_finish e ⟨(sent_settle _).kept _ (mem_out_sendRead_clean _ { r with seen := true } ..), ?_⟩
  rw [settle_slice, slice_of_ncch near, counted.inWait, slice]

/-! ### A slice's drain (R229, R230) -/

/-- A way after the write-back of the Dirty lines that `pick` chooses. -/
def cleaned (pick : Way → Bool) (w : Nat × Way) : Nat × Way := if w.2.st = .modified && pick w.2 then (w.1, { w.2 with st := .clean }) else w

theorem slice_cleanWays (s : State) (i : Nat) (pick : Way → Bool) :
    (s.cleanWays i pick).slice i = { s.slice i with ways := (s.slice i).ways.map (cleaned pick) } := by
  have below : Below s (((s.slice i).ways.filter fun w => w.2.st = .modified && pick w.2).foldl
      (fun s w => s.storeBack w.2.line w.2.data w.2.poison) s) := (Below.refl s).foldl fun h => h.storeBack
  refine (slice_modSlice ..).trans ?_
  rw [slice_of_ncch below.ncch]
  rfl

theorem cleanWays_serving (s : State) (i : Nat) (pick : Way → Bool) : SameService s (s.cleanWays i pick) :=
  ((Below.refl s).foldl fun h => h.storeBack).serving

theorem emptyVictims_none (h : (s.slice i).victims = []) : s.emptyVictims i = s := by simp [State.emptyVictims, h]

theorem silent_modSlice (s : State) (j : Nat) (f : Slice → Slice) (b : Block) : (s.modSlice j f).silent b = s.silent b := rfl

/-- A slice as its drain ends: DISABLED, with every line invalid. -/
def Slice.turnedOff (c : Slice) : Slice := { (c.dropWays fun _ => true) with cstate := .disabled }

/-- A slice without misses and without requests at its input. -/
def Slice.vacant (c : Slice) : Slice := { c with miss := [], inWait := [] }

theorem evictMisses_none (miss : (s.slice i).miss = []) (input : (s.slice i).inWait = []) : s.evictMisses i = s.modSlice i Slice.vacant := by
  simp only [State.evictMisses, miss, input, List.filter_nil, List.map_nil, List.append_nil, List.foldl_nil]
  rfl

section
variable (draining : (s.slice i).cstate = .draining) (miss : (s.slice i).miss = []) (input : (s.slice i).inWait = [])
  (victims : (s.slice i).victims = []) (calm : (s.slice i).viralDrain = false)
include draining miss input victims calm

theorem exec_sliceDrained : exec (.sliceDrained i) s =
    finish ((((s.cleanWays i fun _ => true).modSlice i Slice.turnedOff).modSlice i Slice.vacant).cause (.ncch i) 1) := by
  have clean := slice_cleanWays s i fun _ => true
  have off : ((s.cleanWays i fun _ => true).modSlice i Slice.turnedOff).slice i = Slice.turnedOff _ := slice_modSlice ..
  have emptied : (s.cleanWays i fun _ => true).emptyVictims i = s.cleanWays i fun _ => true := emptyVictims_none (by rw [clean, victims])
  have noViral : ((s.cleanWays i fun _ => true).slice i).viralDrain = false := by rw [clean]; exact calm
  have evicted := evictMisses_none (s := (s.cleanWays i fun _ => true).modSlice i Slice.turnedOff) (i := i)
    (by rw [off, clean]; exact miss) (by rw [off, clean]; exact input)
  show execSliceDrained i s = _
  simp only [execSliceDrained, draining, ne_eq, not_true_eq_false, if_false, emptied, noViral, Bool.false_eq_true]
  exact congrArg (fun w : State => finish (w.cause (.ncch i) 1)) evicted

theorem sliceDrained_disables (h : i < 16) (serving : s.inService (.ncch i)) :
    answers (.sliceDrained i) s fun t => (t.slice i).cstate = .disabled ∧ hasCause t (.ncch i) 1 := by
  have e := exec_sliceDrained draining miss input victims calm
  refine answers_of_finish e ⟨?_, ?_⟩
  · rw [settle_slice, slice_of_ncch (rep_cause ..).ncch, slice_modSlice, slice_modSlice]
    rfl
  · have clean : (s.cleanWays i fun _ => true).silent (.ncch i) = false := silent_of_serving ((cleanWays_serving s i _ _).trans serving)
    have serves : (((s.cleanWays i fun _ => true).modSlice i Slice.turnedOff).modSlice i Slice.vacant).silent (.ncch i) = false := by
      rw [silent_modSlice, silent_modSlice, clean]
    exact hasCause_cause serves (ncch_page_ne h)

end

/-! ### Writes that waited (R151, R616) -/

/-- A page whose re-encryption is over. -/
def State.reencrypted (s : State) (page : Nat) : State := s.putCline page { s.cline page with reenc := false, waits := [] }

theorem cline_putCline (s : State) (page : Nat) (c : CLine) : (s.putCline page c).cline page = c := by
  have listed : (tins page c s.mprt.pages).any (fun e => e.1 = page) = true := by
    generalize s.mprt.pages = l
    induction l with
    | nil => simp [tins]
    | cons e l ih =>
      unfold tins
      split
      · simp
      · split
        · simp
        · simp [ih]
  unfold State.cline
  rw [if_pos (by exact listed)]
  exact tget_tins_same ..

theorem cline_of_mprt (h : t.mprt = s.mprt) (page : Nat) : t.cline page = s.cline page := by unfold State.cline; rw [h]

theorem performFirst_uncached (uncached : s.ncch.slices = []) : s.performFirst r = (s.tierWrite r (s.lineData r.line) true).1 := by
  simp [State.performFirst, State.settleVictim, uncached, State.sliceOf]

section
variable (hw : r.write = some (d, BitVec.allOnes 64)) (clean : r.poison = false) (limit : s.pers.limit ≠ 0) (order : s.tier.order = [])
include hw clean limit order

/-- The write that waited for room is performed in the DRAM tier. -/
theorem dirtyWaitRelease_completes (waits : s.cxlp.dirtyWait = [r]) (room : s.roomFor r.line = true)
    (first : (s.cline (tierPageOf r.line)).waits = []) (free : s.pageFree r.line = true) (counts : s.minorFull r.line = false)
    (passes : s.sliceOf r.line = none) (bypass : s.ncch.bypass = []) :
    answers .dirtyWaitRelease s fun t => .writeDone r.tag ∈ t.out ∧ t.cxlp.dirtyWait = [] ∧
      (tget TLine.reset t.tier.lines r.line).data = d ∧ (tget TLine.reset t.tier.lines r.line).dirty = true := by
  let u : State := { s with cxlp.dirtyWait := [] }
  have behind : u.behind r = none := by
    have first : (u.cline (tierPageOf r.line)).waits = [] := first
    simp [State.behind, u, hw, first]
  have write : u.tierWrite r (u.lineData r.line) false = (((u.countLine r.line).inTier r d).acknowledge r, true) :=
    tierWrite_counted hw clean room order free counts
  have access : u.access r = ((u.countLine r.line).inTier r d).acknowledge r := by
    have passes : u.sliceOf r.line = none := passes
    have bypass : u.ncch.bypass = [] := bypass
    simp [State.access, behind, bypass, passes, State.pass, full_of_write hw, State.direct, write, hw]
  have e : exec .dirtyWaitRelease s = finish (((u.countLine r.line).inTier r d).acknowledge r) := by
    show execDirtyWaitRelease s = _
    simp only [execDirtyWaitRelease, waits, room, if_true]
    exact congrArg finish access
  have counted := recounted_countLine u r.line
  have written := (written_inTier (s := u.countLine r.line) (r := r) (d := d) (by rw [counted.pers]; exact limit)).settle
  exact answers_of_finish e ⟨written.done, written.dirtyWait.trans (congrArg (·.dirtyWait) counted.cxlp), written.data, written.dirty⟩

/-- The write that its page was re-encrypted for is performed in the DRAM tier. -/
theorem pageReencryptComplete_completes {page : Nat} (running : (s.cline page).reenc = true) (waits : (s.cline page).waits = [r])
    (dirty : r.line ∈ s.dirtyLines) (uncached : s.ncch.slices = []) :
    answers (.pageReencryptComplete page) s fun t => .writeDone r.tag ∈ t.out ∧ (tget TLine.reset t.tier.lines r.line).data = d ∧
      (t.cline page).reenc = false ∧ (t.cline page).waits = [] := by
  have room : (s.reencrypted page).roomFor r.line = true := by
    have dirty : r.line ∈ (s.reencrypted page).dirtyLines := dirty
    simp [State.roomFor, dirty]
  have write : (s.reencrypted page).tierWrite r ((s.reencrypted page).lineData r.line) true =
      (((s.reencrypted page).inTier r d).acknowledge r, true) := tierWrite_first hw clean room order
  have e : exec (.pageReencryptComplete page) s = finish (((s.reencrypted page).inTier r d).acknowledge r) := by
    have performed : (s.reencrypted page).performFirst r = ((s.reencrypted page).inTier r d).acknowledge r := by
      rw [performFirst_uncached (s := s.reencrypted page) uncached, write]
    show execPageReencryptComplete page s = _
    simp only [execPageReencryptComplete, running, waits, Bool.not_true, Bool.false_eq_true, if_false, List.foldl_nil]
    exact congrArg finish performed
  have written := (written_inTier (s := s.reencrypted page) (r := r) (d := d) limit).settle
  have cline := cline_of_mprt ((rep_settle _).mprt.trans (acknowledged_mprt (s := s.reencrypted page) (r := r) (d := d) limit)) page
  rw [State.reencrypted, cline_putCline] at cline
  exact answers_of_finish e ⟨written.done, written.data, by rw [State.reencrypted, cline], by rw [State.reencrypted, cline]⟩

end

end Sys2Proof.Machine
end

section
namespace Sys2Proof.Machine

/-- Settles O25: each clause is the lemma of its event. Where the event performs a store (a victim, a write that waited) the tier's entry
is read off the last write, since what comes before it (the page's counters, the re-encryption) leaves the tier's lines alone; where
it serves a read, the near cache stays as it was, so neither a retry nor a prefetch runs before the command ends. -/
theorem nearCacheEvents : Obligations.NearCacheEvents := by
  unfold Obligations.NearCacheEvents
  refine ⟨?fill, ?check, ?victim, ?freed, ?drained, ?room, ?page⟩
  case fill =>
    rintro s i line m r miss rfl unfilled joined - read plain same free ready has lazy clean first idle hints
    exact lineFillComplete_sends miss unfilled joined ⟨read, plain, by rwa [show r.line = m.line from same], first⟩ ready has lazy clean ⟨idle, hints⟩
  case check =>
    rintro s i line m c slices miss rfl checking filled near joined after
    obtain ⟨x, filled⟩ := Option.isSome_iff_exists.1 filled
    refine ⟨tagCheckComplete_frees slices miss checking near filled joined after, ?_⟩
    intro y yes data enabled allocates empty
    exact tagCheckComplete_installs slices miss checking near data joined yes enabled allocates empty
  case victim =>
    rintro s i line v victims rfl waits free miss counts order
    exact victimWriteComplete_stores victims waits free miss counts order
  case freed =>
    rintro s i line key r w input miss read plain rfl free kept near served on hit clean first idle hints
    exact missEntryFreed_serves input miss ⟨read, plain, free, first⟩ kept near served on hit clean ⟨idle, hints⟩
  case drained =>
    intro s i draining miss input victims calm h serving
    exact sliceDrained_disables draining miss input victims calm h serving
  case room =>
    intro s r d waits hw clean limit room first free counts passes bypass order
    exact dirtyWaitRelease_completes hw clean limit order waits room first free counts passes bypass
  case page =>
    intro s page r d running waits hw clean limit order dirty uncached
    exact pageReencryptComplete_completes hw clean limit order running waits dirty uncached

end Sys2Proof.Machine
end

section
/-!
SUPPORT. A state with a slice listed twice, for the settings of the near cache.
-/
namespace Sys2Proof.Machine

/-- Slice 0 is listed twice, first as at reset and then live, and a change of region 3 is busy. -/
def listedTwice : State :=
  { State.reset with ncch := { Ncch.reset with busy := [3], slices := [(0, Slice.reset), (0, { Slice.reset with live := true })] } }

/-- The write-back turns the first entry, which is the slice of reset again, so that both entries go: no live slice is left to report. -/
theorem exec_listedTwice : exec (.rgnattrChangeComplete 3) listedTwice = .next { listedTwice with ncch := Ncch.reset } := rfl

end Sys2Proof.Machine
end

section
namespace Sys2Proof.Machine

/-- Refutes O24: the end of a region's change does not raise RGNDONE of every live slice. In the state `listedTwice` slice 0 is live, but
its entry comes second in the table, behind one as at reset; the write-back of the region's lines deletes both entries before the live
slices are told, and bit 6 of slice 0's ISTAT stays 0. -/
theorem not_nearCacheSettings : ¬ Obligations.NearCacheSettings := by
  unfold Obligations.NearCacheSettings
  rintro ⟨-, -, change, -⟩
  obtain ⟨t, ends, -, cause⟩ := change listedTwice 3 (by decide) (by decide)
  cases Host.Outcome.next.inj (exec_listedTwice.symm.trans ends)
  obtain ⟨reported, -⟩ := cause 0 (by decide)
  exact Bool.false_ne_true reported

end Sys2Proof.Machine
end

section
/-!
SUPPORT. A DRAM channel's timed events and its shares, each as one change of that channel (06_dram_tier.md R274 to R279).
-/
namespace Sys2Proof.Machine

variable {s : State} {m : Nat}

/-! ### One channel changed -/

theorem dram_modDram_same (s : State) (m : Nat) (f : Drmc → Drmc) : (s.modDram m f).dram m = f (s.dram m) := tget_tmod_same ..

theorem dram_modDram_other (s : State) {m k : Nat} (f : Drmc → Drmc) (h : k ≠ m) : (s.modDram m f).dram k = s.dram k :=
  tget_tmod_other _ _ f h

theorem settle_dram (s : State) (m : Nat) : s.settle.dram m = s.dram m := by unfold State.dram; rw [settle_drmc]

/-- A command that ends in a change of one channel answers what holds of the changed channel, with the tier and every other channel as they
were. -/
theorem answers_of_modDram {c : Instr} {f : Drmc → Drmc} {p : State → Prop} (e : exec c s = finish (s.modDram m f))
    (h : ∀ t : State, t.dram m = f (s.dram m) → t.tier = s.tier → (∀ k, k ≠ m → t.dram k = s.dram k) → p t) : answers c s p :=
  answers_of_finish e <| h _ ((settle_dram ..).trans (dram_modDram_same ..)) (settle_tier _)
    fun _ other => (settle_dram ..).trans (dram_modDram_other s f other)

/-! ### What each event makes of its channel -/

/-- A same-bank refresh, with the bank's oldest directed refresh that waits (R276, R279). -/
def Drmc.refreshed (bank : Nat) (hot : Bool) (d : Drmc) : Drmc :=
  { d with refreshes := d.refreshes + 1, hot := hot, banks := tmod Bank.reset d.banks bank fun b => { b with directed := b.directed.drop 1 } }

/-- The banks with tables and floors clear; directed refreshes wait on (R278). -/
def clearedBanks (banks : Tbl Bank) : Tbl Bank := banks.foldl (fun t e => tput Bank.reset t e.1 { e.2 with rows := [], floor := 0 }) []

/-- A counting window begins (R278). -/
def Drmc.windowReset (d : Drmc) : Drmc := { d with floorMax := 0, banks := clearedBanks d.banks }

/-- A bandwidth window of a subchannel begins: no credit is spent, and the shares last written are in force (R274, R275). -/
def Drmc.windowShares (sub : Nat) (d : Drmc) : Drmc :=
  { d with credits := d.credits.filter fun e => e.1 / 4 ≠ sub, shareNow := tput Drmc.reset.share d.shareNow sub d.share }

section
variable (active : (s.dram m).cstate = .active)
include active

theorem exec_dramRefreshDue_active (bank : Nat) (hot : Bool) :
    exec (.dramRefreshDue m bank hot) s = finish (s.modDram m (Drmc.refreshed bank hot)) :=
  congrArg finish (if_neg (not_not_intro active))

theorem exec_actWindowReset_active : exec (.actWindowReset m) s = finish (s.modDram m Drmc.windowReset) :=
  congrArg finish (if_neg (not_not_intro active))

theorem exec_burstWindowEnd_active (sub : Nat) : exec (.burstWindowEnd m sub) s = finish (s.modDram m (Drmc.windowShares sub)) :=
  congrArg finish (if_neg (not_not_intro active))

end

theorem refreshed_directed (bank : Nat) (hot : Bool) (d : Drmc) :
    (tget Bank.reset (d.refreshed bank hot).banks bank).directed = (tget Bank.reset d.banks bank).directed.drop 1 := by
  simp [Drmc.refreshed]

/-- No bank holds a counted row or a floor after the window's clearing: each entry written is clear, and a write brings in no other. -/
theorem clearedBanks_clear (banks : Tbl Bank) : ((clearedBanks banks).all fun e => e.2.rows.isEmpty && e.2.floor = 0) = true := by
  unfold clearedBanks
  refine List.foldlRecOn (motive := fun t : Tbl Bank => (t.all fun e => e.2.rows.isEmpty && e.2.floor = 0) = true) banks _ rfl
    fun t clear b _ => List.all_eq_true.2 fun e he => ?_
  obtain rfl | he := eq_or_mem_of_mem_tput he
  · rfl
  · exact List.all_eq_true.1 clear e he

theorem windowShares_credits (sub : Nat) (d : Drmc) : ((d.windowShares sub).credits.any fun e => e.1 / 4 = sub) = false := by
  simp [Drmc.windowShares]

theorem windowShares_share (sub : Nat) (d : Drmc) : tget Drmc.reset.share (d.windowShares sub).shareNow sub = d.share :=
  tget_tput_same ..

/-! ### The shares written (R275) -/

/-- The four share fields of a word, added up (R275). -/
abbrev shareSum (v : Word) : Nat := fld v 0 7 + fld v 7 7 + fld v 14 7 + fld v 21 7

theorem drmc_page_ne (m : Nat) : (Block.drmc m).page ≠ 5 := by
  have place : (Block.drmc m).page = 0x34 + m := rfl
  omega

section
variable (up : s.up (.drmc m)) (fitted : m < s.fuse.part.dramChannels) (v : Word)
include up fitted

/-- A write of the shares of a channel that serves its registers is judged by the sum alone. -/
theorem exec_drmcShareWrite_up : exec (.drmcShareWrite m v) s =
    finish (if shareSum v = 64 then s.modDram m fun d => { d with share := keep v 0xFFFFFFF } else s.error (.drmc m) 0x44 0) := by
  obtain ⟨on, awake⟩ := up
  refine congrArg finish ((reg_awake awake ..).trans (if_neg ?_))
  simp [show (s.hdr (.drmc m)).ready = true from on, fitted]

theorem drmcShareWrite_accepts (full : shareSum v = 64) : answers (.drmcShareWrite m v) s fun t => (t.dram m).share = keep v 0xFFFFFFF :=
  answers_of_modDram ((exec_drmcShareWrite_up up fitted v).trans (congrArg finish (if_pos full))) fun _ same _ _ => by rw [same]

theorem drmcShareWrite_refuses (wrong : shareSum v ≠ 64) (serving : s.inService (.drmc m)) (empty : (s.hdr (.drmc m)).evalid = false) :
    answers (.drmcShareWrite m v) s fun t => captured t (.drmc m) 0x44 0 ∧ t.drmc = s.drmc := by
  refine answers_of_finish ((exec_drmcShareWrite_up up fitted v).trans (congrArg finish (if_neg wrong))) ⟨?_, by simp⟩
  exact captured_settle (drmc_page_ne m) (captured_error (silent_of_serving serving) empty (by decide) (by decide))

end

end Sys2Proof.Machine
end

section
namespace Sys2Proof.Machine

/-- Settles O34: each event of an active channel is one change of that channel (`Drmc.refreshed`, `Drmc.windowReset`, `Drmc.windowShares`), and
the write of the shares is accepted or refused by their sum. -/
theorem dramEvents : Obligations.DramEvents := by
  unfold Obligations.DramEvents
  refine ⟨?refresh, ?activations, ?bandwidth, ?shares⟩
  case refresh =>
    refine fun s m bank hot active => answers_of_modDram (exec_dramRefreshDue_active active bank hot) fun t same tier others => ?_
    rw [same]
    exact ⟨rfl, rfl, refreshed_directed .., tier, others⟩
  case activations =>
    refine fun s m active => answers_of_modDram (exec_actWindowReset_active active) fun t same _ others => ?_
    rw [same]
    exact ⟨rfl, clearedBanks_clear _, others⟩
  case bandwidth =>
    refine fun s m sub active => answers_of_modDram (exec_burstWindowEnd_active active sub) fun t same _ _ => ?_
    rw [same]
    exact ⟨windowShares_share .., windowShares_credits .., rfl⟩
  case shares =>
    exact fun s m v up fitted => ⟨drmcShareWrite_accepts up fitted v, drmcShareWrite_refuses up fitted v⟩

end Sys2Proof.Machine
end

section
/-!
SUPPORT. An error that sets a cause of its block with it, and what the poisoning of a unit leaves alone: the headers and every other entry
of the maps (03_registers_and_hallmark.md R118; 07_translation.md R313, R328).
-/
namespace Sys2Proof.Machine

variable {s₀ s t : State} {b : Block} {coarse : Bool} {line u : Nat}

/-! ### An error with a cause (R118, R698) -/

/-- An error of a unit in service, while its ERRSTAT holds none, is captured, and the cause of the same occurrence is set, to the end of the
command. -/
theorem captured_errorCause {code addr bit sev : Nat} (other : b.page ≠ 5) (serving : s.silent b = false) (empty : (s.hdr b).evalid = false)
    (hc : code < 256) (ha : addr < 2 ^ 28) :
    captured (s.error b code addr (2 ^ bit) sev).settle b code addr ∧ hasCause (s.error b code addr (2 ^ bit) sev).settle b bit := by
  have header := (settle_hdr (s.error b code addr (2 ^ bit) sev) other).trans (error_hdr_same s code addr (2 ^ bit) sev serving)
  simp only [empty, Bool.false_eq_true, if_false, Nat.mod_eq_of_lt hc, Nat.mod_eq_of_lt ha] at header
  simp [captured, hasCause, header]

/-! ### What no accounting of the bands changes (R321, R323, R327) -/

/-- `t` holds the map entries and the headers of `s`. -/
structure SameMaps (s t : State) : Prop where
  hall : t.hall = s.hall
  fine : t.ftlm.fine = s.ftlm.fine
  coarse : t.ftlm.coarse = s.ftlm.coarse

theorem SameMaps.refl (s : State) : SameMaps s s := ⟨rfl, rfl, rfl⟩

/-- The bands, media and the port's lists may change. -/
theorem SameMaps.update {cxlp media bands} (h : SameMaps s₀ s) : SameMaps s₀ { s with cxlp, media, ftlm.bands := bands } :=
  ⟨h.hall, h.fine, h.coarse⟩

theorem SameMaps.ite {c : Prop} {_ : Decidable c} (h : SameMaps s₀ s) (g : SameMaps s₀ t) : SameMaps s₀ (if c then s else t) := by
  split <;> assumption

theorem SameMaps.foldl {α : Type} {f : State → α → State} {l : List α} (h : SameMaps s₀ s) (hf : ∀ {u a}, SameMaps s₀ u → SameMaps s₀ (f u a)) :
    SameMaps s₀ (l.foldl f s) := by
  induction l generalizing s with
  | nil => exact h
  | cons a l ih => exact ih (hf h)

theorem SameMaps.mapEntry (h : SameMaps s t) (coarse : Bool) (u : Nat) : t.mapEntry coarse u = s.mapEntry coarse u := by
  unfold State.mapEntry
  rw [h.fine, h.coarse]

theorem SameMaps.modBand {n f} (h : SameMaps s₀ s) : SameMaps s₀ (s.modBand n f) := h.update
theorem SameMaps.modBlk {die block f} (h : SameMaps s₀ s) : SameMaps s₀ (s.modBlk die block f) := h.update
theorem SameMaps.freeBand {n} (h : SameMaps s₀ s) : SameMaps s₀ (s.freeBand n) := .ite (.ite h.modBand (h.foldl fun h => h.modBlk).update) h
theorem SameMaps.addValid {n k} (h : SameMaps s₀ s) : SameMaps s₀ (s.addValid n k) := h.modBand
theorem SameMaps.subValid {n k} (h : SameMaps s₀ s) : SameMaps s₀ (s.subValid n k) := h.modBand.freeBand
theorem SameMaps.notePoison (h : SameMaps s₀ s) : SameMaps s₀ (s.notePoison line) := .ite h (.ite h.update (.ite h.update h))
theorem SameMaps.noteUnit (h : SameMaps s₀ s) : SameMaps s₀ (s.noteUnit u) := h.foldl fun h => h.notePoison

/-! ### An entry that changes (R294, R436) -/

/-- The entry of a unit alone, with its map line noted for the next checkpoint. -/
def State.enterMap (s : State) (coarse : Bool) (u : Nat) (e : Word) : State :=
  if coarse then { s with ftlm.coarse := tput 0 s.ftlm.coarse u e, ftlm.changedCoarse := withNew s.ftlm.changedCoarse (u / 12) }
  else { s with ftlm.fine := tput 0 s.ftlm.fine u e, ftlm.changedFine := withNew s.ftlm.changedFine (u / 12) }

theorem enterMap_hall (s : State) (coarse : Bool) (u : Nat) (e : Word) : (s.enterMap coarse u e).hall = s.hall := by cases coarse <;> rfl

theorem mapEntry_enterMap (s : State) (coarse : Bool) (u : Nat) (e : Word) : (s.enterMap coarse u e).mapEntry coarse u = e := by
  cases coarse <;> exact tget_tput_same ..

/-- Beyond the entry, `setEntry` counts the bands' valid slots. -/
theorem sameMaps_setEntry (s : State) (coarse : Bool) (u : Nat) (e : Word) : SameMaps (s.enterMap coarse u e) (s.setEntry coarse u e) := by
  have entered := SameMaps.refl (s.enterMap coarse u e)
  have counted : SameMaps (s.enterMap coarse u e)
      (if mapSt e = 1 then (s.enterMap coarse u e).addValid (puaBand (mapPua e)) (unitSlots coarse) else s.enterMap coarse u e) :=
    .ite entered.addValid entered
  exact .ite counted.subValid counted

/-! ### A unit that nothing recovers (R298) -/

/-- A unit POISONED, with the lines of a fine one noted for the host. -/
def State.poisonUnit (s : State) (coarse : Bool) (u : Nat) : State :=
  if coarse then s.setEntry coarse u poisoned else (s.setEntry coarse u poisoned).noteUnit u

theorem sameMaps_poisonUnit (s : State) (coarse : Bool) (u : Nat) : SameMaps (s.enterMap coarse u poisoned) (s.poisonUnit coarse u) :=
  .ite (sameMaps_setEntry ..) (sameMaps_setEntry ..).noteUnit

theorem mapEntry_poisonUnit (s : State) (coarse : Bool) (u : Nat) : (s.poisonUnit coarse u).mapEntry coarse u = poisoned :=
  ((sameMaps_poisonUnit s coarse u).mapEntry ..).trans (mapEntry_enterMap ..)

theorem poisonUnit_hdr (s : State) (coarse : Bool) (u : Nat) (b : Block) : (s.poisonUnit coarse u).hdr b = s.hdr b :=
  hdr_of_hall ((sameMaps_poisonUnit s coarse u).hall.trans (enterMap_hall ..)) b

end Sys2Proof.Machine
end

section
/-!
SUPPORT. The end of a map line's rebuild, the write of the host data size, and a checkpoint's cut and end, each in the case that its statement
names (07_translation.md R298, R346 to R348; 10_persistence.md R435 to R437).
-/
namespace Sys2Proof.Machine

variable {s : State} {coarse : Bool} {line u : Nat} {v : Word} {c : Ckpt}

/-- Translation serves: maps are rebuilt and checkpoints are taken in these modes (02_modes_and_starts.md R48). -/
abbrev State.translates (s : State) : Prop := s.sysc.mode = .memory ∨ s.sysc.mode = .stream ∨ s.sysc.mode = .safe

/-! ### Map lines (R298, R347, R348) -/

/-- The locator of a map line in ERRSTAT. -/
abbrev mapLocator (coarse : Bool) (line : Nat) : Nat := b2n coarse * 2 ^ 27 + line / 8 % 2 ^ 27

theorem mapLocator_lt (coarse : Bool) (line : Nat) : mapLocator coarse line < 2 ^ 28 := by
  have bound : b2n coarse ≤ 1 := by cases coarse <;> decide
  unfold mapLocator
  omega

/-- The register MAPERR as an error leaves it. -/
def State.putMaperr (s : State) (w : Word) : State := { s with ftlm.maperr := w }

theorem putMaperr_fine (s : State) (w : Word) : (s.putMaperr w).ftlm.fine = s.ftlm.fine := rfl
theorem putMaperr_coarse (s : State) (w : Word) : (s.putMaperr w).ftlm.coarse = s.ftlm.coarse := rfl
theorem putMaperr_hdr (s : State) (w : Word) (b : Block) : (s.putMaperr w).hdr b = s.hdr b := rfl

section
variable (empty : (s.hdr .ftlm).evalid = false)
include empty

theorem mapError_first (coarse : Bool) (line code bits sev : Nat) :
    s.mapError coarse line code bits sev =
      (s.putMaperr (packW [(30, line), (1, b2n coarse), (1, 1)])).error .ftlm code (mapLocator coarse line) bits sev := by
  simp only [State.mapError, empty, Bool.not_false, if_true, State.putMaperr]

/-- The first error that FTLM captures for a map line changes no entry. -/
theorem maps_mapError (coarse : Bool) (line code bits sev : Nat) :
    (s.mapError coarse line code bits sev).settle.ftlm.fine = s.ftlm.fine ∧
      (s.mapError coarse line code bits sev).settle.ftlm.coarse = s.ftlm.coarse := by
  rw [settle_ftlm, mapError_first empty, error_ftlm, putMaperr_fine, putMaperr_coarse]
  exact ⟨rfl, rfl⟩

theorem captured_mapError (coarse : Bool) (line : Nat) {code : Nat} (bit sev : Nat) (hc : code < 256) :
    captured (s.mapError coarse line code (2 ^ bit) sev).settle .ftlm code (mapLocator coarse line) ∧
      hasCause (s.mapError coarse line code (2 ^ bit) sev).settle .ftlm bit := by
  rw [mapError_first empty]
  exact captured_errorCause (by decide) (silent_of_fixed _ rfl) (by rw [putMaperr_hdr, empty]) hc (mapLocator_lt coarse line)

end

section
variable (mode : s.translates)
include mode

theorem exec_mapLineRebuilt_full : exec (.mapLineRebuilt coarse line []) s = finish (s.mapError coarse line 0x41 (2 ^ 5) 4) := by
  show execMapLineRebuilt coarse line [] s = _
  obtain mode | mode | mode := mode <;> simp [execMapLineRebuilt, mode]

theorem exec_mapLineRebuilt_lost (inLine : u / 12 = line) :
    exec (.mapLineRebuilt coarse line [u]) s = finish ((s.poisonUnit coarse u).mapError coarse line 0x42 (2 ^ 5) 5) := by
  show execMapLineRebuilt coarse line [u] s = _
  obtain mode | mode | mode := mode <;> simp [execMapLineRebuilt, mode, inLine, State.poisonUnit]

variable (empty : (s.hdr .ftlm).evalid = false)
include empty

theorem mapLineRebuilt_full : answers (.mapLineRebuilt coarse line []) s fun t => captured t .ftlm 0x41 (mapLocator coarse line) ∧
    hasCause t .ftlm 5 ∧ t.ftlm.fine = s.ftlm.fine ∧ t.ftlm.coarse = s.ftlm.coarse := by
  obtain ⟨error, cause⟩ := captured_mapError empty coarse line (code := 0x41) 5 4 (by decide)
  exact answers_of_finish (exec_mapLineRebuilt_full mode) ⟨error, cause, maps_mapError empty ..⟩

theorem mapLineRebuilt_lost (inLine : u / 12 = line) : answers (.mapLineRebuilt coarse line [u]) s fun t =>
    captured t .ftlm 0x42 (mapLocator coarse line) ∧ t.mapEntry coarse u = poisoned := by
  have empty : ((s.poisonUnit coarse u).hdr .ftlm).evalid = false := by rw [poisonUnit_hdr, empty]
  obtain ⟨error, -⟩ := captured_mapError empty coarse line (code := 0x42) 5 5 (by decide)
  obtain ⟨sameFine, sameCoarse⟩ := maps_mapError empty coarse line 0x42 (2 ^ 5) 5
  refine answers_of_finish (exec_mapLineRebuilt_lost mode inLine) ⟨error, ?_⟩
  rw [State.mapEntry, sameFine, sameCoarse]
  exact mapEntry_poisonUnit s coarse u

end

/-! ### The host data size (R346, R296) -/

section
variable (up : s.up .ftlm)
include up

theorem exec_hdrcfgWrite_up : exec (.hdrcfgWrite v) s = finish (s.regHdrcfgWrite v) := congrArg finish (reg_awake up.2 ..)

theorem hdrcfgWrite_accepts (largest : fld v 0 26 ≤ 33554432) (mapped : fld v 0 26 ≤ 12 * (s.tier.liveGib * 2 ^ 30 / 128) / 256)
    (fits : fld v 0 26 + s.hankUse ≤ s.ftlm.exported) :
    answers (.hdrcfgWrite v) s fun t => t.ftlm.hdrcfg = BitVec.ofNat 40 (fld v 0 26) := by
  have within : ¬(33554432 < fld v 0 26 ∨ 12 * (s.tier.liveGib * 2 ^ 30 / 128) / 256 < fld v 0 26 ∨ s.ftlm.exported < fld v 0 26 + s.hankUse) := by
    omega
  have accepted : s.regHdrcfgWrite v = State.hostRecord { s with ftlm.hdrcfg := BitVec.ofNat 40 (fld v 0 26) } 3 := by
    simp only [State.regHdrcfgWrite, show (s.hdr .ftlm).ready = true from up.1, Bool.not_true, Bool.false_eq_true, if_false, if_neg within]
  exact answers_of_finish ((exec_hdrcfgWrite_up up).trans (congrArg finish accepted)) (by rw [settle_ftlm, hostRecord_ftlm])

theorem hdrcfgWrite_refuses (exceeds : s.ftlm.exported < fld v 0 26 + s.hankUse) (empty : (s.hdr .ftlm).evalid = false) :
    answers (.hdrcfgWrite v) s fun t => captured t .ftlm 0x43 0 ∧ t.ftlm = s.ftlm := by
  have refused : s.regHdrcfgWrite v = s.error .ftlm 0x43 0 := by simp [State.regHdrcfgWrite, up.1, exceeds]
  refine answers_of_finish ((exec_hdrcfgWrite_up up).trans (congrArg finish refused)) ⟨?_, by rw [settle_ftlm, error_ftlm]⟩
  exact captured_settle (by decide) (captured_error (silent_of_fixed s rfl) empty (by decide) (by decide))

end

/-! ### A checkpoint that falls due (R435, R436) -/

@[simp] theorem passTicks_sysc (s : State) (n : Nat) : (s.passTicks n).sysc = s.sysc := by unfold State.passTicks; split <;> rfl
@[simp] theorem passTicks_pers (s : State) (n : Nat) : (s.passTicks n).pers = s.pers := by unfold State.passTicks; split <;> rfl
@[simp] theorem passTicks_raised (s : State) (n : Nat) : (s.passTicks n).raised = s.raised := by unfold State.passTicks; split <;> rfl

/-- A checkpoint that waits for another record's end. -/
theorem checkpointDue_waits (busy : s.pers.ckptBusy.isSome = true) : s.checkpointDue = { s with pers.ckptWaiting := true } := by
  simp [State.checkpointDue, busy]

theorem checkpointDue_cuts (mode : s.translates) (free : s.pers.ckptBusy = none) :
    s.checkpointDue = s.checkpointCut := by
  obtain mode | mode | mode := mode <;> simp [State.checkpointDue, free, mode]

section
variable (quiet : s.settled)
include quiet

theorem checkpointDue_answers_cut (mode : s.translates) (free : s.pers.ckptBusy = none) :
    answers .checkpointDue s fun t => t = (s.passTicks s.checkpointWait).checkpointCut ∧ t.pers.ckptBusy.isSome = true ∧
      t.pers.cutAt = (s.passTicks s.checkpointWait).now ∧ t.pers.rotation = (s.pers.rotation + 1) % 16 := by
  have cut := checkpointDue_cuts (s := s.passTicks s.checkpointWait) (by rwa [State.translates, passTicks_sysc]) (by rw [passTicks_pers, free])
  refine answers_of_finish_settled (congrArg finish cut) ((passTicks_raised ..).trans quiet) ⟨rfl, rfl, rfl, ?_⟩
  show ((s.passTicks s.checkpointWait).pers.rotation + 1) % 16 = _
  rw [passTicks_pers]

theorem checkpointDue_answers_wait (busy : s.pers.ckptBusy.isSome = true) :
    answers .checkpointDue s fun t => t = { s.passTicks s.checkpointWait with pers.ckptWaiting := true } := by
  have waits := checkpointDue_waits (s := s.passTicks s.checkpointWait) (by rwa [passTicks_pers])
  exact answers_of_finish_settled (congrArg finish waits) ((passTicks_raised ..).trans quiet) rfl

end

/-! ### A checkpoint that ends (R437, R451, R452) -/

theorem checkpointNext_none (h : s.pers.ckptWaiting = false) : s.checkpointNext = s := by simp [State.checkpointNext, h]

section
variable (busy : s.pers.ckptBusy = some c) (alone : s.pers.ckptWaiting = false)
include busy alone

theorem exec_checkpointComplete_stands :
    exec (.checkpointComplete true) s = finish { s with pers.ckptBusy := none, media.ckpts := (c :: s.media.ckpts).take 16 } := by
  show execCheckpointComplete true s = _
  simp only [execCheckpointComplete, busy, if_true]
  exact congrArg finish (checkpointNext_none alone)

theorem exec_checkpointComplete_fails :
    exec (.checkpointComplete false) s = finish (State.error { s with pers.ckptBusy := none } .sysc 0x49 0 (2 ^ 11)) := by
  show execCheckpointComplete false s = _
  simp only [execCheckpointComplete, busy, Bool.false_eq_true, if_false]
  exact congrArg finish (checkpointNext_none (by rw [error_pers]; exact alone))

theorem checkpointComplete_stands : answers (.checkpointComplete true) s fun t =>
    t.pers.ckptBusy = none ∧ t.media.ckpts = (c :: s.media.ckpts).take 16 :=
  answers_of_finish (exec_checkpointComplete_stands busy alone) ⟨by rw [settle_pers], by rw [settle_media]⟩

theorem checkpointComplete_fails (empty : (s.hdr .sysc).evalid = false) : answers (.checkpointComplete false) s fun t =>
    t.pers.ckptBusy = none ∧ t.media.ckpts = s.media.ckpts ∧ captured t .sysc 0x49 0 ∧ hasCause t .sysc 11 :=
  answers_of_finish (exec_checkpointComplete_fails busy alone) ⟨by rw [settle_pers, error_pers], by rw [settle_media, error_media],
    captured_errorCause (s := { s with pers.ckptBusy := none }) (by decide) (silent_of_fixed _ rfl) empty (by decide) (by decide)⟩

end

end Sys2Proof.Machine
end

section
namespace Sys2Proof.Machine

/-- Settles O37: each clause is the lemma of its case. The accounting of the bands that follows a poisoned entry leaves the maps and the
headers alone (`sameMaps_poisonUnit`), and the time that passes before a checkpoint leaves the mode and the checkpoint's own state. -/
theorem mapAndCheckpoints : Obligations.MapAndCheckpoints := by
  unfold Obligations.MapAndCheckpoints
  refine ⟨?lines, ?size, ?due, ?ends⟩
  case lines => exact fun s coarse line mode empty _ => ⟨mapLineRebuilt_full mode empty, fun u => mapLineRebuilt_lost mode empty⟩
  case size => exact fun s v up => ⟨hdrcfgWrite_accepts up, hdrcfgWrite_refuses up⟩
  case due =>
    rintro s _ quiet mode rfl
    exact ⟨checkpointDue_answers_cut quiet mode, checkpointDue_answers_wait quiet⟩
  case ends => exact fun s c busy alone => ⟨checkpointComplete_stands busy alone, checkpointComplete_fails busy alone⟩

end Sys2Proof.Machine
end

section
/-!
SUPPORT. Fields of a word whose other bits change, and the bits of a set kept as a number.
-/
namespace Sys2Proof.Machine

variable {v w : Word} {lo len n : Nat}

/-- A field is read from the bits below its end alone. -/
theorem fld_eq_of_mod (same : v.toNat % 2 ^ n = w.toNat % 2 ^ n) (below : lo + len ≤ n) : fld v lo len = fld w lo len := by
  have low (x : Word) : fld x lo len = x.toNat % 2 ^ n / 2 ^ lo % 2 ^ len := by
    refine Nat.eq_of_testBit_eq fun i => ?_
    by_cases inside : i < len
    · simp [fld, Nat.testBit_mod_two_pow, Nat.testBit_div_two_pow, inside, show i + lo < n by omega]
    · simp [fld, Nat.testBit_mod_two_pow, inside]
  rw [low v, low w, same]

/-- A field within a mask of low bits is kept (R108). -/
theorem fld_keep (within : lo + len ≤ n) (word : n ≤ 40) : fld (keep v (2 ^ n - 1)) lo len = fld v lo len := by
  have mask : 2 ^ n - 1 < 2 ^ 40 := Nat.lt_of_lt_of_le (Nat.sub_lt (Nat.two_pow_pos n) Nat.one_pos) (Nat.pow_le_pow_right (by decide) word)
  refine fld_eq_of_mod (n := n) ?_ within
  rw [keep, BitVec.toNat_and, BitVec.toNat_ofNat, Nat.mod_eq_of_lt mask, Nat.and_two_pow_sub_one_eq_mod, Nat.mod_mod]

/-- A field below the one that is set stays. -/
theorem fld_setFld_below (size x : Nat) (below : lo + len ≤ n) (word : n ≤ 40) : fld (setFld v n size x) lo len = fld v lo len := by
  have bits : 2 ^ n * fld v n size ≤ v.toNat :=
    Nat.le_trans (Nat.mul_le_mul_left _ (Nat.mod_le ..)) (Nat.mul_div_le ..)
  refine fld_eq_of_mod (n := n) ?_ below
  rw [setFld, BitVec.toNat_ofNat, Nat.mod_mod_of_dvd _ (Nat.pow_dvd_pow 2 word), Nat.add_mul_mod_self_right, Nat.mul_comm,
    Nat.sub_mul_mod bits]

theorem clrBits_div_two (a b : Nat) : clrBits a b / 2 = clrBits (a / 2) (b / 2) := by
  have part : a &&& b ≤ a := Nat.and_le_left
  have low : (a &&& b) % 2 ≤ a % 2 := by
    have both := Nat.and_mod_two_eq_one (a := a) (b := b)
    omega
  unfold clrBits
  rw [← Nat.and_div_two]
  omega

theorem testBit_clrBits (a b i : Nat) : (clrBits a b).testBit i = (a.testBit i && !b.testBit i) := by
  induction i generalizing a b with
  | zero =>
    have part : a &&& b ≤ a := Nat.and_le_left
    have both := Nat.and_mod_two_eq_one (a := a) (b := b)
    rw [Nat.testBit_zero, Nat.testBit_zero, Nat.testBit_zero, clrBits, Bool.eq_iff_iff]
    simp only [decide_eq_true_eq, Bool.and_eq_true, Bool.not_eq_true', decide_eq_false_iff_not]
    omega
  | succ i ih => rw [Nat.testBit_succ, clrBits_div_two, ih, ← Nat.testBit_succ, ← Nat.testBit_succ]

end Sys2Proof.Machine
end

section
/-!
SUPPORT. The limit in force and the hold-up bank: a write of its settings, and a measurement that begins or is deferred
(10_persistence.md R416, R420, R422, R450; 15_power_supervision.md R672).
-/
namespace Sys2Proof.Machine

variable {s : State} {v : Word}

/-! ### The limit applied anew leaves the settings alone (R416, R420) -/

/-- What a step that is taken or not leaves alone when it is taken stays. -/
theorem ite_same {α : Type} (f : State → α) {c : Prop} [Decidable c] {s t : State} (same : f t = f s) : f (if c then t else s) = f s := by
  split
  · exact same
  · rfl

/-- Of the persistence state the limit applied anew changes the limit and what follows from it. -/
theorem applyLimit_pers (s : State) : s.applyLimit.pers = { s.pers with
    limit := s.computeLimit.1, limitSrc := s.computeLimit.2
    draining := decide (s.computeLimit.1 * 2 ^ 20 < 64 * s.dirtyLines.length) } :=
  (ite_same State.pers (cause_pers ..)).trans (ite_same State.pers rfl)

theorem applyLimit_holdupcfg (s : State) : s.applyLimit.pers.holdupcfg = s.pers.holdupcfg := by rw [applyLimit_pers]
theorem applyLimit_dirtycfg (s : State) : s.applyLimit.pers.dirtycfg = s.pers.dirtycfg := by rw [applyLimit_pers]

theorem capStart_holdupcfg (s : State) : s.capStart.pers.holdupcfg = s.pers.holdupcfg := by
  simp only [State.capStart]
  split
  · rfl
  · split
    · exact applyLimit_holdupcfg _
    · split <;> rfl

theorem bankCheck_holdupcfg (s : State) (code : Nat) : (s.bankCheck code).pers.holdupcfg = s.pers.holdupcfg :=
  (ite_same (·.pers.holdupcfg) (capStart_holdupcfg _)).trans
    ((ite_same (·.pers.holdupcfg) (applyLimit_holdupcfg _)).trans (ite_same (·.pers.holdupcfg) (congrArg _ (cause_pers ..))))

/-! ### Writes of the settings (R416, R450) -/

/-- What HOLDUPCFG holds of a value written: PQ 0 is held as 1 (log 35). -/
def heldHoldup (v : Word) : Word := oneAtLeast (keep v 0x7FFFFFFFF) 26 9

theorem fld_heldHoldup {lo len : Nat} (voltage : lo + len ≤ 26) : fld (heldHoldup v) lo len = fld v lo len :=
  (fld_setFld_below 9 _ voltage (by decide)).trans (fld_keep (n := 35) (by omega) (by decide))

theorem heldHoldup_of_load (load : fld v 26 9 ≠ 0) : heldHoldup v = keep v 0x7FFFFFFFF := by
  have kept : fld (keep v 0x7FFFFFFFF) 26 9 = fld v 26 9 := fld_keep (n := 35) (by decide) (by decide)
  rw [heldHoldup, oneAtLeast_eq, if_neg (kept ▸ load)]

/-- The bank's settings replaced, and a bank that has been sampled compared with the new v_hi. -/
def State.putHoldup (s : State) (w : Word) : State :=
  let s := { s with pers.holdupcfg := w }
  if s.pseq.cap.bankSampled then s.bankCheck (s.pseq.input 1).code else s

theorem putHoldup_holdupcfg (s : State) (w : Word) : (s.putHoldup w).pers.holdupcfg = w :=
  ite_same (·.pers.holdupcfg) (bankCheck_holdupcfg ..)

section
variable (up : s.syscUp)
include up

theorem exec_holdupcfgWrite_up : exec (.holdupcfgWrite v) s =
    finish (if fld v 0 13 ≤ fld v 13 13 then s.error .sysc 0x48 0 else ((s.putHoldup (heldHoldup v)).applyLimit).hostRecord 3) := by
  obtain ⟨served, awake⟩ := up
  have held : (if fld (keep v 0x7FFFFFFFF) 26 9 = 0 then setFld (keep v 0x7FFFFFFFF) 26 9 1 else keep v 0x7FFFFFFFF) = heldHoldup v :=
    (oneAtLeast_eq ..).symm
  have target : fld (heldHoldup v) 0 13 = fld v 0 13 := fld_heldHoldup (by decide)
  have floor : fld (heldHoldup v) 13 13 = fld v 13 13 := fld_heldHoldup (by decide)
  refine congrArg finish ((reg_awake awake ..).trans ?_)
  simp only [State.regHoldupcfgWrite, held, target, floor, served, Bool.not_true, Bool.false_eq_true, if_false, State.putHoldup]

theorem exec_dirtycfgWrite_up : exec (.dirtycfgWrite v) s =
    finish ((State.applyLimit { s with pers.dirtycfg := BitVec.ofNat 40 (clampN 1 512 (fld v 0 10)) }).hostRecord 3) := by
  obtain ⟨served, awake⟩ := up
  refine congrArg finish ((reg_awake awake ..).trans (if_neg ?_))
  simp [served]

theorem holdupcfgWrite_refuses (floor : fld v 0 13 ≤ fld v 13 13) (empty : (s.hdr .sysc).evalid = false) :
    answers (.holdupcfgWrite v) s fun t => captured t .sysc 0x48 0 ∧ t.pers = s.pers := by
  refine answers_of_finish ((exec_holdupcfgWrite_up up).trans (congrArg finish (if_pos floor))) ⟨?_, by rw [settle_pers, error_pers]⟩
  exact captured_settle (by decide) (captured_error (silent_of_fixed s rfl) empty (by decide) (by decide))

theorem holdupcfgWrite_accepts (above : fld v 13 13 < fld v 0 13) (load : fld v 26 9 ≠ 0) :
    answers (.holdupcfgWrite v) s fun t => t.pers.holdupcfg = keep v 0x7FFFFFFFF := by
  refine answers_of_finish ((exec_holdupcfgWrite_up up).trans (congrArg finish (if_neg (Nat.not_le.2 above)))) ?_
  rw [settle_pers, hostRecord_pers, applyLimit_holdupcfg, putHoldup_holdupcfg, heldHoldup_of_load load]

theorem dirtycfgWrite_holds :
    answers (.dirtycfgWrite v) s fun t => t.pers.dirtycfg = BitVec.ofNat 40 (clampN 1 512 (fld v 0 10)) :=
  answers_of_finish (exec_dirtycfgWrite_up up) (by rw [settle_pers, hostRecord_pers, applyLimit_dirtycfg])

end

/-! ### A measurement begins or is deferred (R422, R672) -/

/-- The enables with the test load on and the charger off, as CAPCFG names them (R672 M2). -/
def loadOn (w : Word) (enables : Nat) : Nat :=
  let e := enables ||| 2 ^ fld w 0 4
  if fld w 4 5 < 16 then clrBits e (2 ^ fld w 4 5) else e

/-- The load's enable is on, unless the charger's enable is the same one. -/
theorem testBit_loadOn (w : Word) (e : Nat) : (loadOn w e).testBit (fld w 0 4) = decide (fld w 4 5 ≠ fld w 0 4) := by
  have load : fld w 0 4 < 16 := Nat.mod_lt _ (by decide)
  have on : (e ||| 2 ^ fld w 0 4).testBit (fld w 0 4) = true := by rw [Nat.testBit_or, Nat.testBit_two_pow_self, Bool.or_true]
  unfold loadOn
  split
  · rw [testBit_clrBits, on, Nat.testBit_two_pow, Bool.true_and, decide_not]
  · rw [on, decide_eq_true (by omega)]

/-- The bank has reached v_hi + TESTDV, where TESTDV 0 is treated as 1 (R672 M1). -/
abbrev State.bankCharged (s : State) : Prop := s.bankAt (s.pseq.input 1).code (max 1 (fld s.pseq.capcfg 29 8) * 10) = true

section
variable (free : s.pseq.cap.running = false) (current : fld s.pseq.capcfg 9 13 ≠ 0)
include free current

theorem capStart_charged (charged : s.bankCharged) : s.capStart = { s with
    pseq.seq.enables := loadOn s.pseq.capcfg s.pseq.seq.enables, pseq.cap.running := true, pseq.cap.count := 0
    pseq.cap.first := [], pseq.cap.last := [], pseq.cap.due := none } := by
  simp only [State.capStart, free, current, show s.bankAt _ _ = true from charged, Bool.false_eq_true, Bool.not_true, if_false, loadOn]

theorem capStart_uncharged (low : ¬ s.bankCharged) : s.capStart = { s with
    pseq.cap.due := some (s.now + 10 * 10 ^ 9), pseq.cap.outcome := 2 } := by
  simp only [State.capStart, free, current, Bool.eq_false_iff.2 low, Bool.false_eq_true, Bool.not_false, if_false, if_true]

theorem holdupMeasureRequest_begins (up : s.syscUp) (charged : s.bankCharged) :
    answers .holdupMeasureRequest s fun t => t.pseq.cap.running = true ∧ t.pseq.cap.requested = true ∧ t.pseq.cap.count = 0 ∧
      t.pseq.seq.enables.testBit (fld s.pseq.capcfg 0 4) = decide (fld s.pseq.capcfg 4 5 ≠ fld s.pseq.capcfg 0 4) := by
  obtain ⟨served, awake⟩ := up
  have e : s.regHoldupMeasureRequest = State.capStart { s with pseq.cap.requested := true } := if_neg (by simp [served])
  rw [capStart_charged (s := { s with pseq.cap.requested := true }) free current charged] at e
  refine answers_of_finish (congrArg finish ((reg_awake awake ..).trans e)) ?_
  rw [settle_pseq]
  exact ⟨rfl, rfl, rfl, testBit_loadOn ..⟩

theorem holdupMeasureDue_begins_or_defers (due : s.pseq.cap.due.isSome = true) (notDormant : s.sysc.mode ≠ .dormant)
    (notQuench : s.sysc.mode ≠ .quench) : answers .holdupMeasureDue s fun t =>
      if s.bankCharged then t.pseq.cap.running = true ∧ t.pseq.cap.due = none
      else t.pseq.cap.outcome = 2 ∧ t.pseq.cap.due = some (s.now + 10 * 10 ^ 9) := by
  have e : exec .holdupMeasureDue s = finish s.capStart := congrArg finish (if_pos (by simp [due, notDormant, notQuench]))
  refine answers_of_finish e ?_
  rw [settle_pseq]
  split
  · next charged => rw [capStart_charged free current charged]; exact ⟨rfl, rfl⟩
  · next low => rw [capStart_uncharged free current low]; exact ⟨rfl, rfl⟩

end

end Sys2Proof.Machine
end

section
namespace Sys2Proof.Machine

/-- Settles O9: a write of the settings is refused or accepted by the two voltages alone (`exec_holdupcfgWrite_up`), what it held stays through
the limit and the comparison of the bank that follow (`applyLimit_pers`, `bankCheck_holdupcfg`), and a measurement is one change of the
supervisor, which the bank's charge decides (`capStart_charged`, `capStart_uncharged`). -/
theorem holdupSettings : Obligations.HoldupSettings := by
  unfold Obligations.HoldupSettings
  refine ⟨?refused, ?accepted, ?budget, ?request, ?due⟩
  case refused => exact fun s v up floor empty => holdupcfgWrite_refuses up floor empty
  case accepted => exact fun s v up above load => holdupcfgWrite_accepts up above load
  case budget => exact fun s v up => dirtycfgWrite_holds up
  case request => exact fun s up free current charged => holdupMeasureRequest_begins free current up charged
  case due => exact fun s due notDormant notQuench free current =>
    holdupMeasureDue_begins_or_defers free current due notDormant notQuench

end Sys2Proof.Machine
end

section
/-!
SUPPORT. What the stream port and the causes keep through the work of the other units: records that end, triggers that spread and replay
segments that leave change of the port at most the control sequence and the answer owed to a TOD frame (11_ingest_port.md R469, R481), and
clear no cause (03_registers_and_hallmark.md R114).
-/
namespace Sys2Proof.Machine

variable {s₀ s t : State} {b c : Block} {n bit : Nat} {α : Type}

/-! ### Causes that stay set (R114) -/

theorem hasCause_of_hall (same : t.hall = s.hall) (h : hasCause s c bit) : hasCause t c bit := by
  unfold hasCause
  rwa [hdr_of_hall same]

/-- A cause set in a block other than EVTR stays to the end of the command. -/
theorem hasCause_settle (other : b.page ≠ 5) (h : hasCause s b bit) : hasCause s.settle b bit := by
  unfold hasCause
  rwa [settle_hdr s other]

/-- A change of one header that clears none of its causes clears none at all. -/
theorem hasCause_of_header (others : ∀ d : Block, d.page ≠ b.page → t.hdr d = s.hdr d)
    (keeps : (s.hdr b).istat.testBit bit = true → (t.hdr b).istat.testBit bit = true) (h : hasCause s c bit) : hasCause t c bit := by
  unfold hasCause at *
  by_cases page : c.page = b.page
  · rw [hdr_of_page page] at h ⊢
    exact keeps h
  · rwa [others c page]

theorem hasCause_setCause_keeps (bits : Nat) (h : hasCause s c bit) : hasCause (s.setCause b bits) c bit := by
  refine hasCause_of_header (fun d => setCause_hdr_other s bits) (fun set => ?_) h
  rw [setCause_hdr_same]
  split
  · exact set
  · rw [Nat.testBit_or, set, Bool.true_or]

theorem hasCause_captureAs_keeps (code addr : Nat) (quiet : Bool) (h : hasCause s c bit) : hasCause (s.captureAs b code addr quiet) c bit := by
  refine hasCause_of_header (fun d => captureAs_hdr_other s code addr quiet) (fun set => ?_) h
  rw [captureAs_hdr_same]
  split
  · exact set
  · rw [Nat.testBit_or, set, Bool.true_or]

theorem hasCause_cause_keeps (i sev : Nat) (h : hasCause s c bit) : hasCause (s.cause b i sev) c bit := by
  unfold State.cause
  split
  · exact h
  · exact hasCause_of_hall (causeRecord_hall ..) (hasCause_setCause_keeps _ h)

theorem hasCause_error_keeps (code addr bits sev : Nat) (h : hasCause s c bit) : hasCause (s.error b code addr bits sev) c bit := by
  refine hasCause_of_hall (errorRecord_hall ..) (hasCause_captureAs_keeps _ _ _ ?_)
  split
  · exact h
  · exact hasCause_setCause_keeps _ h

/-- A cause of a unit in service is set (R114). -/
theorem hasCause_cause_sets (serving : s.silent b = false) (i sev : Nat) : hasCause (s.cause b i sev) b i := by
  simp [hasCause, serving]

/-- The cause of the same occurrence as an error is set, whether or not ERRSTAT held an error before (R118). -/
theorem hasCause_error_sets (serving : s.silent b = false) (code addr i sev : Nat) : hasCause (s.error b code addr (2 ^ i) sev) b i := by
  unfold hasCause
  rw [error_hdr_same s code addr (2 ^ i) sev serving]
  split <;> simp

/-! ### What stays of the port -/

/-- `t` holds of the stream port what `s` holds, but the control sequence and the answer owed to a TOD frame, and every cause that `s` has
set. -/
structure Port (s t : State) : Prop where
  link : t.ilkn = s.ilkn
  protocol : { t.kspe with sentSeq := 0, todWait := none } = { s.kspe with sentSeq := 0, todWait := none }
  causes : ∀ {b bit}, hasCause s b bit → hasCause t b bit

theorem Port.refl (s : State) : Port s s := ⟨rfl, rfl, id⟩

/-- Reporting that clears no cause. -/
theorem Port.rep (h : Port s₀ s) (g : Rep s t) (keeps : ∀ {b bit}, hasCause s b bit → hasCause t b bit) : Port s₀ t :=
  ⟨g.ilkn.trans h.link, by rw [g.kspe, h.protocol], fun set => keeps (h.causes set)⟩

/-- What the strands, the caches, the replay slots and the time hold may change. -/
theorem Port.update {cxlp ncch tier ingp strd rple coht out} (h : Port s₀ s) :
    Port s₀ { s with cxlp, ncch, tier, ingp, strd, rple, coht, out } := ⟨h.link, h.protocol, fun set => h.causes set⟩

theorem Port.ite {p : Prop} {_ : Decidable p} (h : Port s₀ s) (g : Port s₀ t) : Port s₀ (if p then s else t) := by split <;> assumption
theorem Port.when {p : Prop} {_ : Decidable p} (h : Port s₀ s) (f : Port s₀ s → Port s₀ t) : Port s₀ (if p then t else s) := .ite (f h) h

/-- A proof used at several places of the proof that follows it. -/
theorem Port.next (h : Port s₀ s) (f : Port s₀ s → Port s₀ t) : Port s₀ t := f h

theorem Port.fst {p : State × α} {a : α} (h : Port s₀ p.1) (e : p = (t, a)) : Port s₀ t := by rwa [e] at h

theorem Port.foldl {f : State → α → State} {l : List α} (h : Port s₀ s) (hf : ∀ {u a}, Port s₀ u → Port s₀ (f u a)) :
    Port s₀ (l.foldl f s) := by
  induction l generalizing s with
  | nil => exact h
  | cons a l ih => exact ih (hf h)

theorem Port.cause {i sev} (h : Port s₀ s) : Port s₀ (s.cause b i sev) := h.rep (rep_cause ..) (hasCause_cause_keeps _ _)
theorem Port.error {code addr bits sev} (h : Port s₀ s) : Port s₀ (s.error b code addr bits sev) :=
  h.rep (rep_error ..) (hasCause_error_keeps _ _ _ _)
theorem Port.retirement {sev} (h : Port s₀ s) : Port s₀ (s.retirement b sev) :=
  h.rep (rep_raise ..) (hasCause_of_hall (raise_hall ..))
theorem Port.send {o} (h : Port s₀ s) : Port s₀ (s.send o) := h.update
theorem Port.sendControl {o} (h : Port s₀ s) : Port s₀ (s.sendControl o) :=
  .ite ⟨h.link, h.protocol, fun set => h.causes set⟩ h

/-! ### Sets of the time (20_cohort_and_time.md R789, R793) -/

theorem Port.refuseRegister (h : Port s₀ s) : Port s₀ s.refuseRegister := h.update.error

theorem Port.todAnswer {result} (h : Port s₀ s) : Port s₀ (s.todAnswer result) := by
  unfold State.todAnswer
  split
  · exact Port.sendControl ⟨h.link, h.protocol, fun set => h.causes set⟩
  · exact h

theorem Port.replacePending {register} (h : Port s₀ s) : Port s₀ (s.replacePending register) := by
  unfold State.replacePending
  split
  · exact h
  · dsimp only
    split
    · exact .ite h.update h.update.refuseRegister
    · exact h.update.todAnswer

theorem Port.loadTime {time} (h : Port s₀ s) : Port s₀ (s.loadTime time) := h.update.cause

/-! ### Records that end (12_capture.md R497, R502, R521) -/

theorem Port.modStrand {f} (h : Port s₀ s) : Port s₀ (s.modStrand n f) := h.update
theorem Port.modPipe {f} (h : Port s₀ s) : Port s₀ (s.modPipe n f) := h.update
theorem Port.bisnp {line commit evict} (h : Port s₀ s) : Port s₀ (s.bisnp line commit evict) := .ite h.update h.update
theorem Port.snoop {k} (h : Port s₀ s) : Port s₀ (s.snoop k) := h.update.foldl (fun h => h.bisnp)
theorem Port.pushCommit {k} (h : Port s₀ s) : Port s₀ (s.pushCommit k) := h.update.snoop
theorem Port.enterDone (h : Port s₀ s) : Port s₀ (s.enterDone n) := h.modStrand.cause
theorem Port.invalidate {hit} (h : Port s₀ s) : Port s₀ (s.invalidate hit) := h.update

theorem Port.performCommit {k} (h : Port s₀ s) : Port s₀ (s.performCommit k) :=
  .ite h.update (h.update.invalidate.modStrand.next fun h => (Port.ite h.modPipe h).next fun h => (Port.ite h.update h).when fun h =>
    h.enterDone)

theorem Port.commitReady {fuel} (h : Port s₀ s) : Port s₀ (s.commitReady n fuel) := by
  induction fuel generalizing s with
  | zero => exact h
  | succ fuel ih =>
    unfold State.commitReady
    split
    · exact h
    · exact .ite h.snoop (ih h.snoop.performCommit)

theorem Port.closeRecord {e} (h : Port s₀ s) : Port s₀ (s.closeRecord n e) :=
  .ite h (.ite h.modStrand (h.modPipe.modStrand.next fun h => (Port.ite h.modPipe h).pushCommit.commitReady))

theorem Port.judge (h : Port s₀ s) : Port s₀ (s.judge n) :=
  .ite h.modStrand (h.modStrand.modPipe.next fun h => .ite h.modPipe.modStrand.modStrand h.closeRecord.modStrand)

theorem Port.endRecord {e} (h : Port s₀ s) : Port s₀ (s.endRecord n e) :=
  (Port.ite h.judge.modStrand h).closeRecord.when fun h => h.closeRecord

theorem Port.gap {seq} (h : Port s₀ s) : Port s₀ (s.gap n seq) := h.endRecord.modStrand
theorem Port.stopStrand (h : Port s₀ s) : Port s₀ (s.stopStrand n) := h.endRecord.modStrand.update

/-! ### Triggers (12_capture.md R530 to R536) -/

theorem Port.trigOut {ts} (h : Port s₀ s) : Port s₀ (s.trigOut ts) := .ite h.update (.ite h.update h.update)

theorem Port.acceptTrigger {src ts inRecord} (h : Port s₀ s) : Port s₀ (s.acceptTrigger n src ts inRecord) :=
  h.modStrand.update.next fun h => (Port.ite h.cause.cause h.cause).next fun h => (Port.ite h.trigOut h).when fun h => h.sendControl

theorem Port.offer {src ts inRecord} (h : Port s₀ s) : Port s₀ (s.offer n src ts inRecord).1 := by
  unfold State.offer
  dsimp only
  split
  · exact h
  · split
    · exact h.acceptTrigger
    · exact h.update

theorem Port.spread {ts l fuel} (h : Port s₀ s) : Port s₀ (s.spread ts l fuel) := by
  induction fuel generalizing s l with
  | zero => unfold State.spread; exact h
  | succ fuel ih =>
    cases l with
    | nil => exact h
    | cons n l =>
      rw [State.spread]
      split
      · next e => exact ih (h.offer.fst e)
      · next e => exact ih (h.offer.fst e)

theorem Port.trigger {ns src ts inRecord} (h : Port s₀ s) : Port s₀ (s.trigger ns src ts inRecord) := by
  unfold State.trigger
  refine .foldl h (fun h => ?_)
  split
  · next e => exact (h.offer.fst e).spread
  · next e => exact h.offer.fst e

/-! ### Replay segments that leave (13_replay_and_query.md R550, R557, R563) -/

theorem Port.modReplay {k f} (h : Port s₀ s) : Port s₀ (s.modReplay k f) := h.update
theorem Port.sendSegment {k strand body first last trig} (h : Port s₀ s) : Port s₀ (s.sendSegment k strand body first last trig) :=
  h.modReplay.send

theorem Port.frameSegment {k} (h : Port s₀ s) : Port s₀ (s.frameSegment k) := by
  unfold State.frameSegment
  dsimp only
  split
  · exact h
  · exact h.sendSegment.modReplay.update

theorem Port.advanceSlot {k} (h : Port s₀ s) : Port s₀ (s.advanceSlot k) := h.modReplay.modReplay.when fun h => h.modReplay.cause

theorem Port.depart {k r due late} (h : Port s₀ s) : Port s₀ (s.depart k r due late) := by
  unfold State.depart
  exact (Port.ite h.sendSegment h).modReplay.frameSegment.advanceSlot

theorem Port.framerNext {last} (h : Port s₀ s) : Port s₀ (s.framerNext last) := by
  unfold State.framerNext
  refine .ite h ?_
  dsimp only
  split
  · exact h.frameSegment
  · split
    · exact h
    · split
      · exact h
      · exact h.depart

end Sys2Proof.Machine
end

section
/-!
SUPPORT. The frames that the controller sends, and the link's own events: each step of link-up, the loss of alignment, the timer of the VERSION
frames and a calendar word (11_ingest_port.md R454 to R457, R460, R467, R476, R478).
-/
namespace Sys2Proof.Machine

variable {s t : State} {o : Out}

/-! ### Frames sent on channel 0 (R469) -/

@[simp] theorem sendControl_ilkn (s : State) (o : Out) : (s.sendControl o).ilkn = s.ilkn := by unfold State.sendControl; split <;> rfl
@[simp] theorem sendControl_coht (s : State) (o : Out) : (s.sendControl o).coht = s.coht := by unfold State.sendControl; split <;> rfl
@[simp] theorem sendControl_strd (s : State) (o : Out) : (s.sendControl o).strd = s.strd := by unfold State.sendControl; split <;> rfl

/-- A frame goes out while the link is up. -/
theorem mem_out_sendControl (up : s.ilkn.up = true) (o : Out) : o ∈ (s.sendControl o).out := by
  rw [State.sendControl, if_pos up]
  exact List.mem_cons_self ..

theorem mem_out_sendControl_settle (up : s.ilkn.up = true) (o : Out) : o ∈ (s.sendControl o).settle.out :=
  (sent_settle _).kept o (mem_out_sendControl up o)

theorem sendControl_kspe (up : s.ilkn.up = true) : (s.sendControl o).kspe = { s.kspe with sentSeq := wrapInc 16 s.kspe.sentSeq } := by
  rw [State.sendControl, if_pos up]
  rfl

/-! ### The steps of link-up (R454 to R457) -/

section
variable {rx peer : Nat} (mode : s.sysc.mode.links = true) (on : s.on .ilkn) (down : s.ilkn.up = false)
  (ready : s.ilkn.waitRestart = false)
include mode on down ready

theorem exec_ilknLinkupStep_rate (step : s.ilkn.step = 0) : exec (.ilknLinkupStep rx peer) s =
    finish { s with ilkn := { s.ilkn with step := 1, rate := min 4 (fld s.ilkn.lanecfg 0 3) } } := by
  simp [exec, execIlknLinkupStep, mode, on, down, ready, step]

theorem exec_ilknLinkupStep_lanes (step : s.ilkn.step = 1) : exec (.ilknLinkupStep rx peer) s =
    finish { s with ilkn := { s.ilkn with step := 2, rxok := rx % 2 ^ s.fuse.part.lanes, peerok := peer % 2 ^ s.fuse.part.lanes } } := by
  simp [exec, execIlknLinkupStep, mode, on, down, ready, step]

theorem exec_ilknLinkupStep_bundle {k w : Nat} (step : s.ilkn.step = 2)
    (group : laneGroup s.fuse.part.lanes (rx % 2 ^ s.fuse.part.lanes &&& peer % 2 ^ s.fuse.part.lanes) = some (k, w)) :
    exec (.ilknLinkupStep rx peer) s = finish { s with ilkn := { s.ilkn with
      step := 3, group := k, width := w, rxok := rx % 2 ^ s.fuse.part.lanes, peerok := peer % 2 ^ s.fuse.part.lanes } } := by
  simp [exec, execIlknLinkupStep, mode, on, down, ready, step, group]

theorem exec_ilknLinkupStep_up (step : s.ilkn.step = 3) : exec (.ilknLinkupStep rx peer) s = finish s.linkIsUp := by
  simp [exec, execIlknLinkupStep, mode, on, down, ready, step]

end

/-- The link is up with the bundle formed, and negotiation begins (R456, R476). -/
def State.linkFormed (s : State) : State := { s with
  ilkn := { s.ilkn with up := true, step := 4, kept := s.ilkn.width }
  kspe := { s.kspe with vstate := 1, agreed := 0, vmin := fld s.kspe.version 0 8, vmax := fld s.kspe.version 8 8 } }

/-- The link comes up with its cause and its reports, and then the first VERSION frame goes out. -/
theorem linkIsUp_sends (s : State) : ∃ t, Rep s.linkFormed t ∧ hasCause t .ilkn 1 ∧ s.linkIsUp = t.sendVersion t.kspe.vmin t.kspe.vmax := by
  refine ⟨_, ?reports, ?cause, rfl⟩
  case reports =>
    exact Rep.after (Rep.ite _ (fun _ => rep_error ..) fun _ => .refl _) (Rep.after (Rep.ite _ (fun _ => rep_raise ..) fun _ => .refl _)
      (Rep.after (rep_cause ..) (rep_hallSync s.linkFormed)))
  case cause =>
    have up := Port.refl (s.linkFormed.hallSync.cause .ilkn 1)
    exact (up.next fun h => (Port.ite h.retirement h).next fun h => Port.ite h.error h).causes
      (hasCause_cause_sets (silent_of_fixed _ rfl) ..)

theorem linkIsUp_answers {c : Instr} (e : exec c s = finish s.linkIsUp) :
    answers c s fun t => t.ilkn.up = true ∧ t.ilkn.step = 4 ∧ t.kspe.vstate = 1 ∧ t.kspe.agreed = 0 ∧
      t.kspe.vmin = fld s.kspe.version 0 8 ∧ t.kspe.vmax = fld s.kspe.version 8 8 ∧ hasCause t .ilkn 1 ∧
      Out.versionFrame t.kspe.vmin t.kspe.vmax (fld s.coht.member 0 16) (wbit s.coht.member 16) ∈ t.out := by
  obtain ⟨t, rep, cause, sends⟩ := linkIsUp_sends s
  have ilkn : t.ilkn = s.linkFormed.ilkn := rep.ilkn
  have kspe : t.kspe = s.linkFormed.kspe := rep.kspe
  have up : t.ilkn.up = true := congrArg (·.up) ilkn
  refine answers_of_finish (e.trans (congrArg finish sends)) ?_
  rw [settle_ilkn, settle_kspe, State.sendVersion, rep.coht, sendControl_ilkn, sendControl_kspe up]
  exact ⟨up, congrArg (·.step) ilkn, congrArg (·.vstate) kspe, congrArg (·.agreed) kspe, congrArg (·.vmin) kspe, congrArg (·.vmax) kspe,
    hasCause_settle (by decide) ((Port.refl t).sendControl.causes cause), mem_out_sendControl_settle up _⟩

/-! ### The loss of alignment (R460) -/

/-- The link goes down with a lane that is no longer received well. -/
def State.laneLost (s : State) (lane : Nat) : State := { s.linkIsDown with ilkn.rxok := clrBits s.ilkn.rxok (2 ^ lane) }

theorem laneLost_ilkn (s : State) (lane : Nat) : (s.laneLost lane).ilkn =
    { s.ilkn with up := false, step := 0, group := 0, width := 0, rxok := clrBits s.ilkn.rxok (2 ^ lane) } :=
  congrArg (fun l : Ilkn => { l with rxok := clrBits s.ilkn.rxok (2 ^ lane) }) (hallSync_ilkn _)

theorem laneLost_kspe (s : State) (lane : Nat) : (s.laneLost lane).kspe = { s.kspe with vstate := 0, agreed := 0 } := hallSync_kspe _

theorem laneLost_hdr (s : State) (lane : Nat) (b : Block) : (s.laneLost lane).hdr b = s.hdr b := by
  unfold State.laneLost State.linkIsDown State.hallSync
  dsimp only
  split <;> rfl

section
variable {lane : Nat} (up : s.ilkn.up = true) (above : s.ilkn.group * s.ilkn.width ≤ lane)
  (below : lane < s.ilkn.group * s.ilkn.width + s.ilkn.width)
include up above below

theorem exec_ilknAlignmentLoss_up : exec (.ilknAlignmentLoss lane) s = finish ((s.laneLost lane).error .ilkn 0x41 lane (2 ^ 2)) :=
  congrArg finish (if_neg (by simp [up, above, below]))

theorem alignmentLoss_answers (fits : lane < 2 ^ 28) (empty : (s.hdr .ilkn).evalid = false) :
    answers (.ilknAlignmentLoss lane) s fun t => t.ilkn.up = false ∧ t.ilkn.step = 0 ∧ t.ilkn.width = 0 ∧ t.kspe.agreed = 0 ∧
      t.kspe.vstate = 0 ∧ t.ilkn.rxok = clrBits s.ilkn.rxok (2 ^ lane) ∧ hasCause t .ilkn 2 ∧ captured t .ilkn 0x41 lane := by
  obtain ⟨code, cause⟩ := captured_errorCause (s := s.laneLost lane) (b := .ilkn) (code := 0x41) (bit := 2) (sev := 4) (by decide)
    (silent_of_fixed _ rfl) (by rw [laneLost_hdr, empty]) (by decide) fits
  refine answers_of_finish (exec_ilknAlignmentLoss_up up above below) ?_
  rw [settle_ilkn, settle_kspe, error_ilkn, error_kspe, laneLost_ilkn, laneLost_kspe]
  exact ⟨rfl, rfl, rfl, rfl, rfl, rfl, cause, code⟩

end

/-! ### VERSION frames while no version is agreed (R476, R478) -/

theorem exec_versionFrameTimer_due (up : s.ilkn.up = true) (unagreed : s.kspe.vstate = 1 ∨ s.kspe.vstate = 3) :
    exec .versionFrameTimer s = finish (s.sendVersion s.kspe.vmin s.kspe.vmax) :=
  congrArg finish (if_pos (by simpa [up] using unagreed))

/-! ### Calendar words (R467) -/

/-- The channels in XOFF once the first `n` bits of a calendar word from channel `first` on are taken. -/
def calendar (first bits : Nat) (l : List Nat) (n : Nat) : List Nat :=
  (List.range n).foldl (fun l i => if bits.testBit i then without l ((first + i) % 256) else withNew l ((first + i) % 256)) l

theorem mem_without {l : List Nat} {a c : Nat} : c ∈ without l a ↔ c ∈ l ∧ c ≠ a := by simp [without]

theorem mem_withNew_iff {l : List Nat} {a c : Nat} : c ∈ withNew l a ↔ c ∈ l ∨ c = a := by
  unfold withNew
  split
  · next listed => exact ⟨.inl, fun h => h.elim id fun same => same ▸ listed⟩
  · rw [List.mem_append, List.mem_singleton]

theorem calendar_succ (first bits : Nat) (l : List Nat) (n : Nat) : calendar first bits l (n + 1) =
    if bits.testBit n then without (calendar first bits l n) ((first + n) % 256) else withNew (calendar first bits l n) ((first + n) % 256) := by
  rw [calendar, List.range_succ, List.foldl_append]
  rfl

/-- A bit of the word settles its channel, and leaves the others as they are. -/
theorem mem_calendar_succ (first bits : Nat) (l : List Nat) (n c : Nat) : c ∈ calendar first bits l (n + 1) ↔
    if c = (first + n) % 256 then bits.testBit n = false else c ∈ calendar first bits l n := by
  rw [calendar_succ]
  split
  · next on => rw [mem_without, on]; split <;> simp_all
  · next off => rw [mem_withNew_iff]; split <;> simp_all

theorem mem_calendar_named {first bits : Nat} {l : List Nat} {i n : Nat} (named : i < n) (short : n ≤ 256) :
    (first + i) % 256 ∈ calendar first bits l n ↔ bits.testBit i = false := by
  induction n with
  | zero => exact absurd named (Nat.not_lt_zero i)
  | succ n ih =>
    rw [mem_calendar_succ]
    by_cases last : i = n
    · rw [last, if_pos rfl]
    · rw [if_neg (by omega), ih (by omega) (by omega)]

theorem mem_calendar_other {first bits c n : Nat} {l : List Nat} (other : ∀ i < n, (first + i) % 256 ≠ c) :
    c ∈ calendar first bits l n ↔ c ∈ l := by
  induction n with
  | zero => rfl
  | succ n ih => rw [mem_calendar_succ, if_neg (other n (by omega)).symm, ih fun i h => other i (by omega)]

theorem exec_flowControlWord_up {first bits : Nat} (up : s.ilkn.up = true) : exec (.flowControlWord first bits) s =
    finish (State.framerNext { s with kspe.peerXoff := calendar first bits s.kspe.peerXoff 16 } none) :=
  congrArg finish (if_neg (by simp [up]))

theorem framerNext_peerXoff (s : State) (last : Option Nat) : (s.framerNext last).kspe.peerXoff = s.kspe.peerXoff :=
  congrArg (·.peerXoff) (Port.refl s).framerNext.protocol

end Sys2Proof.Machine
end

section
namespace Sys2Proof.Machine

/-- Settles O41: each step of link-up is one branch of the command (`exec_ilknLinkupStep_rate` to `exec_ilknLinkupStep_up`), the last reports
the bundle and sends the first VERSION frame (`linkIsUp_sends`), and of a calendar word each channel is named by one bit at most
(`mem_calendar_named`, `mem_calendar_other`). -/
theorem linkBringUp : Obligations.LinkBringUp := by
  unfold Obligations.LinkBringUp
  refine ⟨?steps, ?timeout, ?restart, ?loss, ?timer, ?calendar⟩
  case steps =>
    intro s rx peer mode on down ready
    refine ⟨?rate, ?lanes, ?bundle, ?up⟩
    case rate => exact fun quiet step => answers_of_finish_settled (exec_ilknLinkupStep_rate mode on down ready step) quiet rfl
    case lanes => exact fun quiet step => answers_of_finish_settled (exec_ilknLinkupStep_lanes mode on down ready step) quiet rfl
    case bundle =>
      exact fun k w quiet step group => answers_of_finish_settled (exec_ilknLinkupStep_bundle mode on down ready step group) quiet rfl
    case up => exact fun step => linkIsUp_answers (exec_ilknLinkupStep_up mode on down ready step)
  case timeout =>
    intro s quiet mode down
    exact answers_of_finish_settled (congrArg finish (if_neg (by simp [mode, down]))) quiet rfl
  case restart => exact fun s quiet => answers_of_finish_settled rfl quiet rfl
  case loss => exact fun s lane up above below fits empty => alignmentLoss_answers up above below fits empty
  case timer =>
    intro s up unagreed
    refine answers_of_finish (exec_versionFrameTimer_due up unagreed) ⟨?_, mem_out_sendControl_settle up _⟩
    rw [settle_kspe, State.sendVersion, sendControl_kspe up]
  case calendar =>
    intro s first bits up
    refine answers_of_finish (exec_flowControlWord_up up) ?_
    rw [settle_kspe, framerNext_peerXoff]
    exact ⟨fun i named => mem_calendar_named named (by decide), fun c _ other => mem_calendar_other other⟩

end Sys2Proof.Machine
end

section
/-!
SUPPORT. Control frames that pass every check of the port: how each is answered, and what it does (11_ingest_port.md R476 to R482).
-/
namespace Sys2Proof.Machine

variable {s t : State} {g : Segment} {c : Instr} {f : State → State × Option Nat} {cop len bit n src ts time result : Nat}

/-! ### A frame that is heard (R473, R481) -/

theorem framingErrors_none (crc24 : g.crc24 = 0) (crc32 : g.crc32 = 0) : s.framingErrors g = s := if_pos ⟨crc24, crc32⟩

theorem control_heard (h : s.hears g cop) (e : State → State) : s.control g (g.cop = cop) e = e s := by
  obtain ⟨up, header, control, rfl, crc24, crc32, checked⟩ := h
  simp [State.control, up, Nat.not_lt.2 header, control, framingErrors_none crc24 crc32, checked]

/-- What a frame with a STATUS does under the bits that enable it: the time that it sets. -/
def State.todEffect (g : Segment) (s : State) : State × Option Nat :=
  let (t, r) := s.submitSet (fld (g.body.getD 1 0) 24 2 + 4 * g.wide 24) (wbit (g.body.getD 1 0) 26) (some g.strand)
  (if r.isNone then { t with kspe.todWait := some { seq := g.seq, strand := g.strand } } else t, r)

/-- What a frame does in STREAM alone (R481). -/
def State.inStream (f : State → State × Option Nat) (s : State) : State × Option Nat := if s.sysc.mode ≠ .stream then (s, some 1) else f s

/-- A trigger for the strand that the frame names, or for every strand that accepts broadcast (R480). -/
def State.trigEffect (g : Segment) (s : State) : State × Option Nat :=
  if wbit (g.head 1) 16 then
    (s.trigger ((s.strd.strands.filter fun e => e.2.st ≠ .free && e.2.bcast).map (·.1)) 0 (g.wide 40) false, some 0)
  else if (s.strand g.strand).st = .free then (s, some 2)
  else (s.trigger [g.strand] 0 (g.wide 40) false, some 0)

theorem exec_tod_heard (h : s.hears g 2) : exec (.tod g) s = finish (s.answered g 2 1 (State.todEffect g)) :=
  congrArg finish (control_heard h _)

theorem exec_arm_heard (h : s.hears g 3) : exec (.arm { seg := g, same := none }) s =
    finish (s.answered g 2 0 (State.inStream fun s => s.strandAnswer g.strand (s.arm g.strand (g.wide 24)))) :=
  have heard : s.armFrame g = _ := control_heard h _
  congrArg finish heard

theorem exec_stop_heard (h : s.hears g 4) : exec (.stop { seg := g, same := none }) s =
    finish (s.answered g 1 0 (State.inStream fun s => s.strandAnswer g.strand (s.stop g.strand))) :=
  have heard : s.stopFrame g = _ := control_heard h _
  congrArg finish heard

theorem exec_trig_heard (h : s.hears g 5) (version : s.kspe.agreed ≠ 1) :
    exec (.trig g) s = finish (s.answered g 2 2 (State.inStream (State.trigEffect g))) :=
  congrArg finish ((control_heard h _).trans (if_neg version))

theorem exec_unknownControlFrame_heard (h : s.hears g g.cop) (unknown : g.cop ∉ [1, 2, 3, 4, 5]) :
    exec (.unknownControlFrame g) s = finish (s.answer g 3) := by
  refine congrArg finish ((congrArg (fun mine => s.control g mine _) ?_).trans (control_heard h _))
  rw [decide_eq_true unknown, decide_eq_true rfl]

/-! ### The STATUS (R481, R482) -/

/-- `u` is `t` with a frame answered, at the end of the command. -/
structure Answered (t : State) (g : Segment) (result : Nat) (u : State) : Prop where
  status : Out.status g.cop g.seq result ∈ u.out
  strd : u.strd = t.strd
  coht : u.coht = t.coht
  causes : ∀ {b : Block} {bit}, b.page ≠ 5 → hasCause t b bit → hasCause u b bit

theorem answered_answer (up : t.ilkn.up = true) (g : Segment) (result : Nat) : Answered t g result (t.answer g result).settle where
  status := mem_out_sendControl_settle up _
  strd := by rw [settle_strd, State.answer, sendControl_strd]
  coht := by rw [settle_coht, State.answer, sendControl_coht]
  causes other set := hasCause_settle other ((Port.refl t).sendControl.causes set)

theorem Answered.strand {u : State} (h : Answered t g result u) (m : Nat) : u.strand m = t.strand m := by
  unfold State.strand
  rw [h.strd]

section
variable (e : exec c s = finish (s.answered g len bit f)) (up : s.ilkn.up = true)
include e up

theorem answers_length (other : g.body.length ≠ len) : answers c s (Answered s g 4) :=
  answers_of_finish (e.trans (congrArg finish (if_pos other))) (answered_answer up ..)

variable (fits : g.body.length = len)
include fits

theorem answers_disabled (off : wbit s.kspe.ctrl bit = false) : answers c s (Answered s g 5) := by
  have refused : s.answered g len bit f = s.answer g 5 := by simp [State.answered, fits, off]
  exact answers_of_finish (e.trans (congrArg finish refused)) (answered_answer up ..)

/-- An enabled frame is counted, acts, and is answered with its result. -/
theorem answers_enabled (on : wbit s.kspe.ctrl bit = true) (acts : f (s.cause .kspe 5) = (t, some result))
    (port : Port (s.cause .kspe 5) t) : answers c s fun u => Answered t g result u ∧ hasCause u .kspe 5 := by
  have accepted : s.answered g len bit f = t.answer g result := by simp [State.answered, fits, on, acts]
  have answered := answered_answer (t := t) (by rw [port.link, cause_ilkn, up]) g result
  have counted : hasCause t .kspe 5 := port.causes (hasCause_cause_sets (silent_of_fixed _ rfl) ..)
  exact answers_of_finish (e.trans (congrArg finish accepted)) ⟨answered, answered.causes (by decide) counted⟩

end

theorem inStream_outside (outside : s.sysc.mode ≠ .stream) : State.inStream f s = (s, some 1) := if_pos outside
theorem inStream_inside (inside : s.sysc.mode = .stream) : State.inStream f s = f s := if_neg (not_not_intro inside)

/-! ### VERSION (R476, R478; 20_cohort_and_time.md R799) -/

/-- The sender's member number is taken, and a number that both have is reported. -/
def State.hearPeer (s : State) (w : Word) : State :=
  let s := { s with coht.peer := fld w 16 16, coht.peerValid := wbit w 32 }
  if s.coht.duplicate then s.error .coht 0x41 0 (2 ^ 4) else s

theorem rep_hearPeer (s : State) (w : Word) :
    Rep { s with coht := { s.coht with peer := fld w 16 16, peerValid := wbit w 32 } } (s.hearPeer w) :=
  Rep.ite _ (fun _ => rep_error ..) fun _ => .refl _

theorem hearPeer_hdr_kspe (s : State) (w : Word) : (s.hearPeer w).hdr .kspe = s.hdr .kspe := by
  unfold State.hearPeer
  dsimp only
  split
  · exact error_hdr_other _ _ _ _ _ (by decide)
  · rfl

theorem exec_version_heard (h : s.hears g 1) (one : g.body.length = 1) (unagreed : s.kspe.vstate = 1 ∨ s.kspe.vstate = 3) :
    exec (.version g) s =
      finish ((s.hearPeer (g.body.getD 0 0)).negotiate (fld (g.body.getD 0 0) 0 8) (fld (g.body.getD 0 0) 8 8)) := by
  have vstate : (s.hearPeer (g.body.getD 0 0)).kspe.vstate = s.kspe.vstate := congrArg (·.vstate) (rep_hearPeer ..).kspe
  have negotiating : ((s.hearPeer (g.body.getD 0 0)).kspe.vstate = 1 || (s.hearPeer (g.body.getD 0 0)).kspe.vstate = 3 : Bool) = true := by
    rw [vstate]
    simpa using unagreed
  exact congrArg finish ((control_heard h _).trans ((if_neg (not_not_intro one)).trans (if_pos negotiating)))

/-- The version `v` is agreed on. -/
def State.agreedOn (s : State) (v : Nat) : State := { s with kspe.agreed := v, kspe.vstate := 2, ilkn.step := 6 }

section
variable {lo hi : Nat}

/-- The highest common version is agreed on, and the frame that says so goes out. -/
theorem negotiate_agrees (e : exec c s = finish (t.negotiate lo hi)) (up : t.ilkn.up = true)
    (common : max lo t.kspe.vmin ≤ min hi t.kspe.vmax) :
    answers c s fun u => u.kspe.agreed = min hi t.kspe.vmax ∧ u.kspe.vstate = 2 ∧ u.ilkn.step = 6 ∧ hasCause u .kspe 1 ∧
      Out.versionFrame u.kspe.agreed u.kspe.agreed (fld t.coht.member 0 16) (wbit t.coht.member 16) ∈ u.out ∧ u.coht = t.coht := by
  have agrees : t.negotiate lo hi = ((t.agreedOn (min hi t.kspe.vmax)).sendVersion (min hi t.kspe.vmax) (min hi t.kspe.vmax)).cause .kspe 1 :=
    if_pos common
  generalize min hi t.kspe.vmax = v at agrees ⊢
  have up : (t.agreedOn v).ilkn.up = true := up
  refine answers_of_finish (e.trans (congrArg finish agrees)) ?_
  rw [settle_kspe, settle_ilkn, settle_coht, cause_kspe, cause_ilkn, cause_coht, State.sendVersion, sendControl_kspe up, sendControl_ilkn,
    sendControl_coht]
  exact ⟨rfl, rfl, rfl, hasCause_cause (silent_of_fixed _ rfl) (by decide),
    (sent_settle _).kept _ ((sent_cause ..).kept _ (mem_out_sendControl up _)), rfl⟩

theorem negotiate_fails (apart : min hi s.kspe.vmax < max lo s.kspe.vmin) (first : s.kspe.vstate = 1) :
    s.negotiate lo hi = State.error { s with kspe.vstate := 3 } .kspe 0x40 0 (2 ^ 2) :=
  (if_neg (Nat.not_le.2 apart)).trans (if_neg (by rw [first]; decide))

end

section
variable (h : s.hears g 1) (one : g.body.length = 1)
include h one

theorem version_agrees (unagreed : s.kspe.vstate = 1 ∨ s.kspe.vstate = 3)
    (common : max (fld (g.body.getD 0 0) 0 8) s.kspe.vmin ≤ min (fld (g.body.getD 0 0) 8 8) s.kspe.vmax) :
    answers (.version g) s fun t => t.kspe.agreed = min (fld (g.body.getD 0 0) 8 8) s.kspe.vmax ∧ t.kspe.vstate = 2 ∧ t.ilkn.step = 6 ∧
      hasCause t .kspe 1 ∧ Out.versionFrame t.kspe.agreed t.kspe.agreed (fld s.coht.member 0 16) (wbit s.coht.member 16) ∈ t.out ∧
      t.coht.peer = fld (g.body.getD 0 0) 16 16 ∧ t.coht.peerValid = wbit (g.body.getD 0 0) 32 := by
  have rep := rep_hearPeer s (g.body.getD 0 0)
  have kspe : (s.hearPeer (g.body.getD 0 0)).kspe = s.kspe := rep.kspe
  obtain ⟨t, e, agreed, vstate, step, cause, sent, coht⟩ := negotiate_agrees (exec_version_heard h one unagreed)
    ((congrArg (·.up) rep.ilkn).trans h.1) (by rwa [kspe])
  rw [kspe] at agreed
  rw [rep.coht] at coht sent
  exact ⟨t, e, agreed, vstate, step, cause, sent, congrArg (·.peer) coht, congrArg (·.peerValid) coht⟩

theorem version_fails (first : s.kspe.vstate = 1) (empty : (s.hdr .kspe).evalid = false)
    (apart : min (fld (g.body.getD 0 0) 8 8) s.kspe.vmax < max (fld (g.body.getD 0 0) 0 8) s.kspe.vmin) :
    answers (.version g) s fun t => t.kspe.vstate = 3 ∧ t.kspe.agreed = s.kspe.agreed ∧ captured t .kspe 0x40 0 ∧ hasCause t .kspe 2 := by
  have kspe : (s.hearPeer (g.body.getD 0 0)).kspe = s.kspe := (rep_hearPeer ..).kspe
  have e := exec_version_heard h one (.inl first)
  rw [negotiate_fails (by rwa [kspe]) (by rwa [kspe])] at e
  refine answers_of_finish e ?_
  rw [settle_kspe, error_kspe]
  exact ⟨rfl, congrArg (·.agreed) kspe, captured_errorCause (by decide) (silent_of_fixed _ rfl)
    ((congrArg (·.evalid) (hearPeer_hdr_kspe ..)).trans empty) (by decide) (by decide)⟩

end

/-! ### TOD (R480; 20_cohort_and_time.md R789) -/

theorem loadTime_coht (s : State) (time : Nat) : (s.loadTime time).coht =
    { s.coht with phase := time % 2 ^ 66 * 2 ^ 32, running := true, setRefused := false } := cause_coht ..

/-- A set whose value is valid loads the time at once. -/
theorem submitSet_loads (s : State) (n : Nat) (idle : s.replayActive = false) (small : time < 2 ^ 65) :
    ∃ t, s.submitSet time false (some n) = (t, some 0) ∧ Port s t ∧ t.coht.phase = time * 2 ^ 32 ∧ t.coht.running = true ∧ hasCause t .coht 3 := by
  have value : time % 2 ^ 66 = time := Nat.mod_eq_of_lt (Nat.lt_trans small (by decide))
  have coht := loadTime_coht (s.replacePending false) time
  rw [value] at coht
  have loaded : hasCause ((s.replacePending false).loadTime time) .coht 3 := hasCause_cause_sets (silent_of_fixed _ rfl) ..
  refine ⟨_, (if_neg (by simpa [idle] using small)).trans rfl, (Port.refl s).replacePending.loadTime.update, ?_, ?_, loaded⟩
  · exact congrArg (·.phase) coht
  · exact congrArg (·.running) coht

theorem todEffect_of_submitSet (now : wbit (g.body.getD 1 0) 26 = false) (value : time = fld (g.body.getD 1 0) 24 2 + 4 * g.wide 24)
    (loads : s.submitSet time false (some g.strand) = (t, some 0)) : s.todEffect g = (t, some 0) := by
  rw [State.todEffect, now, ← value, loads]
  rfl

theorem tod_loads (h : s.hears g 2) (two : g.body.length = 2) (on : wbit s.kspe.ctrl 1 = true) (now : wbit (g.body.getD 1 0) 26 = false)
    (idle : s.replayActive = false) (value : time = fld (g.body.getD 1 0) 24 2 + 4 * g.wide 24) (small : time < 2 ^ 65) :
    answers (.tod g) s fun t => t.coht.phase = time * 2 ^ 32 ∧ t.coht.running = true ∧ hasCause t .coht 3 ∧ hasCause t .kspe 5 ∧
      Out.status 2 g.seq 0 ∈ t.out := by
  have idle : (s.cause .kspe 5).replayActive = false := by rwa [State.replayActive, cause_rple]
  obtain ⟨t, loads, port, phase, running, loaded⟩ := submitSet_loads (s.cause .kspe 5) g.strand idle small
  obtain ⟨u, e, answered, counted⟩ := answers_enabled (exec_tod_heard h) h.1 two on (todEffect_of_submitSet now value loads) port
  refine ⟨u, e, ?_, ?_, answered.causes (by decide) loaded, counted, ?_⟩
  · rw [answered.coht, phase]
  · rw [answered.coht, running]
  · rw [← h.2.2.2.1]
    exact answered.status

/-! ### ARM (R480; 12_capture.md R525) -/

theorem strand_modStrand_same (s : State) (n : Nat) (f : Strand → Strand) : (s.modStrand n f).strand n = f (s.strand n) := tget_tmod_same ..
theorem strand_modStrand_other (s : State) (f : Strand → Strand) (other : m ≠ n) : (s.modStrand n f).strand m = s.strand m :=
  tget_tmod_other _ _ f other
theorem cause_strand (s : State) (b : Block) (i v : Nat) (m : Nat) : (s.cause b i v).strand m = s.strand m := by
  rw [State.strand, cause_strd, State.strand]

/-- The strand armed for a time, 0 for at once (12_capture.md R525). -/
def Strand.armed (x : Strand) (time : Nat) : Strand :=
  { x with st := if time = 0 then .armed else .scheduled, armAt := if time = 0 then none else some time, seqany := true, opened := false,
           resume := false, discard := false, sinceArm := [], trigWait := false, recTrig := false, postLeft := 0 }

/-- Reporting changes nothing that an arm is judged by. -/
theorem canArm_of_rep (rep : Rep s t) (h : s.canArm n time) : t.canArm n time := by
  rw [← rep]
  exact h

theorem arm_of_canArm (h : s.canArm n time) : s.arm n time = (s.modStrand n fun x => x.armed time, some 0) := by
  obtain ⟨state, bound, adopting, releasing, fill, window, locked, timed⟩ := h
  refine (if_neg ?_).trans <| (if_neg ?_).trans <| (if_neg ?_).trans <| (if_neg ?_).trans <| (if_neg ?_).trans <| (if_neg ?_).trans rfl
  · simpa [bound, adopting, releasing] using Decidable.or_iff_not_imp_left.1 state
  · simpa using fill
  · simpa using window
  · simp [locked]
  · simpa using fun scheduled => (timed scheduled).1
  · simpa using fun scheduled => (timed scheduled).2

theorem arm_arms (h : s.hears g 3) (two : g.body.length = 2) (on : wbit s.kspe.ctrl 0 = true) (inside : s.sysc.mode = .stream)
    (may : s.canArm g.strand (g.wide 24)) : answers (.arm { seg := g, same := none }) s fun t =>
      (t.strand g.strand).armedFor (g.wide 24) ∧ Out.status 3 g.seq 0 ∈ t.out ∧ hasCause t .kspe 5 ∧
        ∀ m, m ≠ g.strand → t.strand m = s.strand m := by
  have arms := arm_of_canArm (canArm_of_rep (rep_cause s .kspe 5 2) may)
  obtain ⟨u, e, answered, counted⟩ := answers_enabled (exec_arm_heard h) h.1 two on
    ((inStream_inside (by rwa [cause_sysc])).trans (by rw [arms]; rfl)) (Port.refl _).modStrand
  refine ⟨u, e, ?_, ?_, counted, fun m other => ?_⟩
  · rw [answered.strand, strand_modStrand_same]
    exact ⟨rfl, rfl, rfl, rfl, rfl, rfl, rfl⟩
  · rw [← h.2.2.2.1]
    exact answered.status
  · rw [answered.strand, strand_modStrand_other _ _ other, cause_strand]

/-! ### STOP (R480; 12_capture.md R490) -/

theorem stopStrand_strand (s : State) (n : Nat) : ((s.stopStrand n).strand n).st = .idle ∧ ((s.stopStrand n).strand n).armAt = none ∧
    ((s.stopStrand n).strand n).opened = false := by
  have stopped := strand_modStrand_same (s.endRecord n { trunc := true }) n fun x =>
    { x with st := .idle, armAt := none, opened := false, resume := false, recTrig := false, trigWait := false, postLeft := 0 }
  exact ⟨congrArg (·.st) stopped, congrArg (·.armAt) stopped, congrArg (·.opened) stopped⟩

theorem stopStrand_timed (s : State) (n : Nat) : ∀ x ∈ (s.stopStrand n).strd.timed, x.strand ≠ n := fun _ listed =>
  of_decide_eq_true (List.mem_filter.1 listed).2

theorem stop_stops (h : s.hears g 4) (one : g.body.length = 1) (on : wbit s.kspe.ctrl 0 = true) (inside : s.sysc.mode = .stream)
    (active : (s.strand g.strand).live = true ∨ (s.strand g.strand).st = .scheduled) :
    answers (.stop { seg := g, same := none }) s fun t => (t.strand g.strand).st = .idle ∧ (t.strand g.strand).armAt = none ∧
      (t.strand g.strand).opened = false ∧ (∀ x ∈ t.strd.timed, x.strand ≠ g.strand) ∧ Out.status 4 g.seq 0 ∈ t.out := by
  have stops : (s.cause .kspe 5).stop g.strand = ((s.cause .kspe 5).stopStrand g.strand, some 0) :=
    if_pos (by rw [cause_strand]; simpa using active)
  obtain ⟨u, e, answered, -⟩ := answers_enabled (exec_stop_heard h) h.1 one on
    ((inStream_inside (by rwa [cause_sysc])).trans (by rw [stops]; rfl)) (Port.refl _).stopStrand
  obtain ⟨idle, unscheduled, closed⟩ := stopStrand_strand (s.cause .kspe 5) g.strand
  rw [← answered.strand] at idle unscheduled closed
  refine ⟨u, e, idle, unscheduled, closed, ?_, ?_⟩
  · rw [answered.strd]
    exact stopStrand_timed _ _
  · rw [← h.2.2.2.1]
    exact answered.status

/-! ### TRIG (R480; 12_capture.md R530) -/

theorem trigOut_strd (s : State) (ts : Nat) : (s.trigOut ts).strd = s.strd := by
  unfold State.trigOut
  dsimp only
  split
  · rfl
  · split <;> rfl

/-- The strand with a trigger accepted (12_capture.md R526, R531). -/
def Strand.triggered (x : Strand) (inRecord : Bool) : Strand :=
  { x with st := .running, trigUnit := x.wpunit, postLeft := x.post + 1, recTrig := x.recTrig || (inRecord && x.opened)
           trigWait := x.trigWait || !(inRecord && x.opened) }

/-- A trigger accepted by a strand enters the log, which loses its oldest entry when it is full (12_capture.md R535). -/
def State.logTrigger (s : State) (n src ts : Nat) (inRecord full : Bool) : State :=
  { s.modStrand n (fun x => x.triggered inRecord) with
    strd.trigLog := (if full then s.strd.trigLog.drop 1 else s.strd.trigLog) ++
      [{ strand := n, src := src, ts := ts, unit := (s.strand n).wpunit }]
    strd.trigLost := s.strd.trigLost || full }

/-- A logged trigger is reported, and handed to the line and to the sender where the strand asks for it (12_capture.md R533, R535). -/
def State.reportTrigger (s : State) (n ts : Nat) (full out sends : Bool) : State :=
  let s := s.cause .strd 2
  let s := if full then s.cause .strd 4 else s
  let s := if out then s.trigOut ts else s
  if sends && s.kspe.agreed = 2 then s.sendControl (.trigFrame n ts) else s

theorem acceptTrigger_eq (s : State) (n src ts : Nat) (inRecord : Bool) : ∃ full out sends, s.acceptTrigger n src ts inRecord =
    (s.logTrigger n src ts inRecord full).reportTrigger n ts full out sends := ⟨_, _, _, rfl⟩

theorem reportTrigger_strd (s : State) (n ts : Nat) (full out sends : Bool) : (s.reportTrigger n ts full out sends).strd = s.strd := by
  unfold State.reportTrigger
  dsimp only
  refine (ite_same State.strd (sendControl_strd ..)).trans ((ite_same State.strd (trigOut_strd ..)).trans ?_)
  exact (ite_same State.strd (cause_strd ..)).trans (cause_strd ..)

theorem acceptTrigger_sets (s : State) (n src ts : Nat) (inRecord : Bool) : hasCause (s.acceptTrigger n src ts inRecord) .strd 2 := by
  obtain ⟨full, out, sends, e⟩ := acceptTrigger_eq s n src ts inRecord
  generalize s.logTrigger n src ts inRecord full = t at e
  have port : Port (t.cause .strd 2) (t.reportTrigger n ts full out sends) :=
    (Port.refl _).next fun h => (Port.ite h.cause h).next fun h => (Port.ite h.trigOut h).when fun h => h.sendControl
  rw [e]
  exact port.causes (hasCause_cause_sets (silent_of_fixed _ rfl) ..)

theorem acceptTrigger_strand (s : State) (n src ts : Nat) (inRecord : Bool) (m : Nat) :
    (s.acceptTrigger n src ts inRecord).strand m = (s.modStrand n fun x => x.triggered inRecord).strand m := by
  obtain ⟨full, out, sends, e⟩ := acceptTrigger_eq s n src ts inRecord
  rw [e, State.strand, reportTrigger_strd]
  rfl

theorem offer_armed (armed : (s.strand n).st = .armed) (enabled : (s.strand n).srcen.testBit src = true) :
    s.offer n src ts inRecord = (s.acceptTrigger n src ts inRecord, true) := by
  simp [State.offer, armed, enabled]

/-- A strand that runs takes no trigger. -/
theorem offer_strand_running (running : (s.strand n).st = .running) (m src ts : Nat) (inRecord : Bool) :
    (s.offer m src ts inRecord).1.strand n = s.strand n := by
  unfold State.offer
  dsimp only
  split
  · rfl
  · split
    · next armed =>
      have other : n ≠ m := fun same => by rw [← same, running] at armed; cases armed
      exact (acceptTrigger_strand ..).trans (strand_modStrand_other s _ other)
    · rfl

theorem spread_strand_running (running : (s.strand n).st = .running) (ts : Nat) (l : List Nat) (fuel : Nat) :
    (s.spread ts l fuel).strand n = s.strand n := by
  induction fuel generalizing s l with
  | zero => unfold State.spread; rfl
  | succ fuel ih =>
    cases l with
    | nil => rfl
    | cons m l =>
      have kept := offer_strand_running running m 3 ts false
      rw [State.spread]
      split
      · next e =>
        rw [e] at kept
        exact (ih (kept ▸ running) _).trans kept
      · next e =>
        rw [e] at kept
        exact (ih (kept ▸ running) _).trans kept

/-- A trigger for one strand that is armed for its source runs it. -/
theorem trigger_runs (s : State) (armed : (s.strand n).st = .armed) (enabled : (s.strand n).srcen.testBit src = true) (ts : Nat)
    (inRecord : Bool) : (s.trigger [n] src ts inRecord).strand n = (s.strand n).triggered inRecord ∧
      hasCause (s.trigger [n] src ts inRecord) .strd 2 := by
  have accepts : (s.acceptTrigger n src ts inRecord).strand n = (s.strand n).triggered inRecord :=
    (acceptTrigger_strand ..).trans (strand_modStrand_same ..)
  rw [State.trigger, List.foldl_cons, List.foldl_nil, offer_armed armed enabled]
  exact ⟨(spread_strand_running (by rw [accepts]; rfl) ..).trans accepts, (Port.refl _).spread.causes (acceptTrigger_sets ..)⟩

theorem trig_triggers (h : s.hears g 5) (two : g.body.length = 2) (on : wbit s.kspe.ctrl 2 = true) (inside : s.sysc.mode = .stream)
    (version : s.kspe.agreed ≠ 1) (one : wbit (g.head 1) 16 = false) (armed : (s.strand g.strand).st = .armed)
    (enabled : (s.strand g.strand).srcen.testBit 0 = true) :
    answers (.trig g) s fun t => (t.strand g.strand).st = .running ∧ (t.strand g.strand).trigUnit = (s.strand g.strand).wpunit ∧
      hasCause t .strd 2 ∧ Out.status 5 g.seq 0 ∈ t.out := by
  have effect : State.trigEffect g (s.cause .kspe 5) = ((s.cause .kspe 5).trigger [g.strand] 0 (g.wide 40) false, some 0) := by
    simp [State.trigEffect, one, cause_strand, armed]
  obtain ⟨u, e, answered, -⟩ := answers_enabled (exec_trig_heard h version) h.1 two on
    ((inStream_inside (by rwa [cause_sysc])).trans effect) (Port.refl _).trigger
  obtain ⟨strand, accepted⟩ := trigger_runs (s.cause .kspe 5) (n := g.strand) (src := 0) (by rwa [cause_strand]) (by rwa [cause_strand])
    (g.wide 40) false
  rw [← answered.strand, cause_strand] at strand
  refine ⟨u, e, congrArg (·.st) strand, congrArg (·.trigUnit) strand, answered.causes (by decide) accepted, ?_⟩
  rw [← h.2.2.2.1]
  exact answered.status

end Sys2Proof.Machine
end

section
namespace Sys2Proof.Machine

/-- Settles O42: a frame that passes the checks of the port reaches its effect (`control_heard`), and its STATUS follows from its length, the bit
that enables it and the mode (`answers_length`, `answers_disabled`, `inStream_outside`); an enabled one is counted, acts and is answered
(`answers_enabled`). -/
theorem controlFrames : Obligations.ControlFrames := by
  unfold Obligations.ControlFrames
  refine ⟨?version, ?tod, ?arm, ?stop, ?trig, ?refused, ?outside, ?unknown⟩
  case version =>
    exact fun s g h one unagreed =>
      ⟨fun common => version_agrees h one unagreed common, fun apart first empty => version_fails h one first empty apart⟩
  case tod => exact fun s g time h two on now idle value small => tod_loads h two on now idle value small
  case arm => exact fun s g h two on inside may => arm_arms h two on inside may
  case stop => exact fun s g h one on inside active => stop_stops h one on inside active
  case trig => exact fun s g h two on inside version one armed enabled => trig_triggers h two on inside version one armed enabled
  case refused =>
    intro s g c len bit h kind
    obtain ⟨f, e⟩ : ∃ f, exec c s = finish (s.answered g len bit f) := by
      obtain ⟨rfl, cop, rfl, rfl⟩ | ⟨rfl, cop, rfl, rfl⟩ | ⟨rfl, cop, rfl, rfl⟩ | ⟨rfl, cop, rfl, rfl, version⟩ := kind <;> rw [cop] at h
      · exact ⟨_, exec_tod_heard h⟩
      · exact ⟨_, exec_arm_heard h⟩
      · exact ⟨_, exec_stop_heard h⟩
      · exact ⟨_, exec_trig_heard h version⟩
    refine ⟨fun other => ?length, fun fits off => ?disabled⟩
    case length =>
      obtain ⟨u, e, answered⟩ := answers_length e h.1 other
      exact ⟨u, e, answered.status, answered.strd, answered.coht⟩
    case disabled =>
      obtain ⟨u, e, answered⟩ := answers_disabled e h.1 fits off
      exact ⟨u, e, answered.status, answered.strd, answered.coht⟩
  case outside =>
    intro s g c h outside kind
    obtain ⟨len, bit, f, e, fits, on⟩ : ∃ len bit f, exec c s = finish (s.answered g len bit (State.inStream f)) ∧ g.body.length = len ∧
        wbit s.kspe.ctrl bit = true := by
      obtain ⟨rfl, cop, fits, on⟩ | ⟨rfl, cop, fits, on⟩ | ⟨rfl, cop, fits, version, on⟩ := kind <;> rw [cop] at h
      · exact ⟨_, _, _, exec_arm_heard h, fits, on⟩
      · exact ⟨_, _, _, exec_stop_heard h, fits, on⟩
      · exact ⟨_, _, _, exec_trig_heard h version, fits, on⟩
    obtain ⟨u, e, answered, -⟩ := answers_enabled e h.1 fits on (inStream_outside (by rwa [cause_sysc])) (.refl _)
    exact ⟨u, e, answered.status, answered.strd.trans (cause_strd ..)⟩
  case unknown =>
    intro s g h unknown
    have answered := answered_answer h.1 g 3
    exact answers_of_finish (exec_unknownControlFrame_heard h unknown) ⟨answered.status, answered.strd, answered.coht⟩

end Sys2Proof.Machine
end

section
/-!
SUPPORT. Data segments: those that fail a check, those of a strand that is not armed, and those in the middle of a record, whose words are
staged one by one (11_ingest_port.md R472, R473; 12_capture.md R500, R508).
-/
namespace Sys2Proof.Machine

variable {s t u : State} {g : Segment} {n k : Nat} {body : List Word}

/-! ### Segments that fail a check (R473) -/

/-- Framing errors change the link's counts alone, and are reported. -/
theorem framingErrors_reports (s : State) (g : Segment) : ∃ l, Rep { s with ilkn := l } (s.framingErrors g) := by
  unfold State.framingErrors
  split
  · exact ⟨s.ilkn, .refl s⟩
  · exact ⟨_, rep_cause ..⟩

theorem failedCheck_framingErrors (s : State) (g : Segment) : (s.framingErrors g).failedCheck g = s.failedCheck g := by
  obtain ⟨l, rep⟩ := framingErrors_reports s g
  rw [← rep]
  rfl

theorem framingErrors_kspe (s : State) (g : Segment) : (s.framingErrors g).kspe = s.kspe := (framingErrors_reports s g).elim fun _ rep => rep.kspe
theorem framingErrors_strd (s : State) (g : Segment) : (s.framingErrors g).strd = s.strd := (framingErrors_reports s g).elim fun _ rep => rep.strd

theorem exec_dataSegment_failed (up : s.ilkn.up = true) (data : g.words.length < 2 ∨ g.typ ≠ 1) (failed : s.failedCheck g = some k) :
    exec (.dataSegment g) s = finish ((s.framingErrors g).discardSegment g k) := by
  have taken : ¬ ((!s.ilkn.up || (decide (2 ≤ g.words.length) && g.typ = 1)) = true) := by
    obtain short | other := data
    · simp [up, Nat.not_le.2 short]
    · simp [up, other]
  refine congrArg finish ((if_neg taken).trans ?_)
  dsimp only
  rw [failedCheck_framingErrors, failed]

theorem countDiscard_kspe (s : State) (key : Nat) : (s.countDiscard key).kspe = { s.kspe with disc := tmod 0 s.kspe.disc key (satInc 20) } :=
  cause_kspe ..
theorem countDiscard_strd (s : State) (key : Nat) : (s.countDiscard key).strd = s.strd := cause_strd ..
theorem countDiscard_ingp (s : State) (key : Nat) : (s.countDiscard key).ingp = s.ingp := cause_ingp ..
theorem countDiscard_sets (s : State) (key : Nat) : hasCause (s.countDiscard key) .kspe 3 := hasCause_cause_sets (silent_of_fixed _ rfl) ..

theorem port_discardSegment (s : State) (g : Segment) (other : k ≠ 0) : Port (s.countDiscard k) (s.discardSegment g k) := by
  unfold State.discardSegment
  rw [if_neg other]
  exact (Port.refl _).when fun h => h.gap

theorem discardSegment_hcrc (s : State) (g : Segment) :
    s.discardSegment g 0 = State.error { s with kspe.disc := tmod 0 s.kspe.disc 0 (satInc 20) } .kspe 0x41 g.chan (2 ^ 3) := if_pos rfl

section
variable (up : s.ilkn.up = true) (data : g.words.length < 2 ∨ g.typ ≠ 1)
include up data

theorem dataSegment_discarded (failed : s.failedCheck g = some k) (other : k ≠ 0) : answers (.dataSegment g) s fun t =>
    tget 0 t.kspe.disc k = satInc 20 (tget 0 s.kspe.disc k) ∧ hasCause t .kspe 3 ∧ t.kspe.segs = s.kspe.segs := by
  have port := port_discardSegment (s.framingErrors g) g other
  have disc := congrArg (·.disc) port.protocol
  have segs := congrArg (·.segs) port.protocol
  simp only [countDiscard_kspe, framingErrors_kspe] at disc segs
  refine answers_of_finish (exec_dataSegment_failed up data failed) ?_
  rw [settle_kspe, disc, segs, tget_tmod_same]
  exact ⟨rfl, hasCause_settle (by decide) (port.causes (countDiscard_sets ..)), rfl⟩

theorem dataSegment_hcrc (failed : s.failedCheck g = some 0) : answers (.dataSegment g) s fun t =>
    tget 0 t.kspe.disc 0 = satInc 20 (tget 0 s.kspe.disc 0) ∧ hasCause t .kspe 3 ∧ t.strd = s.strd := by
  refine answers_of_finish ((exec_dataSegment_failed up data failed).trans (congrArg finish (discardSegment_hcrc ..))) ?_
  rw [settle_kspe, settle_strd, error_kspe, error_strd]
  refine ⟨?_, hasCause_settle (by decide) (hasCause_error_sets (silent_of_fixed _ rfl) ..), framingErrors_strd ..⟩
  rw [← framingErrors_kspe s g]
  exact tget_tmod_same ..

end

/-! ### Segments that pass the checks of the port -/

section
variable (h : s.takesData g)
include h

theorem exec_dataSegment_checked : exec (.dataSegment g) s = finish (s.strandChecks g) := by
  obtain ⟨up, header, data, crc24, crc32, checked⟩ := h
  refine congrArg finish ((if_neg (by simp [up, data])).trans ?_)
  dsimp only
  rw [framingErrors_none crc24 crc32, checked]

theorem dataSegment_unarmed (unarmed : s.armedFor g.strand = false) : answers (.dataSegment g) s fun t =>
    t.kspe.disc = tmod 0 s.kspe.disc 4 (satInc 20) ∧ hasCause t .kspe 3 ∧ t.strd = s.strd ∧ t.ingp = s.ingp := by
  have counted : s.strandChecks g = s.countDiscard 4 := if_pos (by rw [unarmed]; rfl)
  refine answers_of_finish ((exec_dataSegment_checked h).trans (congrArg finish counted)) ?_
  rw [settle_kspe, settle_strd, settle_ingp, countDiscard_kspe, countDiscard_strd, countDiscard_ingp]
  exact ⟨rfl, hasCause_settle (by decide) (countDiscard_sets ..), rfl, rfl⟩

end

/-! ### Segments in the middle of a record (R472, R500) -/

/-- The segment is counted, and its strand expects the next SEQ (R472). -/
def State.expectNext (s : State) (g : Segment) : State :=
  { s.modStrand g.strand (fun x => { x with seqany := false, expseq := (g.seq + 1) % 2 ^ 16 }) with kspe.segs := wrapInc 40 s.kspe.segs }

theorem expectNext_strand_same (s : State) (g : Segment) : (s.expectNext g).strand g.strand =
    { s.strand g.strand with seqany := false, expseq := (g.seq + 1) % 2 ^ 16 } := strand_modStrand_same ..

theorem expectNext_strand_other (s : State) (g : Segment) {m : Nat} (other : m ≠ g.strand) : (s.expectNext g).strand m = s.strand m :=
  strand_modStrand_other _ _ other

/-- A segment that neither starts a record nor carries a trigger, with the SEQ that is expected, for a record that is open or is being
discarded. -/
theorem exec_dataSegment_continues (h : s.takesData g) (armed : s.armedFor g.strand = true) (middle : wbit (g.head 0) 34 = false)
    (plain : wbit (g.head 0) 36 = false) (inOrder : (s.strand g.strand).seqany = true ∨ (s.strand g.strand).expseq = g.seq)
    (begun : (s.strand g.strand).opened = true ∨ (s.strand g.strand).discard = true) : exec (.dataSegment g) s =
      finish ((s.expectNext g).takeSegment g.strand false (wbit (g.head 0) 35) (s.expectNext g).stamp g.body) := by
  have gapless : ¬ ((!(s.strand g.strand).seqany && (s.strand g.strand).expseq ≠ g.seq : Bool) = true) := by
    simpa [Decidable.or_iff_not_imp_left] using inOrder
  have accepted : s.strandChecks g = s.acceptData g := by
    refine (if_neg (by simp [armed])).trans ((if_neg gapless).trans (if_neg ?_))
    simpa [middle, Decidable.or_iff_not_imp_left] using begun
  have taken : s.acceptData g = (s.expectNext g).takeSegment g.strand false (wbit (g.head 0) 35) (s.expectNext g).stamp g.body := by
    unfold State.acceptData
    rw [plain, middle]
    rfl
  rw [exec_dataSegment_checked h, accepted, taken]

/-- What is left of a record that is being discarded is discarded, to its end. -/
theorem takeSegment_discards (discards : (s.strand n).discard = true) (last : Bool) (ts : Nat) (body : List Word) :
    s.takeSegment n false last ts body = if last then s.modStrand n fun x => { x with discard := false } else s := if_pos discards

theorem discarded_strand (discards : (s.strand n).discard = true) (last : Bool) :
    (if last then s.modStrand n fun x => { x with discard := false } else s).strand n = { s.strand n with discard := !last } := by
  cases last
  · exact congrArg (fun d => { s.strand n with discard := d }) discards
  · exact strand_modStrand_same ..

theorem dataSegment_dropped (h : s.takesData g) (armed : s.armedFor g.strand = true) (middle : wbit (g.head 0) 34 = false)
    (plain : wbit (g.head 0) 36 = false) (inOrder : (s.strand g.strand).seqany = true ∨ (s.strand g.strand).expseq = g.seq)
    (discards : (s.strand g.strand).discard = true) : answers (.dataSegment g) s fun t =>
      t.kspe.segs = wrapInc 40 s.kspe.segs ∧ t.ingp = s.ingp ∧ t.strand g.strand =
        { s.strand g.strand with seqany := false, expseq := (g.seq + 1) % 2 ^ 16, discard := !wbit (g.head 0) 35 } := by
  have next := expectNext_strand_same s g
  have discards' : ((s.expectNext g).strand g.strand).discard = true := by rw [next]; exact discards
  have left := takeSegment_discards discards' (wbit (g.head 0) 35) (s.expectNext g).stamp g.body
  have strand := discarded_strand discards' (wbit (g.head 0) 35)
  refine answers_of_finish ((exec_dataSegment_continues h armed middle plain inOrder (.inr discards)).trans (congrArg finish left)) ?_
  rw [settle_kspe, settle_ingp, State.strand, settle_strd, ← State.strand, strand, next]
  exact ⟨ite_same (·.kspe.segs) rfl, ite_same State.ingp rfl, rfl⟩

/-! ### Words staged inside a unit (R500, R508) -/

/-- An open record, judged by its filter, that takes `k` more words and stays inside its unit. -/
structure Midway (x : Strand) (k : Nat) : Prop where
  opened : x.opened = true
  linked : x.resume = false
  judged : x.filterWait = false
  head : 4 ≤ x.recHead.length
  begun : 0 < x.wpword
  room : x.wpword + k < unitWords

/-- The frames in use of the crucible that a pipe fills. -/
def Pipe.filled (q : Pipe) : Nat := (q.cruc q.filling).length

/-- In `t`, `k` more words of the open record of strand `n` are staged than in `s`, and nothing else has changed of the strands, the port and
the link's state. -/
structure Staged (n k : Nat) (s t : State) : Prop where
  kspe : t.kspe = s.kspe
  strand : ∃ units, t.strand n =
    { s.strand n with wpword := (s.strand n).wpword + k, rlen := (s.strand n).rlen + k, sinceArm := units }
  others : ∀ m, m ≠ n → t.strand m = s.strand m
  filled : (t.pipe (n % 4)).filled ≤ (s.pipe (n % 4)).filled + k

theorem Staged.refl (n : Nat) (s : State) : Staged n 0 s s := ⟨rfl, ⟨_, rfl⟩, fun _ _ => rfl, Nat.le_refl _⟩

theorem Staged.trans {j : Nat} (h : Staged n j s t) (g : Staged n k t u) : Staged n (k + j) s u := by
  obtain ⟨a, strand⟩ := h.strand
  obtain ⟨b, strand'⟩ := g.strand
  refine ⟨g.kspe.trans h.kspe, ⟨b, ?_⟩, fun m other => (g.others m other).trans (h.others m other), ?_⟩
  · rw [strand', strand]
    simp only [Nat.add_assoc, Nat.add_comm j k]
  · have := h.filled
    have := g.filled
    omega

theorem Staged.midway {j : Nat} (h : Staged n j s t) (m : Midway (s.strand n) (k + j)) : Midway (t.strand n) k := by
  obtain ⟨units, strand⟩ := h.strand
  rw [strand]
  exact ⟨m.opened, m.linked, m.judged, m.head, Nat.lt_of_lt_of_le m.begun (Nat.le_add_right ..), by have := m.room; dsimp only; omega⟩

theorem putWord_length (l : List Frame) (n c page j : Nat) (w : Word) : (putWord l n c page j w).length ≤ l.length + 1 := by
  unfold putWord
  dsimp only
  split
  · rw [List.length_map]
    exact Nat.le_succ _
  · rw [List.length_append]
    exact Nat.le_refl _

theorem filled_modCruc (q : Pipe) (f : List Frame → List Frame) : (q.modCruc q.filling f).filled = (f (q.cruc q.filling)).length := by
  unfold Pipe.modCruc
  split
  · next a => simp [Pipe.filled, Pipe.cruc, a]
  · next b => simp [Pipe.filled, Pipe.cruc, b]

theorem pipe_modPipe_same (s : State) (p : Nat) (f : Pipe → Pipe) : (s.modPipe p f).pipe p = f (s.pipe p) := tget_tmod_same ..

theorem putStaged_filled (s : State) (n h : Nat) (w : Word) :
    ((s.putStaged n h w).pipe (n % 4)).filled ≤ (s.pipe (n % 4)).filled + 1 := by
  unfold State.putStaged
  dsimp only
  rw [pipe_modPipe_same]
  exact Nat.le_trans (Nat.le_of_eq (filled_modCruc ..)) (putWord_length ..)

/-- The word at the write point of an open record. -/
def State.stageWord (s : State) (n : Nat) (w : Word) : State :=
  (s.stagePut n w).modStrand n fun x =>
    { x with rlen := x.rlen + 1, recHead := if x.recHead.length < 4 then x.recHead ++ [w] else x.recHead }

theorem stagePut_begun (begun : 0 < (s.strand n).wpword) (w : Word) : s.stagePut n w =
    (s.putStaged n (s.strand n).wp w).modStrand n fun x =>
      { x with wpword := x.wpword + 1, sinceArm := if x.wpunit ∈ x.sinceArm then x.sinceArm else x.wpunit :: x.sinceArm } := by
  simp only [State.stagePut, Nat.ne_of_gt begun, if_false]

theorem stageWord_strand (begun : 0 < (s.strand n).wpword) (head : 4 ≤ (s.strand n).recHead.length) (w : Word) :
    (s.stageWord n w).strand n = { s.strand n with
      wpword := (s.strand n).wpword + 1, rlen := (s.strand n).rlen + 1
      sinceArm := if (s.strand n).wpunit ∈ (s.strand n).sinceArm then (s.strand n).sinceArm else (s.strand n).wpunit :: (s.strand n).sinceArm } := by
  have kept (l : List Word) : (if (s.strand n).recHead.length < 4 then l else (s.strand n).recHead) = (s.strand n).recHead :=
    if_neg (Nat.not_lt.2 head)
  rw [State.stageWord, stagePut_begun begun, strand_modStrand_same, strand_modStrand_same, show (s.putStaged ..).strand n = s.strand n from rfl]
  simp only [kept]

theorem staged_stageWord (m : Midway (s.strand n) (k + 1)) (w : Word) : Staged n 1 s (s.stageWord n w) := by
  refine ⟨?_, ⟨_, stageWord_strand m.begun m.head w⟩, fun j other => ?_, ?_⟩
  all_goals rw [State.stageWord, stagePut_begun m.begun]
  · rfl
  · rw [strand_modStrand_other _ _ other, strand_modStrand_other _ _ other]
    rfl
  · exact putStaged_filled ..

/-- A word that neither opens a link, nor completes the head that a filter judges, nor fills its unit. -/
theorem stageBody_cons (m : Midway (s.strand n) (k + 1)) (w : Word) (ws : List Word) :
    s.stageBody n false (w :: ws) = (s.stageWord n w).stageBody n false ws := by
  have after := (staged_stageWord m w).midway m
  have inside : ((s.stageWord n w).strand n).wpword ≠ unitWords := Nat.ne_of_lt (Nat.lt_of_le_of_lt (Nat.le_add_right ..) after.room)
  rw [State.stageBody]
  simp only [m.linked, m.opened, Bool.false_eq_true, Bool.not_true, if_false]
  rw [← State.stageWord]
  simp only [after.judged, inside, decide_false, Bool.false_and, Bool.false_eq_true, if_false]

theorem staged_stageBody (body : List Word) (m : Midway (s.strand n) body.length) : Staged n body.length s (s.stageBody n false body) := by
  induction body generalizing s with
  | nil => exact .refl n s
  | cons w ws ih =>
    have first := staged_stageWord m w
    rw [stageBody_cons m]
    exact first.trans (ih (first.midway m))

theorem holdSync_strd (s : State) (p : Nat) : (s.holdSync p).strd = s.strd := by
  unfold State.holdSync
  dsimp only
  split
  · rfl
  · split <;> rfl

theorem holdSync_segs (s : State) (p : Nat) : (s.holdSync p).kspe.segs = s.kspe.segs := by
  unfold State.holdSync
  dsimp only
  split
  · rfl
  · split <;> rfl

/-- A segment in the middle of a record, for which its crucible has room (R509, R511). -/
theorem takeSegment_stages (keeps : (s.strand n).discard = false) (m : Midway (s.strand n) body.length)
    (moving : (s.pipe (n % 4)).sealwait = false) (room : (s.pipe (n % 4)).filled + body.length ≤ 256) (ts : Nat) :
    s.takeSegment n false false ts body = (s.stageBody n false body).holdSync (n % 4) := by
  have staged := staged_stageBody body m
  have opened : ((s.stageBody n false body).strand n).opened = true := (staged.midway (k := 0) (by rwa [Nat.zero_add])).opened
  have whole : s.stageSegment n false false false ts body = s.stageBody n false body := by
    simp [State.stageSegment, State.fillTail, opened]
  have fits : (s.stageBody n false body).fits (n % 4) = true := decide_eq_true (Nat.le_trans staged.filled room)
  simp [State.takeSegment, keeps, State.stage, moving, whole, fits]

theorem dataSegment_staged (h : s.takesData g) (armed : s.armedFor g.strand = true) (middle : wbit (g.head 0) 34 = false)
    (plain : wbit (g.head 0) 36 = false) (inOrder : (s.strand g.strand).seqany = true ∨ (s.strand g.strand).expseq = g.seq)
    (keeps : (s.strand g.strand).discard = false) (more : wbit (g.head 0) 35 = false) (m : Midway (s.strand g.strand) g.body.length)
    (moving : (s.pipe (g.strand % 4)).sealwait = false) (room : (s.pipe (g.strand % 4)).filled + g.body.length ≤ 256) :
    answers (.dataSegment g) s fun t => t.kspe.segs = wrapInc 40 s.kspe.segs ∧
      (t.strand g.strand).wpword = (s.strand g.strand).wpword + g.body.length ∧
      (t.strand g.strand).rlen = (s.strand g.strand).rlen + g.body.length ∧ (t.strand g.strand).wpunit = (s.strand g.strand).wpunit ∧
      (t.strand g.strand).expseq = (g.seq + 1) % 2 ^ 16 ∧ (t.strand g.strand).st = (s.strand g.strand).st ∧
      ∀ m, m ≠ g.strand → t.strand m = s.strand m := by
  have next := expectNext_strand_same s g
  have m' : Midway ((s.expectNext g).strand g.strand) g.body.length := by
    rw [next]
    exact ⟨m.opened, m.linked, m.judged, m.head, m.begun, m.room⟩
  have staged := staged_stageBody g.body m'
  have taken := takeSegment_stages (by rw [next]; exact keeps) m' moving room (s.expectNext g).stamp
  have e := exec_dataSegment_continues h armed middle plain inOrder (.inl m.opened)
  rw [more, taken] at e
  have same (j : Nat) : (((s.expectNext g).stageBody g.strand false g.body).holdSync (g.strand % 4)).settle.strand j =
      ((s.expectNext g).stageBody g.strand false g.body).strand j := by
    rw [State.strand, settle_strd, holdSync_strd, State.strand]
  obtain ⟨units, strand⟩ := staged.strand
  rw [← same, next] at strand
  refine answers_of_finish e ⟨?_, ?_⟩
  · rw [settle_kspe, holdSync_segs, staged.kspe]
    rfl
  · rw [strand]
    exact ⟨rfl, rfl, rfl, rfl, rfl, fun j other =>
      (same j).trans ((staged.others j other).trans (expectNext_strand_other s g other))⟩

end Sys2Proof.Machine
end

section
namespace Sys2Proof.Machine

/-- Settles O43: the first check that fails decides how a segment is counted (`exec_dataSegment_failed`); one that passes them all goes on its
strand's record (`exec_dataSegment_continues`), which drops it while it is discarded, and otherwise stages its words one by one
(`staged_stageBody`). -/
theorem dataSegments : Obligations.DataSegments := by
  unfold Obligations.DataSegments
  refine ⟨?failed, ?unarmed, ?taken⟩
  case failed =>
    intro s g k up data failed
    refine ⟨fun other => dataSegment_discarded up data failed other, ?_⟩
    rintro rfl
    exact dataSegment_hcrc up data failed
  case unarmed => exact fun s g h unarmed => dataSegment_unarmed h unarmed
  case taken =>
    rintro s g _ h armed rfl middle plain inOrder
    refine ⟨fun discards => dataSegment_dropped h armed middle plain inOrder discards, ?_⟩
    intro keeps opened linked judged head more begun inside moving room
    exact dataSegment_staged h armed middle plain inOrder keeps more ⟨opened, linked, judged, head, begun, inside⟩ moving room

end Sys2Proof.Machine
end

section
/-!
SUPPORT. What staging, commits, seals and triggers keep: the command of the strand table, the timed triggers, the counts of seals, the edges of
TRIG_IN, and of each strand what its open record does not change (12_capture.md R496 to R536).
-/
namespace Sys2Proof.Machine

variable {s₀ s t : State} {n p c : Nat} {α β γ : Type} {g : Strand → β}

/-- `t` holds of STRD's command and timed triggers, of the pipes' seals and of the edges of TRIG_IN what `s` holds, and of each strand what `g`
reads. -/
structure Capture (g : Strand → β) (s t : State) : Prop where
  op : t.strd.op = s.strd.op
  timed : t.strd.timed = s.strd.timed
  seals : ∀ p, (t.pipe p).seals = (s.pipe p).seals
  trigIn : t.coht.trigIn = s.coht.trigIn
  lastIn : t.coht.lastIn = s.coht.lastIn
  strand : ∀ n, g (t.strand n) = g (s.strand n)

/-- What no record, seal or trigger changes of a strand. -/
def Strand.place (x : Strand) : Nat × Nat := (x.mode, x.hbase)

/-- What no commit changes of a strand. -/
def Strand.openAt (x : Strand) : Bool × Nat × Nat := (x.opened, x.place)

theorem Capture.refl (g : Strand → β) (s : State) : Capture g s s := ⟨rfl, rfl, fun _ => rfl, rfl, rfl, fun _ => rfl⟩

theorem Capture.trans {u : State} (h : Capture g s t) (k : Capture g t u) : Capture g s u :=
  ⟨k.op.trans h.op, k.timed.trans h.timed, fun p => (k.seals p).trans (h.seals p), k.trigIn.trans h.trigIn, k.lastIn.trans h.lastIn,
    fun n => (k.strand n).trans (h.strand n)⟩

/-- What the work of the strands leaves alone of the state, and the index, the commits and the trigger log, may change. -/
theorem Capture.update {cxlp ncch tier ftlm media clus kspe qrye idx commits nextCommit trigLog trigLost trigIgn out} (h : Capture g s₀ s) :
    Capture g s₀ { s with cxlp, ncch, tier, ftlm, media, clus, kspe, qrye, out
                          strd := { s.strd with idx, commits, nextCommit, trigLog, trigLost, trigIgn } } :=
  ⟨h.op, h.timed, h.seals, h.trigIn, h.lastIn, h.strand⟩

theorem Capture.rep (h : Capture g s₀ s) (k : Rep s t) : Capture g s₀ t :=
  h.trans (by rw [← k]; exact ⟨rfl, rfl, fun _ => rfl, rfl, rfl, fun _ => rfl⟩)

/-- A proof used at several places of the proof that follows it. -/
theorem Capture.next (h : Capture g s₀ s) (f : Capture g s₀ s → Capture g s₀ t) : Capture g s₀ t := f h
theorem Capture.ite {q : Prop} {_ : Decidable q} (h : Capture g s₀ s) (k : Capture g s₀ t) : Capture g s₀ (if q then s else t) := by
  split <;> assumption
theorem Capture.when {q : Prop} {_ : Decidable q} (h : Capture g s₀ s) (f : Capture g s₀ s → Capture g s₀ t) :
    Capture g s₀ (if q then t else s) := .ite (f h) h
theorem Capture.ite_fst {q : Prop} {_ : Decidable q} {a b : State × α} (h : Capture g s₀ a.1) (k : Capture g s₀ b.1) :
    Capture g s₀ (if q then a else b).1 := by
  split <;> assumption
theorem Capture.ite_snd {q : Prop} {_ : Decidable q} {a b : α × State} (h : Capture g s₀ a.2) (k : Capture g s₀ b.2) :
    Capture g s₀ (if q then a else b).2 := by
  split <;> assumption
theorem Capture.fst {a : State × α} {x : α} (h : Capture g s₀ a.1) (e : a = (t, x)) : Capture g s₀ t := by rwa [e] at h
theorem Capture.snd {a : α × State} {x : α} (h : Capture g s₀ a.2) (e : a = (x, t)) : Capture g s₀ t := by rwa [e] at h

theorem Capture.foldl {f : State → α → State} {l : List α} (h : Capture g s₀ s)
    (hf : ∀ {u a}, Capture g s₀ u → Capture g s₀ (f u a)) :
    Capture g s₀ (l.foldl f s) := by
  induction l generalizing s with
  | nil => exact h
  | cons a l ih => exact ih (hf h)

theorem Capture.cause {b bit sev} (h : Capture g s₀ s) : Capture g s₀ (s.cause b bit sev) := h.rep (rep_cause ..)

/-- Less is read of each strand. -/
theorem Capture.reading (f : β → γ) (h : Capture g s t) : Capture (fun x => f (g x)) s t :=
  ⟨h.op, h.timed, h.seals, h.trigIn, h.lastIn, fun n => congrArg f (h.strand n)⟩

/-! ### One strand, one pipe, every frame -/

theorem Capture.modStrand {f : Strand → Strand} (h : Capture g s₀ s) (same : g (f (s.strand n)) = g (s.strand n) := by rfl) :
    Capture g s₀ (s.modStrand n f) := by
  refine h.trans ⟨rfl, rfl, fun _ => rfl, rfl, rfl, fun m => ?_⟩
  by_cases e : m = n
  · rw [e, strand_modStrand_same, same]
  · rw [strand_modStrand_other s f e]

theorem pipe_modPipe_other (s : State) (f : Pipe → Pipe) {q : Nat} (other : q ≠ p) : (s.modPipe p f).pipe q = s.pipe q :=
  tget_tmod_other _ _ f other

theorem Capture.modPipe {f : Pipe → Pipe} (h : Capture g s₀ s) (same : (f (s.pipe p)).seals = (s.pipe p).seals := by rfl) :
    Capture g s₀ (s.modPipe p f) := by
  refine h.trans ⟨rfl, rfl, fun q => ?_, rfl, rfl, fun _ => rfl⟩
  by_cases e : q = p
  · rw [e, pipe_modPipe_same, same]
  · rw [pipe_modPipe_other s f e]

theorem modCruc_seals (q : Pipe) (i : Nat) (f : List Frame → List Frame) : (q.modCruc i f).seals = q.seals := by
  unfold Pipe.modCruc
  split <;> rfl

theorem mapFrames_seals (s : State) (f : Frame → Frame) (p : Nat) : ((s.mapFrames f).pipe p).seals = (s.pipe p).seals := by
  simp only [State.pipe, State.mapFrames]
  induction s.ingp with
  | nil => rfl
  | cons e l ih =>
    simp only [List.map_cons, tget]
    split
    · rfl
    · exact ih

theorem Capture.mapFrames {f} (h : Capture g s₀ s) : Capture g s₀ (s.mapFrames f) :=
  h.trans ⟨rfl, rfl, mapFrames_seals s f, rfl, rfl, fun _ => rfl⟩

/-! ### Bands and places (07_translation.md; 12_capture.md R315, R316) -/

theorem Capture.modBand {b f} (h : Capture g s₀ s) : Capture g s₀ (s.modBand b f) := h.update
theorem Capture.modBlk {die block f} (h : Capture g s₀ s) : Capture g s₀ (s.modBlk die block f) := h.update
theorem Capture.takeSeqs {k} (h : Capture g s₀ s) : Capture g s₀ (s.takeSeqs k).2 := h.update
theorem Capture.queueOp {d o} (h : Capture g s₀ s) : Capture g s₀ (s.queueOp d o) := h.update
theorem Capture.freeBand {b} (h : Capture g s₀ s) : Capture g s₀ (s.freeBand b) := .ite (.ite h.modBand (h.foldl fun h => h.modBlk).update) h
theorem Capture.setEntry {coarse u e} (h : Capture g s₀ s) : Capture g s₀ (s.setEntry coarse u e) :=
  (Capture.ite h.update h.update).next fun h => (Capture.ite h.modBand h).when fun h => h.modBand.freeBand
theorem Capture.spaceSync (h : Capture g s₀ s) : Capture g s₀ s.spaceSync := (Capture.ite h.update.cause h.update).when fun h => h.update
theorem Capture.landSync (h : Capture g s₀ s) : Capture g s₀ s.landSync := .ite h.update.cause h.update
theorem Capture.openBand {cls now} (h : Capture g s₀ s) : Capture g s₀ (s.openBand cls now) :=
  .ite h (.ite (h.update.foldl fun h => .ite h.modBlk h.modBlk.queueOp).spaceSync.landSync (.ite h.update h))
theorem Capture.invalidate {hit} (h : Capture g s₀ s) : Capture g s₀ (s.invalidate hit) := h.update

theorem Capture.capturePlace {avoid now} (h : Capture g s₀ s) : Capture g s₀ (s.capturePlace avoid now).2 := by
  unfold State.capturePlace
  dsimp only
  split
  · exact .ite h.openBand h
  · exact (Capture.ite h.openBand h).modBand.update

/-! ### Commits (R502, R506) -/

theorem Capture.modIdx {f} (h : Capture g s₀ s) : Capture g s₀ (s.modIdx c f) := h.update
theorem Capture.bisnp {line commit evict} (h : Capture g s₀ s) : Capture g s₀ (s.bisnp line commit evict) := .ite h.update h.update
theorem Capture.snoop {k} (h : Capture g s₀ s) : Capture g s₀ (s.snoop k) := h.update.foldl fun h => h.bisnp
theorem Capture.pushCommit {k} (h : Capture g s₀ s) : Capture g s₀ (s.pushCommit k) := h.update.snoop

theorem Capture.performCommit {k} (h : Capture Strand.openAt s₀ s) : Capture Strand.openAt s₀ (s.performCommit k) :=
  .ite h.update (h.update.invalidate.modStrand.next fun h => (Capture.ite h.modPipe h).next fun h => (Capture.ite h.modIdx h).when fun h =>
    h.modStrand.cause)

theorem Capture.commitReady {fuel} (h : Capture Strand.openAt s₀ s) : Capture Strand.openAt s₀ (s.commitReady n fuel) := by
  induction fuel generalizing s with
  | zero => exact h
  | succ fuel ih =>
    unfold State.commitReady
    split
    · exact h
    · exact .ite h.snoop (ih h.snoop.performCommit)

theorem capture_commitSync (s : State) (n : Nat) : Capture Strand.openAt s (s.commitSync n) := (Capture.refl _ s).commitReady
theorem Capture.commitSync (h : Capture Strand.place s₀ s) : Capture Strand.place s₀ (s.commitSync n) :=
  h.trans ((capture_commitSync s n).reading Prod.snd)

/-! ### Words staged, and records that end (R496 to R506, R517 to R522) -/

theorem Capture.dropHankUnit (h : Capture g s₀ s) : Capture g s₀ (s.dropHankUnit c) :=
  h.takeSeqs.mapFrames.next fun h => (Capture.ite h.update.setEntry h.update).modIdx.invalidate

section
variable (h : Capture Strand.place s₀ s)
include h

theorem Capture.enterDone : Capture Strand.place s₀ (s.enterDone n) := h.modStrand.cause
theorem Capture.enterUnit : Capture Strand.place s₀ (s.enterUnit n) :=
  .ite h (h.dropHankUnit.next fun h => (Capture.ite h.update h).pushCommit.commitSync)
theorem Capture.putStaged {j w} : Capture Strand.place s₀ (s.putStaged n j w) := h.modPipe (modCruc_seals ..)
theorem Capture.stagePut {w} : Capture Strand.place s₀ (s.stagePut n w) := (Capture.ite h.enterUnit h).putStaged.modStrand
theorem Capture.closeRecord {e} : Capture Strand.place s₀ (s.closeRecord n e) :=
  .ite h (.ite h.modStrand (h.putStaged.modStrand.next fun h => (Capture.ite h.modPipe h).pushCommit.commitSync))
theorem Capture.removeRecord : Capture Strand.place s₀ (s.removeRecord n) := (h.modPipe (modCruc_seals ..)).modStrand
theorem Capture.judge : Capture Strand.place s₀ (s.judge n) :=
  .ite h.modStrand (h.modStrand.modPipe.next fun h => .ite h.removeRecord.modStrand h.closeRecord.modStrand)
theorem Capture.endRecord {e} : Capture Strand.place s₀ (s.endRecord n e) :=
  (Capture.ite h.judge.modStrand h).closeRecord.when fun h => h.closeRecord
theorem Capture.padTo {e} : Capture Strand.place s₀ (s.padTo n e) := .ite h h.stagePut.modStrand.modPipe.pushCommit.commitSync

/-! ### Units left (R523 to R529) -/

theorem Capture.pretrigDone : Capture Strand.place s₀ (s.pretrigDone n) := (h.foldl fun h => h.dropHankUnit).enterDone
theorem Capture.windowDone : Capture Strand.place s₀ (s.windowDone n) :=
  (h.foldl fun h => h.modIdx).modStrand.next fun h => .ite h.modStrand h.pretrigDone

theorem Capture.leaveUnit : Capture Strand.place s₀ (s.leaveUnit n) := by
  unfold State.leaveUnit
  dsimp only
  split
  · exact .ite h.modStrand.enterDone h.modStrand
  · split
    · exact (Capture.ite (.ite h.windowDone h.modStrand) h).modStrand
    · exact .ite (.ite h.windowDone h.modStrand) h
  · exact h.modStrand

theorem Capture.padUnit : Capture Strand.place s₀ (s.padUnit n) := h.padTo.leaveUnit
theorem Capture.fillTail : Capture Strand.place s₀ (s.fillTail n) := .ite h.padUnit h
theorem Capture.padPage : Capture Strand.place s₀ (s.padPage n) :=
  .ite h (.ite (Capture.ite h.padTo.endRecord h.padTo).leaveUnit h.padTo)

end

/-! ### Frames driven (R514 to R516) -/

theorem Capture.issueAt {b dp page src} (h : Capture g s₀ s) : Capture g s₀ (s.issueAt b dp page src).2 := h.update

theorem Capture.copyUnit {dst} (h : Capture g s₀ s) : Capture g s₀ (s.copyUnit c dst) := by
  unfold State.copyUnit
  refine .foldl h fun h => ?_
  split
  · exact h
  · exact .ite h h.takeSeqs.issueAt

theorem Capture.redriveUnit {now} (h : Capture g s₀ s) : Capture g s₀ (s.redriveUnit c now) := by
  have cleared : Capture g s₀ ((s.forgetPrograms c).mapFrames fun f =>
      if f.unit = c && !f.stale then { f with writing := none, done := false } else f) := Capture.mapFrames h.update
  unfold State.redriveUnit
  dsimp only
  split
  · exact cleared.capturePlace.update.copyUnit
  · exact cleared.capturePlace.update

theorem Capture.framePlace {f now} (h : Capture g s₀ s) : Capture g s₀ (s.framePlace f now).2 := by
  unfold State.framePlace
  split
  · exact h
  · refine .ite_snd ?_ ?_
    · split
      · next e => exact h.capturePlace.snd e
      · next e => exact (h.capturePlace.snd e).mapFrames
    · dsimp only
      split
      · exact .ite_snd h h.redriveUnit
      · exact h.redriveUnit
      · refine .ite_snd (.ite_snd h h.redriveUnit) ?_
        split
        · next e => exact h.capturePlace.snd e
        · next e => exact (h.capturePlace.snd e).setEntry

section
variable (h : Capture Strand.place s₀ s)
include h

theorem Capture.framePage {f} : Capture Strand.place s₀ (s.framePage f).2 :=
  have counted : Capture Strand.place s₀ (s.frameCounter f).2 := .ite_snd h h.modStrand
  counted.takeSeqs

theorem Capture.driveFrame {i f} : Capture Strand.place s₀ (s.driveFrame p i f).1 := by
  unfold State.driveFrame
  refine .ite_fst h ?_
  split
  · next e => exact h.framePlace.snd e
  · next e => exact (h.framePlace.snd e).framePage.issueAt.modPipe (modCruc_seals ..)

theorem Capture.driveList {i l} : Capture Strand.place s₀ (s.driveList p i l) := by
  induction l generalizing s with
  | nil => exact h
  | cons f fs ih =>
    unfold State.driveList
    refine .ite ?_ (ih h)
    split
    · next e => exact ih (h.driveFrame.fst e)
    · next e => exact h.driveFrame.fst e

theorem Capture.drivePipe : Capture Strand.place s₀ (s.drivePipe p) := h.driveList.driveList

/-! ### Seals (R509 to R511) -/

theorem Capture.holdSync : Capture Strand.place s₀ (s.holdSync p) := .ite h.update (.ite h.update h)
theorem Capture.movePipe : Capture Strand.place s₀ (s.movePipe p) := .ite h.modPipe h

/-! ### Triggers (R530 to R536) -/

theorem Capture.sendControl {o} : Capture Strand.place s₀ (s.sendControl o) := .ite h.update h

theorem Capture.trigOut {ts} : Capture Strand.place s₀ (s.trigOut ts) :=
  have line {merged lateOut outHigh outStart outEver outRise} : Capture Strand.place s₀
      { s with coht := { s.coht with merged, lateOut, outHigh, outStart, outEver, outRise } } :=
    ⟨h.op, h.timed, h.seals, h.trigIn, h.lastIn, h.strand⟩
  .ite line (.ite line line)

theorem Capture.acceptTrigger {src ts inRecord} : Capture Strand.place s₀ (s.acceptTrigger n src ts inRecord) :=
  h.modStrand.update.next fun h => (Capture.ite h.cause.cause h.cause).next fun h => (Capture.ite h.trigOut h).when fun h => h.sendControl
theorem Capture.offer {src ts inRecord} : Capture Strand.place s₀ (s.offer n src ts inRecord).1 :=
  .ite_fst h (.ite_fst h.acceptTrigger h.update)

theorem Capture.spread {ts l fuel} : Capture Strand.place s₀ (s.spread ts l fuel) := by
  induction fuel generalizing s l with
  | zero => unfold State.spread; exact h
  | succ fuel ih =>
    cases l with
    | nil => exact h
    | cons m l =>
      rw [State.spread]
      split
      · next e => exact ih (h.offer.fst e)
      · next e => exact ih (h.offer.fst e)

theorem Capture.trigger {ns src ts inRecord} : Capture Strand.place s₀ (s.trigger ns src ts inRecord) := by
  unfold State.trigger
  refine .foldl h fun h => ?_
  split
  · next e => exact (h.offer.fst e).spread
  · next e => exact h.offer.fst e

end

end Sys2Proof.Machine
end

section
/-!
SUPPORT. The commands of the strand table: how one is taken, refused or found busy, and how it ends (12_capture.md R541 to R543).
-/
namespace Sys2Proof.Machine

variable {s₀ s t u : State} {c : Instr} {n code number : Nat} {modes : List Mode} {f : Nat → State → State × Option Nat}

theorem sel_lt (w : Word) : fld w 0 18 < 2 ^ 28 := Nat.lt_trans (Nat.mod_lt _ (by decide)) (by decide)

theorem strand_of_strands (h : t.strd.strands = s.strd.strands) (m : Nat) : t.strand m = s.strand m := by
  unfold State.strand
  rw [h]

theorem answers.imp {p q : State → Prop} (h : answers c s p) (k : ∀ t, p t → q t) : answers c s q :=
  h.elim fun t ht => ⟨t, ht.1, k t ht.2⟩

/-! ### The end of a command (R542, R543) -/

/-- `u` is `t` with its strand command completed, at the end of the command. -/
structure Completed (t u : State) : Prop where
  strd : u.strd = { t.strd with result := 0, go := false }
  done : hasCause u .strd 1
  causes : ∀ {bit}, hasCause t .strd bit → hasCause u .strd bit

/-- `u` is `t` with its strand command refused, at the end of the command. -/
structure Refused (t : State) (n code : Nat) (u : State) : Prop where
  strd : u.strd = { t.strd with result := code, go := false }
  code : captured u .strd 0x40 n

theorem Completed.strands (h : Completed t u) : u.strd.strands = t.strd.strands := by rw [h.strd]
theorem Completed.strand (h : Completed t u) (m : Nat) : u.strand m = t.strand m := strand_of_strands h.strands m
theorem Completed.timed (h : Completed t u) : u.strd.timed = t.strd.timed := by rw [h.strd]
theorem Completed.ok (h : Completed t u) (same : t.strd.op = number) : strdOk u number := by
  rw [strdOk, h.strd]
  exact ⟨rfl, rfl, same, h.done⟩

theorem Refused.result (h : Refused t n code u) : u.strd.result = code := by rw [h.strd]
theorem Refused.op (h : Refused t n code u) : u.strd.op = t.strd.op := by rw [h.strd]
theorem Refused.strands (h : Refused t n code u) : u.strd.strands = t.strd.strands := by rw [h.strd]

theorem completed_strdDone (t : State) (n : Nat) : Completed t (t.strdDone n 0).settle := by
  have done : t.strdDone n 0 = State.cause { t with strd.result := 0, strd.go := false } .strd 1 := rfl
  rw [done]
  refine ⟨?_, hasCause_cause (silent_of_fixed _ rfl) (by decide), fun set => hasCause_settle (by decide) (hasCause_cause_keeps _ _ set)⟩
  rw [settle_strd, cause_strd]

theorem answers_completed (e : exec c s = finish (t.strdDone n 0)) : answers c s (Completed t) :=
  answers_of_finish e (completed_strdDone t n)

/-- An error of STRD with CMDDONE is captured while ERRSTAT holds none. -/
theorem refused_error (n : Nat) (small : n < 2 ^ 28) (empty : (t.hdr .strd).evalid = false) :
    captured (t.error .strd 0x40 n (2 ^ 1)).settle .strd 0x40 n :=
  (captured_errorCause (by decide) (silent_of_fixed _ rfl) empty (by decide) small).1

theorem answers_refused (e : exec c s = finish (t.strdDone n code)) (error : code ≠ 0) (small : n < 2 ^ 28)
    (empty : (t.hdr .strd).evalid = false) : answers c s (Refused t n code) := by
  have done : t.strdDone n code = State.error { t with strd.result := code, strd.go := false } .strd 0x40 n (2 ^ 1) := if_neg error
  rw [done] at e
  refine answers_of_finish e ⟨?_, refused_error n small empty⟩
  rw [settle_strd, error_strd]

/-! ### A command given (R541) -/

/-- The command that OP names is in STRD.CMD. -/
def State.given (s : State) (op : Nat) : State := { s with strd.op := op }

/-- A command performed on a strand ends with its RESULT, or goes on. -/
def State.answerCommand (n : Nat) (r : State × Option Nat) : State :=
  match r.2 with
  | some code => r.1.strdDone n code
  | none => { r.1 with strd.go := true, strd.waitStrand := n }

/-- With no command in progress the mode and the strand are checked. -/
theorem strdCommand_idle (on : s.on .strd) (idle : s.strd.go = false) : s.strdCommand number modes f =
    State.answerCommand (fld s.strd.sel 0 18) (if s.sysc.mode ∉ modes then (s.given number, some 2)
      else if s.strandCount ≤ fld s.strd.sel 0 18 then (s.given number, some 4)
      else f (fld s.strd.sel 0 18) (s.given number)) :=
  (if_neg (by simp [on])).trans ((if_neg (by simp [idle])).trans rfl)

/-- A command that is taken is performed on the strand that SEL names. -/
theorem strdCommand_takes (h : s.strdTakes modes n) : s.strdCommand number modes f = State.answerCommand n (f n (s.given number)) := by
  obtain ⟨⟨on, -⟩, idle, mode, rfl, known⟩ := h
  rw [strdCommand_idle on idle, if_neg (not_not_intro mode), if_neg (Nat.not_le.2 known)]

section
variable (e : exec c s₀ = finish (s.strdCommand number modes f))
include e

section
variable (h : s.strdTakes modes n)
include h

theorem answers_ends (ends : f n (s.given number) = (t, some 0)) : answers c s₀ (Completed t) := by
  rw [strdCommand_takes h, ends] at e
  exact answers_completed (n := n) e

theorem answers_refuses (empty : (s.hdr .strd).evalid = false) (refuses : f n (s.given number) = (s.given number, some code)) (error : code ≠ 0) :
    answers c s₀ (Refused (s.given number) n code) := by
  rw [strdCommand_takes h, refuses] at e
  obtain ⟨-, -, -, rfl, -⟩ := h
  exact answers_refused e error (sel_lt _) empty

/-- A command that goes on leaves GO set. -/
theorem answers_goes (goes : f n (s.given number) = (t, none)) :
    answers c s₀ fun u => u.strd = { t.strd with go := true, waitStrand := n } := by
  rw [strdCommand_takes h, goes] at e
  exact answers_of_finish e (settle_strd _)

end

section
variable (on : s.on .strd) (empty : (s.hdr .strd).evalid = false)
include on empty

theorem answers_busy (busy : s.strd.go = true) : answers c s₀ fun u =>
    u.strd.result = 1 ∧ captured u .strd 0x40 (fld s.strd.sel 0 18) ∧ u.strd.strands = s.strd.strands := by
  have busy : s.strdCommand number modes f = State.error { s with strd.result := 1 } .strd 0x40 (fld s.strd.sel 0 18) (2 ^ 1) := by
    simp [State.strdCommand, on, busy]
  rw [busy] at e
  refine answers_of_finish e ?_
  rw [settle_strd, error_strd]
  exact ⟨rfl, refused_error _ (sel_lt _) empty, rfl⟩

theorem answers_otherMode (idle : s.strd.go = false) (other : s.sysc.mode ∉ modes) :
    answers c s₀ (Refused (s.given number) (fld s.strd.sel 0 18) 2) := by
  have refused : s.strdCommand number modes f = (s.given number).strdDone (fld s.strd.sel 0 18) 2 := by
    rw [strdCommand_idle on idle, if_pos other]
    rfl
  exact answers_refused (e.trans (congrArg finish refused)) (by decide) (sel_lt _) empty

end
end

/-! ### Each command as it arrives -/

section
variable (up : s.up .strd)
include up

theorem exec_alloc_up (adopt : Bool) : exec (.alloc adopt) s = finish (s.regAlloc adopt) := congrArg finish (reg_awake up.2 ..)
theorem exec_config_up : exec .config s = finish s.regConfig := congrArg finish (reg_awake up.2 ..)
theorem exec_strandArm_up : exec .strandArm s = finish s.regStrandArm := congrArg finish (reg_awake up.2 ..)
theorem exec_strandStop_up : exec .strandStop s = finish s.regStrandStop := congrArg finish (reg_awake up.2 ..)
theorem exec_trigger_up : exec .trigger s = finish s.regTrigger := congrArg finish (reg_awake up.2 ..)
theorem exec_timedtrig_up : exec .timedtrig s = finish s.regTimedtrig := congrArg finish (reg_awake up.2 ..)
theorem exec_droprem_up : exec .droprem s = finish s.regDroprem := congrArg finish (reg_awake up.2 ..)
theorem exec_rewind_up : exec .rewind s = finish s.regRewind := congrArg finish (reg_awake up.2 ..)
theorem exec_release_up : exec .release s = finish s.regRelease := congrArg finish (reg_awake up.2 ..)
theorem exec_strdUnknownOp_up (op : Nat) : exec (.strdUnknownOp op) s = finish (s.regStrdUnknownOp op) := congrArg finish (reg_awake up.2 ..)

end

end Sys2Proof.Machine
end

section
/-!
SUPPORT. Strands made, adopted, configured, rewound and released (12_capture.md R491 to R495).
-/
namespace Sys2Proof.Machine

variable {s t u : State} {n k : Nat} {x : Strand} {adopt : Bool}

/-! ### ALLOC (R492 to R494) -/

/-- ALLOC on a FREE strand whose staged words are valid and whose hank is free, unlocked and within the exported capacity. -/
theorem alloc_of_fits (free : (s.strand n).st = .free) (valid : s.configOk s.staged = true) (inside : s.staged.hbase + s.staged.hsize ≤ unitCount)
    (unlocked : s.hankLocked s.staged.hbase s.staged.hsize = false) (apart : s.hankTaken n s.staged = false)
    (room : (s.modStrand n fun _ => s.staged).hankUse + s.ftlm.hdrMib ≤ s.ftlm.exported) : s.alloc n adopt =
      if adopt then ({ s.modStrand n fun _ => s.staged with strd.adopting := some n }, none)
      else (s.modStrand n fun _ => s.staged, some 0) := by
  refine (if_neg (not_not_intro free)).trans ((if_neg ?_).trans ((if_neg ?_).trans (if_neg ?_)))
  · simpa [valid] using inside
  · simp [unlocked]
  · rw [apart, Bool.false_or, decide_eq_true_iff]
    exact Nat.not_lt.2 room

theorem alloc_of_taken (taken : (s.strand n).st ≠ .free) : s.alloc n adopt = (s, some 3) := if_pos taken

theorem alloc_of_invalid (free : (s.strand n).st = .free) (invalid : s.configOk s.staged = false) : s.alloc n adopt = (s, some 4) :=
  (if_neg (not_not_intro free)).trans (if_pos (by simp [invalid]))

/-- The ADOPT bit of an ALLOC is in STRD.CMD. -/
def State.askedAdopt (s : State) (adopt : Bool) : State := { s with strd.adopt := adopt }

section
variable (h : s.strdTakes [.memory, .stream] n)
include h

section
variable (free : (s.strand n).st = .free) (valid : s.configOk s.staged = true) (inside : s.staged.hbase + s.staged.hsize ≤ unitCount)
  (unlocked : s.hankLocked s.staged.hbase s.staged.hsize = false) (apart : s.hankTaken n s.staged = false)
  (room : (s.modStrand n fun _ => s.staged).hankUse + s.ftlm.hdrMib ≤ s.ftlm.exported)
include free valid inside unlocked apart room

theorem alloc_makes : answers (.alloc false) s fun t => t.strand n = s.staged ∧ strdOk t 1 ∧ ∀ m, m ≠ n → t.strand m = s.strand m := by
  have makes := alloc_of_fits (s := (s.askedAdopt false).given 1) (adopt := false) free valid inside unlocked apart room
  refine (answers_ends (s := s.askedAdopt false) (exec_alloc_up h.1 false) h makes).imp fun u completed => ⟨?_, ?_, fun m other => ?_⟩
  · rw [completed.strand]
    exact strand_modStrand_same ..
  · exact completed.ok rfl
  · rw [completed.strand]
    exact strand_modStrand_other _ _ other

/-- An ALLOC that adopts goes on until the write point is found. -/
theorem alloc_adopts : answers (.alloc true) s fun t => t.strand n = s.staged ∧ t.strd.adopting = some n ∧ t.strd.go = true := by
  have makes := alloc_of_fits (s := (s.askedAdopt true).given 1) (adopt := true) free valid inside unlocked apart room
  refine (answers_goes (s := s.askedAdopt true) (exec_alloc_up h.1 true) h makes).imp fun u strd => ⟨?_, ?_, ?_⟩
  · rw [State.strand, strd]
    exact tget_tmod_same Strand.reset s.strd.strands n fun _ => s.staged
  · rw [strd]
  · rw [strd]

end

theorem alloc_refuses {code : Nat} (empty : (s.hdr .strd).evalid = false) (error : code ≠ 0)
    (refuses : ((s.askedAdopt adopt).given 1).alloc n adopt = ((s.askedAdopt adopt).given 1, some code)) :
    answers (.alloc adopt) s fun t => t.strd.result = code ∧ captured t .strd 0x40 n ∧ t.strd.strands = s.strd.strands :=
  (answers_refuses (s := s.askedAdopt adopt) (exec_alloc_up h.1 adopt) h empty refuses error).imp fun _ refused =>
    ⟨refused.result, refused.code, refused.strands⟩

end

/-- The adopted strand is IDLE, with these index lines to be rebuilt. -/
def State.adopted (s : State) (n : Nat) (rebuild : List Nat) : State :=
  { s.modStrand n fun y => { y with st := .idle } with strd.adopting := none, strd.rebuild := rebuild }

theorem exec_allocAdoptComplete (adopting : s.strd.adopting = some n) :
    ∃ (t : State) (rebuild : List Nat), exec .allocAdoptComplete s = finish ((t.adopted n rebuild).strdDone n 0) := by
  show ∃ t rebuild, execAllocAdoptComplete s = _
  rw [execAllocAdoptComplete, adopting]
  exact ⟨_, _, rfl⟩

theorem adopted_idle (s : State) (n : Nat) (rebuild : List Nat) : ((s.adopted n rebuild).strand n).st = .idle :=
  congrArg (·.st) (strand_modStrand_same s n fun y => { y with st := .idle })

/-! ### CONFIG (R541) -/

theorem config_of_idle (idle : (s.strand n).st = .idle ∨ (s.strand n).st = .done) (unbound : s.replayBound n = false)
    (valid : s.configOk ((s.strand n).configure s.strd.stage2 s.strd.stage4 s.strd.stage5) = true) :
    s.config n = (s.modStrand n fun _ => (s.strand n).configure s.strd.stage2 s.strd.stage4 s.strd.stage5, some 0) :=
  (if_neg (by simpa [unbound] using Decidable.or_iff_not_imp_left.1 idle)).trans (if_pos valid)

/-! ### REWIND and RELEASE (R495) -/

/-- The strand's hank is to be dropped, by a RELEASE or by a REWIND. -/
def State.clearing (s : State) (n : Nat) (release : Bool) : State := s.modStrand n fun x => { x with releasing := some release }

theorem clearing_strand (s : State) (n : Nat) (release : Bool) : (s.clearing n release).strand n = { s.strand n with releasing := some release } :=
  strand_modStrand_same ..

/-- A command that clears an idle strand changes nothing of STRD beside, nor what is staged. -/
theorem clearStrand_of_idle (idle : (s.strand n).st = .idle ∨ (s.strand n).st = .done) (unbound : s.replayBound n = false) (release : Bool) :
    ∃ clus, s.clearStrand n release = ({ s.clearing n release with clus }, none) :=
  ⟨_, if_neg (by simpa [unbound] using Decidable.or_iff_not_imp_left.1 idle)⟩

theorem find?_tins {β : Type} {q : Nat × β → Bool} {k : Nat} {v : β} : ∀ {l : Tbl β}, (∀ e ∈ l, q e = false) → q (k, v) = true →
    (tins k v l).find? q = some (k, v)
  | [], _, hit => by simp [tins, hit]
  | (j, w) :: l, miss, hit => by
    have first : q (j, w) = false := miss _ (List.mem_cons_self ..)
    have rest : (tins k v l).find? q = some (k, v) := find?_tins (fun e listed => miss e (List.mem_cons_of_mem _ listed)) hit
    unfold tins
    split
    · simp [hit]
    · split
      · simp [hit]
      · simpa [first] using rest

/-- Where no strand waits, the one that a REWIND clears is the one that waits for it. -/
theorem find?_clearing (calm : ∀ e ∈ s.strd.strands, e.2.releasing = none) (n : Nat) :
    (s.clearing n false).strd.strands.find? (fun e => e.2.releasing = some false) = some (n, { s.strand n with releasing := some false }) := by
  have listed : (s.clearing n false).strd.strands = tins n { s.strand n with releasing := some false } s.strd.strands :=
    if_neg fun same => by
      have := congrArg (·.releasing) same
      cases this
  rw [listed]
  exact find?_tins (fun e mem => by simp [calm e mem]) (by simp)

theorem capture_dropHank (s : State) (n : Nat) : Capture id s (s.dropHank n) := by
  have dropped : Capture id s (((s.hankUnits (s.strand n)).foldl State.dropHankUnit s).takeSeqs 1).2 :=
    ((Capture.refl id s).foldl fun h => h.dropHankUnit).takeSeqs
  exact ⟨dropped.op, dropped.timed, dropped.seals, dropped.trigIn, dropped.lastIn, dropped.strand⟩

/-- The hank dropped, the strand is IDLE and empty. -/
def State.emptied (s : State) (n : Nat) : State :=
  (s.dropHank n).modStrand n fun x => { x with st := .idle, wpunit := 0, wpword := 0, releasing := none }

theorem emptied_strand (s : State) (n : Nat) :
    (s.emptied n).strand n = { s.strand n with st := .idle, wpunit := 0, wpword := 0, releasing := none } := by
  have same : (s.dropHank n).strand n = s.strand n := (capture_dropHank s n).strand n
  rw [State.emptied, strand_modStrand_same, same]

/-- The hank dropped, the strand is FREE, and none of its timed triggers is left (log 102). -/
def State.freed (s : State) (n : Nat) : State :=
  { (s.dropHank n).modStrand n fun _ => Strand.reset with strd.timed := (s.dropHank n).strd.timed.filter fun t => t.strand ≠ n }

theorem freed_strand (s : State) (n : Nat) : (s.freed n).strand n = .reset := strand_modStrand_same (s.dropHank n) n fun _ => Strand.reset
theorem freed_timed (s : State) (n : Nat) : ∀ u ∈ (s.freed n).strd.timed, u.strand ≠ n := fun _ listed =>
  of_decide_eq_true (List.mem_filter.1 listed).2

theorem exec_releaseComplete (waits : (s.strd.strands.find? fun e => e.2.releasing = some true) = some (n, x)) (gone : s.framesGone n = true) :
    exec .releaseComplete s = finish ((s.freed n).strdDone n 0) := by
  show execReleaseComplete s = _
  rw [execReleaseComplete, waits]
  exact congrArg finish (if_pos gone)

section
variable (h : s.strdTakes [.memory, .stream] n) (idle : (s.strand n).st = .idle ∨ (s.strand n).st = .done) (unbound : s.replayBound n = false)
  (calm : ∀ e ∈ s.strd.strands, e.2.releasing = none)
include h idle unbound calm

/-- A REWIND that is taken waits for the frames of its strand, if there are any. -/
theorem regRewind_eq : ∃ t : State, t.strd = { (s.given 8).clearing n false |>.strd with go := true, waitStrand := n } ∧
    s.regRewind = if s.framesGone n then (t.emptied n).strdDone n 0 else t := by
  obtain ⟨clus, clears⟩ := clearStrand_of_idle (s := s.given 8) idle unbound false
  have begun : s.strdCommand 8 [.memory, .stream] (fun n s => s.clearStrand n false) =
      { (s.given 8).clearing n false with clus, strd.go := true, strd.waitStrand := n } := by
    rw [strdCommand_takes h, clears]
    rfl
  have waits := find?_clearing (s := s.given 8) calm n
  refine ⟨{ (s.given 8).clearing n false with clus, strd.go := true, strd.waitStrand := n }, rfl, ?_⟩
  rw [State.regRewind, begun, State.rewindSync]
  simp only [waits]
  rfl

theorem rewind_empties (gone : s.framesGone n = true) : answers .rewind s fun t => (t.strand n).st = .idle ∧ (t.strand n).wpunit = 0 ∧
    (t.strand n).wpword = 0 ∧ (t.strand n).releasing = none ∧ (t.strand n).hbase = (s.strand n).hbase ∧ strdOk t 8 := by
  obtain ⟨t, strd, rewinds⟩ := regRewind_eq h idle unbound calm
  rw [if_pos gone] at rewinds
  have cleared : t.strand n = { s.strand n with releasing := some false } :=
    (strand_of_strands (by rw [strd]) n).trans (clearing_strand (s.given 8) n false)
  have op : (t.emptied n).strd.op = 8 := (capture_dropHank t n).op.trans (by rw [strd]; rfl)
  refine (answers_completed ((exec_rewind_up h.1).trans (congrArg finish rewinds))).imp fun u completed => ?_
  rw [completed.strand, emptied_strand, cleared]
  exact ⟨rfl, rfl, rfl, rfl, rfl, completed.ok op⟩

theorem rewind_waits (staged : s.framesGone n = false) :
    answers .rewind s fun t => (t.strand n).releasing = some false ∧ t.strd.go = true := by
  obtain ⟨t, strd, rewinds⟩ := regRewind_eq h idle unbound calm
  rw [staged, if_neg Bool.false_ne_true] at rewinds
  have cleared : t.strand n = { s.strand n with releasing := some false } :=
    (strand_of_strands (by rw [strd]) n).trans (clearing_strand (s.given 8) n false)
  refine answers_of_finish ((exec_rewind_up h.1).trans (congrArg finish rewinds)) ?_
  rw [State.strand, settle_strd, ← State.strand, cleared, strd]
  exact ⟨rfl, rfl⟩

end

end Sys2Proof.Machine
end

section
namespace Sys2Proof.Machine

/-- Settles O44: a command that is taken is performed on the strand of SEL and completes, is refused or goes on (`answers_ends`,
`answers_refuses`, `answers_goes`); what it does to the strand is one change (`alloc_of_fits`, `config_of_idle`, `clearStrand_of_idle`), and a
hank that is dropped leaves the strands as they are (`capture_dropHank`). -/
theorem strandAllocation : Obligations.StrandAllocation := by
  unfold Obligations.StrandAllocation
  refine ⟨?alloc, ?refused, ?adopted, ?config, ?rewind, ?release, ?released, ?unknown⟩
  case alloc =>
    intro s n adopt h free valid inside unlocked apart room
    constructor
    · rintro rfl
      exact alloc_makes h free valid inside unlocked apart room
    · rintro rfl
      exact alloc_adopts h free valid inside unlocked apart room
  case refused => exact fun s n adopt h empty =>
    ⟨fun taken => alloc_refuses h empty (by decide) (alloc_of_taken taken),
      fun free invalid => alloc_refuses h empty (by decide) (alloc_of_invalid free invalid)⟩
  case adopted =>
    intro s n adopting
    obtain ⟨t, rebuild, e⟩ := exec_allocAdoptComplete adopting
    refine (answers_completed e).imp fun u completed => ?_
    rw [completed.strand, completed.strd]
    exact ⟨rfl, adopted_idle t n rebuild, rfl, rfl, completed.done⟩
  case config =>
    rintro s n _ h idle unbound rfl valid
    have configures := config_of_idle (s := s.given 2) idle unbound valid
    refine (answers_ends (exec_config_up h.1) h configures).imp fun u completed => ⟨?_, completed.ok rfl, rfl, rfl⟩
    rw [completed.strand]
    exact strand_modStrand_same ..
  case rewind => exact fun s n h idle unbound calm =>
    ⟨fun gone => rewind_empties h idle unbound calm gone, fun staged => rewind_waits h idle unbound calm staged⟩
  case release =>
    intro s n h idle unbound
    obtain ⟨clus, clears⟩ := clearStrand_of_idle (s := s.given 9) idle unbound true
    refine (answers_goes (exec_release_up h.1) h clears).imp fun u strd => ⟨?_, ?_, ?_⟩
    · rw [strand_of_strands (s := (s.given 9).clearing n true) (by rw [strd]), clearing_strand]
    · rw [strd]
    · rw [strd]
      rfl
  case released =>
    intro s n x waits gone
    refine (answers_completed (exec_releaseComplete waits gone)).imp fun u completed => ?_
    rw [completed.strand, completed.strd]
    exact ⟨freed_strand s n, freed_timed s n, rfl, rfl, completed.done⟩
  case unknown =>
    intro s op up idle unknown empty
    have e : s.regStrdUnknownOp op = (s.given (op % 16)).strdDone (fld s.strd.sel 0 18) 7 :=
      (if_neg (by simpa [up.1] using unknown)).trans (if_neg (by simp [idle]))
    exact (answers_refused ((exec_strdUnknownOp_up up op).trans (congrArg finish e)) (by decide) (sel_lt _) empty).imp fun u refused =>
      ⟨refused.result, refused.code, refused.strands⟩

end Sys2Proof.Machine
end

section
/-!
SUPPORT. Triggers for many strands in one cycle, and the trigger lines (12_capture.md R530 to R536; 20_cohort_and_time.md R801, R803).
-/
namespace Sys2Proof.Machine

variable {s t : State} {n m src ts : Nat} {inRecord : Bool}

/-! ### A strand among those offered a trigger (R530, R531, R533) -/

/-- The strand runs, or is armed for a source. -/
def Strand.awaits (x : Strand) (src : Nat) : Prop := x.st = .running ∨ (x.st = .armed ∧ x.srcen.testBit src = true)

theorem offer_strand (s : State) (m src ts : Nat) (inRecord : Bool) (n : Nat) : (s.offer m src ts inRecord).1.strand n = s.strand n ∨
    (s.offer m src ts inRecord).1.strand n = (s.strand n).triggered inRecord := by
  unfold State.offer
  dsimp only
  split
  · exact .inl rfl
  · split
    · by_cases same : n = m
      · subst same
        exact .inr ((acceptTrigger_strand ..).trans (strand_modStrand_same ..))
      · exact .inl ((acceptTrigger_strand ..).trans (strand_modStrand_other s _ same))
    · exact .inl rfl

/-- A strand that awaits a source still does, or runs, whatever trigger is offered to whatever strand. -/
theorem offer_awaits (h : (s.strand n).awaits src) (m other ts : Nat) (inRecord : Bool) :
    ((s.offer m other ts inRecord).1.strand n).awaits src := by
  obtain same | triggered := offer_strand s m other ts inRecord n
  · rwa [same]
  · rw [triggered]
    exact .inl rfl

theorem spread_awaits (h : (s.strand n).awaits src) (ts : Nat) (l : List Nat) (fuel : Nat) : ((s.spread ts l fuel).strand n).awaits src := by
  induction fuel generalizing s l with
  | zero => unfold State.spread; exact h
  | succ fuel ih =>
    cases l with
    | nil => exact h
    | cons m l =>
      have kept := offer_awaits h m 3 ts false
      rw [State.spread]
      split
      · next e => exact ih (by rwa [e] at kept) _
      · next e => exact ih (by rwa [e] at kept) _

/-- One strand's part of a trigger: it is offered it, and hands it on where it accepts it. -/
def State.triggerOne (src ts : Nat) (inRecord : Bool) (s : State) (n : Nat) : State :=
  match s.offer n src ts inRecord with
  | (s, true) => s.spread ts (s.followers n) (s.strd.strands.length * s.strd.strands.length + 1)
  | (s, false) => s

theorem trigger_cons (s : State) (m : Nat) (ns : List Nat) (src ts : Nat) (inRecord : Bool) :
    s.trigger (m :: ns) src ts inRecord = (s.triggerOne src ts inRecord m).trigger ns src ts inRecord := rfl

theorem triggerOne_awaits {other : Nat} (h : (s.strand n).awaits src) (m : Nat) : ((s.triggerOne other ts inRecord m).strand n).awaits src := by
  have kept := offer_awaits h m other ts inRecord
  unfold State.triggerOne
  split
  · next e => exact spread_awaits (by rwa [e] at kept) ..
  · next e => rwa [e] at kept

theorem triggerOne_runs (armed : (s.strand n).st = .armed) (enabled : (s.strand n).srcen.testBit src = true) :
    ((s.triggerOne src ts inRecord n).strand n).st = .running := by
  have runs := (trigger_runs s armed enabled ts inRecord).1
  exact (congrArg Strand.st runs).trans rfl

theorem triggerOne_running {other : Nat} (running : (s.strand n).st = .running) (m : Nat) :
    ((s.triggerOne other ts inRecord m).strand n).st = .running := by
  have kept := offer_strand_running running m other ts inRecord
  unfold State.triggerOne
  split
  · next e =>
    rw [e] at kept
    rw [spread_strand_running (by rw [kept, running]), kept, running]
  · next e =>
    rw [e] at kept
    rw [kept, running]

theorem trigger_running (running : (s.strand n).st = .running) (ns : List Nat) : ((s.trigger ns src ts inRecord).strand n).st = .running := by
  induction ns generalizing s with
  | nil => exact running
  | cons m ns ih => rw [trigger_cons]; exact ih (triggerOne_running running m)

/-- Of the strands offered a trigger, each that awaits its source runs. -/
theorem trigger_runs_of_mem {ns : List Nat} (listed : n ∈ ns) (h : (s.strand n).awaits src) :
    ((s.trigger ns src ts inRecord).strand n).st = .running := by
  induction ns generalizing s with
  | nil => exact absurd listed List.not_mem_nil
  | cons m ns ih =>
    rw [trigger_cons]
    obtain rfl | later := List.mem_cons.1 listed
    · refine trigger_running ?_ ns
      obtain running | ⟨armed, enabled⟩ := h
      · exact triggerOne_running running n
      · exact triggerOne_runs armed enabled
    · exact ih later (triggerOne_awaits h m)

/-- A strand that is not FREE is listed in the table. -/
theorem mem_strands_of_st (other : (s.strand n).st ≠ .free) : (n, s.strand n) ∈ s.strd.strands :=
  (tget_eq_or_mem Strand.reset n s.strd.strands).resolve_left fun same => other (congrArg Strand.st same)

/-! ### TRIG_IN (R803) -/

/-- The strands that enable TRIG_IN. -/
def State.lineStrands (s : State) : List Nat := (s.strd.strands.filter fun e => e.2.st ≠ .free && e.2.srcen.testBit 1).map (·.1)

theorem mem_lineStrands (armed : (s.strand n).st = .armed) (enabled : (s.strand n).srcen.testBit 1 = true) : n ∈ s.lineStrands := by
  have listed : (n, s.strand n) ∈ s.strd.strands := mem_strands_of_st (by rw [armed]; decide)
  exact List.mem_map.2 ⟨_, List.mem_filter.2 ⟨listed, by simp [armed, enabled]⟩, rfl⟩

/-- An edge is counted and reported. -/
def State.edgeCounted (s : State) (frac : Nat) : State :=
  State.cause { s with coht.lastIn := some (4 * s.now + frac % 4), coht.trigIn := satInc 16 s.coht.trigIn } .coht 5

theorem edgeCounted_coht (s : State) (frac : Nat) : (s.edgeCounted frac).coht =
    { s.coht with lastIn := some (4 * s.now + frac % 4), trigIn := satInc 16 s.coht.trigIn } := cause_coht ..
theorem edgeCounted_strd (s : State) (frac : Nat) : (s.edgeCounted frac).strd = s.strd := cause_strd ..
theorem edgeCounted_strand (s : State) (frac m : Nat) : (s.edgeCounted frac).strand m = s.strand m := strand_of_strands (by rw [edgeCounted_strd]) m
theorem edgeCounted_sets (s : State) (frac : Nat) : hasCause (s.edgeCounted frac) .coht 5 := hasCause_cause_sets (silent_of_fixed _ rfl) ..

/-- The instant of an edge, less the line's calibrated delay. -/
def State.edgeStamp (s : State) (frac : Nat) : Nat :=
  (s.cohort + frac % 4 + 2 ^ 66 - fld s.coht.trigcfg 20 16) % 2 ^ 66 + (if s.coht.running then 0 else 2 ^ 79)

section
variable {frac : Nat} (on : s.on .coht) (unmasked : ¬(wbit s.coht.trigcfg 39 = true ∧ s.coht.outHigh = true))
include on unmasked

/-- An edge outside the hold-off. -/
theorem exec_trigInEdge_counts (outside : ∀ u, s.coht.lastIn = some u → u + s.coht.holdoff ≤ 4 * s.now + frac % 4) :
    exec (.trigInEdge frac) s = finish (if s.sysc.mode = .stream then
      (s.edgeCounted frac).trigger (s.edgeCounted frac).lineStrands 1 (s.edgeStamp frac) false else s.edgeCounted frac) := by
  have held : (s.coht.lastIn.any fun t => decide (4 * s.now + frac % 4 < t + s.coht.holdoff)) = false := by
    cases last : s.coht.lastIn with
    | none => rfl
    | some u => simpa using outside u last
  have mode : (s.edgeCounted frac).sysc.mode = s.sysc.mode := congrArg (·.mode) (cause_sysc ..)
  refine congrArg finish ((if_neg ?_).trans ?_)
  · simpa [show (s.hdr .coht).ready = true from on, held] using unmasked
  · rw [← mode]
    rfl

/-- The edge reaches every armed strand that enables the line, in STREAM. -/
theorem trigInEdge_triggers (outside : ∀ u, s.coht.lastIn = some u → u + s.coht.holdoff ≤ 4 * s.now + frac % 4)
    (mode : s.sysc.mode = .stream) : answers (.trigInEdge frac) s fun t =>
      t.coht.trigIn = satInc 16 s.coht.trigIn ∧ t.coht.lastIn = some (4 * s.now + frac % 4) ∧ hasCause t .coht 5 ∧
        ∀ n, (s.strand n).st = .armed → (s.strand n).srcen.testBit 1 = true → (t.strand n).st = .running := by
  have capture := (Capture.refl Strand.place (s.edgeCounted frac)).trigger (ns := (s.edgeCounted frac).lineStrands) (src := 1)
    (ts := s.edgeStamp frac) (inRecord := false)
  have port := (Port.refl (s.edgeCounted frac)).trigger (ns := (s.edgeCounted frac).lineStrands) (src := 1) (ts := s.edgeStamp frac)
    (inRecord := false)
  refine answers_of_finish ((exec_trigInEdge_counts on unmasked outside).trans (congrArg finish (if_pos mode))) ?_
  rw [settle_coht, capture.trigIn, capture.lastIn, edgeCounted_coht]
  refine ⟨rfl, rfl, hasCause_settle (by decide) (port.causes (edgeCounted_sets s frac)), fun n armed enabled => ?_⟩
  rw [← edgeCounted_strand s frac] at armed enabled
  rw [strand_of_strands (congrArg (·.strands) (settle_strd _)) n]
  exact trigger_runs_of_mem (mem_lineStrands armed enabled) (.inr ⟨armed, enabled⟩)

theorem trigInEdge_only_counts (outside : ∀ u, s.coht.lastIn = some u → u + s.coht.holdoff ≤ 4 * s.now + frac % 4)
    (mode : s.sysc.mode ≠ .stream) : answers (.trigInEdge frac) s fun t =>
      t.coht.trigIn = satInc 16 s.coht.trigIn ∧ t.coht.lastIn = some (4 * s.now + frac % 4) ∧ hasCause t .coht 5 ∧ t.strd = s.strd := by
  refine answers_of_finish ((exec_trigInEdge_counts on unmasked outside).trans (congrArg finish (if_neg mode))) ?_
  rw [settle_coht, settle_strd, edgeCounted_coht, edgeCounted_strd]
  exact ⟨rfl, rfl, hasCause_settle (by decide) (edgeCounted_sets s frac), rfl⟩

end

theorem exec_trigInEdge_held {frac u : Nat} (last : s.coht.lastIn = some u) (inside : 4 * s.now + frac % 4 < u + s.coht.holdoff) :
    exec (.trigInEdge frac) s = finish s := congrArg finish (if_pos (by simp [last, inside]))

/-! ### TRIG_OUT (R801) -/

theorem exec_trigOutRise_due {u : Nat} {rest : List Nat} (rises : s.coht.outRise = u :: rest) (due : u ≤ s.cohort) : exec .trigOutRise s =
    finish { s with coht := { s.coht with outRise := rest, outHigh := true, outStart := u, outEver := true } } := by
  show execTrigOutRise s = _
  rw [execTrigOutRise, rises]
  exact congrArg finish (if_pos due)

end Sys2Proof.Machine
end

section
namespace Sys2Proof.Machine

/-- Settles O49: an edge outside the hold-off is counted and offered to every strand that enables the line (`exec_trigInEdge_counts`), of which
each that is armed runs (`trigger_runs_of_mem`), and the triggers leave the count as it is (`Capture.trigger`); TRIG_OUT's two events are one
change each. -/
theorem triggerLines : Obligations.TriggerLines := by
  unfold Obligations.TriggerLines
  refine ⟨fun s frac on unmasked => ⟨fun outside => ?counted, fun u quiet last inside => ?held⟩, ?rise, ?pulseEnd⟩
  case counted =>
    by_cases mode : s.sysc.mode = .stream
    · exact (trigInEdge_triggers on unmasked outside mode).imp fun t ⟨trigIn, lastIn, cause, runs⟩ =>
        ⟨trigIn, lastIn, cause, fun other => absurd mode other, fun _ => runs⟩
    · exact (trigInEdge_only_counts on unmasked outside mode).imp fun t ⟨trigIn, lastIn, cause, same⟩ =>
        ⟨trigIn, lastIn, cause, fun _ => same, fun inside => absurd inside mode⟩
  case held => exact answers_of_finish_settled (exec_trigInEdge_held last inside) quiet rfl
  case rise => exact fun s u rest quiet rises due => answers_of_finish_settled (exec_trigOutRise_due rises due) quiet rfl
  case pulseEnd =>
    exact fun s quiet high ends => answers_of_finish_settled (congrArg finish (if_pos (by simp [high, ends]))) quiet rfl

end Sys2Proof.Machine
end

section
/-!
SUPPORT. Strands armed, stopped and triggered by command, and records ended by one (12_capture.md R487, R490, R517, R525, R530, R534).
-/
namespace Sys2Proof.Machine

variable {s t : State} {n src ts : Nat} {e : EndFlags}

/-! ### A record that ends is open no longer (R497, R517) -/

/-- The commit of a record leaves open what is open. -/
theorem commitSync_opened (s : State) (m n : Nat) : ((s.commitSync m).strand n).opened = (s.strand n).opened :=
  congrArg Prod.fst ((capture_commitSync s m).strand n)

theorem pushCommit_opened (s : State) (k : Commit) (n : Nat) : ((s.pushCommit k).strand n).opened = (s.strand n).opened :=
  (Capture.refl Strand.opened s).pushCommit.strand n

theorem closeRecord_opened (whole : e.split = false) (s : State) (n : Nat) : ((s.closeRecord n e).strand n).opened = false := by
  unfold State.closeRecord
  dsimp only
  split
  · next closed => simpa using closed
  · split
    · rw [strand_modStrand_same]
      exact whole
    · rw [commitSync_opened, pushCommit_opened, whole, if_neg Bool.false_ne_true, strand_modStrand_same]

/-- A strand that is DONE closes a record again only where one is open, which none is once it closed whole. -/
theorem closeAgain_opened (whole : e.split = false) (s : State) (n : Nat) :
    ((if ((s.closeRecord n e).strand n).st = .done && ((s.closeRecord n e).strand n).opened then (s.closeRecord n e).closeRecord n { trunc := true }
      else s.closeRecord n e).strand n).opened = false := by
  rw [closeRecord_opened whole, Bool.and_false, if_neg Bool.false_ne_true, closeRecord_opened whole]

/-- A record ended otherwise than by a split leaves none open. -/
theorem endRecord_opened (whole : e.split = false) (s : State) (n : Nat) : ((s.endRecord n e).strand n).opened = false :=
  closeAgain_opened whole ..

/-- Of a hank in another mode than FILL no tail is padded. -/
theorem fillTail_of_mode (other : (s.strand n).mode ≠ 1) : s.fillTail n = s := if_neg (by simp [other])

/-! ### What each command does (R487, R490, R525, R530, R534) -/

theorem armed_armedFor (x : Strand) (time : Nat) : (x.armed time).armedFor time := ⟨rfl, rfl, rfl, rfl, rfl, rfl, rfl⟩

theorem stop_of_live (active : (s.strand n).live = true ∨ (s.strand n).st = .scheduled) : s.stop n = (s.stopStrand n, some 0) :=
  if_pos (by simpa using active)

theorem modStrand_op_timed (s : State) (n : Nat) (f : Strand → Strand) (l : List TimedTrig) :
    { s.modStrand n f with strd.timed := l }.strd.op = s.strd.op := rfl

theorem stopStrand_op (s : State) (n : Nat) : (s.stopStrand n).strd.op = s.strd.op := by
  have ended : Capture Strand.place s (s.endRecord n { trunc := true }) := (Capture.refl _ s).endRecord
  exact (modStrand_op_timed ..).trans ended.op

/-- A trigger that a strand takes only in ARMED is counted as ignored. -/
theorem trigger_ignored (other : (s.strand n).st ≠ .armed) (enabled : (s.strand n).srcen.testBit src = true) :
    s.trigger [n] src ts false = { s with strd.trigIgn := satInc 20 s.strd.trigIgn } := by
  have ignored : s.offer n src ts false = ({ s with strd.trigIgn := satInc 20 s.strd.trigIgn }, false) := by
    simp [State.offer, enabled, other]
  rw [State.trigger, List.foldl_cons, List.foldl_nil, ignored]

theorem timedTrig_of_room {time : Nat} (used : (s.strand n).st ≠ .free) (running : time ≠ 0 → s.coht.running = true)
    (room : s.timedUsed < 4096) :
    s.timedTrig n time = ({ s with strd.timed := s.strd.timed ++ [{ at_ := time, strand := n }] }, some 0) :=
  (if_neg used).trans ((if_neg (by simpa using running)).trans (if_neg (Nat.not_le.2 room)))

/-! ### The commands (R541) -/

section
variable (h : s.strdTakes [.stream] n)
include h

theorem strandArm_arms (may : s.canArm n s.strd.time) : answers .strandArm s fun t =>
    (t.strand n).armedFor s.strd.time ∧ strdOk t 3 ∧ ∀ m, m ≠ n → t.strand m = s.strand m := by
  have arms := arm_of_canArm (s := s.given 3) may
  refine (answers_ends (exec_strandArm_up h.1) h arms).imp fun u completed => ⟨?_, completed.ok rfl, fun m other => ?_⟩
  · rw [completed.strand, strand_modStrand_same]
    exact armed_armedFor ..
  · rw [completed.strand]
    exact strand_modStrand_other _ _ other

theorem strandStop_stops (active : (s.strand n).live = true ∨ (s.strand n).st = .scheduled) : answers .strandStop s fun t =>
    (t.strand n).st = .idle ∧ (t.strand n).armAt = none ∧ (t.strand n).opened = false ∧
      (∀ x ∈ t.strd.timed, x.strand ≠ n) ∧ strdOk t 4 := by
  have stops := stop_of_live (s := s.given 4) active
  obtain ⟨idle, unscheduled, closed⟩ := stopStrand_strand (s.given 4) n
  refine (answers_ends (exec_strandStop_up h.1) h stops).imp fun u completed => ?_
  rw [completed.strand, completed.timed]
  exact ⟨idle, unscheduled, closed, stopStrand_timed _ _, completed.ok (stopStrand_op ..)⟩

/-- TRIGGER on a strand that is not FREE. -/
theorem trigger_performed (used : (s.strand n).st ≠ .free) :
    answers .trigger s (Completed ((s.given 5).trigger [n] 4 (s.given 5).stamp false)) :=
  answers_ends (exec_trigger_up h.1) h (if_neg used)

theorem trigger_runs_armed (armed : (s.strand n).st = .armed) (enabled : (s.strand n).srcen.testBit 4 = true) : answers .trigger s fun t =>
    (t.strand n).st = .running ∧ (t.strand n).trigUnit = (s.strand n).wpunit ∧ hasCause t .strd 2 ∧ strdOk t 5 := by
  obtain ⟨strand, accepted⟩ := trigger_runs (s.given 5) armed enabled (s.given 5).stamp false
  have capture := (Capture.refl Strand.place (s.given 5)).trigger (ns := [n]) (src := 4) (ts := (s.given 5).stamp) (inRecord := false)
  refine (trigger_performed h (by rw [armed]; decide)).imp fun u completed => ?_
  rw [completed.strand, strand]
  exact ⟨rfl, rfl, completed.causes accepted, completed.ok capture.op⟩

theorem trigger_counts_ignored (other : (s.strand n).st ≠ .armed) (used : (s.strand n).st ≠ .free)
    (enabled : (s.strand n).srcen.testBit 4 = true) : answers .trigger s fun t =>
      t.strd.trigIgn = satInc 20 s.strd.trigIgn ∧ t.strd.strands = s.strd.strands ∧ strdOk t 5 := by
  have ignored := trigger_ignored (s := s.given 5) (ts := (s.given 5).stamp) other enabled
  have performed := trigger_performed h used
  rw [ignored] at performed
  refine performed.imp fun u completed => ⟨?_, completed.strands, completed.ok rfl⟩
  rw [completed.strd]
  rfl

theorem timedtrig_lists (used : (s.strand n).st ≠ .free) (running : s.strd.time ≠ 0 → s.coht.running = true) (room : s.timedUsed < 4096) :
    answers .timedtrig s fun t => t.strd.timed = s.strd.timed ++ [{ at_ := s.strd.time, strand := n }] ∧ strdOk t 6 ∧
      t.strd.strands = s.strd.strands := by
  have lists := timedTrig_of_room (s := s.given 6) used running room
  exact (answers_ends (exec_timedtrig_up h.1) h lists).imp fun u completed => ⟨completed.timed, completed.ok rfl, completed.strands⟩

theorem droprem_ends (live : (s.strand n).live = true) :
    answers .droprem s fun t => strdOk t 7 ∧ ((s.strand n).mode ≠ 1 → (t.strand n).opened = false) := by
  have ended : Capture Strand.place (s.given 7) ((s.given 7).endRecord n { dropped := true }) := (Capture.refl _ _).endRecord
  refine (answers_ends (exec_droprem_up h.1) h (if_pos live)).imp fun u completed => ⟨completed.ok ended.fillTail.op, fun other => ?_⟩
  have mode : (((s.given 7).endRecord n { dropped := true }).strand n).mode = (s.strand n).mode := congrArg Prod.fst (ended.strand n)
  rw [completed.strand, fillTail_of_mode (by rwa [mode])]
  exact endRecord_opened rfl ..

end

end Sys2Proof.Machine
end

section
namespace Sys2Proof.Machine

/-- Settles O45: each command is taken, found busy or refused in the same way (`answers_ends`, `answers_busy`, `answers_otherMode`), and records
and triggers leave the command that is given as it is (`Capture.endRecord`, `Capture.trigger`). -/
theorem strandCommands : Obligations.StrandCommands := by
  unfold Obligations.StrandCommands
  refine ⟨fun s n h may => strandArm_arms h may, fun s n h active => strandStop_stops h active, ?trigger,
    fun s n h used running room => timedtrig_lists h used running room, fun s n h live => droprem_ends h live, ?refused⟩
  case trigger => exact fun s n h =>
    ⟨fun armed enabled => trigger_runs_armed h armed enabled, fun other used enabled => trigger_counts_ignored h other used enabled⟩
  case refused =>
    intro s c op up _ empty kind
    obtain ⟨f, e⟩ : ∃ f, exec c s = finish (s.strdCommand op [.stream] f) := by
      obtain ⟨rfl, rfl⟩ | ⟨rfl, rfl⟩ | ⟨rfl, rfl⟩ | ⟨rfl, rfl⟩ | ⟨rfl, rfl⟩ := kind
      · exact ⟨_, exec_strandArm_up up⟩
      · exact ⟨_, exec_strandStop_up up⟩
      · exact ⟨_, exec_trigger_up up⟩
      · exact ⟨_, exec_timedtrig_up up⟩
      · exact ⟨_, exec_droprem_up up⟩
    exact ⟨fun busy => answers_busy e up.1 empty busy, fun idle outside =>
      (answers_otherMode e up.1 empty idle (by simpa using outside)).imp fun u refused =>
        ⟨refused.result, refused.op, refused.code, refused.strands⟩⟩

end Sys2Proof.Machine
end

section
/-!
SUPPORT. Arm times and timed triggers as they fall due, the filters and the trigger log, seals, and index lines rebuilt (12_capture.md R487, R509,
R519, R534, R535, R540).
-/
namespace Sys2Proof.Machine

variable {s s₀ t : State} {n p c u : Nat} {b : Block} {v : Word}

/-! ### Times that fall due (R487, R534) -/

theorem exec_armTimeReached_due (scheduled : (s.strand n).st = .scheduled) (mode : s.sysc.mode = .stream) (armAt : (s.strand n).armAt = some u)
    (due : u ≤ s.cohortNs) : exec (.armTimeReached n) s = finish (s.modStrand n fun x => { x with st := .armed, armAt := none }) :=
  congrArg finish (if_pos (by simp [scheduled, mode, armAt, due]))

/-- The state without a timed trigger. -/
def State.untimed (s : State) (x : TimedTrig) : State := { s with strd.timed := s.strd.timed.erase x }

section
variable {x : TimedTrig} (due : s.dueTimed = some x)
include due

theorem exec_timedTriggerDue_due : exec .timedTriggerDue s = finish (if (s.strand x.strand).st = .armed then
    (s.untimed x).trigger [x.strand] 2 (x.at_ * 4 + if s.coht.running then 0 else 2 ^ 79) false
    else { s.untimed x with strd.trigIgn := satInc 20 s.strd.trigIgn }) := by
  show execTimedTriggerDue s = _
  rw [execTimedTriggerDue, due]
  rfl

theorem timedTriggerDue_runs (armed : (s.strand x.strand).st = .armed) (enabled : (s.strand x.strand).srcen.testBit 2 = true) :
    answers .timedTriggerDue s fun t =>
      (t.strand x.strand).st = .running ∧ t.strd.timed = s.strd.timed.erase x ∧ hasCause t .strd 2 := by
  obtain ⟨strand, accepted⟩ := trigger_runs (s.untimed x) armed enabled (x.at_ * 4 + if s.coht.running then 0 else 2 ^ 79) false
  have capture := (Capture.refl Strand.place (s.untimed x)).trigger (ns := [x.strand]) (src := 2)
    (ts := x.at_ * 4 + if s.coht.running then 0 else 2 ^ 79) (inRecord := false)
  refine answers_of_finish ((exec_timedTriggerDue_due due).trans (congrArg finish (if_pos armed))) ?_
  rw [settle_strd, strand_of_strands (congrArg (·.strands) (settle_strd _)), strand]
  exact ⟨rfl, capture.timed, hasCause_settle (by decide) accepted⟩

end

/-! ### Filters and the trigger log (R519, R535) -/

section
variable (up : s.up .strd)
include up

theorem exec_filterWrite_up (v : Word) : exec (.filterWrite v) s = finish (s.regFilterWrite v) := congrArg finish (reg_awake up.2 ..)

/-- The words 0 to 7 of a filter are stored whole. -/
theorem regFilterWrite_whole (word : fld s.strd.fsel 12 4 < 8) (v : Word) : s.regFilterWrite v =
    { s with strd.filters := tput 0 s.strd.filters (16 * fld s.strd.fsel 0 12 + fld s.strd.fsel 12 4) v } := by
  have at_ : min 8 (fld s.strd.fsel 12 4) = fld s.strd.fsel 12 4 := by omega
  rw [State.regFilterWrite, at_, if_neg (Nat.ne_of_lt word)]
  exact if_pos up.1

/-- The words above stand for word 8, of which bit 0 is kept. -/
theorem regFilterWrite_last (word : 8 ≤ fld s.strd.fsel 12 4) (v : Word) : s.regFilterWrite v =
    { s with strd.filters := tput 0 s.strd.filters (16 * fld s.strd.fsel 0 12 + 8) (keep v 1) } := by
  rw [State.regFilterWrite, Nat.min_eq_left word, if_pos rfl]
  exact if_pos up.1

theorem exec_triggerLogPop_up : exec .triggerLogPop s = finish { s with strd.trigLog := s.strd.trigLog.drop 1 } :=
  congrArg finish ((reg_awake up.2 ..).trans (if_pos up.1))

end

/-! ### Seals (R509) -/

/-- The filling crucible of a pipe with its open records split and its pages padded. -/
def State.pipePadded (s : State) (p : Nat) : State :=
  (s.pipeStrands p).foldl State.padPage
    ((s.pipeStrands p).foldl (fun s n => if (s.strand n).opened && !(s.strand n).resume then s.endRecord n { split := true } else s) s)

theorem capture_pipePadded (s : State) (p : Nat) : Capture Strand.place s (s.pipePadded p) :=
  ((Capture.refl _ s).foldl fun h => .when h fun h => h.endRecord).foldl fun h => h.padPage

/-- The crucible sealed, and counted. -/
def Pipe.sealFilling (q : Pipe) : Pipe :=
  { q.modCruc q.filling fun l => l.map fun f => { f with sealed := true } with seals := satInc 20 q.seals, since := none, sealwait := true }

/-- What follows a seal: the pipe moves to its other crucible where it can, and the frames are driven. -/
def State.sealed (s : State) (p : Nat) : State :=
  ((if ((s.movePipe p).pipe p).sealwait then (s.movePipe p).cause (.ingp p) 1 else s.movePipe p).drivePipe p).holdSync p

theorem Capture.sealed (h : Capture Strand.place s₀ s) : Capture Strand.place s₀ (s.sealed p) :=
  (Capture.ite h.movePipe.cause h.movePipe).drivePipe.holdSync

section
variable (free : (s.pipe p).sealwait = false) (unsealed : ((s.pipe p).cruc (s.pipe p).filling).all (·.sealed) = false)
include free unsealed

theorem sealPipe_of_unsealed : s.sealPipe p = ((s.pipePadded p).modPipe p Pipe.sealFilling).sealed p := if_neg (by simp [free, unsealed])

theorem sealPipe_counts : ((s.sealPipe p).pipe p).seals = satInc 20 (s.pipe p).seals := by
  have padded := (capture_pipePadded s p).seals p
  have counted : ((((s.pipePadded p).modPipe p Pipe.sealFilling)).pipe p).seals = satInc 20 ((s.pipePadded p).pipe p).seals := by
    rw [pipe_modPipe_same]
    rfl
  rw [sealPipe_of_unsealed free unsealed, (Capture.refl Strand.place _).sealed.seals p, counted, padded]

end

theorem exec_sealIntervalExpired_due (inside : p < 4) (since : (s.pipe p).since = some u)
    (expired : u + max 10 (fld (s.pipe p).ctrl 2 14) * 1000 ≤ s.now) : exec (.sealIntervalExpired p) s = finish (s.sealPipe p) :=
  congrArg finish (if_pos (by simp [inside, since, expired]))

/-! ### Index lines rebuilt (R540) -/

theorem captured_cause_keeps {code addr : Nat} (bit sev : Nat) (h : captured s b code addr) : captured (s.cause b bit sev) b code addr := by
  obtain ⟨valid, ecode, eaddr, err⟩ := h
  unfold captured
  rw [cause_hdr_same]
  split
  · exact ⟨valid, ecode, eaddr, err⟩
  · exact ⟨valid, ecode, eaddr, by rw [Nat.testBit_or, err, Bool.true_or]⟩

/-- The index line of a unit rebuilt, which waits for it no longer. -/
def State.idxRebuilt (s : State) (c : Nat) : State :=
  { s with strd.idx := tput IdxLine.reset s.strd.idx c (s.walkSlots c { s.idxLine c with e := [] } 0 unitWords)
           strd.rebuild := without s.strd.rebuild c }

/-- The line's error reported, where no rebuild was wanted of a line that is not empty. -/
def State.idxReported (s : State) (c : Nat) : State :=
  if decide (c ∈ s.strd.rebuild) || (s.idxLine c).e.isEmpty then s.idxRebuilt c else (s.idxRebuilt c).error .strd 0x41 c

/-- The end of the rebuilds reported. -/
def State.rebuildEnd (s : State) : State := if s.strd.rebuild.isEmpty then s.cause .strd 5 else s

theorem idxReported_strd (s : State) (c : Nat) : (s.idxReported c).strd = (s.idxRebuilt c).strd := by
  unfold State.idxReported
  split
  · rfl
  · exact error_strd ..

theorem rebuildEnd_strd (s : State) : s.rebuildEnd.strd = s.strd := by
  unfold State.rebuildEnd
  split
  · exact cause_strd ..
  · rfl

theorem rebuildEnd_sets (last : s.strd.rebuild.isEmpty = true) : hasCause s.rebuildEnd .strd 5 := by
  rw [State.rebuildEnd, if_pos last]
  exact hasCause_cause_sets (silent_of_fixed _ rfl) ..

theorem rebuildEnd_captured {code addr : Nat} (h : captured s .strd code addr) : captured s.rebuildEnd .strd code addr := by
  unfold State.rebuildEnd
  split
  · exact captured_cause_keeps _ _ h
  · exact h

theorem idxReported_captured (small : c < 2 ^ 28) (unwanted : c ∉ s.strd.rebuild) (held : (s.idxLine c).e ≠ [])
    (empty : (s.hdr .strd).evalid = false) : captured (s.idxReported c) .strd 0x41 c := by
  rw [State.idxReported, if_neg (by simp [unwanted, held])]
  exact captured_error (silent_of_fixed _ rfl) empty (by decide) small

theorem unit_lt_addr (known : c < unitCount) : c < 2 ^ 28 := Nat.lt_trans known (by decide)

theorem exec_indexRebuildComplete_known (on : s.on .strd) (known : c < unitCount) :
    exec (.indexRebuildComplete c) s = finish (s.idxReported c).rebuildEnd :=
  congrArg finish (if_neg (by simp [show (s.hdr .strd).ready = true from on, known]))

theorem indexRebuildComplete_rebuilds (on : s.on .strd) (known : c < unitCount) : answers (.indexRebuildComplete c) s fun t =>
    t.strd.rebuild = without s.strd.rebuild c ∧ t.idxLine c = s.walkSlots c { s.idxLine c with e := [] } 0 unitWords ∧
      ((without s.strd.rebuild c).isEmpty = true → hasCause t .strd 5) ∧
      (c ∉ s.strd.rebuild → (s.idxLine c).e ≠ [] → (s.hdr .strd).evalid = false → captured t .strd 0x41 c) := by
  have reported := idxReported_strd s c
  refine answers_of_finish (exec_indexRebuildComplete_known on known) ?_
  rw [State.idxLine, settle_strd, rebuildEnd_strd, reported]
  refine ⟨rfl, tget_tput_same .., fun last => ?_, fun unwanted held empty => ?_⟩
  · exact hasCause_settle (by decide) (rebuildEnd_sets (by rw [reported]; exact last))
  · exact captured_settle (by decide) (rebuildEnd_captured (idxReported_captured (unit_lt_addr known) unwanted held empty))

end Sys2Proof.Machine
end

section
namespace Sys2Proof.Machine

/-- Settles O46: of a trigger that falls due the strand runs (`trigger_runs`), and a trigger leaves the list of timed triggers as it is
(`Capture.trigger`); the pads and the frames driven around a seal leave the seals as they are (`Capture.padPage`, `Capture.drivePipe`), so that it
counts one; an index line is put and read back, and what is reported of it keeps it (`idxReported_strd`, `rebuildEnd_strd`). -/
theorem strandTimers : Obligations.StrandTimers := by
  unfold Obligations.StrandTimers
  refine ⟨?armTime, fun s x due => ⟨fun armed enabled => timedTriggerDue_runs due armed enabled, fun quiet other => ?ignored⟩,
    fun s v quiet up => ⟨fun word => ?whole, fun word => ?last, ?pop⟩, ?sealed, fun s c on known => indexRebuildComplete_rebuilds on known⟩
  case armTime =>
    exact fun s n u quiet scheduled mode armAt due =>
      answers_of_finish_settled (exec_armTimeReached_due scheduled mode armAt due) quiet rfl
  case ignored => exact answers_of_finish_settled ((exec_timedTriggerDue_due due).trans (congrArg finish (if_neg other))) quiet rfl
  case whole => exact answers_of_finish_settled ((exec_filterWrite_up up v).trans (congrArg finish (regFilterWrite_whole up word v))) quiet rfl
  case last => exact answers_of_finish_settled ((exec_filterWrite_up up v).trans (congrArg finish (regFilterWrite_last up word v))) quiet rfl
  case pop => exact answers_of_finish_settled (exec_triggerLogPop_up up) quiet rfl
  case sealed =>
    intro s p u inside since expired free unsealed
    refine answers_of_finish (exec_sealIntervalExpired_due inside since expired) ?_
    rw [State.pipe, settle_ingp]
    exact sealPipe_counts free unsealed

end Sys2Proof.Machine
end

section
/-!
SUPPORT. Replay slots: what is read of a slot after an operation on one, and what each operation of replay leaves of its slot
(13_replay_and_query.md R548, R552, R559, R566).
-/
namespace Sys2Proof.Machine

variable {s t : State} {j k : Nat} {f g : Slot → Slot}

/-! ### Reading and changing one slot -/

theorem slot_of_rple (same : t.rple = s.rple) (j : Nat) : t.slot j = s.slot j := by rw [State.slot, same, State.slot]

@[simp] theorem slot_modReplay_same (s : State) (k : Nat) (f : Slot → Slot) : (s.modReplay k f).slot k = f (s.slot k) := tget_tmod_same ..
theorem slot_modReplay_other (s : State) (f : Slot → Slot) (other : j ≠ k) : (s.modReplay k f).slot j = s.slot j := tget_tmod_other _ _ f other
@[simp] theorem slot_cause (s : State) (b : Block) (i v j : Nat) : (s.cause b i v).slot j = s.slot j := slot_of_rple (cause_rple ..) j
@[simp] theorem slot_error (s : State) (b : Block) (c a n v j : Nat) : (s.error b c a n v).slot j = s.slot j := slot_of_rple (error_rple ..) j
@[simp] theorem slot_settle (s : State) (j : Nat) : s.settle.slot j = s.slot j := slot_of_rple (settle_rple s) j

@[simp] theorem modReplay_framer (s : State) (k : Nat) (f : Slot → Slot) : (s.modReplay k f).rple.framer = s.rple.framer := rfl

theorem tins_tins {α : Type} (k : Nat) (v w : α) : ∀ l : Tbl α, tins k w (tins k v l) = tins k w l
  | [] => by simp [tins]
  | (j, u) :: l => by
    simp only [tins]
    split
    · simp [tins]
    · next notBelow =>
      split
      · next same => simp [tins, same]
      · next other => simp [tins, notBelow, other, tins_tins k v w l]

/-- Two changes of a slot that leave it bound make one. -/
theorem modReplay_modReplay (first : (f (s.slot k)).st ≠ .unbound) (second : (g (f (s.slot k))).st ≠ .unbound) :
    (s.modReplay k f).modReplay k g = s.modReplay k fun x => g (f x) := by
  have other {x : Slot} (bound : x.st ≠ .unbound) : x ≠ Slot.reset := fun same => bound (by rw [same]; rfl)
  have first : tmod Slot.reset s.rple.slots k f = tins k (f (s.slot k)) s.rple.slots := if_neg (other first)
  have both : tmod Slot.reset s.rple.slots k (fun x => g (f x)) = tins k (g (f (s.slot k))) s.rple.slots := if_neg (other second)
  have again : tmod Slot.reset (tmod Slot.reset s.rple.slots k f) k g = tins k (g (f (s.slot k))) s.rple.slots := by
    rw [tmod, tget_tmod_same, first, tput, ← State.slot, if_neg (other second), tins_tins]
  simp only [State.modReplay, again, both]

/-! ### A slot enters DONE (R548) -/

/-- The slot in DONE: its buffer is freed, and nothing of it leaves or waits. -/
def Slot.ended (x : Slot) : Slot :=
  { x with
    st := .done, preloading := false, startWait := false, reading := [], buffered := [], bad := [], poolMib := 0, sending := false,
    late := false, stopping := false, segq := [], run := 0, runDown := false, endSent := false }

theorem slotDone_eq (s : State) (k : Nat) : s.slotDone k = (s.modReplay k Slot.ended).cause .rple 4 := rfl

theorem slotDone_slot (s : State) (k : Nat) : (s.slotDone k).slot k = (s.slot k).ended := by
  rw [slotDone_eq, slot_cause, slot_modReplay_same]

theorem slotDone_sets (s : State) (k : Nat) : hasCause (s.slotDone k) .rple 4 := hasCause_cause_sets (silent_of_fixed _ rfl) ..

theorem slotDone_framer (s : State) (k : Nat) : (s.slotDone k).rple.framer = s.rple.framer := by
  rw [slotDone_eq, cause_rple]
  rfl

/-! ### The window and the preload (R552, R559, R565) -/

theorem fixWindow_slot (s : State) (k : Nat) : ∃ base, (s.fixWindow k).slot k =
    { s.slot k with window := s.replayWindow (s.slot k), next := 0, pass := 0, poolMib := (s.slot k).bufmib, base } :=
  ⟨_, slot_modReplay_same ..⟩

/-- The end of a preload settles the start of a slot that waited for it, and nothing else of the slot. -/
theorem preloadSync_slot (s : State) (k : Nat) : ∃ preloading startWait start, (s.preloadSync k).slot k =
    { s.slot k with preloading, startWait, start } ∧ ((s.slot k).startWait = false → start = (s.slot k).start) := by
  unfold State.preloadSync
  dsimp only
  split
  · exact ⟨_, _, _, rfl, fun _ => rfl⟩
  · rw [slot_cause, slot_modReplay_same]
    exact ⟨false, false, _, rfl, fun own => if_neg (by simp [own])⟩

end Sys2Proof.Machine
end

section
/-!
SUPPORT. The commands of replay: how one is taken or refused, how it ends, and what each does to its slot (13_replay_and_query.md R545, R550, R552,
R559, R567, R583).
-/
namespace Sys2Proof.Machine

variable {s t : State} {c : Instr} {j k op code time : Nat} {modes : List Mode} {x : Slot} {f : Nat → Slot → State × Nat}

/-! ### The end of a command (R583) -/

theorem slotSel_lt (w : Word) : fld w 0 6 < 2 ^ 28 := Nat.lt_trans (Nat.mod_lt _ (by decide)) (by decide)

/-- RPLE.CMD of a slot as a command leaves it. -/
def Slot.answered (x : Slot) (op result : Nat) : Slot := { x with op := op, result := result, go := false }

/-- `u` is `t` with a command completed on slot `k`, at the end of the command. -/
structure SlotCompleted (t : State) (k op : Nat) (u : State) : Prop where
  slot : u.slot k = (t.slot k).answered op 0
  others : ∀ {j}, j ≠ k → u.slot j = t.slot j
  done : hasCause u .rple 1
  causes : ∀ {bit}, hasCause t .rple bit → hasCause u .rple bit

/-- `u` is `t` with a command refused on slot `k`, at the end of the command. -/
structure SlotRefused (t : State) (k code : Nat) (u : State) : Prop where
  result : (u.slot k).result = code
  st : (u.slot k).st = (t.slot k).st
  code : captured u .rple 0x40 k

theorem SlotCompleted.ok {u : State} (h : SlotCompleted t k op u) : rpleOk u k op := by
  rw [rpleOk, h.slot]
  exact ⟨rfl, rfl, rfl, h.done⟩

theorem answers_slotCompleted (e : exec c s = finish (t.rpleDone k op 0)) : answers c s (SlotCompleted t k op) := by
  have done : t.rpleDone k op 0 = (t.modReplay k fun x => x.answered op 0).cause .rple 1 := rfl
  rw [done] at e
  refine answers_of_finish e ⟨?_, fun other => ?_, ?_, fun set => ?_⟩
  · rw [slot_settle, slot_cause, slot_modReplay_same]
  · rw [slot_settle, slot_cause, slot_modReplay_other _ _ other]
  · exact hasCause_cause (silent_of_fixed _ rfl) (by decide)
  · exact hasCause_settle (by decide) (hasCause_cause_keeps _ _ set)

/-- An error of RPLE with CMDDONE is captured while ERRSTAT holds none. -/
theorem slotError_captured (small : k < 2 ^ 28) (empty : (t.hdr .rple).evalid = false) :
    captured (t.error .rple 0x40 k (2 ^ 1)).settle .rple 0x40 k :=
  (captured_errorCause (by decide) (silent_of_fixed _ rfl) empty (by decide) small).1

theorem answers_slotRefused (e : exec c s = finish (t.rpleDone k op code)) (error : code ≠ 0) (small : k < 2 ^ 28)
    (empty : (t.hdr .rple).evalid = false) : answers c s (SlotRefused t k code) := by
  have done : t.rpleDone k op code = (t.modReplay k fun x => x.answered op code).error .rple 0x40 k (2 ^ 1) := if_neg error
  rw [done] at e
  have slot : ((t.modReplay k fun x => x.answered op code).error .rple 0x40 k (2 ^ 1)).settle.slot k = (t.slot k).answered op code := by
    rw [slot_settle, slot_error, slot_modReplay_same]
  exact answers_of_finish e ⟨congrArg (·.result) slot, congrArg (·.st) slot, slotError_captured small empty⟩

/-! ### A command taken or refused (R550) -/

section
variable (e : exec c s = finish (s.rpleCommand op (some modes) f))
include e

/-- A command that is taken is performed on the slot that SEL names. -/
theorem exec_taken (h : s.rpleTakes modes k) (does : f k (s.slot k) = (t, code)) : exec c s = finish (t.rpleDone k op code) := by
  obtain ⟨⟨on, -⟩, mode, rfl⟩ := h
  have taken : s.rpleCommand op (some modes) f = t.rpleDone (fld s.rple.sel 0 6) op code := by
    simp [State.rpleCommand, show (s.hdr .rple).ready = true from on, mode, does]
  rw [e, taken]

theorem answers_slotEnds (h : s.rpleTakes modes k) (does : f k (s.slot k) = (t, 0)) : answers c s (SlotCompleted t k op) :=
  answers_slotCompleted (exec_taken e h does)

theorem answers_slotOtherMode (up : s.up .rple) (sel : k = fld s.rple.sel 0 6) (empty : (s.hdr .rple).evalid = false)
    (other : s.sysc.mode ∉ modes) : answers c s (SlotRefused s k 2) := by
  subst sel
  have refused : s.rpleCommand op (some modes) f = s.rpleDone (fld s.rple.sel 0 6) op 2 := by
    simp [State.rpleCommand, show (s.hdr .rple).ready = true from up.1, other]
  exact answers_slotRefused (e.trans (congrArg finish refused)) (by decide) (slotSel_lt _) empty

end

/-- A command of every mode is performed on the slot that SEL names. -/
theorem rpleCommand_always (up : s.up .rple) (sel : k = fld s.rple.sel 0 6) (does : f k (s.slot k) = (t, code)) :
    s.rpleCommand op none f = t.rpleDone k op code := by
  subst sel
  simp [State.rpleCommand, show (s.hdr .rple).ready = true from up.1, does]

/-! ### Each command as it arrives -/

section
variable (up : s.up .rple)
include up

theorem exec_bind_up : exec .bind s = finish s.regBind := congrArg finish (reg_awake up.2 ..)
theorem exec_replayConfig_up : exec .replayConfig s = finish s.regReplayConfig := congrArg finish (reg_awake up.2 ..)
theorem exec_preload_up : exec .preload s = finish s.regPreload := congrArg finish (reg_awake up.2 ..)
theorem exec_start_up : exec .start s = finish s.regStart := congrArg finish (reg_awake up.2 ..)
theorem exec_replayStop_up : exec .replayStop s = finish s.regReplayStop := congrArg finish (reg_awake up.2 ..)
theorem exec_unbind_up : exec .unbind s = finish s.regUnbind := congrArg finish (reg_awake up.2 ..)
theorem exec_rpleUnknownOp_up (op : Nat) : exec (.rpleUnknownOp op) s = finish (s.regRpleUnknownOp op) := congrArg finish (reg_awake up.2 ..)

end

/-! ### BIND and CONFIG (R545, R550, R572) -/

theorem bind_of_idle {n : Nat} (strand : n = fld x.cfg0 0 18) (unbound : x.st = .unbound) (known : n < s.strandCount)
    (idle : (s.strand n).st = .idle ∨ (s.strand n).st = .done) (kept : (s.strand n).releasing = none) (adopted : s.strd.adopting ≠ some n)
    (unlocked : s.hankLocked (s.strand n).hbase (s.strand n).hsize = false) :
    s.bind k x = (s.modReplay k fun x => { x with st := .bound, strand := n }, 0) := by
  subst strand
  refine (if_neg ?_).trans (if_neg (by simp [unlocked]))
  simpa [unbound, known, kept, adopted] using Decidable.or_iff_not_imp_left.1 idle

/-- The staged words of a slot applied (R550). -/
def Slot.configured (x : Slot) : Slot :=
  { x with app0 := x.cfg0, app1 := x.cfg1, app2 := x.cfg2, from_ := x.fromLo.toNat + 2 ^ 40 * x.fromHi.toNat,
           to_ := x.toLo.toNat + 2 ^ 40 * x.toHi.toNat, gap := x.loopgap.toNat }

theorem replayConfig_applies (h : s.rpleTakes [.memory, .stream] k) (rests : (s.slot k).st = .bound ∨ (s.slot k).st = .done)
    (channel : fld (s.slot k).cfg0 18 8 ≠ 0) (apart : fld (s.slot k).cfg1 0 18 ≠ fld (s.slot k).cfg1 18 18) :
    answers .replayConfig s (SlotCompleted (s.modReplay k Slot.configured) k 2) :=
  answers_slotEnds (exec_replayConfig_up h.1) h
    ((if_neg (by simpa using Decidable.or_iff_not_imp_left.1 rests)).trans (if_neg (by simp [channel, apart])))

/-! ### PRELOAD (R565, R567) -/

section
variable (h : s.rpleTakes [.memory, .stream] k) (bound : (s.slot k).st = .bound)
include h bound

theorem preload_loads (fits : s.poolHolds (s.slot k) = true) : answers .preload s fun t => (t.slot k).st = .loading ∧
    (t.slot k).window = s.replayWindow (s.slot k) ∧ (t.slot k).poolMib = (s.slot k).bufmib ∧ rpleOk t k 3 := by
  refine (answers_slotEnds (exec_preload_up h.1) h ((if_neg (not_not_intro bound)).trans (if_neg (by simp [fits])))).imp fun t completed => ?_
  obtain ⟨base, fixed⟩ := fixWindow_slot s k
  obtain ⟨preloading, startWait, start, settled, -⟩ :=
    preloadSync_slot ((s.fixWindow k).modReplay k fun x => { x with st := .loading, preloading := true, start := 0 }) k
  rw [slot_modReplay_same, fixed] at settled
  have ok := completed.ok
  rw [completed.slot, settled]
  exact ⟨rfl, rfl, rfl, ok⟩

theorem preload_refused (full : s.poolHolds (s.slot k) = false) (empty : (s.hdr .rple).evalid = false) :
    answers .preload s (SlotRefused s k 5) := by
  have e := exec_taken (exec_preload_up h.1) h ((if_neg (not_not_intro bound)).trans (if_pos (by simp [full])))
  exact answers_slotRefused e (by decide) (h.2.2 ▸ slotSel_lt _) empty

end

/-! ### START (R552, R556, R559) -/

/-- The slot that a START leaves waiting for its time, 0 for the end of its preload. -/
def Slot.startedAt (x : Slot) (time : Nat) : Slot :=
  { x with st := .waiting, seq := 0, run := 0, runDown := false, endSent := false, sent := 0, start := time, startWait := time = 0,
           preloading := time = 0, sending := false, late := false }

/-- A slot with its window fixed and its start set. -/
def State.begun (s : State) (k time : Nat) : State := (s.fixWindow k).modReplay k fun x => x.startedAt time

theorem begun_slot (s : State) (k time : Nat) : ∃ base, (s.begun k time).slot k = Slot.startedAt
    { s.slot k with window := s.replayWindow (s.slot k), next := 0, pass := 0, poolMib := (s.slot k).bufmib, base } time := by
  obtain ⟨base, fixed⟩ := fixWindow_slot s k
  exact ⟨base, by rw [State.begun, slot_modReplay_same, fixed]⟩

theorem startSlot_of_time (rests : x.st = .bound ∨ x.st = .loading ∨ x.st = .done) (value : time = x.startLo.toNat + 2 ^ 40 * fld x.startHi 0 26)
    (agreed : s.kspe.agreed ≠ 0) (narrow : s.kspe.agreed = 1 → x.outstrand < 65536 ∧ x.gapstrand < 65536)
    (ahead : time ≠ 0 → s.coht.running = true ∧ s.cohort + 40000 ≤ time) (fits : s.poolHolds x = true) : s.startSlot k x =
      if ((s.begun k time).slot k).window.isEmpty then ((s.begun k time).slotDone k, 0) else ((s.begun k time).preloadSync k, 0) := by
  subst value
  refine (if_neg agreed).trans ((if_neg ?_).trans ((if_neg ?_).trans ((if_neg ?_).trans ((if_neg ?_).trans (if_neg ?_)))))
  · obtain h | h | h := rests <;> simp [h]
  · simpa using narrow
  · rw [Bool.and_eq_true, decide_eq_true_iff]
    exact fun ⟨given, stopped⟩ => by simp [(ahead given).1] at stopped
  · rw [Bool.and_eq_true, decide_eq_true_iff, decide_eq_true_iff]
    exact fun ⟨given, past⟩ => Nat.not_lt.2 (ahead given).2 past
  · simp [fits]

section
variable (h : s.rpleTakes [.stream] k)
include h

theorem start_of_empty (does : s.startSlot k (s.slot k) = ((s.begun k time).slotDone k, 0)) :
    answers .start s fun t => rpleOk t k 4 ∧ (t.slot k).st = .done ∧ hasCause t .rple 4 := by
  refine (answers_slotEnds (exec_start_up h.1) h does).imp fun t completed => ⟨completed.ok, ?_, completed.causes (slotDone_sets ..)⟩
  rw [completed.slot, slotDone_slot]
  rfl

theorem start_waits (does : s.startSlot k (s.slot k) = ((s.begun k time).preloadSync k, 0)) : answers .start s fun t => rpleOk t k 4 ∧
    (t.slot k).st = .waiting ∧ (t.slot k).window = s.replayWindow (s.slot k) ∧ (t.slot k).next = 0 ∧ (t.slot k).seq = 0 ∧
      (t.slot k).sent = 0 ∧ (time ≠ 0 → (t.slot k).start = time) := by
  refine (answers_slotEnds (exec_start_up h.1) h does).imp fun t completed => ⟨completed.ok, ?_⟩
  obtain ⟨base, begun⟩ := begun_slot s k time
  obtain ⟨preloading, startWait, start, settled, own⟩ := preloadSync_slot (s.begun k time) k
  rw [begun] at settled own
  rw [completed.slot, settled]
  exact ⟨rfl, rfl, rfl, rfl, rfl, fun given => own (decide_eq_false given)⟩

end

/-! ### STOP, UNBIND and an OP that is no command (R550) -/

/-- Where no segment of the slot is in the framer it is DONE at once. -/
theorem stopSlot_st (bound : (s.slot k).st ≠ .unbound) (free : s.rple.framer ≠ some k) : ((s.stopSlot k).slot k).st = .done := by
  by_cases done : (s.slot k).st = .done
  · have kept : s.stopSlot k = s := if_pos (by simp [done])
    rw [kept, done]
  · have ended : s.stopSlot k = s.slotDone k := (if_neg (by simp [bound, done])).trans (if_neg free)
    rw [ended, slotDone_slot]
    rfl

section
variable (up : s.up .rple) (sel : k = fld s.rple.sel 0 6)
include up sel

theorem replayStop_of_bound (bound : (s.slot k).st ≠ .unbound) : answers .replayStop s (SlotCompleted (s.stopSlot k) k 5) :=
  answers_slotCompleted ((exec_replayStop_up up).trans (congrArg finish (rpleCommand_always up sel (if_neg bound))))

theorem replayStop_waits (active : (s.slot k).st = .waiting ∨ (s.slot k).st = .running) (framed : s.rple.framer = some k) :
    answers .replayStop s fun t => (t.slot k).stopping = true ∧ (t.slot k).st = (s.slot k).st ∧ rpleOk t k 5 := by
  have bound : (s.slot k).st ≠ .unbound := by obtain h | h := active <;> simp [h]
  have undone : (s.slot k).st ≠ .done := by obtain h | h := active <;> simp [h]
  have waits : s.stopSlot k = s.modReplay k fun x => { x with stopping := true, late := false } :=
    (if_neg (by simp [bound, undone])).trans (if_pos framed)
  refine (replayStop_of_bound up sel bound).imp fun t completed => ?_
  have ok := completed.ok
  rw [completed.slot, waits, slot_modReplay_same]
  exact ⟨rfl, rfl, ok⟩

/-- The slot with nothing bound to it. -/
def Slot.released (x : Slot) : Slot :=
  { x with
    st := .unbound, strand := 0, preloading := false, window := [], next := 0, pass := 0, reading := [], buffered := [], bad := [],
    poolMib := 0 }

theorem unbind_releases (rests : (s.slot k).st = .bound ∨ (s.slot k).st = .loading ∨ (s.slot k).st = .done) :
    answers .unbind s (SlotCompleted (s.modReplay k Slot.released) k 6) :=
  answers_slotCompleted ((exec_unbind_up up).trans (congrArg finish (rpleCommand_always up sel (if_pos (by simpa [or_assoc] using rests)))))

theorem rpleUnknownOp_refused (unknown : op ∉ [1, 2, 3, 4, 5, 6]) (empty : (s.hdr .rple).evalid = false) :
    answers (.rpleUnknownOp op) s (SlotRefused s k 7) := by
  have refused : s.regRpleUnknownOp op = s.rpleDone k (op % 16) 7 := (if_neg unknown).trans (rpleCommand_always up sel rfl)
  exact answers_slotRefused ((exec_rpleUnknownOp_up up op).trans (congrArg finish refused)) (by decide) (sel ▸ slotSel_lt _) empty

end

end Sys2Proof.Machine
end

section
namespace Sys2Proof.Machine

/-- Settles O50: a command that is taken is performed on the slot of SEL and completes or is refused (`answers_slotEnds`,
`answers_slotRefused`, `answers_slotOtherMode`); what it does to the slot is one change (`bind_of_idle`, `Slot.configured`, `Slot.released`),
after which the end of a preload touches only the start of the slot (`preloadSync_slot`). -/
theorem replayCommands : Obligations.ReplayCommands := by
  unfold Obligations.ReplayCommands
  refine ⟨?bind, ?rests, ?start, ?always, ?otherMode⟩
  case bind =>
    intro s k n h strand unbound known idle kept adopted unlocked
    have binds := bind_of_idle (k := k) strand unbound known idle kept adopted unlocked
    refine (answers_slotEnds (exec_bind_up h.1) h binds).imp fun t completed => ?_
    have ok := completed.ok
    rw [completed.slot, slot_modReplay_same]
    exact ⟨rfl, rfl, ok, fun j other => (completed.others other).trans (slot_modReplay_other _ _ other)⟩
  case rests =>
    rintro s k _ h rfl rests
    refine ⟨fun channel apart => (replayConfig_applies h rests channel apart).imp fun t completed => ?_,
      fun bound fits => preload_loads h bound fits,
      fun bound full empty => (preload_refused h bound full empty).imp fun t refused => ⟨refused.result, refused.st, refused.code⟩⟩
    have ok := completed.ok
    rw [completed.slot, slot_modReplay_same]
    exact ⟨rfl, rfl, rfl, rfl, rfl, rfl, rfl, ok⟩
  case start =>
    rintro s k time _ h rfl rests value agreed narrow ahead fits
    have starts := startSlot_of_time (k := k) rests value agreed narrow ahead fits
    obtain ⟨base, begun⟩ := begun_slot s k time
    have window : ((s.begun k time).slot k).window = s.replayWindow (s.slot k) := by rw [begun]; rfl
    rw [window] at starts
    split
    · next empty => exact start_of_empty h (starts.trans (if_pos empty))
    · next more => exact start_waits h (starts.trans (if_neg more))
  case always =>
    intro s k up sel
    refine ⟨fun bound free => (replayStop_of_bound up sel bound).imp fun t completed => ⟨?_, completed.ok⟩,
      fun active framed => replayStop_waits up sel active framed,
      fun rests => (unbind_releases up sel rests).imp fun t completed => ?_,
      fun op unknown empty => (rpleUnknownOp_refused up sel unknown empty).imp fun t refused => ⟨refused.result, refused.st, refused.code⟩⟩
    · rw [completed.slot]
      exact stopSlot_st bound free
    · have ok := completed.ok
      rw [completed.slot, slot_modReplay_same]
      exact ⟨rfl, rfl, rfl, ok⟩
  case otherMode =>
    intro s c k up sel empty kind
    obtain ⟨op, modes, f, e, outside⟩ : ∃ op modes f, exec c s = finish (s.rpleCommand op (some modes) f) ∧ s.sysc.mode ∉ modes := by
      obtain ⟨rfl, outside⟩ | ⟨rfl | rfl | rfl, memory, stream⟩ := kind
      · exact ⟨_, _, _, exec_start_up up, by simpa using outside⟩
      · exact ⟨_, _, _, exec_bind_up up, by simp [memory, stream]⟩
      · exact ⟨_, _, _, exec_replayConfig_up up, by simp [memory, stream]⟩
      · exact ⟨_, _, _, exec_preload_up up, by simp [memory, stream]⟩
    exact (answers_slotOtherMode e up sel empty outside).imp fun t refused => ⟨refused.result, refused.st, refused.code⟩

end Sys2Proof.Machine
end

section
/-!
SUPPORT. Replay pages read ahead: what a slot wants does not change while its pages are read and buffered (13_replay_and_query.md R565, R566,
R569).
-/
namespace Sys2Proof.Machine

variable {s : State} {k key page : Nat}

/-! ### The records of a hank (R551, R553) -/

theorem unitWalk_modReplay (s : State) (k : Nat) (f : Slot → Slot) (base c i limit fuel : Nat) :
    (s.modReplay k f).unitWalk base c i limit fuel = s.unitWalk base c i limit fuel := by
  induction fuel generalizing i with
  | zero => rfl
  | succ fuel ih =>
    have word (w : Nat) : (s.modReplay k f).hankWord w = s.hankWord w := rfl
    simp only [State.unitWalk, ih, word, State.modReplay_strd]

theorem hankRecords_modReplay (s : State) (k : Nat) (f : Slot → Slot) (n : Nat) : (s.modReplay k f).hankRecords n = s.hankRecords n := by
  have units : (s.modReplay k f).dataUnits = s.dataUnits := rfl
  have strand : (s.modReplay k f).strand n = s.strand n := rfl
  simp only [State.hankRecords, State.hankSlots, unitWalk_modReplay, units, strand]

/-! ### Pages read and buffered (R565, R566, R569) -/

/-- The slot without the pages that are not among these. -/
def Slot.keeping (x : Slot) (pages : List Nat) : Slot :=
  { x with buffered := x.buffered.filter (fun p => p ∈ pages), bad := x.bad.filter fun p => p ∈ pages }

/-- Pages released leave those that are still wanted. -/
theorem releasePages_eq (s : State) (k : Nat) :
    s.releasePages k = s.modReplay k fun x => x.keeping ((s.slot k).wanted (s.hankRecords (s.slot k).strand)) := rfl

theorem releasePages_slot (s : State) (k : Nat) :
    (s.releasePages k).slot k = (s.slot k).keeping ((s.slot k).wanted (s.hankRecords (s.slot k).strand)) := by
  rw [releasePages_eq, slot_modReplay_same]

/-- A page that has been read is in the buffer, and marked where it was bad. -/
def Slot.buffering (x : Slot) (key : Nat) (ok : Bool) : Slot :=
  { x with reading := without x.reading key, buffered := x.buffered ++ [key], bad := if ok then x.bad else x.bad ++ [key] }

theorem exec_replayPageRead_next (active : (s.slot k).preloading = true ∨ (s.slot k).st = .waiting ∨ (s.slot k).st = .running)
    (next : s.nextPage (s.slot k) (s.hankRecords (s.slot k).strand) = some key) : exec (.replayPageRead k (key % 2 ^ 32)) s =
      finish (s.modReplay k fun x => { x with reading := x.reading ++ [key] }) := by
  have may : ¬(!((s.slot k).preloading || (s.slot k).st = .waiting || (s.slot k).st = .running)) = true := by
    obtain h | h | h := active <;> simp [h]
  show execReplayPageRead k (key % 2 ^ 32) s = _
  rw [execReplayPageRead]
  simp only [if_neg may, next, if_true]

theorem exec_replayPageBuffered_read {ok : Bool} (found : ((s.slot k).reading.find? fun q => q % 2 ^ 32 = page) = some key) :
    exec (.replayPageBuffered k page ok) s = finish (((s.modReplay k fun x => x.buffering key ok).releasePages k).preloadSync k) := by
  show execReplayPageBuffered k page ok s = _
  rw [execReplayPageBuffered]
  simp only [found]
  rfl

/-- Of a page that is buffered the slot keeps what it still wants. -/
theorem buffered_slot (s : State) (k key : Nat) (ok : Bool) :
    ∃ preloading startWait start, (((s.modReplay k fun x => x.buffering key ok).releasePages k).preloadSync k).slot k =
      { ((s.slot k).buffering key ok).keeping ((s.slot k).wanted (s.hankRecords (s.slot k).strand)) with preloading, startWait, start } := by
  obtain ⟨preloading, startWait, start, settled, -⟩ := preloadSync_slot ((s.modReplay k fun x => x.buffering key ok).releasePages k) k
  rw [releasePages_slot, slot_modReplay_same, hankRecords_modReplay] at settled
  exact ⟨preloading, startWait, start, settled⟩

end Sys2Proof.Machine
end

section
namespace Sys2Proof.Machine

/-- Settles O51: the next page is read (`exec_replayPageRead_next`), and one that is buffered stays where it is wanted (`buffered_slot`), since
the records of the hank do not depend on the slots (`hankRecords_modReplay`). -/
theorem replayPages : Obligations.ReplayPages := by
  unfold Obligations.ReplayPages
  refine ⟨fun s k key quiet active next => answers_of_finish_settled (exec_replayPageRead_next active next) quiet rfl, ?buffered⟩
  case buffered =>
    intro s k page key ok found
    obtain ⟨preloading, startWait, start, slot⟩ := buffered_slot s k key ok
    refine answers_of_finish (exec_replayPageBuffered_read found) ?_
    rw [slot_settle, slot]
    refine ⟨rfl, fun wanted => ⟨?_, fun marked => ?_⟩⟩
    · exact List.mem_filter.2 ⟨List.mem_append_right _ (List.mem_singleton_self key), decide_eq_true wanted⟩
    · subst marked
      exact List.mem_filter.2 ⟨List.mem_append_right _ (List.mem_singleton_self key), decide_eq_true wanted⟩

end Sys2Proof.Machine
end

section
/-!
SUPPORT. Segments that leave, records that depart or are skipped, and slots that go on: what each leaves of its slot, of the framer and of what was
sent (13_replay_and_query.md R548, R555, R560 to R563, R570, R571).
-/
namespace Sys2Proof.Machine

variable {s s₀ t : State} {k : Nat} {r : List HSlot} {f : Slot → Slot} {g : List Word × Bool × Bool × Bool}
  {rest : List (List Word × Bool × Bool × Bool)}

/-! ### The first header word of a segment (R470, R555) -/

/-- STRAND, SEQ, S, E and T. -/
def segHead (strand seq : Nat) (first last trig : Bool) : Word :=
  packW [(18, strand), (16, seq), (1, b2n first), (1, b2n last), (1, b2n trig)]

theorem segHead_toNat (strand seq : Nat) (first last trig : Bool) : (segHead strand seq first last trig).toNat =
    strand % 2 ^ 18 + 2 ^ 18 * (seq % 2 ^ 16) + 2 ^ 34 * b2n first + 2 ^ 35 * b2n last + 2 ^ 36 * b2n trig := by
  have bit (b : Bool) : b2n b < 2 := by cases b <;> decide
  have := bit first
  have := bit last
  have := bit trig
  simp only [segHead, packW, pack, BitVec.toNat_ofNat]
  omega

theorem fld_segHead {strand : Nat} (fits : strand < 2 ^ 18) (seq : Nat) (first last trig : Bool) :
    fld (segHead strand seq first last trig) 0 18 = strand := by
  rw [fld, segHead_toNat]
  omega

/-- Bit S. -/
theorem wbit_segHead (strand seq : Nat) (first last trig : Bool) : wbit (segHead strand seq first last trig) 34 = first := by
  have shifted : (segHead strand seq first last trig).toNat / 2 ^ 34 % 2 = b2n first := by
    have : b2n first < 2 := by cases first <;> decide
    rw [segHead_toNat]
    omega
  rw [wbit, BitVec.getLsbD, Nat.testBit_eq_decide_div_mod_eq, shifted]
  cases first <;> rfl

theorem outstrand_lt (x : Slot) : x.outstrand < 2 ^ 18 := Nat.mod_lt _ (by decide)
theorem gapstrand_lt (x : Slot) : x.gapstrand < 2 ^ 18 := Nat.mod_lt _ (by decide)

/-! ### A segment leaves (R555) -/

/-- The slot's next segment takes the next SEQ. -/
def Slot.nextSeq (x : Slot) : Slot := { x with seq := wrapInc 16 x.seq }

section
variable (s : State) (k strand : Nat) (body : List Word) (first last trig : Bool)

theorem sendSegment_eq : ∃ w1, s.sendSegment k strand body first last trig =
    (s.modReplay k Slot.nextSeq).send (.segment (s.slot k).chan (segHead strand (s.slot k).seq first last trig :: w1 :: body)) := ⟨_, rfl⟩

theorem sendSegment_slot : (s.sendSegment k strand body first last trig).slot k = (s.slot k).nextSeq := by
  obtain ⟨w1, sends⟩ := sendSegment_eq s k strand body first last trig
  rw [sends]
  exact slot_modReplay_same s k Slot.nextSeq

theorem sendSegment_sends : ∃ w1, Out.segment (s.slot k).chan (segHead strand (s.slot k).seq first last trig :: w1 :: body) ∈
    (s.sendSegment k strand body first last trig).out := by
  obtain ⟨w1, sends⟩ := sendSegment_eq s k strand body first last trig
  rw [sends]
  exact ⟨w1, List.mem_cons_self ..⟩

end

theorem sendMarker_slot (s : State) (k : Nat) (isEnd : Bool) (ts skipped : Nat) : (s.sendMarker k isEnd ts skipped).slot k = (s.slot k).nextSeq :=
  sendSegment_slot ..

theorem frameSegment_of_empty (nothing : (s.slot k).segq = []) : s.frameSegment k = s := by
  unfold State.frameSegment
  simp only [nothing]

/-- The slot with these segments left to send. -/
def Slot.queueing (x : Slot) (rest : List (List Word × Bool × Bool × Bool)) : Slot := { x with segq := rest }

/-- The framer holds a segment of the slot. -/
def State.framing (s : State) (k : Nat) : State := { s with rple.framer := some k }

/-- The first segment that waits in a slot goes to the framer. -/
theorem frameSegment_of_queue {body : List Word} {first last trig : Bool}
    (queue : (s.slot k).segq = (body, first, last, trig) :: rest) : s.frameSegment k =
      ((s.sendSegment k (s.slot k).outstrand body first last trig).modReplay k fun x => x.queueing rest).framing k := by
  unfold State.frameSegment
  simp only [queue]
  rfl

/-- `t` is `s` with this segment of the slot in the framer. -/
structure Framed (s : State) (k : Nat) (g : List Word × Bool × Bool × Bool) (rest : List (List Word × Bool × Bool × Bool))
    (t : State) : Prop where
  framer : t.rple.framer = some k
  slot : t.slot k = (s.slot k).nextSeq.queueing rest
  sends : ∃ w0 w1, Out.segment (s.slot k).chan (w0 :: w1 :: g.1) ∈ t.out ∧ fld w0 0 18 = (s.slot k).outstrand ∧ wbit w0 34 = g.2.1

theorem Framed.sending (h : Framed s k g rest t) : (t.slot k).sending = (s.slot k).sending := by rw [h.slot]; rfl
theorem Framed.st (h : Framed s k g rest t) : (t.slot k).st = (s.slot k).st := by rw [h.slot]; rfl

theorem framed_frameSegment (queue : (s.slot k).segq = g :: rest) : Framed s k g rest (s.frameSegment k) := by
  obtain ⟨body, first, last, trig⟩ := g
  obtain ⟨w1, sent⟩ := sendSegment_sends s k (s.slot k).outstrand body first last trig
  rw [frameSegment_of_queue queue]
  have after := slot_modReplay_same (s.sendSegment k (s.slot k).outstrand body first last trig) k fun x => x.queueing rest
  rw [sendSegment_slot] at after
  exact ⟨rfl, after, _, w1, sent, fld_segHead (outstrand_lt _) .., wbit_segHead ..⟩

/-! ### A slot goes on (R548, R560) -/

/-- The next record of the window, or of a loop's next pass. -/
def Slot.onNext (x : Slot) : Slot :=
  if x.next + 1 < x.window.length ∨ !x.loop then { x with next := x.next + 1 } else { x with next := 0, pass := x.pass + 1 }

theorem onNext_eq (x : Slot) : ∃ next pass, x.onNext = { x with next, pass } := by
  unfold Slot.onNext
  split
  · exact ⟨_, _, rfl⟩
  · exact ⟨_, _, rfl⟩

/-- A slot at its next record, with the pages released that it wants no more. -/
def State.movedOn (s : State) (k : Nat) : State := (s.modReplay k Slot.onNext).releasePages k

theorem movedOn_slot (s : State) (k : Nat) : ∃ next pass buffered bad, (s.movedOn k).slot k = { s.slot k with next, pass, buffered, bad } := by
  obtain ⟨next, pass, moved⟩ := onNext_eq (s.slot k)
  have slot := releasePages_slot (s.modReplay k Slot.onNext) k
  rw [slot_modReplay_same, moved] at slot
  exact ⟨next, pass, _, _, slot⟩

theorem movedOn_framer (s : State) (k : Nat) : (s.movedOn k).rple.framer = s.rple.framer := by
  rw [State.movedOn, releasePages_eq, modReplay_framer, modReplay_framer]

theorem movedOn_out (s : State) (k : Nat) : (s.movedOn k).out = s.out := by
  rw [State.movedOn, releasePages_eq, State.modReplay_out, State.modReplay_out]

theorem advanceSlot_eq (s : State) (k : Nat) : s.advanceSlot k =
    if decide (((s.movedOn k).slot k).window.length ≤ ((s.movedOn k).slot k).next) && !((s.movedOn k).slot k).sending then
      (s.movedOn k).slotDone k else s.movedOn k := by
  unfold State.advanceSlot State.movedOn
  rfl

/-- A slot goes on to another record, or is DONE, which it is only where no record of it is being sent. -/
theorem advanceSlot_slot (s : State) (k : Nat) : ∃ next pass buffered bad,
    (s.advanceSlot k).slot k = { s.slot k with next, pass, buffered, bad } ∨
    ((s.slot k).sending = false ∧ (s.advanceSlot k).slot k = Slot.ended { s.slot k with next, pass, buffered, bad }) := by
  obtain ⟨next, pass, buffered, bad, moved⟩ := movedOn_slot s k
  refine ⟨next, pass, buffered, bad, ?_⟩
  rw [advanceSlot_eq]
  split
  · next ends =>
    rw [moved, Bool.and_eq_true, Bool.not_eq_true'] at ends
    exact .inr ⟨ends.2, by rw [slotDone_slot, moved]⟩
  · exact .inl moved

theorem advanceSlot_framer (s : State) (k : Nat) : (s.advanceSlot k).rple.framer = s.rple.framer := by
  rw [advanceSlot_eq]
  split
  · rw [slotDone_framer, movedOn_framer]
  · exact movedOn_framer ..

theorem slotDone_sent (s : State) (k : Nat) : Sent s (s.slotDone k) := by
  rw [slotDone_eq]
  exact (Sent.of_out (State.modReplay_out s k Slot.ended)).trans (sent_cause ..)

theorem advanceSlot_sent (s : State) (k : Nat) : Sent s (s.advanceSlot k) := by
  rw [advanceSlot_eq]
  have moved : Sent s (s.movedOn k) := .of_out (movedOn_out s k)
  exact .ite (moved.trans (slotDone_sent ..)) moved

/-- While a record of it is being sent the slot stays in its state. -/
theorem advanceSlot_sending (sending : (s.slot k).sending = true) :
    ((s.advanceSlot k).slot k).sending = true ∧ ((s.advanceSlot k).slot k).st = (s.slot k).st := by
  obtain ⟨next, pass, buffered, bad, goes | ⟨idle, -⟩⟩ := advanceSlot_slot s k
  · rw [goes]
    exact ⟨sending, rfl⟩
  · exact absurd (idle.symm.trans sending) Bool.false_ne_true

/-- The slot has skipped as many records, and SEQ is as it was. -/
structure Slot.SameCounts (x y : Slot) : Prop where
  skipBad : y.skipBad = x.skipBad
  skipUnder : y.skipUnder = x.skipUnder
  seq : y.seq = x.seq

theorem advanceSlot_counts (s : State) (k : Nat) : (s.slot k).SameCounts ((s.advanceSlot k).slot k) := by
  obtain ⟨next, pass, buffered, bad, goes | ⟨-, ends⟩⟩ := advanceSlot_slot s k
  · rw [goes]
    exact ⟨rfl, rfl, rfl⟩
  · rw [ends]
    exact ⟨rfl, rfl, rfl⟩

/-! ### A record departs (R555, R561, R571) -/

/-- A record has a segment, and S marks the first (R553). -/
theorem recordSegments_first (s : State) (x : Slot) (r : List HSlot) : ∃ body last trig rest,
    s.recordSegments x r = (body, true, last, trig) :: rest := by
  have cut (bodies : List (List Word)) : ∃ b l, (if bodies.isEmpty then [[0]] else bodies) = b :: l := by
    cases bodies with
    | nil => exact ⟨_, _, rfl⟩
    | cons b l => exact ⟨b, l, rfl⟩
  unfold State.recordSegments
  extract_lets c bodies bodies' trig
  obtain ⟨b, l, nonempty⟩ := cut bodies
  have first : bodies' = b :: l := nonempty
  rw [first]
  exact ⟨b, _, trig, _, rfl⟩

/-- The run of skipped records that ends before a record departs has its end marker. -/
def State.runEnded (s : State) (k : Nat) (r : List HSlot) : State :=
  if (s.slot k).run ≠ 0 && (s.slot k).gapen && !(s.slot k).endSent then s.sendMarker k true (recTime r) (s.slot k).run else s

theorem runEnded_slot (s : State) (k : Nat) (r : List HSlot) : ∃ seq, (s.runEnded k r).slot k = { s.slot k with seq } := by
  unfold State.runEnded
  split
  · exact ⟨_, sendMarker_slot ..⟩
  · exact ⟨_, rfl⟩

/-- A slot that begins to send a record, so many nanoseconds after it was due. -/
def Slot.sendingNow (x : Slot) (segs : List (List Word × Bool × Bool × Bool)) (late : Bool) (ns : Nat) : Slot :=
  { x with
    run := 0, runDown := false, endSent := false, late := false, sending := true, segq := segs,
    lateCnt := if late then satInc 20 x.lateCnt else x.lateCnt, lateMax := if late then satN 20 (max x.lateMax ns) else x.lateMax }

/-- The segments of a record wait in its slot. -/
def State.recordBegun (s : State) (k : Nat) (r : List HSlot) (due : Int) (late : Bool) : State :=
  (s.runEnded k r).modReplay k fun x =>
    x.sendingNow ((s.runEnded k r).recordSegments (s.slot k) r) late ((((s.runEnded k r).cohort : Int) - due).toNat / 4)

theorem depart_eq (s : State) (k : Nat) (r : List HSlot) (due : Int) (late : Bool) :
    s.depart k r due late = ((s.recordBegun k r due late).frameSegment k).advanceSlot k := rfl

/-- The slot `y` is `x` with a record to send, whose first segment is marked so. -/
structure Slot.Begins (x y : Slot) : Prop where
  queue : ∃ body last trig rest, y.segq = (body, true, last, trig) :: rest
  sending : y.sending = true
  st : y.st = x.st
  chan : y.chan = x.chan
  outstrand : y.outstrand = x.outstrand

theorem recordBegun_begins (s : State) (k : Nat) (r : List HSlot) (due : Int) (late : Bool) :
    (s.slot k).Begins ((s.recordBegun k r due late).slot k) := by
  obtain ⟨seq, ended⟩ := runEnded_slot s k r
  obtain ⟨body, last, trig, rest, segments⟩ := recordSegments_first (s.runEnded k r) (s.slot k) r
  rw [State.recordBegun, slot_modReplay_same, ended, segments]
  exact ⟨⟨body, last, trig, rest, rfl⟩, rfl, rfl, rfl, rfl⟩

/-- The first segment of a record that departs is in the framer, with the slot's channel, strand and state. -/
theorem depart_sends (s : State) (k : Nat) (r : List HSlot) (due : Int) (late : Bool) :
    (s.depart k r due late).rple.framer = some k ∧ ((s.depart k r due late).slot k).sending = true ∧
      ((s.depart k r due late).slot k).st = (s.slot k).st ∧
      ∃ w0 w1 body, Out.segment (s.slot k).chan (w0 :: w1 :: body) ∈ (s.depart k r due late).out ∧ fld w0 0 18 = (s.slot k).outstrand ∧
        wbit w0 34 = true := by
  obtain ⟨⟨body, last, trig, rest, queue⟩, begun, same, chan, outstrand⟩ := recordBegun_begins s k r due late
  have framed := framed_frameSegment queue
  obtain ⟨w0, w1, sent, strand, start⟩ := framed.sends
  rw [chan] at sent
  rw [outstrand] at strand
  obtain ⟨sending, st⟩ := advanceSlot_sending (framed.sending.trans begun)
  rw [depart_eq, advanceSlot_framer]
  exact ⟨framed.framer, sending, st.trans (framed.st.trans same), w0, w1, body, (advanceSlot_sent ..).kept _ sent, strand, start⟩

/-! ### A record is skipped (R570, R571) -/

/-- A run of skipped records that begins is reported, with a marker of its own where gaps have them and the link is there. -/
def State.runReported (s : State) (k : Nat) (r : List HSlot) (marked : Bool) : State :=
  (if marked then s.sendMarker k false (recTime r) 0 else s).error .rple 0x41 k (2 ^ 3)

theorem runReported_kept (s : State) (k : Nat) (r : List HSlot) (marked : Bool) :
    ((s.runReported k r marked).slot k).skipUnder = (s.slot k).skipUnder ∧ (s.runReported k r marked).rple.framer = s.rple.framer := by
  rw [State.runReported, slot_error, error_rple]
  split
  · rw [sendMarker_slot]
    exact ⟨rfl, rfl⟩
  · exact ⟨rfl, rfl⟩

/-- A skipped record begins a run: none goes on, or the link was lost within it (R571, R573). -/
def State.newRun (s : State) (k : Nat) : Bool := (s.slot k).run = 0 || (s.slot k).endSent || (!s.replayLink && !(s.slot k).runDown)

/-- A skipped record counted, and its run. -/
def State.skipCounted (s : State) (k : Nat) : State := s.modReplay k fun x =>
  { x with skipUnder := satInc 20 x.skipUnder, run := if s.newRun k then 1 else x.run + 1, endSent := false,
           runDown := if s.newRun k then !s.replayLink else x.runDown }

theorem skipRecord_eq (s : State) (k : Nat) (r : List HSlot) : ∃ marked, s.skipRecord k r =
    (if s.newRun k then (s.skipCounted k).runReported k r marked else s.skipCounted k).advanceSlot k :=
  ⟨(s.slot k).gapen && !(!s.replayLink), rfl⟩

theorem skipRecord_counts (s : State) (k : Nat) (r : List HSlot) :
    ((s.skipRecord k r).slot k).skipUnder = satInc 20 (s.slot k).skipUnder ∧ (s.skipRecord k r).rple.framer = s.rple.framer := by
  have counted : ((s.skipCounted k).slot k).skipUnder = satInc 20 (s.slot k).skipUnder := by rw [State.skipCounted, slot_modReplay_same]
  obtain ⟨marked, skips⟩ := skipRecord_eq s k r
  rw [skips, (advanceSlot_counts _ k).skipUnder, advanceSlot_framer]
  split
  · obtain ⟨skipUnder, framer⟩ := runReported_kept (s.skipCounted k) k r marked
    exact ⟨skipUnder.trans counted, framer⟩
  · exact ⟨counted, rfl⟩

/-! ### What a free framer leaves of the slots (R557, R563) -/

/-- The slot has sent as many records, and is DONE if it was. -/
structure Slot.Follows (x y : Slot) : Prop where
  sent : y.sent = x.sent
  done : x.st = .done → y.st = .done

theorem Slot.Follows.refl (x : Slot) : x.Follows x := ⟨rfl, id⟩

/-- No slot of `t` has sent another number of records than in `s`, nor has left DONE. -/
def Onward (s t : State) : Prop := ∀ j, (s.slot j).Follows (t.slot j)

theorem Onward.refl (s : State) : Onward s s := fun _ => .refl _

theorem Onward.of_rple (h : Onward s₀ s) (same : t.rple.slots = s.rple.slots) : Onward s₀ t := fun j => by
  have slot : t.slot j = s.slot j := by rw [State.slot, same, State.slot]
  rw [slot]
  exact h j

theorem Onward.modReplay (h : Onward s₀ s) (follows : ∀ x : Slot, x.Follows (f x)) : Onward s₀ (s.modReplay k f) := fun j => by
  by_cases same : j = k
  · subst same
    rw [slot_modReplay_same]
    exact ⟨(follows _).sent.trans (h j).sent, fun done => (follows _).done ((h j).done done)⟩
  · rw [slot_modReplay_other s f same]
    exact h j

theorem Onward.ite {p : Prop} {_ : Decidable p} (h : Onward s₀ s) (g : Onward s₀ t) : Onward s₀ (if p then s else t) := by split <;> assumption

theorem Onward.send {o : Out} (h : Onward s₀ s) : Onward s₀ (s.send o) := h.of_rple rfl
theorem Onward.framing (h : Onward s₀ s) : Onward s₀ (s.framing k) := h.of_rple rfl

theorem Onward.sendSegment {strand body first last trig} (h : Onward s₀ s) : Onward s₀ (s.sendSegment k strand body first last trig) := by
  obtain ⟨w1, sends⟩ := sendSegment_eq s k strand body first last trig
  have counted : Onward s₀ (s.modReplay k Slot.nextSeq) := h.modReplay fun _ => ⟨rfl, id⟩
  rw [sends]
  exact counted.send

theorem Onward.frameSegment (h : Onward s₀ s) : Onward s₀ (s.frameSegment k) := by
  cases queue : (s.slot k).segq with
  | nil => rwa [frameSegment_of_empty queue]
  | cons g rest =>
    obtain ⟨body, first, last, trig⟩ := g
    have queued : Onward s₀ ((s.sendSegment k (s.slot k).outstrand body first last trig).modReplay k fun x => x.queueing rest) :=
      h.sendSegment.modReplay fun _ => ⟨rfl, id⟩
    rw [frameSegment_of_queue queue]
    exact queued.framing

theorem Onward.slotDone (h : Onward s₀ s) : Onward s₀ (s.slotDone k) := by
  have ended : Onward s₀ (s.modReplay k Slot.ended) := h.modReplay fun _ => ⟨rfl, fun _ => rfl⟩
  rw [slotDone_eq]
  exact ended.of_rple (by rw [cause_rple])

theorem Onward.advanceSlot (h : Onward s₀ s) : Onward s₀ (s.advanceSlot k) := by
  have goes : Onward s₀ (s.modReplay k Slot.onNext) := h.modReplay fun x => by
    obtain ⟨next, pass, moved⟩ := onNext_eq x
    rw [moved]
    exact ⟨rfl, id⟩
  have moved : Onward s₀ (s.movedOn k) := by
    rw [State.movedOn, releasePages_eq]
    exact goes.modReplay fun _ => ⟨rfl, id⟩
  rw [advanceSlot_eq]
  exact .ite moved.slotDone moved

theorem Onward.depart {due late} (h : Onward s₀ s) : Onward s₀ (s.depart k r due late) := by
  have ended : Onward s₀ (s.runEnded k r) := .ite h.sendSegment h
  have begun : Onward s₀ (s.recordBegun k r due late) := by
    unfold State.recordBegun
    exact ended.modReplay fun _ => ⟨rfl, id⟩
  rw [depart_eq]
  exact begun.frameSegment.advanceSlot

/-- A free framer takes no slot out of DONE, and counts no record. -/
theorem onward_framerNext (s : State) (last : Option Nat) : Onward s (s.framerNext last) := by
  unfold State.framerNext
  refine .ite (.refl s) ?_
  dsimp only
  split
  · exact (Onward.refl s).frameSegment
  · split
    · exact .refl s
    · split
      · exact .refl s
      · exact (Onward.refl s).depart

end Sys2Proof.Machine
end

section
/-!
SUPPORT. The commands by which records leave: a record that falls due, a segment that the framer has sent, and the end of a gap
(13_replay_and_query.md R554, R557, R561, R563, R570, R571).
-/
namespace Sys2Proof.Machine

variable {s : State} {k : Nat} {r : List HSlot}

/-! ### RECORD_DUE (R554, R561, R563, R570) -/

/-- The slot sends. -/
def State.replaying (s : State) (k : Nat) : State := s.modReplay k fun x => { x with st := .running }

theorem replaying_slot (s : State) (k : Nat) : (s.replaying k).slot k = { s.slot k with st := .running } := slot_modReplay_same ..

/-- The due time of a record in the slot's pass. -/
def State.dueTime (s : State) (k : Nat) (r : List HSlot) : Int := (s.slot k).due (s.hankRecords (s.slot k).strand) (s.slot k).pass r

/-- The slot's next record is due, and no earlier one of the slot waits. -/
structure State.FallsDue (s : State) (k : Nat) (r : List HSlot) : Prop where
  active : (s.slot k).st = .waiting ∨ (s.slot k).st = .running
  begun : (s.slot k).startWait = false
  first : (s.slot k).late = false
  kept : (s.slot k).stopping = false
  next : s.nextRecord (s.slot k) = some r
  due : s.dueTime k r ≤ s.cohort

section
variable (h : s.FallsDue k r)
include h

/-- A due record is skipped for its marks or for what is missing, waits, or departs. -/
theorem exec_recordDue_due : exec (.recordDue k) s = finish (
    if (s.slot k).skipbad && recFlag r [21, 22, 23, 25] then
      ((s.replaying k).modReplay k fun x => { x with skipBad := satInc 20 x.skipBad }).advanceSlot k
    else if !s.replayLink || !(s.slot k).buffers (s.slot k).pass r || s.recordLost (s.slot k) (s.slot k).pass r then (s.replaying k).skipRecord k r
    else if s.rple.framer.isSome || (s.slot k).sending || decide ((s.slot k).chan ∈ s.kspe.peerXoff) then
      (s.replaying k).modReplay k fun x => { x with late := true }
    else (s.replaying k).depart k r (s.dueTime k r) (decide (s.dueTime k r + s.coreCycle < s.cohort))) := by
  obtain ⟨active, begun, first, kept, next, due⟩ := h
  have may : ¬(!((s.slot k).st = .waiting || (s.slot k).st = .running) || (s.slot k).startWait || (s.slot k).late || (s.slot k).stopping) = true := by
    obtain active | active := active <;> simp [active, begun, first, kept]
  unfold State.dueTime at due
  show execRecordDue k s = _
  rw [execRecordDue]
  simp only [if_neg may, next, if_neg (Int.not_lt.2 due)]
  rfl

theorem recordDue_skipsBad (marked : (s.slot k).skipbad = true ∧ recFlag r [21, 22, 23, 25] = true) : answers (.recordDue k) s fun t =>
    (t.slot k).skipBad = satInc 20 (s.slot k).skipBad ∧ (t.slot k).seq = (s.slot k).seq ∧ t.rple.framer = s.rple.framer := by
  have e := exec_recordDue_due h
  rw [if_pos (by simp [marked])] at e
  obtain ⟨skipBad, -, seq⟩ := advanceSlot_counts ((s.replaying k).modReplay k fun x => { x with skipBad := satInc 20 x.skipBad }) k
  refine answers_of_finish e ?_
  rw [slot_settle, settle_rple, advanceSlot_framer, skipBad, seq, slot_modReplay_same, replaying_slot]
  exact ⟨rfl, rfl, rfl⟩

variable (unmarked : ¬((s.slot k).skipbad = true ∧ recFlag r [21, 22, 23, 25] = true))
include unmarked

theorem recordDue_underruns
    (missing : s.replayLink = false ∨ (s.slot k).buffers (s.slot k).pass r = false ∨ s.recordLost (s.slot k) (s.slot k).pass r = true) :
    answers (.recordDue k) s fun t => (t.slot k).skipUnder = satInc 20 (s.slot k).skipUnder ∧ t.rple.framer = s.rple.framer := by
  have e := exec_recordDue_due h
  rw [if_neg (by simpa using unmarked), if_pos (by simpa [or_assoc] using missing)] at e
  obtain ⟨skipUnder, framer⟩ := skipRecord_counts (s.replaying k) k r
  refine answers_of_finish e ?_
  rw [slot_settle, settle_rple, skipUnder, framer, replaying_slot]
  exact ⟨rfl, rfl⟩

variable (linked : s.replayLink = true) (buffered : (s.slot k).buffers (s.slot k).pass r = true)
  (whole : s.recordLost (s.slot k) (s.slot k).pass r = false)
include linked buffered whole

theorem recordDue_waits (quiet : s.settled) (held : s.rple.framer.isSome = true ∨ (s.slot k).sending = true ∨ (s.slot k).chan ∈ s.kspe.peerXoff) :
    answers (.recordDue k) s fun t => t = s.modReplay k fun x => { x with st := .running, late := true } := by
  have e := exec_recordDue_due h
  rw [if_neg (by simpa using unmarked), if_neg (by simp [linked, buffered, whole]), if_pos (by simpa [or_assoc] using held)] at e
  exact answers_of_finish_settled e quiet (modReplay_modReplay (fun unbound => nomatch unbound) fun unbound => nomatch unbound)

theorem recordDue_departs (free : s.rple.framer = none) (between : (s.slot k).sending = false) (xon : (s.slot k).chan ∉ s.kspe.peerXoff) :
    answers (.recordDue k) s fun t => t.rple.framer = some k ∧ (t.slot k).sending = true ∧ (t.slot k).st = .running ∧
      ∃ w0 w1 body, Out.segment (s.slot k).chan (w0 :: w1 :: body) ∈ t.out ∧ fld w0 0 18 = (s.slot k).outstrand ∧ wbit w0 34 = true := by
  have e := exec_recordDue_due h
  rw [if_neg (by simpa using unmarked), if_neg (by simp [linked, buffered, whole]), if_neg (by simp [free, between, xon])] at e
  obtain ⟨framer, sending, st, w0, w1, body, sent, strand, start⟩ :=
    depart_sends (s.replaying k) k r (s.dueTime k r) (decide (s.dueTime k r + s.coreCycle < s.cohort))
  rw [replaying_slot] at st sent strand
  refine answers_of_finish e ?_
  rw [slot_settle, settle_rple]
  exact ⟨framer, sending, st, w0, w1, body, (sent_settle _).kept _ sent, strand, start⟩

end

/-! ### SEGMENT_SENT (R550, R557, R563) -/

/-- The framer holds nothing. -/
def State.framerFree (s : State) : State := { s with rple.framer := none }

/-- The record of a slot is over: counted where its last segment was sent, and the slot is DONE after the last of the window. -/
def State.recordOver (s : State) (k : Nat) : State :=
  let t := s.modReplay k fun y =>
    { y with sending := false, segq := [], sent := if (s.slot k).segq.isEmpty then wrapInc 40 y.sent else y.sent }
  if (s.slot k).window.length ≤ (s.slot k).next then t.slotDone k else t

theorem recordOver_slot (s : State) (k : Nat) : (s.recordOver k).rple.framer = s.rple.framer ∧
    ((s.recordOver k).slot k).segq = [] ∧ ((s.recordOver k).slot k).sending = false ∧
    ((s.recordOver k).slot k).sent = (if (s.slot k).segq.isEmpty then wrapInc 40 (s.slot k).sent else (s.slot k).sent) ∧
    ((s.slot k).window.length ≤ (s.slot k).next → ((s.recordOver k).slot k).st = .done) := by
  unfold State.recordOver
  extract_lets t
  have sentAll : t.slot k = { s.slot k with
      sending := false, segq := [], sent := if (s.slot k).segq.isEmpty then wrapInc 40 (s.slot k).sent else (s.slot k).sent } :=
    slot_modReplay_same ..
  split
  · rw [slotDone_framer, slotDone_slot, sentAll]
    exact ⟨rfl, rfl, rfl, rfl, fun _ => rfl⟩
  · next more =>
    rw [sentAll]
    exact ⟨rfl, rfl, rfl, rfl, fun last => absurd last more⟩

theorem recordOver_replayLink (s : State) (k : Nat) : (s.recordOver k).replayLink = s.replayLink := by
  unfold State.recordOver
  extract_lets t
  split
  · rw [slotDone_eq, State.replayLink, cause_ilkn, cause_kspe]
    rfl
  · rfl

theorem framerFree_slot (s : State) (k : Nat) : s.framerFree.slot k = s.slot k := rfl

section
variable (framed : s.rple.framer = some k)
include framed

theorem exec_segmentSent_framed : exec (.segmentSent k) s = finish (State.framerNext (
    if (s.slot k).stopping then s.framerFree.slotDone k
    else if (s.slot k).segq.isEmpty || !s.replayLink then s.framerFree.recordOver k
    else s.framerFree) (some k)) := congrArg finish (if_neg (not_not_intro framed))

theorem segmentSent_stops (stopping : (s.slot k).stopping = true) :
    answers (.segmentSent k) s fun t => (t.slot k).st = .done ∧ hasCause t .rple 4 := by
  have e := exec_segmentSent_framed framed
  rw [if_pos stopping] at e
  refine answers_of_finish e ⟨?_, ?_⟩
  · rw [slot_settle]
    exact (onward_framerNext _ _ k).done (by rw [slotDone_slot]; rfl)
  · exact hasCause_settle (by decide) ((Port.refl _).framerNext.causes (slotDone_sets ..))

variable (kept : (s.slot k).stopping = false)
include kept

/-- The record whose last segment was sent is counted. -/
theorem segmentSent_counts (nothing : (s.slot k).segq = []) : answers (.segmentSent k) s fun t =>
    (t.slot k).sent = wrapInc 40 (s.slot k).sent ∧ ((s.slot k).window.length ≤ (s.slot k).next → (t.slot k).st = .done) := by
  have e := exec_segmentSent_framed framed
  rw [if_neg (by simp [kept]), if_pos (by simp [nothing])] at e
  obtain ⟨-, -, -, sent, done⟩ := recordOver_slot s.framerFree k
  obtain ⟨same, stays⟩ := onward_framerNext (s.framerFree.recordOver k) (some k) k
  refine answers_of_finish e ?_
  rw [slot_settle]
  exact ⟨same.trans (sent.trans (if_pos (by rw [framerFree_slot, nothing]; rfl))), fun last => stays (done last)⟩

/-- The slot's next segment follows the one that the framer has sent. -/
theorem segmentSent_follows {g : List Word × Bool × Bool × Bool} {l : List (List Word × Bool × Bool × Bool)} (queue : (s.slot k).segq = g :: l)
    (linked : s.replayLink = true) (xon : (s.slot k).chan ∉ s.kspe.peerXoff) : answers (.segmentSent k) s fun t => t.rple.framer = some k ∧
      (t.slot k).segq = l ∧ (t.slot k).seq = wrapInc 16 (s.slot k).seq ∧ ∃ w0 w1, Out.segment (s.slot k).chan (w0 :: w1 :: g.1) ∈ t.out := by
  have e := exec_segmentSent_framed framed
  rw [if_neg (by simp [kept]), if_neg (by simp [queue, linked])] at e
  have takes : s.framerFree.framerNext (some k) = s.framerFree.frameSegment k := by
    have free : s.framerFree.rple.framer = none := rfl
    have linked : s.framerFree.replayLink = true := linked
    have flow : s.framerFree.kspe = s.kspe := rfl
    simp [State.framerNext, free, linked, Option.filter, framerFree_slot, queue, flow, xon]
  obtain ⟨framer, after, w0, w1, sent, -⟩ := framed_frameSegment ((congrArg (·.segq) (framerFree_slot s k)).trans queue)
  refine answers_of_finish e ?_
  rw [takes, slot_settle, settle_rple, after]
  exact ⟨framer, rfl, rfl, w0, w1, (sent_settle _).kept _ sent⟩

/-- A record cut by the loss of the link is not counted. -/
theorem segmentSent_cut (more : (s.slot k).segq ≠ []) (down : s.replayLink = false) : answers (.segmentSent k) s fun t =>
    (t.slot k).segq = [] ∧ (t.slot k).sending = false ∧ (t.slot k).sent = (s.slot k).sent ∧ t.rple.framer = none := by
  have e := exec_segmentSent_framed framed
  obtain ⟨framer, segq, sending, sent, -⟩ := recordOver_slot s.framerFree k
  have unlinked : (s.framerFree.recordOver k).replayLink = false := (recordOver_replayLink ..).trans down
  have idle : (s.framerFree.recordOver k).framerNext (some k) = s.framerFree.recordOver k := if_pos (by simp [unlinked])
  rw [if_neg (by simp [kept]), if_pos (by simp [down]), idle] at e
  refine answers_of_finish e ?_
  rw [slot_settle, settle_rple]
  exact ⟨segq, sending, sent.trans (if_neg (by simpa [framerFree_slot] using more)), framer⟩

end

/-! ### GAP_MARKER_END (R571) -/

theorem gapMarkerEnd_sends (run : (s.slot k).run ≠ 0) (unsent : (s.slot k).endSent = false) (enabled : (s.slot k).gapen = true)
    (linked : s.replayLink = true) (running : (s.slot k).st = .running) (next : s.nextRecord (s.slot k) = some r)
    (due : (s.slot k).due (s.hankRecords (s.slot k).strand) (s.slot k).pass r ≤ s.cohort + s.cycles16)
    (unmarked : ¬((s.slot k).skipbad = true ∧ recFlag r [21, 22, 23, 25] = true)) (buffered : (s.slot k).buffers (s.slot k).pass r = true)
    (whole : s.recordLost (s.slot k) (s.slot k).pass r = false) : answers (.gapMarkerEnd k) s fun t =>
      (t.slot k).endSent = true ∧ (t.slot k).seq = wrapInc 16 (s.slot k).seq ∧
        ∃ w0 w1 body, Out.segment (s.slot k).chan (w0 :: w1 :: body) ∈ t.out ∧ fld w0 0 18 = (s.slot k).gapstrand := by
  have e : exec (.gapMarkerEnd k) s =
      finish ((s.sendMarker k true (recTime r) (s.slot k).run).modReplay k fun x => { x with endSent := true }) := by
    show execGapMarkerEnd k s = _
    rw [execGapMarkerEnd]
    simp [run, unsent, enabled, linked, running, next, Int.not_lt.2 due, unmarked, buffered, whole]
  obtain ⟨w1, sent⟩ := sendSegment_sends s k (s.slot k).gapstrand _ true true false
  refine answers_of_finish e ?_
  rw [slot_settle, slot_modReplay_same, sendMarker_slot]
  exact ⟨rfl, rfl, _, w1, _, (sent_settle _).kept _ sent, fld_segHead (gapstrand_lt _) ..⟩

end Sys2Proof.Machine
end

section
namespace Sys2Proof.Machine

/-- Settles O52: a record that falls due takes one of four ways (`exec_recordDue_due`); the first segment of one that departs is in the framer
(`depart_sends`), and a slot leaves its state as it goes on only where nothing of it is being sent (`advanceSlot_sending`). The segment that
follows in a free framer takes no slot out of DONE and counts no record (`onward_framerNext`). -/
theorem replayDepartures : Obligations.ReplayDepartures := by
  unfold Obligations.ReplayDepartures
  refine ⟨?due, ?sent, ?gap⟩
  case due =>
    rintro s k _ r rfl active begun first kept next due
    have h : s.FallsDue k r := ⟨active, begun, first, kept, next, due⟩
    exact ⟨fun skips marked => recordDue_skipsBad h ⟨skips, marked⟩, fun unmarked missing => recordDue_underruns h unmarked missing,
      fun unmarked linked buffered whole => ⟨fun quiet held => recordDue_waits h unmarked linked buffered whole quiet held,
        fun free between xon => recordDue_departs h unmarked linked buffered whole free between xon⟩⟩
  case sent =>
    rintro s k _ rfl framed
    exact ⟨fun stopping => segmentSent_stops framed stopping, fun kept nothing => segmentSent_counts framed kept nothing,
      fun g l kept queue linked xon => segmentSent_follows framed kept queue linked xon,
      fun kept more down => segmentSent_cut framed kept more down⟩
  case gap =>
    rintro s k _ r rfl run unsent enabled linked running next due unmarked buffered whole
    exact gapMarkerEnd_sends run unsent enabled linked running next due unmarked buffered whole

end Sys2Proof.Machine
end

section
/-!
SUPPORT. The query engine: how a query is taken, refused or found busy, and how it ends (13_replay_and_query.md R575 to R584).
-/
namespace Sys2Proof.Machine

variable {s t : State} {c : Instr} {op : Nat} {found wrapped incomplete : Bool}

/-! ### The end of a query (R584) -/

/-- The answer registers as the end of a query leaves them. -/
def Qrye.ended (q : Qrye) (result : Nat) (found wrapped incomplete : Bool) : Qrye :=
  { q with go := false, result, found, wrapped, incomplete, used := [], entered := [] }

/-- `u` is `t` with its query ended, at the end of the command. -/
structure QueryEnded (t : State) (result : Nat) (found wrapped incomplete : Bool) (u : State) : Prop where
  qrye : u.qrye = t.qrye.ended result found wrapped incomplete
  done : hasCause u .qrye 1

theorem queryDone_eq (s : State) (result : Nat) (found wrapped incomplete : Bool) : s.queryDone result found wrapped incomplete =
    if incomplete then State.error { s with qrye := s.qrye.ended result found wrapped incomplete } .qrye 0x40 s.qrye.strand (2 ^ 1)
    else State.cause { s with qrye := s.qrye.ended result found wrapped incomplete } .qrye 1 := rfl

theorem queryEnded_queryDone (s : State) (result : Nat) (found wrapped incomplete : Bool) :
    QueryEnded s result found wrapped incomplete (s.queryDone result found wrapped incomplete).settle := by
  rw [queryDone_eq]
  split
  · exact ⟨by rw [settle_qrye, error_qrye], hasCause_settle (by decide) (hasCause_error_sets (silent_of_fixed _ rfl) ..)⟩
  · exact ⟨by rw [settle_qrye, cause_qrye], hasCause_cause (silent_of_fixed _ rfl) (by decide)⟩

theorem answers_queryEnded {result : Nat} (e : exec c s = finish (t.queryDone result found wrapped incomplete)) :
    answers c s (QueryEnded t result found wrapped incomplete) := answers_of_finish e (queryEnded_queryDone ..)

/-- A span that could not be read is reported with the strand (R580). -/
theorem queryDone_captures (result : Nat) (found wrapped : Bool) (small : s.qrye.strand < 2 ^ 28) (empty : (s.hdr .qrye).evalid = false) :
    captured (s.queryDone result found wrapped true).settle .qrye 0x40 s.qrye.strand := by
  rw [queryDone_eq, if_pos rfl]
  exact And.left (captured_errorCause (by decide) (silent_of_fixed _ rfl) empty (by decide) small)

theorem QueryEnded.refused {u : State} {result : Nat} (h : QueryEnded t result found wrapped incomplete u) :
    u.qrye.result = result ∧ u.qrye.go = false ∧ hasCause u .qrye 1 := by
  rw [h.qrye]
  exact ⟨rfl, rfl, h.done⟩

/-! ### A query submitted (R578 to R580, R582) -/

/-- OP names the query that is submitted. -/
def State.asked (s : State) (op : Nat) : State := { s with qrye.op := op }

/-- A query that runs on these units, whose lines of the index are rebuilt first. -/
def State.searching (s : State) (op : Nat) (units rebuild : List Nat) : State :=
  { s with qrye := { s.qrye with op, go := true, used := units, entered := [] }, strd.rebuild := rebuild }

/-- With no query running the mode, the strand and the times are checked in turn. -/
theorem query_idle (on : s.on .qrye) (idle : s.qrye.go = false) (op : Nat) : ∃ units rebuild, s.query op =
    if s.sysc.mode ∉ [Mode.memory, .stream, .safe] then (s.asked op).queryDone 2 false false false
    else if decide (s.strandCount ≤ s.qrye.strand) || (s.strand s.qrye.strand).st = .free then (s.asked op).queryDone 3 false false false
    else if op = 2 && decide (s.qrye.t2 ≤ s.qrye.t1) then (s.asked op).queryDone 4 false false false
    else s.searching op units rebuild :=
  ⟨_, _, (if_neg (by simp [show (s.hdr .qrye).ready = true from on])).trans ((if_neg (by simp [idle])).trans rfl)⟩

section
variable (e : exec c s = finish (s.query op)) (on : s.on .qrye)
include e on

theorem query_busy (busy : s.qrye.go = true) : answers c s fun t => t.qrye.result = 1 ∧ t.qrye.go = true ∧ hasCause t .qrye 1 := by
  have found : s.query op = State.cause { s with qrye.result := 1 } .qrye 1 :=
    (if_neg (by simp [show (s.hdr .qrye).ready = true from on])).trans (if_pos busy)
  refine answers_of_finish (e.trans (congrArg finish found)) ?_
  rw [settle_qrye, cause_qrye]
  exact ⟨rfl, busy, hasCause_cause (silent_of_fixed _ rfl) (by decide)⟩

variable (idle : s.qrye.go = false)
include idle

theorem query_otherMode (other : s.sysc.mode ∉ [Mode.memory, .stream, .safe]) :
    answers c s fun t => t.qrye.result = 2 ∧ t.qrye.go = false ∧ hasCause t .qrye 1 := by
  obtain ⟨units, rebuild, checks⟩ := query_idle on idle op
  rw [checks, if_pos other] at e
  exact (answers_queryEnded e).imp fun _ ended => ended.refused

variable (mode : s.sysc.mode ∈ [Mode.memory, .stream, .safe])
include mode

theorem query_noStrand (missing : s.strandCount ≤ s.qrye.strand ∨ (s.strand s.qrye.strand).st = .free) :
    answers c s fun t => t.qrye.result = 3 ∧ t.qrye.go = false ∧ hasCause t .qrye 1 := by
  obtain ⟨units, rebuild, checks⟩ := query_idle on idle op
  rw [checks, if_neg (not_not_intro mode), if_pos (by simpa using missing)] at e
  exact (answers_queryEnded e).imp fun _ ended => ended.refused

theorem query_taken (quiet : s.settled) (known : s.qrye.strand < s.strandCount) (used : (s.strand s.qrye.strand).st ≠ .free)
    (rises : op = 2 → s.qrye.t1 < s.qrye.t2) :
    answers c s fun t => t.qrye.go = true ∧ t.qrye.op = op ∧ t.qrye.entered = [] ∧ t.hall = s.hall ∧ t.out = s.out := by
  obtain ⟨units, rebuild, checks⟩ := query_idle on idle op
  rw [checks, if_neg (not_not_intro mode), if_neg (by simp [known, used]), if_neg (by simpa using rises)] at e
  exact answers_of_finish_settled e quiet ⟨rfl, rfl, rfl, rfl, rfl⟩

end

theorem exec_timeSeek_up (up : s.up .qrye) : exec .timeSeek s = finish (s.query 1) := congrArg finish (reg_awake up.2 ..)
theorem exec_recordCount_up (up : s.up .qrye) : exec .recordCount s = finish (s.query 2) := congrArg finish (reg_awake up.2 ..)

theorem exec_qryeUnknownOp_idle (up : s.up .qrye) (idle : s.qrye.go = false) (first : op ≠ 1) (second : op ≠ 2) :
    exec (.qryeUnknownOp op) s = finish ((s.asked (op % 4)).queryDone 7 false false false) :=
  congrArg finish ((reg_awake up.2 ..).trans ((if_neg (by simp [first, second, show (s.hdr .qrye).ready = true from up.1])).trans
    (if_neg (by simp [idle]))))

/-! ### A query that ends (R575 to R577) -/

/-- The registers of the answer, before the query ends: the first slot found or else the write point, or the number of the slots. -/
def State.answerWith (s : State) (hit : List HSlot) : State :=
  if s.qrye.op = 1 then
    match hit with
    | a :: _ => { s with qrye.hword := a.h, qrye.rts := a.ts, qrye.count := 0 }
    | [] => { s with qrye.hword := (s.strand s.qrye.strand).wpunit * unitWords + (s.strand s.qrye.strand).wpword, qrye.rts := 0, qrye.count := 0 }
  else { s with qrye.hword := 0, qrye.rts := 0, qrye.count := hit.length % 2 ^ 40 }

/-- `t` has the headers of `s`, and of its query the strand and the OP. -/
structure AnswerOf (s t : State) : Prop where
  hall : t.hall = s.hall
  strand : t.qrye.strand = s.qrye.strand
  op : t.qrye.op = s.qrye.op

theorem answerOf_answerWith (s : State) (hit : List HSlot) : AnswerOf s (s.answerWith hit) := by
  unfold State.answerWith
  split
  · cases hit <;> exact ⟨rfl, rfl, rfl⟩
  · exact ⟨rfl, rfl, rfl⟩

theorem exec_queryComplete_runs {skipped : List Nat} {hit : List HSlot} (runs : s.qrye.go = true) (built : ∀ c ∈ s.strd.rebuild, c ∉ s.qrye.used)
    (slots : hit = s.querySlots ((s.hankSlots s.qrye.strand).filter fun a => a.h / 52416 ∉ skipped)) :
    ∃ wrapped, exec (.queryComplete skipped) s =
      finish ((s.answerWith hit).queryDone 0 (s.qrye.op = 1 && !hit.isEmpty) wrapped (!skipped.isEmpty)) := by
  have unbuilt : ¬(!s.qrye.go || s.strd.rebuild.any fun c => decide (c ∈ s.qrye.used)) = true := by simpa [runs] using built
  refine ⟨(s.strand s.qrye.strand).mode ≠ 1 && s.qrye.used.any fun c => decide (c ∈ s.qrye.entered), ?_⟩
  show execQueryComplete skipped s = _
  rw [← (answerOf_answerWith s hit).op]
  simp only [execQueryComplete, if_neg unbuilt, ← slots]
  rfl

end Sys2Proof.Machine
end

section
namespace Sys2Proof.Machine

/-- Settles O53: a query is taken, refused or found busy by the first of its checks that decides (`query_taken`, `query_otherMode`,
`query_noStrand`, `query_busy`); one that runs ends with the answer that its slots give (`State.answerWith`), and a span that could not be read is
reported (`queryDone_captures`). -/
theorem queries : Obligations.Queries := by
  unfold Obligations.Queries
  refine ⟨?submitted, ?unknown, ?completes⟩
  case submitted =>
    intro s c op up kind
    have e : exec c s = finish (s.query op) := by
      obtain ⟨rfl, rfl⟩ | ⟨rfl, rfl⟩ := kind
      · exact exec_timeSeek_up up
      · exact exec_recordCount_up up
    exact ⟨fun quiet idle mode known used rises => query_taken e up.1 idle mode quiet known used rises,
      fun idle other => query_otherMode e up.1 idle other, fun idle mode missing => query_noStrand e up.1 idle mode missing,
      fun busy => query_busy e up.1 busy⟩
  case unknown => exact fun s op up idle first second =>
    (answers_queryEnded (exec_qryeUnknownOp_idle up idle first second)).imp fun _ ended => ended.refused
  case completes =>
    intro s skipped l runs built slots
    obtain ⟨wrapped, e⟩ := exec_queryComplete_runs runs built slots
    obtain ⟨qrye, done⟩ := queryEnded_queryDone (s.answerWith l) 0 (s.qrye.op = 1 && !l.isEmpty) wrapped (!skipped.isEmpty)
    refine answers_of_finish e ?_
    obtain ⟨hall, strand, -⟩ := answerOf_answerWith s l
    rw [qrye]
    refine ⟨rfl, rfl, done, rfl, fun seek a rest first => ?_, fun seek nothing => ?_, fun count => ?_, fun skips empty small => ?_⟩
    · subst first
      simp [Qrye.ended, State.answerWith, seek]
    · subst nothing
      simp [Qrye.ended, State.answerWith, seek]
    · simp [Qrye.ended, State.answerWith, count]
    · have incomplete : (!skipped.isEmpty) = true := by simpa using skips
      rw [incomplete, ← strand]
      exact queryDone_captures 0 _ wrapped (strand ▸ small) (by rwa [hdr_of_hall hall])

end Sys2Proof.Machine
end
